-- ==== Sys2Proof/Word.lean ====
section
/-!
DEFINITION. The words of the BX7160 (R4): 32-bit registers, bytes, and the plain records that
describe a register, its fields and their access types (R6).
-/

namespace Sys2Proof

/-- One byte of a memory, a frame or a message. -/
abbrev Byte := BitVec 8

/-- One register: 32 bits wide (R4). -/
abbrev Word := BitVec 32

/-- A table kept as a list of (key, entry) pairs, keys strictly rising; a key that is not
listed holds the table's own default. -/
abbrev Tab (α : Type) := List (Nat × α)

/-- The access types of R6. -/
inductive Acc where
  | rw | ro | w1c | w1s | wo | rwo
  deriving DecidableEq, Repr

/-- A field of a register: the register's BAR0 offset, the lowest bit and the width. -/
structure Fld where
  off : Nat
  lsb : Nat
  width : Nat
  deriving DecidableEq, Repr

/-- One row of a register's field table. -/
structure FieldRow where
  lsb : Nat
  width : Nat
  acc : Acc
  reset : Nat
  deriving DecidableEq, Repr

/-- One dimension of a register array: first index, number of indices, byte stride. -/
structure Dim where
  first : Nat
  count : Nat
  stride : Nat
  deriving DecidableEq, Repr

/-- A register or register array of the manual: name, BAR0 offset of index 0, dimensions (largest
stride first) and fields.  Bits of no field are reserved: they read 0 (R6, R7). -/
structure RegRow where
  name : String
  base : Nat
  dims : List Dim
  fields : List FieldRow
  deriving DecidableEq, Repr

end Sys2Proof
end

