-- ==== Sys2Proof/Syntax.lean ====
section
/-!
DEFINITION. The commands of the BX7160 block model: one constructor of Instr for each row of the table of
operations and events, with the operands its sender supplies.
-/

namespace Sys2Proof

/-- An access to a block (R5, R372): its initiator as PWR_FENCE_STAT codes it (0 PCIe, 1 to 4
Crown cores 0 to 3, 5 table DMA, 6 other hardware), its BAR0 offset, whether it writes, and the
word it writes. -/
structure Access where
  initiator : Nat
  off : Nat
  write : Bool
  value : Word
  deriving DecidableEq, Repr


/-- A preamble detection as a searcher measures it (R84): stream, format, mode, correlator SNR in
0.25 dB, stamp of the first preamble symbol in 1/256 ns, coarse carrier offset in Hz. -/
structure Detection where
  stream : Nat
  format : Nat
  mode : Nat
  snr : Nat
  stamp : Nat
  cfo : Int
  deriving DecidableEq, Repr

/-- What a lane measures of a frame (R102 to R104, R79): carrier offset in Hz, symbol-rate error in 0.01 ppm, power in
0.25 dBm, SNR in 0.25 dB, ns from the SFD stamp to the end, and the estimated channel vector: in-phase and quadrature
part of each chain in turn, at any one scale. -/
structure FrameMeasure where
  cfo : Int
  symRate : Int
  rssi : Int
  snr : Nat
  endDelta : Nat
  chanVec : List Int
  deriving DecidableEq, Repr

/-- What the equaliser of a lane meets in one symbol (R105, R106): the 16 samples its feed-forward taps stand over, and
the waveform the symbol should have, known in training and re-modulated from its decision after it. -/
structure EqSymbol where
  samples : List (Rat × Rat)
  wanted : Rat × Rat
  deriving DecidableEq, Repr

/-- A quiet-map measurement of a bin and an RX group over the timeslot that ends (R69): noise floor
in 0.25 dB above -200 dBm. -/
structure QuietSample where
  bin : Nat
  group : Nat
  level : Nat
  deriving DecidableEq, Repr

/-- A chain's power report over the timeslot that ends: mean power in 0.25 dB below full scale and
peak magnitude of its samples. -/
structure ChainSample where
  chain : Nat
  mean : Nat
  peak : Nat
  deriving DecidableEq, Repr

/-- A fault a detector reports (R384, R386): unit class and instance, cause, and for an SRAM bank the bank offset
of the fault and the 64-bit words of the bank that do not correct, for a mismatch of the slot engine's pair (cause 5)
in words the instances that report an error (R192). -/
structure UnitFault where
  cls : Nat
  inst : Nat
  cause : Nat
  off : Nat
  words : List Nat
  deriving DecidableEq, Repr


/-- The commands: one for each row of the table of operations and events. -/
inductive Instr where
  /-- Release of POR_L resets every register, PD_AON ones included, and starts the device (R9). -/
  | porLRelease
  /-- Release of RESET_L resets registers outside PD_AON, plus the excepted PD_AON fields, and restarts the device (R9). -/
  | resetLRelease
  /-- A rail monitor trips in service and acts as POR_L (VDD_AON) or as RESET_L (any other rail) (R434). -/
  | supplyMonitorTrip (rail : Nat)
  /-- All rail monitors report good, which allows Seed to start once POR_L is released (R434). -/
  | supplyGood
  /-- A write to a register with no row of its own, applied according to the access type of each field (R6). -/
  | registerWrite (initiator : Nat) (off : Nat) (value : Word) (race : Word)
  /-- A PCIe write with fewer than four byte enables is dropped and sets GLB_STAT.acc_err (R5). -/
  | pciePartialWrite (off : Nat) (write : Bool)
  /-- A narrow or misaligned Crown-core store is dropped and raises a bus-error exception (R5). -/
  | crownNarrowStore (core : Nat) (off : Nat) (bytes : Nat) (store : Bool)
  /-- A Crown-core access wider than a word to the BAR0 view raises a bus-error exception and has no effect (R5). -/
  | crownWideAccess (core : Nat)
  /-- An access to an offset that belongs to no block reads 0, or is dropped without error if it is a write (R8). -/
  | unmappedAccess (off : Nat) (write : Bool)
  /-- A write to a table window is dropped and sets GLB_STAT.acc_err (R24). -/
  | tableWindowWrite (initiator : Nat) (off : Nat) (value : Word)
  /-- A full elastic FIFO discards an entry, counts it, and marks the next accepted entry with a gap mark (R12). -/
  | fifoOverflow (crossing : Nat) (count : Nat)
  /-- The consumer meets a gap mark and ends frames in progress, reports lost events, or drops the Ethernet frame in progress (R13). -/
  | gapMark (crossing : Nat) (inFrame : Bool)
  /-- Every 10 µs the pace monitors update GLB_PACE and compare min_pace with the threshold (R449). -/
  | paceUpdate (pace : Nat) (monitor : Nat) (avs : Option Nat)
  /-- A request left unacknowledged beyond T_STALL is a fault of its containment unit (R16). -/
  | stallWatchdogExpiry (cls : Nat) (inst : Nat)
  /-- Seed runs from ROM through image loading, measurement, key derivation and the start of the Crown cores (R335). -/
  | bootSequence (puf : List (List Byte)) (training : Bool) (mib : List Nat) (unreadable : List (Nat × Nat))
  /-- A write of STP_LIVE_CTL.go starts a live re-stand from the staged container, or is refused with BUSY (R46). -/
  | liveRestandGo (initiator : Nat) (persist : Bool) (atAsn : Bool)
  /-- A write of STP_LIVE_CTL.cancel before the swap ends the re-stand with CANCELLED (R49). -/
  | liveRestandCancel (initiator : Nat)
  /-- Verification of a live re-stand completes and either refuses the plan or moves to prepare (R46). -/
  | restandVerifyDone
  /-- At the end of prepare the drain timeslot is chosen, or the re-stand is refused with LATE_ASN (R46). -/
  | restandArm
  /-- An affected lane that was busy at the swap finishes its frame and joins its new pool (R46). -/
  | lateLaneJoin (lane : Nat)
  /-- After the swap the container is written to the inactive STAND slot, which is marked active, and the floor is raised (R46). -/
  | restandPersist
  /-- Clipped samples in a 100 ns span make an overload detection, and under AGC the chain steps down one ladder index (R54). -/
  | overloadDetect (chain : Nat)
  /-- Ten consecutive overloaded intervals at the lowest usable gain saturate a chain and exclude it from every window (R56). -/
  | saturationStart (chain : Nat)
  /-- After 10 µs with no clipped sample the saturation episode ends (R56). -/
  | saturationEnd (chain : Nat)
  /-- The external LNA settle time ends and the chain rejoins its windows (R55). -/
  | extLnaSettleEnd (chain : Nat)
  /-- A timeslot begins: the ASN advances and all edge-timed changes apply (R158). -/
  | timeslotEdge (quiets : List QuietSample) (reports : List ChainSample)
  /-- A write of CNP_CLK.src is accepted only while every chain is disabled, and otherwise sets clk_refused (R60). -/
  | cnpClkWrite (initiator : Nat) (value : Word)
  /-- The sampling clock locks after a source change, and samples start flowing (R60). -/
  | samplingClockLock
  /-- A watched CNVCLK fails: gap marks go on every window and the part falls back to the internal synthesiser or stops the converters (R59). -/
  | cnvclkFail
  /-- One fill time after a window change or rejoin, the window output becomes valid and its searchers start (R65). -/
  | windowFilled (window : Nat)
  /-- Spare slice 8 finishes loading the settings of a pruned slice and starts filling (R67). -/
  | spareSliceLoaded
  /-- A valid quiet-map entry goes stale after stale_ts timeslots without an idle timeslot (R70). -/
  | qmapStale (bin : Nat) (group : Nat)
  /-- Each block of 64 bin samples updates a bin's covariance estimate when no stream of the bin was busy (R73). -/
  | covarianceBlock (bin : Nat) (block : List Rat)
  /-- Every upd_us the blind weights of every bin are recomputed from the covariance and the committed look vectors (R74). -/
  | blindWeightRecompute (bin : Nat)
  /-- A look-vector element write is held pending, and a write to element 15 commits all 16 elements of the beam (R454). -/
  | spcLookWrite (initiator : Nat) (window : Nat) (beam : Nat) (element : Nat) (value : Word)
  /-- The partition copies disagree at their 64-sample compare, and one partition is pruned (R81). -/
  | partitionMismatch (window : Nat) (reported : Option Nat)
  /-- A searcher's correlation passes threshold, and the detection is merged, classed and made a lane request (R84). -/
  | preambleDetect (d : Detection)
  /-- Every 2 µs each pool's arbiter grants free lanes to pending requests, preempting lanes where allowed (R87). -/
  | laneArbiterRound (pool : Nat)
  /-- A request not granted within req_hold_us is refused as lane exhaustion (R88). -/
  | laneRequestRefused (stream : Nat)
  /-- A lane finds the start-of-frame delimiter, which decides the coding and makes the lane no longer preemptible (R97). -/
  | delimiterFound (lane : Nat) (received : Nat) (stamp : Nat) (m : FrameMeasure) (symbols : List EqSymbol)
  /-- A lane decodes the PHR, and rejects it with PHR_BAD or UNSUPPORTED, or continues with the PSDU (R101). -/
  | phrDecode (lane : Nat) (rx : List Int) (m : FrameMeasure) (symbols : List EqSymbol)
  /-- Decision-directed error power exceeds the limit, and the equaliser restores its training taps (R107). -/
  | eqReset (lane : Nat) (symbols : List EqSymbol)
  /-- No delimiter is found within sfd_wait_us, and the lane abandons the frame without a descriptor (R111). -/
  | sfdWaitTimeout (lane : Nat)
  /-- SNR stays below 0 dB for 16 symbols after the delimiter, and the frame ends with LOST_SIGNAL (R111). -/
  | lostSignal (lane : Nat) (rx : List Int) (m : FrameMeasure) (symbols : List EqSymbol)
  /-- The last FCS bit is decoded, and the lane checks the frame, hands its receive descriptor to the collector and releases its stream (R111). -/
  | laneFrameComplete (lane : Nat) (rx : List Int) (m : FrameMeasure) (symbols : List EqSymbol)
  /-- A write of LNE_CTL.selftest starts a self-test of a spare or pruned lane, or is refused (R115). -/
  | laneSelftest (initiator : Nat) (lane : Nat)
  /-- A lane self-test completes, writes its result, and prunes a failing spare (R115). -/
  | laneSelftestDone (lane : Nat) (result : Nat) (durationUs : Nat)
  /-- A write of LNE_CTL.readmit makes a pruned lane with a passing test a spare, or is refused (R116). -/
  | laneReadmit (initiator : Nat) (lane : Nat)
  /-- Every period_s a bank starts a background self-test of its next spare (R117). -/
  | spareTestTimer (bank : Nat)
  /-- A write of TXL_CTL.power moves a limb from OFF toward STANDBY, or toward OFF (R122). -/
  | txlPowerWrite (initiator : Nat) (limb : Nat) (value : Word)
  /-- A limb reaches STANDBY 40 µs after power-up (R122). -/
  | limbStandbyReached (limb : Nat)
  /-- The synthesiser locks within 1 kHz, and the limb enters READY (R122). -/
  | synthLock (limb : Nat)
  /-- A full acquisition finds its settings, writes the calibration entry and moves to SETTLING (R122). -/
  | calibrationDone (limb : Nat) (capCode : Nat) (loopGain : Nat)
  /-- An acquisition has not locked 400 µs after it started, which counts toward a limb fault (R131). -/
  | acquisitionFail (limb : Nat)
  /-- A READY limb with no queued descriptor for idle_us returns to STANDBY (R122). -/
  | limbIdleTimeout (limb : Nat)
  /-- A transmit descriptor reaches a limb, where it is queued, checked and tuned for, or completed as not sent (R132). -/
  | txDescriptorArrival (limb : Nat)
  /-- PA_EN rises and PA_BIAS steps to bias_on, en_lead before ramp start (R137). -/
  | paEnRise (limb : Nat)
  /-- At ramp start the grant is sampled, the regulatory gate checks and charges the frame, and the limb enters TX_RAMP (R148). -/
  | txRampStart (limb : Nat) (held : Bool) (granted : Bool)
  /-- A frame whose limb has not locked by its lock deadline fails with LATE_LOCK (R130). -/
  | lockDeadline (limb : Nat)
  /-- The time island launches the frame at its DAC sample, and the limb enters TX (R10). -/
  | txLaunch (limb : Nat)
  /-- The last sample of the frame goes out, and the limb enters TX_TAIL (R122). -/
  | txFrameEnd (limb : Nat)
  /-- The tail ends, the completion is written, and the limb takes the frame's return state (R123). -/
  | txTailEnd (limb : Nat)
  /-- PA_EN falls and PA_BIAS returns to bias_off, en_lag after the tail ends (R137). -/
  | paEnFall (limb : Nat)
  /-- Lock is lost on air: the driver mutes, and the frame ends with LOCK_LOST (R131). -/
  | txLockLost (limb : Nat)
  /-- A write of TXL_CTL.cal_flush invalidates every calibration entry of the limb (R126). -/
  | calFlush (initiator : Nat) (limb : Nat)
  /-- A write of TXL_CAL_REQ.go queues a background calibration of a channel (R127). -/
  | calRequest (initiator : Nat) (limb : Nat) (chan : Nat)
  /-- An idle limb starts the next queued background calibration (R127). -/
  | bgCalStart (limb : Nat)
  /-- Every 1 ms the limb temperature is read, and entries past margin_c are queued for recalibration (R127). -/
  | limbTempRead (limb : Nat) (temp : Int)
  /-- A write that changes TXL_GANG.en gangs or ungangs a group, or is ignored with gang_refused (R134). -/
  | gangWrite (initiator : Nat) (group : Nat) (en : Bool)
  /-- After a leader prune, the lowest surviving member becomes leader and keeps the group's queue (R136). -/
  | gangLeaderTakeover (group : Nat)
  /-- A write of TXL_CX_CTL.en enables a coexistence set, or records a conflict (R139). -/
  | cxEnable (initiator : Nat) (set : Nat) (en : Bool)
  /-- lead_us before launch CX_REQ rises, and CX_PRI rises if the frame asks for priority (R140). -/
  | cxRequest (limb : Nat)
  /-- CX_GNT falls during a frame, which aborts it with CX_ABORT or is only counted (R140). -/
  | cxGntFall (set_ : Nat)
  /-- A duty or dwell bucket boundary passes, and the oldest bucket leaves the used sum (R151). -/
  | dutyBucketAdvance (range : Nat) (dwell : Bool)
  /-- A write of RGP_OTP_CTL.go checks the staged profile and programs it into OTP with read-back (R156). -/
  | profileOtpProgram (initiator : Nat) (vpp : Bool) (readback : Bool)
  /-- At the first timeslot edge after the rewrap, a committed replacement profile enters the gate (R157). -/
  | profileSwitch
  /-- At least 25 ms ahead, the engine reads the cells of a timeslot and posts receive cells, transmit frames, key prefetches and power holds (R166). -/
  | cellRead (asn : Nat) (bodies : List (Nat × List Byte))
  /-- The engine judges a receive descriptor: leaf, ownership, security, counter, leaf update, acknowledgement and delivery (R168). -/
  | frameJudge (at_ : Nat)
  /-- A key-cache miss fetches the leaf's blob, checks and unwraps it, and fills the cache (R293). -/
  | keyCacheMiss (lid : Nat) (ue : List Nat)
  /-- When the late-catch hold of an expect cell ends with no fresh frame, a miss is counted and the leaf may go SILENT or LOST (R185). -/
  | cellMiss (asn : Nat) (cell : Nat)
  /-- An expected parent beacon is missed, and after three misses the engine changes candidate or enters holdover (R191). -/
  | tpBeaconMiss (asn : Nat) (cell : Nat)
  /-- A limb's completion returns to the engine, which consumes an attempt, releases or retries the frame, or returns it undelivered (R176). -/
  | txCompletion (acked : Bool)
  /-- Firmware advances SSE_LEV_TAIL, and leaf_event clears when tail meets head (R187). -/
  | levTailWrite (initiator : Nat) (value : Word)
  /-- A leaf DRIFTED for SSE_RESYNC_WAIT becomes due for resync bursts (R188). -/
  | resyncWaitExpiry (lid : Nat)
  /-- A resync burst of beacons with the RESYNC subfield is sent on the leaf's resync channel (R188). -/
  | resyncBurst (asn : Nat) (body : List Byte)
  /-- A write to SSE_FW_HB records a firmware heartbeat (R193). -/
  | fwHeartbeat (initiator : Nat) (value : Word)
  /-- No heartbeat for hb_ms makes autopilot due at the next edge (R193). -/
  | fwHeartbeatMiss
  /-- A write of SSE_CTL.ap_enter makes autopilot due at the next edge (R193). -/
  | apEnterRequest (initiator : Nat)
  /-- After 60 s of autopilot, queued downlink and resync bursts stop (R194). -/
  | autopilotReduced
  /-- A write of SSE_CTL.ap_resume with the heartbeat running ends autopilot at the next edge, or is ignored (R194). -/
  | apResume (initiator : Nat)
  /-- Software advances a table DMA ring head, and the engine executes descriptors up to it (R209). -/
  | dmaHeadAdvance (initiator : Nat) (ring : Nat) (head : Nat) (done : Nat) (ue : List Nat)
  /-- A descriptor that has held its locks for 4 µs releases them and completes with LOCK_TIMEOUT (R211). -/
  | dmaLockTimeout (ring : Nat) (rows : Nat)
  /-- Every AGE_PERIOD/4 the ager visits every entry, clearing hit, aging entries or removing them (R203). -/
  | ageSweep
  /-- A seed write takes effect only while the Learning Table is empty, and otherwise sets seed_refused (R208). -/
  | lrnSeedWrite (initiator : Nat) (word : Nat) (value : Word)
  /-- A write to word +4 of a grove set entry is held pending (R213). -/
  | bghSetStage (initiator : Nat) (set : Nat) (value : Word)
  /-- A write to word +0 commits both words of a set entry, and the leaves of the set move to or from ADOPTED_OUT (R213). -/
  | bghSetCommit (initiator : Nat) (set : Nat) (value : Word)
  /-- A frame received on an Ethernet port is checked, classified, PTP-recognised, metered, learned and forwarded (R407). -/
  | ethFrameRx (port : Nat) (frame : List Byte) (fcsOk : Bool) (stamp : Nat)
  /-- When a frame leaves a virtual queue, the oldest spilled frame is fetched back into DOWNLINK cells, retrying until a cell frees (R230). -/
  | spillFetch (lid : Nat) (ue : List Nat)
  /-- A port scheduler sends from promoted or the highest eligible queue, correcting and stamping PTP messages (R232). -/
  | portTransmitOpportunity (port : Nat) (stamp : Nat)
  /-- Software advances a to-part host-queue head, and the part executes its descriptors (R233). -/
  | hostqTpHeadAdvance (initiator : Nat) (queue : Nat) (head : Nat) (done : Nat) (ue : List Nat)
  /-- Software posts to-host buffers, and waiting frames are delivered into them (R233). -/
  | hostqThTailAdvance (initiator : Nat) (queue : Nat) (tail : Nat)
  /-- An allocation reserve write is applied, or ignored with cfg_refused if the sum would exceed TRF_CELLS (R227). -/
  | trfReserveWrite (initiator : Nat) (alloc : Nat) (value : Word)
  /-- A shaper configuration write resets its credit, or is refused for a bad or duplicate queue (R237). -/
  | shaperConfigWrite (initiator : Nat) (shaper : Nat) (word : Nat) (value : Word)
  /-- A shaper's rising credit reaches 0, and its queue becomes eligible (R236). -/
  | shaperCreditZero (shaper : Nat)
  /-- A meter configuration write fills both buckets (R239). -/
  | meterConfigWrite (initiator : Nat) (meter : Nat) (word : Nat) (value : Word)
  /-- A write to TMB_INC_HI is held pending until the next LO write (R242). -/
  | tmbIncHiWrite (initiator : Nat) (value : Word)
  /-- A write to TMB_INC_LO commits the increment pair, or refuses it (R242). -/
  | tmbIncCommit (initiator : Nat) (value : Word)
  /-- TMB_CTL.step_go adds the step to the time base in ACQUIRE, or is refused for state or size (R246). -/
  | tmbStep (initiator : Nat)
  /-- TMB_CTL.rearm, with or without force, enters guarded or unguarded ACQUIRE (R245). -/
  | tmbRearm (initiator : Nat) (force : Bool)
  /-- TMB_CTL.track leaves ACQUIRE for TRACK without a step (R245). -/
  | tmbTrack (initiator : Nat)
  /-- TMB_CTL.hold_enter enters HOLDOVER with cause 1 (R248). -/
  | tmbHoldEnter (initiator : Nat)
  /-- TMB_CTL.hold_exit leaves HOLDOVER for TRACK (R245). -/
  | tmbHoldExit (initiator : Nat)
  /-- A PPS_IN rising edge is captured, setting NEW, or OVR if unread (R251). -/
  | ppsInEdge
  /-- 1.5 s without a PPS_IN edge sets pps_lost and, with src 1, enters holdover (R251). -/
  | ppsInLost
  /-- A read of TMB_PPS_CAP_LO returns the capture and clears NEW (R251). -/
  | ppsCapRead (initiator : Nat)
  /-- The time base reaches a second boundary plus the offset, and PPS_OUT rises (R252). -/
  | ppsOutRise
  /-- The pulse ends after width_ms, or when a backward step passes its start (R252). -/
  | ppsOutEnd
  /-- 1 ms after the source port's receive clock locks, SYNCE_OUT resumes (R253). -/
  | synceResume
  /-- A write of TMU_CTL.run starts a unit, clearing its prescaler and setting its gate, or stops it (R264). -/
  | tmuRunWrite (initiator : Nat) (unit : Nat) (value : Word)
  /-- A write of TMU_CNT or TMU_TOP applies while stopped, and is refused while running (R264). -/
  | tmuCntWrite (initiator : Nat) (unit : Nat) (top : Bool) (value : Word)
  /-- A counter read waits for in-flight link events toward the unit, then returns the count (R267). -/
  | tmuCntRead (initiator : Nat) (unit : Nat)
  /-- A count at top wraps the counter to 0, issues link events and may clear run in one-shot mode (R261). -/
  | tmuOverflow (unit : Nat)
  /-- The counter equals a compare value: flag, link events and output action (R270). -/
  | tmuCompareMatch (unit : Nat) (channel : Nat)
  /-- A compare value write goes straight to the live comparator, and may match at once (R271). -/
  | tmuCcvWrite (initiator : Nat) (unit : Nat) (channel : Nat) (value : Word)
  /-- An input edge latches the counter into a capture channel (R273). -/
  | tmuCapture (unit : Nat) (channel : Nat)
  /-- A read of a capture channel value returns it and clears new (R273). -/
  | tmuCcvRead (initiator : Nat) (unit : Nat) (channel : Nat)
  /-- A change of channel mode clears new, ovr, seq and the channel value (R274). -/
  | tmuModeChange (initiator : Nat) (unit : Nat) (channel : Nat) (value : Word)
  /-- A link event arrives at its target and gates, resets, clocks or triggers it (R266). -/
  | tmuLinkEvent
  /-- A write of TMU_OUT.en drives an owned pin, or records a conflict (R275). -/
  | tmuOutEnable (initiator : Nat) (unit : Nat) (value : Word)
  /-- Every re-mask period fresh masks are applied to every slot, and the cache sweep runs (R288). -/
  | remaskTick (late : Bool)
  /-- Command 0x01 unwraps an imported leaf key and writes its blobs (R300). -/
  | leafImport (initiator : Nat) (channel : Nat) (slot : Nat) (ue : List Nat)
  /-- Command 0x02 derives a leaf key from the leaf's EUI-64 and writes its blobs (R300). -/
  | leafDerive (initiator : Nat) (channel : Nat) (slot : Nat)
  /-- Command 0x03 writes the leaf's blobs not in use and invalidates its cache entry (R300). -/
  | leafDrop (initiator : Nat) (channel : Nat)
  /-- Command 0x04 invalidates every key-cache entry (R300). -/
  | cacheFlush (initiator : Nat) (channel : Nat)
  /-- Command 0x05 writes DRBG bytes to a buffer (R300). -/
  | random (initiator : Nat) (channel : Nat)
  /-- Command 0x06 wraps replica blobs for a peer digest (R300). -/
  | replicaWrap (initiator : Nat) (channel : Nat) (slot : Nat) (ue : List Nat)
  /-- Command 0x07 unwraps replica blobs and writes them as leaf blobs (R300). -/
  | replicaImport (initiator : Nat) (channel : Nat) (slot : Nat) (ue : List Nat)
  /-- A Heartwood command completes, writes its result and sets cmd_done (R300). -/
  | hwdCmdComplete (channel : Nat) (ue : List Nat)
  /-- The generation sweep rewraps the next LID's blob into the NEXT area, and after the last LID the slot store too (R297). -/
  | sweepVisit (ue : List Nat)
  /-- An entropy health test fails, and the DRBG stops giving output (R302). -/
  | entropyFail
  /-- Every 1 s the source is retested, and the DRBG reseeds after the tests pass (R302). -/
  | entropyRetest (passes : Bool)
  /-- Command 0x10 checks a key-update message, then writes its material and commits it (R316). -/
  | keyUpdate (initiator : Nat) (channel : Nat)
  /-- Command 0x11 returns the identity key, encapsulation key and device ID (R310). -/
  | pubkeys (initiator : Nat) (channel : Nat)
  /-- Command 0x12 signs a Witness statement over the requester's nonce (R312). -/
  | witness (initiator : Nat) (channel : Nat) (torn : Bool) (ue : List Nat)
  /-- Command 0x13 exports the newest ring-record events with a tag and a signature (R319). -/
  | rrExport (initiator : Nat) (channel : Nat) (torn : Bool) (ue : List Nat)
  /-- Command 0x14 checks an export's tag under the present export key (R310). -/
  | rrVerify (initiator : Nat) (channel : Nat) (ue : List Nat)
  /-- The signing token bucket refills at its configured rate (R309). -/
  | signTokenRefill
  /-- A tamper sensor event begins an episode, and Bark applies the response of its class in the present context (R325). -/
  | barkSensorEvent (sensor : Nat) (under : Bool) (seen : List Bool)
  /-- After 1 s outside its condition, a sensor's episode ends (R321). -/
  | barkEpisodeEnd (sensor : Nat)
  /-- A sensor class write is applied, or ignored if it lowers a class in DEPLOYED (R324). -/
  | barkClassWrite (initiator : Nat) (sensor : Nat) (value : Word)
  /-- BRK_CTL.persist stores the present classes in MRAM, unless the store would lower one in DEPLOYED (R324). -/
  | barkPersist (initiator : Nat)
  /-- BRK_CTL.new_nonce draws a new transition nonce (R331). -/
  | lcNewNonce (initiator : Nat)
  /-- BRK_CTL.lc_go checks a signed transition request and starts programming OTP (R331). -/
  | lifecycleTransition (initiator : Nat) (vpp : Bool) (ue : List Nat)
  /-- Lifecycle OTP programming completes, and any tamper response held back then follows (R332). -/
  | lcProgramDone (ok : Bool)
  /-- With every piece held and verified, the graft is applied into the inactive slot of its type (R341). -/
  | graftApply (graft_ : Nat) (unreadable : Bool)
  /-- The apply completes, the image is checked, and the type is marked ready (R341). -/
  | graftApplyDone
  /-- A relay manifest chunk is stored, and the manifest is verified once whole (R342). -/
  | manChunk (port : Nat) (frame : List Byte) (stamp : Nat)
  /-- A relay piece is verified by its path, stored and forwarded downstream (R342). -/
  | piece (port : Nat) (frame : List Byte) (stamp : Nat)
  /-- A downstream WANT is answered with the pieces asked for, from staging (R342). -/
  | want (port : Nat) (frame : List Byte) (stamp : Nat)
  /-- A relay DONE reports that a graft is all held, or abandoned (R342). -/
  | done (port : Nat) (frame : List Byte) (stamp : Nat)
  /-- want_ms without a new piece sends WANT upstream for the missing pieces (R342). -/
  | relayWantTimer (graft_ : Nat)
  /-- A Pollen PIECE frame stores 96 bytes and updates the MRAM bitmap (R344). -/
  | pollenPiece (payload : List Byte)
  /-- A Pollen WANT is answered with the pieces requested (R344). -/
  | pollenWant (payload : List Byte)
  /-- A Pollen ANNOUNCE describes an object available from the neighbour (R344). -/
  | pollenAnnounce (payload : List Byte)
  /-- GRF_CTL.plan_go starts an update plan in a consistent order, or refuses it (R346). -/
  | planGo (initiator : Nat)
  /-- After prepare, one journal record activates the step's image and generations, and the class takes the new image (R347). -/
  | planActivate
  /-- A health criterion fails, and the step is rolled back (R347). -/
  | healthFail
  /-- After 120 s of health checks the step commits and the next step starts (R347). -/
  | healthCheckEnd
  /-- GRF_CTL.cancel stops a plan before its next Activate (R349). -/
  | planCancel (initiator : Nat)
  /-- GRF_CTL.confirm records the new firmware's confirmation of a CROWN step (R347). -/
  | crownConfirm (initiator : Nat)
  /-- GRF_CTL.discard drops every staged graft not in a plan (R343). -/
  | graftDiscard (initiator : Nat)
  /-- Every 1 s, or 10 s for an incompatible peer, HELLO is sent to peers that are not UP (R354). -/
  | helloTimer
  /-- A grove HELLO is answered with HELLO_ACK choosing the highest common version (R354). -/
  | hello (port : Nat) (frame : List Byte) (stamp : Nat)
  /-- An accepted HELLO_ACK makes the peer UP, or INCOMPATIBLE, and OWN is sent (R354). -/
  | helloAck (port : Nat) (frame : List Byte) (stamp : Nat)
  /-- A write of GRV_HB_CFG.hb_en starts heartbeats on an owned timer unit, or records a conflict (R356). -/
  | hbEnable (initiator : Nat) (value : Word)
  /-- At each heartbeat mark, HEARTBEAT is sent to every UP peer and misses are counted (R356). -/
  | heartbeatMark
  /-- An accepted HEARTBEAT resets the peer's misses and checks its grid (R363). -/
  | heartbeat (port : Nat) (frame : List Byte) (stamp : Nat)
  /-- An accepted OWN message updates set ownership in BGH_SET, and may put sets on standby (R359). -/
  | own (port : Nat) (frame : List Byte) (stamp : Nat)
  /-- An OWN_REQ is queued to firmware, which answers with OWN (R353). -/
  | ownReq (port : Nat) (frame : List Byte) (stamp : Nat)
  /-- A DIGEST message carrying a peer's D and D′ is queued to firmware (R353). -/
  | digest (port : Nat) (frame : List Byte) (stamp : Nat)
  /-- A SHADOW message of table records is queued to firmware (R353). -/
  | shadow (port : Nat) (frame : List Byte) (stamp : Nat)
  /-- A SHADOW_KEY message of replica blobs is queued to firmware (R353). -/
  | shadowKey (port : Nat) (frame : List Byte) (stamp : Nat)
  /-- GRV_RANK2_MS after a death, a second-rank adoption becomes due unless OWN has raised every set (R362). -/
  | rank2AdoptTimer (peer : Nat)
  /-- A service budget write re-evaluates the allowed state of each domain (R367). -/
  | budgetWrite (initiator : Nat) (service : Nat) (value : Word)
  /-- A domain idle for idle_us begins to leave ON for its allowed state (R369). -/
  | domainIdleExpiry (domain : Nat)
  /-- A domain completes its entry to RET or OFF, and any waiting wake is then served (R365). -/
  | domainEntryDone (domain : Nat)
  /-- A domain reaches ON, restored as its notes state, and stalled accesses complete (R365). -/
  | domainOnReached (domain : Nat)
  /-- A force write pins a domain's state, or is refused below a floor or hold (R370). -/
  | domainForceWrite (initiator : Nat) (domain : Nat) (value : Word)
  /-- An access to a domain not ON stalls for an autowake or is fenced with the fence pattern (R372). -/
  | sleepingAccess (initiator : Nat) (off : Nat) (write : Bool) (value : Word)
  /-- A write of PWR_DVFS.op_req checks and starts an operating-point change (R375). -/
  | opRequest (initiator : Nat) (value : Word) (avs : Option Nat)
  /-- An acknowledged voltage has settled, and the change moves to its next step (R375). -/
  | opVoltageSettled
  /-- Every 100 µs the closed loop raises or lowers VDD_CORE by one step (R376). -/
  | vcoreLoopTick (avs : Option Nat)
  /-- PWR_AVS_CFG.retry clears the AVSBus failure state (R377). -/
  | avsRetry (initiator : Nat)
  /-- Locks held for 10 ms without hi_ber bring an Ethernet link up (R406). -/
  | linkUp (port : Nat)
  /-- A lost lock or hi_ber takes the link down, and frames queued to the port are dropped (R406). -/
  | linkDown (port : Nat) (block : Bool) (fec : Bool) (clk : Bool) (hiBer : Bool)
  /-- A write that changes a port's mode or FEC takes the link down and retrains it (R405). -/
  | ethCfgWrite (initiator : Nat) (port : Nat) (value : Word)
  /-- The host starts an exit from L1, which acts as wake source 3 (R378). -/
  | pcieL1Exit
  /-- PERST_L assertion takes PD_HOST OFF and disables host-owned rings (R413). -/
  | perstAssert
  /-- PERST_L release acts as wake source 4 (R378). -/
  | perstRelease
  /-- WAKE_L driven low by another device acts as wake source 5 (R378). -/
  | wakeIn
  /-- An enabled GPIO edge acts as wake source 9 (R378). -/
  | gpioWakeEdge (pin : Nat) (rising : Bool)
  /-- A wake hold ends after hold_ms (R378). -/
  | wakeHoldExpiry (code : Nat)
  /-- Every period_ms the always-on controller powers the watch chain for a bud window (R380). -/
  | budWindowOpen
  /-- A bud watch window ends after win_us (R380). -/
  | budWindowClose
  /-- 56 or more chips match the bud pattern, which acts as wake source 7 (R380). -/
  | budDetect (matched : Nat)
  /-- A containment unit faults, and is fenced, its work moved, and recorded as pruned (R385). -/
  | unitFault (faults : List UnitFault) (disagree : Bool)
  /-- A correctable SRAM error is counted, and a row reaching thr is copied to a spare row (R388). -/
  | sramCorrectableError (bank : Nat) (off : Nat)
  /-- The copy of a pruned bank completes, and the spare takes its addresses (R389). -/
  | bankCopyDone (bank : Nat)
  /-- The security cores mismatch, halt and restart, and on a third mismatch within 60 s the pair is pruned (R391). -/
  | lockstepMismatch
  /-- A write of PRN_READMIT.go self-tests a pruned unit for re-admission, or is refused (R393). -/
  | prnReadmit (initiator : Nat) (cls : Nat) (inst : Nat)
  /-- A re-admission self-test completes, and the unit returns or stays pruned (R393). -/
  | readmitDone (pass : Bool)
  /-- A write of PRN_INJECT prunes the named unit with cause 7, where permitted (R394). -/
  | prnInject (initiator : Nat) (cls : Nat) (inst : Nat)
  /-- RRC_CTL.freeze freezes the ring at the newest event (R398). -/
  | rrcFreeze (initiator : Nat)
  /-- RRC_CTL.unfreeze lifts the ring's protection (R398). -/
  | rrcUnfreeze (initiator : Nat)
  /-- PFAIL_L low for 1 µs writes a BROWNOUT event and starts a flush of the ring record to MRAM (R399). -/
  | pfailFall
  /-- The ring-record flush to MRAM completes (R399). -/
  | rrFlushDone
  /-- Monitor command 0x01 returns identity and lifecycle information (R402). -/
  | ident
  /-- Monitor command 0x02 returns the RRC registers (R402). -/
  | rrInfo
  /-- Monitor command 0x03 returns ring-record events from the live ring or the flush (R402). -/
  | rrRead (index : Nat) (count : Nat) (src : Nat)
  /-- Monitor command 0x04 returns BAR0 words (R402). -/
  | regRead (off : Nat) (count : Nat)
  /-- Monitor command 0x05 issues a nonce for authentication (R402). -/
  | challenge
  /-- Monitor command 0x06 changes the UART rate from the next byte (R402). -/
  | setBaud (rate : Nat)
  /-- No valid frame within 2 s at a new rate returns the monitor to 115,200 baud (R402). -/
  | setBaudTimeout
  /-- Monitor command 0x10 checks a signed challenge record and opens a session (R403). -/
  | auth (payload : List Byte)
  /-- Monitor command 0x11 writes BAR0 words (R402). -/
  | regWrite (off : Nat) (words : List Word)
  /-- Monitor command 0x12 returns DRAM words (R402). -/
  | memRead (addr : Nat) (count : Nat)
  /-- Monitor command 0x13 writes DRAM words (R402). -/
  | memWrite (addr : Nat) (words : List Word)
  /-- Monitor command 0x14 re-admits a pruned unit (R402). -/
  | readmit (cls : Nat) (inst : Nat)
  /-- Monitor command 0x15 injects a fault into a unit (R402). -/
  | inject (cls : Nat) (inst : Nat)
  /-- Monitor command 0x16 unfreezes the ring record (R402). -/
  | rrUnfreeze
  /-- Monitor command 0x17 responds and then resets the part as RESET_L does (R402). -/
  | reset
  /-- Monitor command 0x18 ends the session (R404). -/
  | logout
  /-- A 100 ms gap within a monitor frame discards the frame (R401). -/
  | monFrameTimeout
  /-- A monitor session ends when session_s elapses (R404). -/
  | sessionExpiry
  /-- MON_CTL.kill ends the session (R404). -/
  | monKill (initiator : Nat)
  /-- The 60 s AUTH lockout ends (R403). -/
  | authLockoutEnd
  /-- A BAR2 access reaches DRAM through the window, or reads 0 beyond the usable size and sets bar2_oor (R412). -/
  | bar2Access (offset : Nat) (write : Bool) (value : Word)
  /-- The coalescing gap of a ring vector ends, and the pending message is sent (R415). -/
  | msixCoalesceExpiry (vector : Nat)
  /-- A mailbox HELLO negotiates the version, answered by Taproot (R419). -/
  | mailboxHello
  /-- A mailbox PING is echoed by Taproot (R417). -/
  | mailboxPing
  /-- A host-service request goes to Crown firmware, or is answered with VERSION, UNKNOWN, BAD_LEN or NO_FIRMWARE (R417). -/
  | mailboxHostService
  /-- DDR_BOARD_CTL.go programs the board record into OTP where permitted (R420). -/
  | boardRecordProgram (initiator : Nat) (vpp : Bool) (readback : Bool)
  /-- XSP_CMD op READ copies flash to DRAM (R424). -/
  | xspRead (initiator : Nat)
  /-- XSP_CMD op PROGRAM writes flash where permitted (R424). -/
  | xspProgram (initiator : Nat)
  /-- XSP_CMD op ERASE erases flash blocks where permitted (R424). -/
  | xspErase (initiator : Nat)
  /-- XSP_CMD op SFDP reads the flash's SFDP tables (R424). -/
  | xspSfdp (initiator : Nat)
  /-- A flash command completes and sets done, and err for a status other than OK (R424). -/
  | xspComplete (deviceOk : Bool) (ue : List Nat)
  /-- A GPIO direction or output write drives owned pins, and only clears bits of pins the GPIO block does not own, with a conflict (R425). -/
  | pinGpioWrite (initiator : Nat) (out : Bool) (value : Word)
  /-- A coexistence-pin GPIO write drives owned pins, with a conflict for pins the GPIO block does not own (R425). -/
  | pinCxWrite (initiator : Nat) (out : Bool) (value : Word)
  /-- A PCIe link-down without PERST_L takes PD_HOST OFF, resets Taproot, disables host-owned rings and discards pending MSI-X messages (R413). -/
  | pcieLinkDown
  /-- The PCIe link enters L1 and PD_HOST goes to RET (R368). -/
  | pcieL1Entry
  /-- The PCIe link reaches L0, PD_HOST comes ON and an asserted WAKE_L is released (R378). -/
  | pcieL0Reached (gen : Nat) (width : Nat)
  /-- Signal detect sees a link change on a port while PD_ETH is in RET or OFF, which acts as wake source 1 (R378). -/
  | ethSignalDetect (port : Nat)
  /-- A start bit on MON_RXD wakes the monitor and PD_SEC as wake source 10 (R378). -/
  | monRxdStartBit
  /-- A monitor frame with a bad CRC is answered with BAD_CRC (R401). -/
  | monBadCrcFrame (frame : List Byte)
  /-- PFAIL_L rises without power loss; the part runs on with the ring frozen, and undervoltage events again keep their class (R322). -/
  | pfailLRise
  /-- The security cores complete their restart from the SEC image, and waiting Heartwood commands proceed (R391). -/
  | secRestartDone
  /-- A Crown-core access to an address outside the Crown map, DRAM beyond the usable size included, raises a bus-error exception (R25). -/
  | crownUnmappedAccess (core : Nat) (addr : Nat)
  /-- An instruction shifted into the boundary-scan TAP takes effect, with EXTEST acting as BYPASS where the lifecycle refuses it (R428). -/
  | tapInstruction (code : Nat)
  /-- At a cell's receive-window opening or launch, less wake latency and margins, the engine's hold brings the cell's domains ON (R371). -/
  | schedulePreWake (asn : Nat) (cell : Nat)
  /-- The late-catch hold on a receive cell ends, and the searchers and the cell's domain holds are released (R371). -/
  | lateCatchHoldEnd (asn : Nat) (cell : Nat)
  deriving DecidableEq, Repr

end Sys2Proof
end

