-- ==== Sys2Proof/Decode.lean ====
section
/-!
DEFINITION. The reading of a table word.  The table of operations and events gives no row any bits:
the part receives commands over its links, not instruction words, so no word spells a command.
-/

namespace Sys2Proof

/-- The command that a word of `nbits` bits spells: the table gives no row bits, so there is none. -/
def decodeTableWord (_nbits _w : Nat) : Option Instr := none

end Sys2Proof
end

