-- ==== Sys2Proof/Machine/Tables.lean ====
section
/-!
DEFINITION. Operations on sparse tables (Tab): lookup, update in key order, removal.
-/

namespace Sys2Proof.Machine

/-- The entry of key `k`, or `d` where none is listed. -/
def tabGet {α : Type} (t : Tab α) (k : Nat) (d : α) : α :=
  match t with
  | [] => d
  | (k', v) :: rest => if k' = k then v else tabGet rest k d

/-- The entry of key `k`, if one is listed. -/
def tabFind {α : Type} (t : Tab α) (k : Nat) : Option α :=
  match t with
  | [] => none
  | (k', v) :: rest => if k' = k then some v else tabFind rest k

/-- The table without key `k`. -/
def tabErase {α : Type} (t : Tab α) (k : Nat) : Tab α :=
  match t with
  | [] => []
  | (k', v) :: rest => if k' = k then tabErase rest k else (k', v) :: tabErase rest k

/-- Put an entry whose key is not listed in its place in key order. -/
def tabInsert {α : Type} (t : Tab α) (k : Nat) (v : α) : Tab α :=
  match t with
  | [] => [(k, v)]
  | (k', v') :: rest => if k < k' then (k, v) :: (k', v') :: rest else (k', v') :: tabInsert rest k v

/-- Write entry `k`. -/
def tabPut {α : Type} (t : Tab α) (k : Nat) (v : α) : Tab α :=
  tabInsert (tabErase t k) k v

/-- Change entry `k`, starting from `d` where none is listed. -/
def tabMod {α : Type} (t : Tab α) (k : Nat) (d : α) (f : α → α) : Tab α :=
  tabPut t k (f (tabGet t k d))

/-- The keys strictly rise: the canonical form of a table. -/
def tabSorted {α : Type} (t : Tab α) : Bool :=
  match t with
  | [] => true
  | [_] => true
  | (k, _) :: (k', v') :: rest => decide (k < k') && tabSorted ((k', v') :: rest)

/-- The numbers from 0 below `n`. -/
def upTo (n : Nat) : List Nat := List.range n

/-- The first number below `n` that passes the test. -/
def firstBelow (n : Nat) (p : Nat → Bool) : Option Nat := (List.range n).find? p

/-- Fold a state change over the numbers of a list, in order. -/
def each {α σ : Type} (xs : List α) (f : α → σ → σ) (s : σ) : σ :=
  match xs with
  | [] => s
  | x :: rest => each rest f (f x s)

/-- Replace the entry at position `i` of a list; a list that is too short is unchanged. -/
def listSet {α : Type} (xs : List α) (i : Nat) (v : α) : List α :=
  match xs, i with
  | [], _ => []
  | _ :: rest, 0 => v :: rest
  | x :: rest, i + 1 => x :: listSet rest i v

end Sys2Proof.Machine
end

