-- ==== Sys2Proof/Machine/Bytes.lean ====
section
/-!
DEFINITION. Bit fields of 32-bit words, sign, and byte orders, used by every block.
-/

namespace Sys2Proof.Machine

/-- Bit `i` of a number. -/
def bit (x i : Nat) : Bool := x.testBit i

/-- 1 for true, 0 for false. -/
def b2n (b : Bool) : Nat := if b then 1 else 0

/-- Bits `[lsb + width - 1 : lsb]` of a number. -/
def bits (x lsb width : Nat) : Nat := (x >>> lsb) % 2 ^ width

/-- The number with bit `i` set. -/
def setBit (x i : Nat) : Nat := x ||| 2 ^ i

/-- The number with bit `i` cleared. -/
def clrBit (x i : Nat) : Nat := if x.testBit i then x - 2 ^ i else x

/-- The number with bit `i` given. -/
def putBit (x i : Nat) (b : Bool) : Nat := if b then setBit x i else clrBit x i

/-- The number of 1 bits among the lowest `n`. -/
def popCount (x n : Nat) : Nat := ((List.range n).filter (fun i => x.testBit i)).length

/-- Positions of the 1 bits among the lowest `n`, rising. -/
def onesOf (x n : Nat) : List Nat := (List.range n).filter (fun i => x.testBit i)

/-- A mask with the listed bits set. -/
def maskOf (l : List Nat) : Nat := l.foldl setBit 0

/-- A two's complement number of `w` bits. -/
def signed (w x : Nat) : Int := if x % 2 ^ w < 2 ^ (w - 1) then (x % 2 ^ w : Nat) else (x % 2 ^ w : Nat) - (2 : Int) ^ w

/-- The two's complement code of an integer in `w` bits. -/
def unsigned (w : Nat) (i : Int) : Nat := (i % (2 : Int) ^ w).toNat

/-- An integer held to the range of a signed `w`-bit number. -/
def satSigned (w : Nat) (i : Int) : Int := max (-(2 : Int) ^ (w - 1)) (min ((2 : Int) ^ (w - 1) - 1) i)

/-- A value held between two ends. -/
def clamp (lo hi x : Nat) : Nat := if x < lo then lo else if hi < x then hi else x

/-- An integer held between two ends. -/
def clampInt (lo hi x : Int) : Int := if x < lo then lo else if hi < x then hi else x

/-- Division of a non-negative number, rounding to nearest, half up. -/
def roundDiv (a b : Nat) : Nat := (2 * a + b) / (2 * b)

/-- Division of an integer, rounding to nearest, half away from zero. -/
def roundDivInt (a : Int) (b : Nat) : Int :=
  if 0 ≤ a then ((roundDiv a.toNat b : Nat) : Int) else -((roundDiv (-a).toNat b : Nat) : Int)

/-- Division rounding up. -/
def ceilDiv (a b : Nat) : Nat := (a + b - 1) / b

/-- The `n` bytes of a number, least significant first. -/
def leBytes (n x : Nat) : List Byte :=
  match n with
  | 0 => []
  | n + 1 => BitVec.ofNat 8 x :: leBytes n (x / 256)

/-- The number whose bytes are given least significant first. -/
def leNat (l : List Byte) : Nat :=
  match l with
  | [] => 0
  | b :: rest => b.toNat + 256 * leNat rest

/-- The `n` bytes of a number, most significant first. -/
def beBytes (n x : Nat) : List Byte := (leBytes n x).reverse

/-- The number whose bytes are given most significant first. -/
def beNat (l : List Byte) : Nat := leNat l.reverse

/-- `n` bytes from position `off` of a byte string, short where the string ends. -/
def slice (l : List Byte) (off n : Nat) : List Byte := (l.drop off).take n

/-- A little-endian number at a place of a byte string. -/
def leAt (l : List Byte) (off n : Nat) : Nat := leNat (slice l off n)

/-- A big-endian number at a place of a byte string. -/
def beAt (l : List Byte) (off n : Nat) : Nat := beNat (slice l off n)

/-- The byte at a place of a byte string, 0 beyond its end. -/
def byteAt (l : List Byte) (off : Nat) : Nat := (l.getD off 0#8).toNat

/-- A byte string made exactly `n` bytes long, by cutting it or by zeros after it. -/
def fit (n : Nat) (l : List Byte) : List Byte := (l.take n) ++ List.replicate (n - l.length) 0#8

/-- Whether bytes are all 0. -/
def allZero (l : List Byte) : Bool := l.all (fun b => decide (b = 0#8))

/-- The text's bytes. -/
def ascii (t : String) : List Byte := t.toList.map (fun c => BitVec.ofNat 8 c.toNat)

/-- The field of a word. -/
def wordField (w : Word) (lsb width : Nat) : Nat := bits w.toNat lsb width

/-- The word with one field replaced: its other bits stay. -/
def wordSet (w : Word) (lsb width v : Nat) : Word :=
  (w &&& ~~~((BitVec.ofNat 32 (2 ^ width - 1)) <<< lsb)) ||| ((BitVec.ofNat 32 (v % 2 ^ width)) <<< lsb)

/-- Subtraction modulo 2^32, for sequence numbers. -/
def sub32 (a b : Nat) : Nat := (a + 2 ^ 32 - b % 2 ^ 32) % 2 ^ 32

end Sys2Proof.Machine
end

