-- ==== Sys2Proof/Machine/Crc.lean ====
section
/-!
DEFINITION. Frame checks and small codes: CRC-16 and CRC-32 of IEEE 802.15.4 (R97), the CRC-4 of the
Understory PHR (R101), the PN9 sequence is the lane's own.
-/

namespace Sys2Proof.Machine

/-- One bit step of a reflected CRC. -/
def crcBit (poly r : Nat) : Nat := if r.testBit 0 then (r / 2) ^^^ poly else r / 2

/-- `n` bit steps. -/
def crcBits (poly : Nat) (n r : Nat) : Nat :=
  match n with
  | 0 => r
  | n + 1 => crcBits poly n (crcBit poly r)

/-- A reflected CRC over bytes. -/
def crcOver (poly r : Nat) (l : List Byte) : Nat :=
  match l with
  | [] => r
  | b :: rest => crcOver poly (crcBits poly 8 (r ^^^ b.toNat)) rest

/-- The 2-octet CRC-16 of R97: x^16 + x^12 + x^5 + 1, register 0 at the start. -/
def crc16 (l : List Byte) : Nat := crcOver 0x8408 0 l

/-- The 4-octet CRC-32 of R97, over at least four octets. -/
def crc32 (l : List Byte) : Nat := (crcOver 0xEDB88320 0xFFFFFFFF l) ^^^ 0xFFFFFFFF

/-- The CRC-32 of a PSDU: an input shorter than four octets is taken with zeros after it. -/
def fcs32 (l : List Byte) : Nat := crc32 (l ++ List.replicate (4 - l.length) 0#8)

/-- One step of the CRC-4 of R101. -/
def crc4Step (phr i r : Nat) : Nat :=
  let r' := (2 * r) % 16
  if xor (phr.testBit i) (r.testBit 3) then r' ^^^ 3 else r'

/-- The CRC-4 of R101 over the first `n` bits of a PHR. -/
def crc4From (phr : Nat) (n : Nat) : Nat :=
  match n with
  | 0 => 0
  | n + 1 => crc4Step phr n (crc4From phr n)

/-- The check of an Understory PHR (R101). -/
def crc4 (phr : Nat) : Nat := crc4From phr 12

end Sys2Proof.Machine
end

