-- ==== Sys2Proof/Config.lean ====
section
/-!
DEFINITION. What the manual leaves open: the free values, and the published algorithms that the
manual names and does not itself state (R2).  Each is an opaque constant with no body, so no proof
can see its value.
-/

namespace Sys2Proof.Config

/-- The n-th value the manual leaves open, of `w` bits (notes/assumptions/5). -/
opaque freeValue : Nat → (w : Nat) → BitVec w

/-- SHAKE256 output of `n` bytes (FIPS 202). -/
opaque shake256 : List Byte → Nat → List Byte

/-- KMAC256 (SP 800-185): key, message, customisation, output bytes. -/
opaque kmac256 : List Byte → List Byte → List Byte → Nat → List Byte

/-- Signature check of XMSS-SHAKE_20_256: public key, message, signature (RFC 8391). -/
opaque xmssVerify : List Byte → List Byte → List Byte → Bool

/-- Signature check of XMSS^MT-SHAKE_40/4_256: public key, message, signature (RFC 8391). -/
opaque xmssMtVerify : List Byte → List Byte → List Byte → Bool

/-- XMSS^MT signature of a message under the key of the given seeds at an index (RFC 8391). -/
opaque xmssMtSign : List Byte → Nat → List Byte → List Byte

/-- AES-256 key wrap with padding of data under a key (SP 800-38F). -/
opaque kwpWrap : List Byte → List Byte → List Byte

/-- AES-256 key unwrap with padding: none where the integrity check fails (SP 800-38F). -/
opaque kwpUnwrap : List Byte → List Byte → Option (List Byte)

/-- CCM* check and decryption of a frame: key, nonce, authenticated data, ciphertext with MIC,
MIC length; none where authentication fails (IEEE 802.15.4-2020). -/
opaque ccmDecrypt : List Byte → List Byte → List Byte → List Byte → Nat → Option (List Byte)

/-- CCM* encryption: key, nonce, authenticated data, plaintext, MIC length. -/
opaque ccmEncrypt : List Byte → List Byte → List Byte → List Byte → Nat → List Byte

/-- Tlaesh's verification key, fixed in the Seed ROM (R304). -/
opaque vendorKey : List Byte

/-- ML-KEM-1024 decapsulation of a ciphertext under the part's decapsulation key (FIPS 203). -/
opaque mlkemDecap : List Byte → List Byte → List Byte

/-- The public key of a generated ML-KEM or identity key pair for a seed. -/
opaque publicKey : Nat → List Byte → List Byte

/-- The fuzzy extractor (R278): the secret that a raw response of the PUF and the helper data give. -/
opaque fuzzyExtract : (response helper : List Byte) → List Byte

/-- The customisation string under which KS_10 tags the debug record (R304): the manual names none. -/
opaque debugLabel : List Byte

/-- Where in DRAM Seed and the planner put the Crown image (R335, R347), and where in the staging area the part puts a piece of a
graft (R343): the manual names no places. -/
opaque crownPlace : Nat
opaque stagePlace : (graft piece : Nat) → Nat

/-- The default records of a settings group, in a format (R350): the manual does not list them. -/
opaque settingsDefault : (group format : Nat) → List Byte

/-- The seed an external loop draws at a release of POR_L, and bit `n` of the pattern its LFSR makes of it (R320): the manual
gives no polynomial. -/
opaque loopSeed : (release loop : Nat) → BitVec 16
opaque loopPattern : (seed : BitVec 16) → (n : Nat) → Bool

/-- How a profile switch spreads a full account over its buckets: the charge wanted in the bucket i
back from the present one (R157 states only the sum). -/
opaque fullAccount : Nat → Nat → Nat

/-- 10 to a power, as the part computes it (R74, R83, R150). -/
opaque tenPower : Rat → Rat

/-- Ten times the decimal logarithm, as the part computes it (R83, R135, R150). -/
opaque tenLog : Rat → Rat

/-- The square root, as the part computes it (R74, R75, R135). -/
opaque squareRoot : Rat → Rat

/-- The phase of a complex number, as the part computes it (R74). -/
opaque angle : Rat → Rat → Rat

/-- The cosine and the sine, as the part computes them (R74). -/
opaque cosine : Rat → Rat
opaque sine : Rat → Rat

/-- The weights of a beam whose loaded covariance has no inverse: the manual states none (R74). -/
opaque singularWeights : List Rat → List Rat

/-- The rate in kb/s that the shaper of a host queue takes for its port_rate: the register's is that of class queues
only (R235). -/
opaque hostQueueRate : Nat → Nat

/-- The choice among `n` that a state of the 16-bit generator of R207 makes: the manual does not say how
a draw maps to a choice. -/
opaque lfsrChoice : Nat → Nat → Nat

/-- The header of a MAC data frame: the router's address, destination LID, its address, ASN, key index (0 for none),
and whether an acknowledgement is asked for.  The manual names IEEE 802.15.4-2020 and does not choose among its forms. -/
opaque macHeader : (source lid dest asn keyIndex : Nat) → Bool → List Byte

/-- The header of an enhanced acknowledgement up to its IEs: the router's address, destination LID, ASN, key index (0
for none), and the frame it acknowledges. -/
opaque ackHeader : (source lid asn keyIndex : Nat) → List Byte → List Byte

/-- An enhanced beacon's octets without the FCS (R179): the body template that firmware keeps, completed with header
IEs and with nested payload IEs.  The manual does not say where in the template they go. -/
opaque completeBeacon : (body headerIes nested : List Byte) → List Byte

/-- The CCA offset and CCA time, and the receive-to-transmit time, in µs, that a full TSCH Timeslot IE carries: no
register holds them. -/
opaque ccaTimes : BitVec 32
opaque turnaround : BitVec 16

/-- The MIC length in octets of frames the part secures. -/
opaque micLength : Nat

/-- The power domain of a bank of search and lane contexts, counted from PD_CHZ0 among PD_CHZ0, PD_CHZ1 and PD_LB0
to PD_LB3: the manual does not say which bank lies in which (R20). -/
opaque contextDomain : Nat → BitVec 3

/-- The erase block of the fitted flash in bytes, less one (R423, R424: read from its SFDP tables). -/
opaque eraseBlockLess1 : Nat

/-- One step of the rate-1/2, constraint-length-4 code of SUN-FSK, NRNSC or RSC, at a state and an input bit: the next
state in bits 4 to 2 and the pair sent in bits 1 and 0 (IEEE 802.15.4-2020). -/
opaque fskEncoder : Bool → Nat → Bool → BitVec 5

/-- The tail and padding bits of a coded SUN-FSK frame from the state its PSDU leaves, for a PSDU of even length or
not (IEEE 802.15.4-2020). -/
opaque fskTail : Bool → Nat → Bool → List Bool

/-- Where the interleaver of SUN-FSK puts each of 32 coded bits (IEEE 802.15.4-2020). -/
opaque fskInterleaver : BitVec 5 → BitVec 5

/-- The preamble octet of filtered 4-FSK (IEEE 802.15.4-2020). -/
opaque fourFskPreamble : Byte

/-- Which of equal matches a decoder keeps: the manual does not say (R98, R108). -/
opaque decoderTie : Nat → Nat → Bool

/-- Whether a part of a channel vector that lies between two bytes is rounded up (R79 does not say). -/
opaque roundsUp : Rat → Bool

/-- The header of a ring-record flush: its magic and its fields (R399).  Where they lie in it is left open (log 176). -/
opaque flushHeader : List Byte → List Nat → List Byte

/-- The SFDP tables of the flash on the board, by address: the device's, which no rule states (R423). -/
opaque flashSfdp : Nat → Byte

end Sys2Proof.Config
end

