-- ==== Sys2Proof/Machine/FieldsA.lean ====
section
/-!
DEFINITION. The named fields of the register tables (GLB, STP, PWR, PRN, TMB, TMU, PIN, CNP, CHZ, SPC, LNE, TXL, RGP, SSE): one definition for each field of the manual,
BLOCK_REG_field, with the index arguments of its register array.
-/

namespace Sys2Proof.Machine.F

/-! GLB -/

def GLB_ID_part : Fld := ⟨0x0, 16, 16⟩
def GLB_ID_stepping : Fld := ⟨0x0, 0, 8⟩
def GLB_STAT_pace_low : Fld := ⟨0x10, 2, 1⟩
def GLB_STAT_fifo_ovf : Fld := ⟨0x10, 1, 1⟩
def GLB_STAT_acc_err : Fld := ⟨0x10, 0, 1⟩
def GLB_MASK_pace_low : Fld := ⟨0x14, 2, 1⟩
def GLB_MASK_fifo_ovf : Fld := ⟨0x14, 1, 1⟩
def GLB_MASK_acc_err : Fld := ⟨0x14, 0, 1⟩
def GLB_EVCNT_pace_low_cnt : Fld := ⟨0x18, 16, 8⟩
def GLB_EVCNT_fifo_ovf_cnt : Fld := ⟨0x18, 8, 8⟩
def GLB_EVCNT_acc_err_cnt : Fld := ⟨0x18, 0, 8⟩
def GLB_PACE_mon_id : Fld := ⟨0x20, 16, 4⟩
def GLB_PACE_min_pace : Fld := ⟨0x20, 0, 16⟩
def GLB_PACE_THR_thr : Fld := ⟨0x24, 0, 16⟩
def GLB_TSTALL_t_stall_us : Fld := ⟨0x30, 0, 10⟩
def GLB_FIFO_OVF_CNT_count (i : Nat) : Fld := ⟨0x100 + 0x4 * i, 0, 32⟩
/-! STP -/

def STP_ABI_fmt_major : Fld := ⟨0x20000, 24, 8⟩
def STP_ABI_fmt_minor_max : Fld := ⟨0x20000, 16, 8⟩
def STP_PLAN_ID_plan_id : Fld := ⟨0x20004, 0, 32⟩
def STP_PLAN_SEQ_plan_seq : Fld := ⟨0x20008, 0, 32⟩
def STP_SEQ_FLOOR_floor : Fld := ⟨0x2000C, 0, 32⟩
def STP_STAT_busy : Fld := ⟨0x20010, 5, 1⟩
def STP_STAT_persisted : Fld := ⟨0x20010, 4, 1⟩
def STP_STAT_drain_skip : Fld := ⟨0x20010, 3, 1⟩
def STP_STAT_conflict : Fld := ⟨0x20010, 2, 1⟩
def STP_STAT_refused : Fld := ⟨0x20010, 1, 1⟩
def STP_STAT_done : Fld := ⟨0x20010, 0, 1⟩
def STP_MASK_mask : Fld := ⟨0x20014, 0, 5⟩
def STP_EVCNT_drain_skip_cnt : Fld := ⟨0x20018, 16, 8⟩
def STP_EVCNT_refuse_cnt : Fld := ⟨0x20018, 8, 8⟩
def STP_EVCNT_conflict_cnt : Fld := ⟨0x20018, 0, 8⟩
def STP_LOAD_ADDR_LO_addr : Fld := ⟨0x20020, 0, 32⟩
def STP_LOAD_ADDR_HI_addr : Fld := ⟨0x20024, 0, 32⟩
def STP_LOAD_LEN_len : Fld := ⟨0x20028, 0, 21⟩
def STP_LIVE_CTL_at_asn : Fld := ⟨0x2002C, 3, 1⟩
def STP_LIVE_CTL_persist : Fld := ⟨0x2002C, 2, 1⟩
def STP_LIVE_CTL_cancel : Fld := ⟨0x2002C, 1, 1⟩
def STP_LIVE_CTL_go : Fld := ⟨0x2002C, 0, 1⟩
def STP_LIVE_ASN_LO_asn : Fld := ⟨0x20030, 0, 32⟩
def STP_LIVE_ASN_HI_asn : Fld := ⟨0x20034, 0, 8⟩
def STP_RESULT_skipped : Fld := ⟨0x20038, 26, 6⟩
def STP_RESULT_lanes_moved : Fld := ⟨0x20038, 16, 10⟩
def STP_RESULT_affected : Fld := ⟨0x20038, 12, 4⟩
def STP_RESULT_phase : Fld := ⟨0x20038, 8, 4⟩
def STP_RESULT_code : Fld := ⟨0x20038, 0, 8⟩
def STP_LIVE_DIGEST_digest (i : Nat) : Fld := ⟨0x20040 + 0x4 * i, 0, 32⟩
def STP_CONFLICT_LAST_owner : Fld := ⟨0x20060, 16, 16⟩
def STP_CONFLICT_LAST_res_class : Fld := ⟨0x20060, 8, 8⟩
def STP_CONFLICT_LAST_res_index : Fld := ⟨0x20060, 0, 8⟩
def STP_SLOT_next_boot : Fld := ⟨0x20064, 1, 1⟩
def STP_SLOT_booted : Fld := ⟨0x20064, 0, 1⟩
/-! PWR -/

def PWR_STAT_op_done : Fld := ⟨0x40010, 5, 1⟩
def PWR_STAT_avs_fail : Fld := ⟨0x40010, 4, 1⟩
def PWR_STAT_op_refused : Fld := ⟨0x40010, 3, 1⟩
def PWR_STAT_force_refused : Fld := ⟨0x40010, 2, 1⟩
def PWR_STAT_wake : Fld := ⟨0x40010, 1, 1⟩
def PWR_STAT_fence : Fld := ⟨0x40010, 0, 1⟩
def PWR_MASK_mask : Fld := ⟨0x40014, 0, 6⟩
def PWR_EVCNT_avs_fail_cnt : Fld := ⟨0x40018, 24, 8⟩
def PWR_EVCNT_op_refused_cnt : Fld := ⟨0x40018, 16, 8⟩
def PWR_EVCNT_wake_cnt : Fld := ⟨0x40018, 8, 8⟩
def PWR_EVCNT_fence_cnt : Fld := ⟨0x40018, 0, 8⟩
def PWR_BUDGET_us (i : Nat) : Fld := ⟨0x40020 + 0x4 * i, 0, 24⟩
def PWR_DOM_STATE_state (i : Nat) : Fld := ⟨0x40040 + 0x4 * i, 0, 32⟩
def PWR_DOM_TARGET_target (i : Nat) : Fld := ⟨0x40048 + 0x4 * i, 0, 32⟩
def PWR_AUTOWAKE_aw : Fld := ⟨0x40050, 0, 28⟩
def PWR_FENCE_STAT_valid : Fld := ⟨0x40060, 31, 1⟩
def PWR_FENCE_STAT_write : Fld := ⟨0x40060, 16, 1⟩
def PWR_FENCE_STAT_initiator : Fld := ⟨0x40060, 8, 4⟩
def PWR_FENCE_STAT_domain : Fld := ⟨0x40060, 0, 5⟩
def PWR_FENCE_ADDR_addr : Fld := ⟨0x40064, 0, 32⟩
def PWR_FENCE_CNT_count : Fld := ⟨0x40068, 0, 32⟩
def PWR_DVFS_busy : Fld := ⟨0x40070, 8, 1⟩
def PWR_DVFS_op_now : Fld := ⟨0x40070, 4, 2⟩
def PWR_DVFS_op_req : Fld := ⟨0x40070, 0, 2⟩
def PWR_VCORE_applied_mv : Fld := ⟨0x40074, 16, 10⟩
def PWR_VCORE_floor_mv : Fld := ⟨0x40074, 0, 10⟩
def PWR_AVS_CFG_pace_tgt : Fld := ⟨0x40078, 20, 12⟩
def PWR_AVS_CFG_settle_us : Fld := ⟨0x40078, 12, 8⟩
def PWR_AVS_CFG_clk_mhz : Fld := ⟨0x40078, 6, 6⟩
def PWR_AVS_CFG_retry : Fld := ⟨0x40078, 5, 1⟩
def PWR_AVS_CFG_rail : Fld := ⟨0x40078, 0, 4⟩
def PWR_WAKE_EN_en : Fld := ⟨0x40080, 1, 11⟩
def PWR_WAKE_HOST_host : Fld := ⟨0x40084, 1, 11⟩
def PWR_WAKE_CFG_hold_ms : Fld := ⟨0x40088, 0, 14⟩
def PWR_WAKE_LAST_code : Fld := ⟨0x4008C, 24, 8⟩
def PWR_WAKE_LAST_domain : Fld := ⟨0x4008C, 16, 5⟩
def PWR_WAKE_LAST_detail : Fld := ⟨0x4008C, 0, 8⟩
def PWR_WAKE_TS_LO_ns : Fld := ⟨0x40090, 0, 32⟩
def PWR_WAKE_TS_HI_ns : Fld := ⟨0x40094, 0, 32⟩
def PWR_WAKE_AON_ticks : Fld := ⟨0x40098, 0, 32⟩
def PWR_TMU_WAKE_units : Fld := ⟨0x4009C, 0, 32⟩
def PWR_GPIO_WAKE_pins : Fld := ⟨0x400A0, 0, 32⟩
def PWR_GPIO_POL_pol : Fld := ⟨0x400A4, 0, 32⟩
def PWR_BUD_CFG_en : Fld := ⟨0x400B0, 31, 1⟩
def PWR_BUD_CFG_win_us : Fld := ⟨0x400B0, 16, 13⟩
def PWR_BUD_CFG_period_ms : Fld := ⟨0x400B0, 4, 10⟩
def PWR_BUD_CFG_chain : Fld := ⟨0x400B0, 0, 4⟩
def PWR_BUD_CHAN_freq_100hz : Fld := ⟨0x400B4, 0, 25⟩
def PWR_BUD_SEQ_LO_chips : Fld := ⟨0x400B8, 0, 32⟩
def PWR_BUD_SEQ_HI_chips : Fld := ⟨0x400BC, 0, 32⟩
def PWR_BUD_CNT_count : Fld := ⟨0x400C0, 0, 32⟩
def PWR_DOM_CFG_idle_us (i : Nat) : Fld := ⟨0x40100 + 0x4 * i, 12, 20⟩
def PWR_DOM_CFG_hw_hold (i : Nat) : Fld := ⟨0x40100 + 0x4 * i, 8, 1⟩
def PWR_DOM_CFG_force (i : Nat) : Fld := ⟨0x40100 + 0x4 * i, 4, 2⟩
def PWR_DOM_CFG_autowake (i : Nat) : Fld := ⟨0x40100 + 0x4 * i, 2, 1⟩
def PWR_DOM_CFG_floor (i : Nat) : Fld := ⟨0x40100 + 0x4 * i, 0, 2⟩
def PWR_DOM_LAT_off_us (i : Nat) : Fld := ⟨0x40180 + 0x4 * i, 13, 19⟩
def PWR_DOM_LAT_ret_us (i : Nat) : Fld := ⟨0x40180 + 0x4 * i, 0, 13⟩
/-! PRN -/

def PRN_STAT_inject_refused : Fld := ⟨0x60010, 6, 1⟩
def PRN_STAT_row_spare : Fld := ⟨0x60010, 5, 1⟩
def PRN_STAT_fence_drop : Fld := ⟨0x60010, 4, 1⟩
def PRN_STAT_readmit_fail : Fld := ⟨0x60010, 3, 1⟩
def PRN_STAT_readmit_done : Fld := ⟨0x60010, 2, 1⟩
def PRN_STAT_no_spare : Fld := ⟨0x60010, 1, 1⟩
def PRN_STAT_prune : Fld := ⟨0x60010, 0, 1⟩
def PRN_MASK_mask : Fld := ⟨0x60014, 0, 7⟩
def PRN_EVCNT_row_spare_cnt : Fld := ⟨0x60018, 24, 8⟩
def PRN_EVCNT_readmit_fail_cnt : Fld := ⟨0x60018, 16, 8⟩
def PRN_EVCNT_no_spare_cnt : Fld := ⟨0x60018, 8, 8⟩
def PRN_EVCNT_prune_cnt : Fld := ⟨0x60018, 0, 8⟩
def PRN_READMIT_go : Fld := ⟨0x60020, 31, 1⟩
def PRN_READMIT_busy : Fld := ⟨0x60020, 30, 1⟩
def PRN_READMIT_class : Fld := ⟨0x60020, 16, 8⟩
def PRN_READMIT_instance : Fld := ⟨0x60020, 0, 16⟩
def PRN_READMIT_RESULT_done : Fld := ⟨0x60024, 31, 1⟩
def PRN_READMIT_RESULT_status : Fld := ⟨0x60024, 24, 7⟩
def PRN_READMIT_RESULT_class : Fld := ⟨0x60024, 16, 8⟩
def PRN_READMIT_RESULT_instance : Fld := ⟨0x60024, 0, 16⟩
def PRN_LAST_class : Fld := ⟨0x60028, 24, 8⟩
def PRN_LAST_cause : Fld := ⟨0x60028, 16, 4⟩
def PRN_LAST_instance : Fld := ⟨0x60028, 0, 16⟩
def PRN_LAST_RR_rr_index : Fld := ⟨0x6002C, 0, 12⟩
def PRN_INJECT_go : Fld := ⟨0x60030, 31, 1⟩
def PRN_INJECT_class : Fld := ⟨0x60030, 16, 8⟩
def PRN_INJECT_instance : Fld := ⟨0x60030, 0, 16⟩
def PRN_CE_CFG_thr : Fld := ⟨0x60034, 0, 8⟩
def PRN_FENCE_DROP_CNT_count : Fld := ⟨0x60040, 0, 32⟩
def PRN_ROW_SPARE_CNT_count : Fld := ⟨0x60044, 0, 32⟩
def PRN_CE_CNT_count : Fld := ⟨0x60048, 0, 32⟩
def PRN_SPARE_BANK_in_use (i : Nat) : Fld := ⟨0x60060 + 0x4 * i, 31, 1⟩
def PRN_SPARE_BANK_serves (i : Nat) : Fld := ⟨0x60060 + 0x4 * i, 0, 9⟩
def PRN_BANK_MAP_domain (i : Nat) : Fld := ⟨0x60100 + 0x4 * i, 8, 5⟩
def PRN_BANK_MAP_use (i : Nat) : Fld := ⟨0x60100 + 0x4 * i, 0, 4⟩
def PRN_PRUNED_pruned (i j : Nat) : Fld := ⟨0x60600 + 0x80 * i + 0x4 * j, 0, 32⟩
def RRC_STAT_lost : Fld := ⟨0x61010, 3, 1⟩
def RRC_STAT_flush_fail : Fld := ⟨0x61010, 2, 1⟩
def RRC_STAT_flushed : Fld := ⟨0x61010, 1, 1⟩
def RRC_STAT_frozen : Fld := ⟨0x61010, 0, 1⟩
def RRC_MASK_mask : Fld := ⟨0x61014, 0, 4⟩
def RRC_EVCNT_flush_cnt : Fld := ⟨0x61018, 8, 8⟩
def RRC_EVCNT_lost_cnt : Fld := ⟨0x61018, 0, 8⟩
def RRC_CFG_keep : Fld := ⟨0x61020, 16, 12⟩
def RRC_CFG_trig : Fld := ⟨0x61020, 0, 3⟩
def RRC_CTL_page : Fld := ⟨0x61024, 8, 1⟩
def RRC_CTL_src : Fld := ⟨0x61024, 4, 1⟩
def RRC_CTL_freeze : Fld := ⟨0x61024, 1, 1⟩
def RRC_CTL_unfreeze : Fld := ⟨0x61024, 0, 1⟩
def RRC_HEAD_index : Fld := ⟨0x61028, 0, 12⟩
def RRC_FREEZE_frozen : Fld := ⟨0x6102C, 31, 1⟩
def RRC_FREEZE_f : Fld := ⟨0x6102C, 0, 12⟩
def RRC_SEQ_seq : Fld := ⟨0x61030, 0, 32⟩
def RRC_FLUSH_valid : Fld := ⟨0x61034, 31, 1⟩
def RRC_FLUSH_slot : Fld := ⟨0x61034, 30, 1⟩
def RRC_FLUSH_head : Fld := ⟨0x61034, 0, 12⟩
def RRC_FLUSH_SEQ_flush_seq : Fld := ⟨0x61038, 0, 32⟩
def RRC_LOST_CNT_count : Fld := ⟨0x61044, 0, 32⟩
/-! TMB -/

def TMB_NS_LO_ns : Fld := ⟨0x80000, 0, 32⟩
def TMB_NS_HI_ns : Fld := ⟨0x80004, 0, 32⟩
def TMB_NS_FRAC_frac : Fld := ⟨0x80008, 0, 32⟩
def TMB_CTL_force : Fld := ⟨0x8000C, 5, 1⟩
def TMB_CTL_hold_exit : Fld := ⟨0x8000C, 4, 1⟩
def TMB_CTL_hold_enter : Fld := ⟨0x8000C, 3, 1⟩
def TMB_CTL_track : Fld := ⟨0x8000C, 2, 1⟩
def TMB_CTL_rearm : Fld := ⟨0x8000C, 1, 1⟩
def TMB_CTL_step_go : Fld := ⟨0x8000C, 0, 1⟩
def TMB_STAT_no_trailer : Fld := ⟨0x80010, 9, 1⟩
def TMB_STAT_synce_lost : Fld := ⟨0x80010, 8, 1⟩
def TMB_STAT_conflict : Fld := ⟨0x80010, 7, 1⟩
def TMB_STAT_ts_gap : Fld := ⟨0x80010, 6, 1⟩
def TMB_STAT_pps_lost : Fld := ⟨0x80010, 5, 1⟩
def TMB_STAT_holdover : Fld := ⟨0x80010, 4, 1⟩
def TMB_STAT_jump_refused : Fld := ⟨0x80010, 3, 1⟩
def TMB_STAT_inc_refused : Fld := ⟨0x80010, 2, 1⟩
def TMB_STAT_step_refused : Fld := ⟨0x80010, 1, 1⟩
def TMB_STAT_step_done : Fld := ⟨0x80010, 0, 1⟩
def TMB_MASK_mask : Fld := ⟨0x80014, 0, 10⟩
def TMB_EVCNT_ts_gap_cnt : Fld := ⟨0x80018, 24, 8⟩
def TMB_EVCNT_jump_refused_cnt : Fld := ⟨0x80018, 16, 8⟩
def TMB_EVCNT_step_refused_cnt : Fld := ⟨0x80018, 8, 8⟩
def TMB_EVCNT_holdover_cnt : Fld := ⟨0x80018, 0, 8⟩
def TMB_INC_LO_frac : Fld := ⟨0x80020, 0, 32⟩
def TMB_INC_HI_int : Fld := ⟨0x80024, 0, 8⟩
def TMB_STEP_LO_step : Fld := ⟨0x80028, 0, 32⟩
def TMB_STEP_HI_step : Fld := ⟨0x8002C, 0, 32⟩
def TMB_STATE_hold_cause : Fld := ⟨0x80030, 4, 3⟩
def TMB_STATE_guarded : Fld := ⟨0x80030, 2, 1⟩
def TMB_STATE_state : Fld := ⟨0x80030, 0, 2⟩
def TMB_HOLD_mode : Fld := ⟨0x80034, 0, 2⟩
def TMB_JUMP_LIMIT_limit_ns : Fld := ⟨0x80038, 0, 32⟩
def TMB_REF_src : Fld := ⟨0x8003C, 0, 2⟩
def TMB_OTA_CFG_prop_ns : Fld := ⟨0x80040, 16, 16⟩
def TMB_OTA_CFG_ki : Fld := ⟨0x80040, 4, 4⟩
def TMB_OTA_CFG_kp : Fld := ⟨0x80040, 0, 4⟩
def TMB_OTA_LAST_e : Fld := ⟨0x80044, 0, 32⟩
def TMB_OTA_FREQ_f : Fld := ⟨0x80048, 0, 32⟩
def TMB_PTP_CFG_q : Fld := ⟨0x8004C, 0, 3⟩
def TMB_PPS_CFG_out_en : Fld := ⟨0x80050, 31, 1⟩
def TMB_PPS_CFG_pol : Fld := ⟨0x80050, 30, 1⟩
def TMB_PPS_CFG_in_en : Fld := ⟨0x80050, 29, 1⟩
def TMB_PPS_CFG_width_ms : Fld := ⟨0x80050, 16, 10⟩
def TMB_PPS_OFS_ofs : Fld := ⟨0x80054, 0, 32⟩
def TMB_PPS_CAP_LO_ns : Fld := ⟨0x80058, 0, 32⟩
def TMB_PPS_CAP_HI_ns : Fld := ⟨0x8005C, 0, 32⟩
def TMB_PPS_CAP_ST_seq : Fld := ⟨0x80060, 8, 8⟩
def TMB_PPS_CAP_ST_ovr : Fld := ⟨0x80060, 1, 1⟩
def TMB_PPS_CAP_ST_new : Fld := ⟨0x80060, 0, 1⟩
def TMB_SYNCE_en : Fld := ⟨0x80064, 31, 1⟩
def TMB_SYNCE_active : Fld := ⟨0x80064, 28, 1⟩
def TMB_SYNCE_port : Fld := ⟨0x80064, 24, 2⟩
def TMB_SYNCE_div : Fld := ⟨0x80064, 0, 10⟩
def TMB_CONFLICT_conflict : Fld := ⟨0x80068, 0, 32⟩
def TMB_TS_BASE_LO_addr : Fld := ⟨0x80070, 0, 32⟩
def TMB_TS_BASE_HI_addr : Fld := ⟨0x80074, 0, 32⟩
def TMB_TS_CFG_en : Fld := ⟨0x80078, 31, 1⟩
def TMB_TS_CFG_log2_size : Fld := ⟨0x80078, 0, 4⟩
def TMB_TS_HEAD_index : Fld := ⟨0x8007C, 0, 12⟩
def TMB_TS_TAIL_index : Fld := ⟨0x80080, 0, 12⟩
def TMB_NO_TRAILER_CNT_count : Fld := ⟨0x80090, 0, 32⟩
def TMB_TS_LOST_CNT_count : Fld := ⟨0x80094, 0, 32⟩
def TMB_PTP_PORT_one_step (i : Nat) : Fld := ⟨0x80100 + 0x10 * i, 4, 1⟩
def TMB_PTP_PORT_mode (i : Nat) : Fld := ⟨0x80100 + 0x10 * i, 0, 2⟩
def TMB_PTP_ADJ_tx_adj (i : Nat) : Fld := ⟨0x80104 + 0x10 * i, 16, 16⟩
def TMB_PTP_ADJ_rx_adj (i : Nat) : Fld := ⟨0x80104 + 0x10 * i, 0, 16⟩
/-! TMU -/

def TMU_STAT_unit_evt : Fld := ⟨0x90010, 2, 1⟩
def TMU_STAT_cnt_refused : Fld := ⟨0x90010, 1, 1⟩
def TMU_STAT_conflict : Fld := ⟨0x90010, 0, 1⟩
def TMU_MASK_mask : Fld := ⟨0x90014, 0, 3⟩
def TMU_EVCNT_cnt_refused_cnt : Fld := ⟨0x90018, 8, 8⟩
def TMU_EVCNT_conflict_cnt : Fld := ⟨0x90018, 0, 8⟩
def TMU_CONFLICT_conflict : Fld := ⟨0x90020, 0, 32⟩
def TMU_SUM_units : Fld := ⟨0x90024, 0, 32⟩
def TMU_LINK_COUNT_count : Fld := ⟨0x90028, 0, 11⟩
def TMU_CTL_edge (i : Nat) : Fld := ⟨0x91000 + 0x80 * i, 13, 2⟩
def TMU_CTL_pin (i : Nat) : Fld := ⟨0x91000 + 0x80 * i, 8, 5⟩
def TMU_CTL_src (i : Nat) : Fld := ⟨0x91000 + 0x80 * i, 4, 4⟩
def TMU_CTL_gate_init (i : Nat) : Fld := ⟨0x91000 + 0x80 * i, 2, 1⟩
def TMU_CTL_oneshot (i : Nat) : Fld := ⟨0x91000 + 0x80 * i, 1, 1⟩
def TMU_CTL_run (i : Nat) : Fld := ⟨0x91000 + 0x80 * i, 0, 1⟩
def TMU_PRESC_div (i : Nat) : Fld := ⟨0x91004 + 0x80 * i, 0, 16⟩
def TMU_TOP_top (i : Nat) : Fld := ⟨0x91008 + 0x80 * i, 0, 32⟩
def TMU_CNT_count (i : Nat) : Fld := ⟨0x9100C + 0x80 * i, 0, 32⟩
def TMU_STATUS_owner (i : Nat) : Fld := ⟨0x91010 + 0x80 * i, 16, 16⟩
def TMU_STATUS_level (i : Nat) : Fld := ⟨0x91010 + 0x80 * i, 1, 1⟩
def TMU_STATUS_gate_open (i : Nat) : Fld := ⟨0x91010 + 0x80 * i, 0, 1⟩
def TMU_USTAT_cap (i : Nat) : Fld := ⟨0x91014 + 0x80 * i, 5, 4⟩
def TMU_USTAT_match (i : Nat) : Fld := ⟨0x91014 + 0x80 * i, 1, 4⟩
def TMU_USTAT_ovf (i : Nat) : Fld := ⟨0x91014 + 0x80 * i, 0, 1⟩
def TMU_UMASK_mask (i : Nat) : Fld := ⟨0x91018 + 0x80 * i, 0, 9⟩
def TMU_UEVCNT_ovr_cnt (i : Nat) : Fld := ⟨0x9101C + 0x80 * i, 24, 8⟩
def TMU_UEVCNT_cap_cnt (i : Nat) : Fld := ⟨0x9101C + 0x80 * i, 16, 8⟩
def TMU_UEVCNT_match_cnt (i : Nat) : Fld := ⟨0x9101C + 0x80 * i, 8, 8⟩
def TMU_UEVCNT_ovf_cnt (i : Nat) : Fld := ⟨0x9101C + 0x80 * i, 0, 8⟩
def TMU_OUT_pin (i : Nat) : Fld := ⟨0x91020 + 0x80 * i, 8, 6⟩
def TMU_OUT_pol (i : Nat) : Fld := ⟨0x91020 + 0x80 * i, 1, 1⟩
def TMU_OUT_en (i : Nat) : Fld := ⟨0x91020 + 0x80 * i, 0, 1⟩
def TMU_CH_CFG_cap_edge (i j : Nat) : Fld := ⟨0x91040 + 0x80 * i + 0x10 * j, 16, 2⟩
def TMU_CH_CFG_cap_in (i j : Nat) : Fld := ⟨0x91040 + 0x80 * i + 0x10 * j, 8, 6⟩
def TMU_CH_CFG_out_act (i j : Nat) : Fld := ⟨0x91040 + 0x80 * i + 0x10 * j, 4, 2⟩
def TMU_CH_CFG_en (i j : Nat) : Fld := ⟨0x91040 + 0x80 * i + 0x10 * j, 2, 1⟩
def TMU_CH_CFG_mode (i j : Nat) : Fld := ⟨0x91040 + 0x80 * i + 0x10 * j, 0, 2⟩
def TMU_CCV_value (i j : Nat) : Fld := ⟨0x91044 + 0x80 * i + 0x10 * j, 0, 32⟩
def TMU_CH_ST_seq (i j : Nat) : Fld := ⟨0x91048 + 0x80 * i + 0x10 * j, 8, 8⟩
def TMU_CH_ST_ovr (i j : Nat) : Fld := ⟨0x91048 + 0x80 * i + 0x10 * j, 1, 1⟩
def TMU_CH_ST_new (i j : Nat) : Fld := ⟨0x91048 + 0x80 * i + 0x10 * j, 0, 1⟩
def TMU_LINK0_rec_lo (i : Nat) : Fld := ⟨0x92000 + 0x8 * i, 0, 32⟩
def TMU_LINK1_rec_hi (i : Nat) : Fld := ⟨0x92004 + 0x8 * i, 0, 32⟩
/-! PIN -/

def PIN_STAT_conflict : Fld := ⟨0xA0010, 0, 1⟩
def PIN_MASK_mask : Fld := ⟨0xA0014, 0, 1⟩
def PIN_CONFLICT_conflict : Fld := ⟨0xA0018, 0, 32⟩
def PIN_GPIO_DIR_bits : Fld := ⟨0xA0020, 0, 32⟩
def PIN_GPIO_OUT_bits : Fld := ⟨0xA0024, 0, 32⟩
def PIN_GPIO_IN_bits : Fld := ⟨0xA0028, 0, 32⟩
def PIN_GPIO_PULL_pull : Fld := ⟨0xA002C, 0, 32⟩
def PIN_CX_DIR_bits : Fld := ⟨0xA0030, 0, 12⟩
def PIN_CX_OUT_bits : Fld := ⟨0xA0034, 0, 12⟩
def PIN_CX_IN_bits : Fld := ⟨0xA0038, 0, 12⟩
def PIN_OWNER_owner (i : Nat) : Fld := ⟨0xA0100 + 0x4 * i, 0, 16⟩
/-! CNP -/

def CNP_CLK_fell_back : Fld := ⟨0x100000, 6, 1⟩
def CNP_CLK_active_src : Fld := ⟨0x100000, 5, 1⟩
def CNP_CLK_locked : Fld := ⟨0x100000, 4, 1⟩
def CNP_CLK_fallback : Fld := ⟨0x100000, 1, 1⟩
def CNP_CLK_src : Fld := ⟨0x100000, 0, 1⟩
def CNP_STAT_chain_evt : Fld := ⟨0x100010, 2, 1⟩
def CNP_STAT_clk_refused : Fld := ⟨0x100010, 1, 1⟩
def CNP_STAT_clk_fail : Fld := ⟨0x100010, 0, 1⟩
def CNP_MASK_mask : Fld := ⟨0x100014, 0, 3⟩
def CNP_EVCNT_ovl_cnt : Fld := ⟨0x100018, 16, 8⟩
def CNP_EVCNT_sat_cnt : Fld := ⟨0x100018, 8, 8⟩
def CNP_EVCNT_clk_fail_cnt : Fld := ⟨0x100018, 0, 8⟩
def CNP_AGC_CFG_rise_ts : Fld := ⟨0x100020, 16, 8⟩
def CNP_AGC_CFG_clip_n : Fld := ⟨0x100020, 12, 4⟩
def CNP_AGC_CFG_clip_level : Fld := ⟨0x100020, 0, 11⟩
def CNP_CH_CTL_lna_pol (i : Nat) : Fld := ⟨0x101000 + 0x100 * i, 12, 1⟩
def CNP_CH_CTL_ext_mode (i : Nat) : Fld := ⟨0x101000 + 0x100 * i, 8, 2⟩
def CNP_CH_CTL_fixed_ladder (i : Nat) : Fld := ⟨0x101000 + 0x100 * i, 4, 3⟩
def CNP_CH_CTL_gain_mode (i : Nat) : Fld := ⟨0x101000 + 0x100 * i, 1, 1⟩
def CNP_CH_CTL_enable (i : Nat) : Fld := ⟨0x101000 + 0x100 * i, 0, 1⟩
def CNP_CH_STATUS_mean_pwr (i : Nat) : Fld := ⟨0x101004 + 0x100 * i, 16, 16⟩
def CNP_CH_STATUS_peak (i : Nat) : Fld := ⟨0x101004 + 0x100 * i, 8, 8⟩
def CNP_CH_STATUS_excluded (i : Nat) : Fld := ⟨0x101004 + 0x100 * i, 6, 1⟩
def CNP_CH_STATUS_saturated (i : Nat) : Fld := ⟨0x101004 + 0x100 * i, 5, 1⟩
def CNP_CH_STATUS_ext_on (i : Nat) : Fld := ⟨0x101004 + 0x100 * i, 4, 1⟩
def CNP_CH_STATUS_ladder (i : Nat) : Fld := ⟨0x101004 + 0x100 * i, 0, 3⟩
def CNP_CH_STAT_sat (i : Nat) : Fld := ⟨0x101008 + 0x100 * i, 1, 1⟩
def CNP_CH_STAT_ovl (i : Nat) : Fld := ⟨0x101008 + 0x100 * i, 0, 1⟩
def CNP_CH_MASK_mask (i : Nat) : Fld := ⟨0x10100C + 0x100 * i, 0, 2⟩
def CNP_CH_EXT_settle (i : Nat) : Fld := ⟨0x101010 + 0x100 * i, 16, 8⟩
def CNP_CH_EXT_gain_byp (i : Nat) : Fld := ⟨0x101010 + 0x100 * i, 8, 8⟩
def CNP_CH_EXT_gain_on (i : Nat) : Fld := ⟨0x101010 + 0x100 * i, 0, 8⟩
def CNP_CH_OVL_CNT_count (i : Nat) : Fld := ⟨0x101014 + 0x100 * i, 0, 32⟩
/-! CHZ -/

def CHZ_QMAP_CFG_stale_ts : Fld := ⟨0x140000, 16, 16⟩
def CHZ_QMAP_CFG_tx_excl : Fld := ⟨0x140000, 8, 8⟩
def CHZ_QMAP_CFG_alpha : Fld := ⟨0x140000, 0, 3⟩
def CHZ_STAT_win_gap : Fld := ⟨0x140010, 4, 4⟩
def CHZ_STAT_degraded : Fld := ⟨0x140010, 3, 1⟩
def CHZ_STAT_qmap_stale : Fld := ⟨0x140010, 2, 1⟩
def CHZ_STAT_spare_used : Fld := ⟨0x140010, 1, 1⟩
def CHZ_STAT_slice_prune : Fld := ⟨0x140010, 0, 1⟩
def CHZ_MASK_mask : Fld := ⟨0x140014, 0, 8⟩
def CHZ_EVCNT_qmap_stale_cnt : Fld := ⟨0x140018, 8, 8⟩
def CHZ_EVCNT_slice_prune_cnt : Fld := ⟨0x140018, 0, 8⟩
def CHZ_WIN_CFG_chain_mask (i : Nat) : Fld := ⟨0x140100 + 0x20 * i, 16, 16⟩
def CHZ_WIN_CFG_bin_code (i : Nat) : Fld := ⟨0x140100 + 0x20 * i, 2, 4⟩
def CHZ_WIN_CFG_filled (i : Nat) : Fld := ⟨0x140100 + 0x20 * i, 1, 1⟩
def CHZ_WIN_CFG_enable (i : Nat) : Fld := ⟨0x140100 + 0x20 * i, 0, 1⟩
def CHZ_WIN_CENTRE_centre_khz (i : Nat) : Fld := ⟨0x140104 + 0x20 * i, 0, 32⟩
def CHZ_WIN_WIDTH_width_khz (i : Nat) : Fld := ⟨0x140108 + 0x20 * i, 0, 32⟩
def CHZ_WIN_RASTER_raster_size (i : Nat) : Fld := ⟨0x14010C + 0x20 * i, 0, 14⟩
def CHZ_WIN_BINS_count (i : Nat) : Fld := ⟨0x140110 + 0x20 * i, 16, 11⟩
def CHZ_WIN_BINS_first_bin (i : Nat) : Fld := ⟨0x140110 + 0x20 * i, 0, 10⟩
def CHZ_SLICE_serves (i : Nat) : Fld := ⟨0x140200 + 0x4 * i, 12, 4⟩
def CHZ_SLICE_is_sub (i : Nat) : Fld := ⟨0x140200 + 0x4 * i, 8, 1⟩
def CHZ_SLICE_half (i : Nat) : Fld := ⟨0x140200 + 0x4 * i, 6, 1⟩
def CHZ_SLICE_window (i : Nat) : Fld := ⟨0x140200 + 0x4 * i, 4, 2⟩
def CHZ_SLICE_state (i : Nat) : Fld := ⟨0x140200 + 0x4 * i, 0, 3⟩
def CHZ_BIN_valid (i : Nat) : Fld := ⟨0x144000 + 0x4 * i, 31, 1⟩
def CHZ_BIN_window (i : Nat) : Fld := ⟨0x144000 + 0x4 * i, 28, 2⟩
def CHZ_BIN_beams (i : Nat) : Fld := ⟨0x144000 + 0x4 * i, 26, 2⟩
def CHZ_BIN_raster (i : Nat) : Fld := ⟨0x144000 + 0x4 * i, 0, 14⟩
/-! SPC -/

def SPC_CFG_upd_us : Fld := ⟨0x180000, 16, 16⟩
def SPC_CFG_diag_load : Fld := ⟨0x180000, 8, 8⟩
def SPC_CFG_beta : Fld := ⟨0x180000, 0, 4⟩
def SPC_STAT_incl_change : Fld := ⟨0x180010, 2, 1⟩
def SPC_STAT_weight_clash : Fld := ⟨0x180010, 1, 1⟩
def SPC_STAT_part_mismatch : Fld := ⟨0x180010, 0, 1⟩
def SPC_MASK_mask : Fld := ⟨0x180014, 0, 3⟩
def SPC_EVCNT_part_mismatch_cnt : Fld := ⟨0x180018, 16, 8⟩
def SPC_EVCNT_incl_change_cnt : Fld := ⟨0x180018, 8, 8⟩
def SPC_EVCNT_weight_clash_cnt : Fld := ⟨0x180018, 0, 8⟩
def SPC_WIN_INCL_incl (i : Nat) : Fld := ⟨0x180020 + 0x4 * i, 0, 16⟩
def SPC_LOOK_q (i j k : Nat) : Fld := ⟨0x181000 + 0x100 * i + 0x40 * j + 0x4 * k, 16, 16⟩
def SPC_LOOK_i (i j k : Nat) : Fld := ⟨0x181000 + 0x100 * i + 0x40 * j + 0x4 * k, 0, 16⟩
def SPC_STREAM_valid (i : Nat) : Fld := ⟨0x184000 + 0x4 * i, 31, 1⟩
def SPC_STREAM_mrc (i : Nat) : Fld := ⟨0x184000 + 0x4 * i, 30, 1⟩
def SPC_STREAM_beam (i : Nat) : Fld := ⟨0x184000 + 0x4 * i, 28, 2⟩
def SPC_STREAM_bin (i : Nat) : Fld := ⟨0x184000 + 0x4 * i, 18, 10⟩
def SPC_STREAM_lid (i : Nat) : Fld := ⟨0x184000 + 0x4 * i, 0, 17⟩
def SRH_CFG_req_hold_us : Fld := ⟨0x1A0000, 16, 8⟩
def SRH_CFG_merge_tol : Fld := ⟨0x1A0000, 8, 8⟩
def SRH_CFG_preempt : Fld := ⟨0x1A0000, 1, 1⟩
def SRH_STAT_no_spare : Fld := ⟨0x1A0010, 4, 1⟩
def SRH_STAT_gen_discard : Fld := ⟨0x1A0010, 3, 1⟩
def SRH_STAT_preempt : Fld := ⟨0x1A0010, 2, 1⟩
def SRH_STAT_sched_exh : Fld := ⟨0x1A0010, 1, 1⟩
def SRH_STAT_exh : Fld := ⟨0x1A0010, 0, 1⟩
def SRH_MASK_mask : Fld := ⟨0x1A0014, 0, 5⟩
def SRH_EVCNT_gen_discard_cnt : Fld := ⟨0x1A0018, 24, 8⟩
def SRH_EVCNT_preempt_cnt : Fld := ⟨0x1A0018, 16, 8⟩
def SRH_EVCNT_sched_exh_cnt : Fld := ⟨0x1A0018, 8, 8⟩
def SRH_EVCNT_exh_cnt : Fld := ⟨0x1A0018, 0, 8⟩
def SRH_THR_thr (i : Nat) : Fld := ⟨0x1A0020 + 0x4 * i, 0, 8⟩
def SRH_WIN_FMT_fmt_en (i : Nat) : Fld := ⟨0x1A0030 + 0x4 * i, 0, 3⟩
def SRH_LATE_CFG_span_ms : Fld := ⟨0x1A0040, 0, 5⟩
def SRH_EXH_CNT_count : Fld := ⟨0x1A0050, 0, 32⟩
def SRH_LATE_CNT_count : Fld := ⟨0x1A0054, 0, 32⟩
def SRH_GEN_DISCARD_CNT_count : Fld := ⟨0x1A0058, 0, 32⟩
def SRH_MERGE_CNT_count : Fld := ⟨0x1A005C, 0, 32⟩
def SRH_PRUNE_LOSS_CNT_count : Fld := ⟨0x1A0060, 0, 32⟩
def SRH_POOL_EXH_CNT_count (i : Nat) : Fld := ⟨0x1A0100 + 0x4 * i, 0, 32⟩
def SRH_LANE_MAP_role (i : Nat) : Fld := ⟨0x1A2000 + 0x4 * i, 30, 2⟩
def SRH_LANE_MAP_pool (i : Nat) : Fld := ⟨0x1A2000 + 0x4 * i, 24, 4⟩
def SRH_LANE_MAP_position (i : Nat) : Fld := ⟨0x1A2000 + 0x4 * i, 16, 8⟩
def SRH_LANE_MAP_gen (i : Nat) : Fld := ⟨0x1A2000 + 0x4 * i, 8, 8⟩
def SRH_LANE_MAP_busy (i : Nat) : Fld := ⟨0x1A2000 + 0x4 * i, 0, 1⟩
def SRH_STREAM_STATUS_state (i : Nat) : Fld := ⟨0x1A4000 + 0x4 * i, 29, 3⟩
def SRH_STREAM_STATUS_in_cell (i : Nat) : Fld := ⟨0x1A4000 + 0x4 * i, 28, 1⟩
def SRH_STREAM_STATUS_lane (i : Nat) : Fld := ⟨0x1A4000 + 0x4 * i, 18, 10⟩
def SRH_STREAM_STATUS_last_snr (i : Nat) : Fld := ⟨0x1A4000 + 0x4 * i, 10, 8⟩
def SRH_STREAM_STATUS_format (i : Nat) : Fld := ⟨0x1A4000 + 0x4 * i, 8, 2⟩
def SRH_STREAM_STATUS_det_cnt (i : Nat) : Fld := ⟨0x1A4000 + 0x4 * i, 0, 8⟩
/-! LNE -/

def LNE_CTL_readmit (i : Nat) : Fld := ⟨0x1C0000 + 0x100 * i, 1, 1⟩
def LNE_CTL_selftest (i : Nat) : Fld := ⟨0x1C0000 + 0x100 * i, 0, 1⟩
def LNE_STATUS_last_status (i : Nat) : Fld := ⟨0x1C0004 + 0x100 * i, 24, 8⟩
def LNE_STATUS_ucode_new (i : Nat) : Fld := ⟨0x1C0004 + 0x100 * i, 3, 1⟩
def LNE_STATUS_state (i : Nat) : Fld := ⟨0x1C0004 + 0x100 * i, 0, 3⟩
def LNE_ST_RESULT_duration_us (i : Nat) : Fld := ⟨0x1C0008 + 0x100 * i, 16, 16⟩
def LNE_ST_RESULT_result (i : Nat) : Fld := ⟨0x1C0008 + 0x100 * i, 0, 4⟩
def LNE_PRUNE_CAUSE_rr_index (i : Nat) : Fld := ⟨0x1C000C + 0x100 * i, 16, 12⟩
def LNE_PRUNE_CAUSE_cause (i : Nat) : Fld := ⟨0x1C000C + 0x100 * i, 0, 4⟩
def LNE_FRAME_CNT_count (i : Nat) : Fld := ⟨0x1C0010 + 0x100 * i, 0, 32⟩
def LNE_NOSFD_CNT_count (i : Nat) : Fld := ⟨0x1C0014 + 0x100 * i, 0, 32⟩
def LNE_CRC_CNT_count (i : Nat) : Fld := ⟨0x1C0018 + 0x100 * i, 0, 32⟩
def LNE_UCODE_version : Fld := ⟨0x1E2000, 16, 16⟩
def LNE_UCODE_switching : Fld := ⟨0x1E2000, 0, 1⟩
def LNE_STAT_readmit_refused : Fld := ⟨0x1E2010, 3, 1⟩
def LNE_STAT_no_buffer : Fld := ⟨0x1E2010, 2, 1⟩
def LNE_STAT_selftest_done : Fld := ⟨0x1E2010, 1, 1⟩
def LNE_STAT_selftest_fail : Fld := ⟨0x1E2010, 0, 1⟩
def LNE_MASK_mask : Fld := ⟨0x1E2014, 0, 4⟩
def LNE_EVCNT_lost_cnt : Fld := ⟨0x1E2018, 24, 8⟩
def LNE_EVCNT_selftest_fail_cnt : Fld := ⟨0x1E2018, 16, 8⟩
def LNE_EVCNT_no_buffer_cnt : Fld := ⟨0x1E2018, 8, 8⟩
def LNE_EVCNT_nosfd_cnt : Fld := ⟨0x1E2018, 0, 8⟩
def LNE_SPARE_TEST_period_s : Fld := ⟨0x1E2020, 0, 12⟩
def LNE_POOL_CFG_keep_bad (i : Nat) : Fld := ⟨0x1E2100 + 0x10 * i, 31, 1⟩
def LNE_POOL_CFG_sfd_wait_us (i : Nat) : Fld := ⟨0x1E2100 + 0x10 * i, 0, 16⟩
def LNE_POOL_EQ_k_dd (i : Nat) : Fld := ⟨0x1E2104 + 0x10 * i, 8, 4⟩
def LNE_POOL_EQ_k_train (i : Nat) : Fld := ⟨0x1E2104 + 0x10 * i, 4, 4⟩
def LNE_POOL_EQ_eq_mode (i : Nat) : Fld := ⟨0x1E2104 + 0x10 * i, 0, 2⟩
def LNE_POOL_FSK_intlv (i : Nat) : Fld := ⟨0x1E2108 + 0x10 * i, 2, 1⟩
def LNE_POOL_FSK_rsc (i : Nat) : Fld := ⟨0x1E2108 + 0x10 * i, 1, 1⟩
def LNE_POOL_FSK_sfd_group (i : Nat) : Fld := ⟨0x1E2108 + 0x10 * i, 0, 1⟩
/-! TXL -/

def TXL_LATE_MAX_late_us : Fld := ⟨0x200000, 0, 7⟩
def TXL_CX_CFG_lead_us : Fld := ⟨0x200004, 8, 8⟩
def TXL_CX_CFG_abort : Fld := ⟨0x200004, 0, 1⟩
def TXL_CAL_CFG_margin_c : Fld := ⟨0x200008, 0, 4⟩
def TXL_STAT_tilt_clamp : Fld := ⟨0x200010, 8, 1⟩
def TXL_STAT_conflict : Fld := ⟨0x200010, 7, 1⟩
def TXL_STAT_gang_refused : Fld := ⟨0x200010, 6, 1⟩
def TXL_STAT_cal_fail : Fld := ⟨0x200010, 5, 1⟩
def TXL_STAT_lock_lost : Fld := ⟨0x200010, 4, 1⟩
def TXL_STAT_cx_abort : Fld := ⟨0x200010, 3, 1⟩
def TXL_STAT_cx_denied : Fld := ⟨0x200010, 2, 1⟩
def TXL_STAT_late_data : Fld := ⟨0x200010, 1, 1⟩
def TXL_STAT_late_lock : Fld := ⟨0x200010, 0, 1⟩
def TXL_MASK_mask : Fld := ⟨0x200014, 0, 9⟩
def TXL_EVCNT_cal_fail_cnt : Fld := ⟨0x200018, 24, 8⟩
def TXL_EVCNT_lock_lost_cnt : Fld := ⟨0x200018, 16, 8⟩
def TXL_EVCNT_cx_cnt : Fld := ⟨0x200018, 8, 8⟩
def TXL_EVCNT_late_lock_cnt : Fld := ⟨0x200018, 0, 8⟩
def TXL_CX_CTL_active (i : Nat) : Fld := ⟨0x200020 + 0x4 * i, 1, 1⟩
def TXL_CX_CTL_en (i : Nat) : Fld := ⟨0x200020 + 0x4 * i, 0, 1⟩
def TXL_CONFLICT_owner : Fld := ⟨0x200030, 16, 16⟩
def TXL_CONFLICT_res_class : Fld := ⟨0x200030, 8, 8⟩
def TXL_CONFLICT_res_index : Fld := ⟨0x200030, 0, 8⟩
def TXL_GANG_members (i : Nat) : Fld := ⟨0x200040 + 0x4 * i, 8, 4⟩
def TXL_GANG_leader (i : Nat) : Fld := ⟨0x200040 + 0x4 * i, 4, 3⟩
def TXL_GANG_active (i : Nat) : Fld := ⟨0x200040 + 0x4 * i, 1, 1⟩
def TXL_GANG_en (i : Nat) : Fld := ⟨0x200040 + 0x4 * i, 0, 1⟩
def TXL_CTL_idle_us (i : Nat) : Fld := ⟨0x201000 + 0x100 * i, 16, 16⟩
def TXL_CTL_cal_flush (i : Nat) : Fld := ⟨0x201000 + 0x100 * i, 3, 1⟩
def TXL_CTL_bg_cal (i : Nat) : Fld := ⟨0x201000 + 0x100 * i, 2, 1⟩
def TXL_CTL_power (i : Nat) : Fld := ⟨0x201000 + 0x100 * i, 0, 1⟩
def TXL_STATUS_temp_c (i : Nat) : Fld := ⟨0x201004 + 0x100 * i, 24, 8⟩
def TXL_STATUS_cal_entries (i : Nat) : Fld := ⟨0x201004 + 0x100 * i, 14, 10⟩
def TXL_STATUS_queued (i : Nat) : Fld := ⟨0x201004 + 0x100 * i, 8, 3⟩
def TXL_STATUS_locked (i : Nat) : Fld := ⟨0x201004 + 0x100 * i, 6, 1⟩
def TXL_STATUS_pa_en (i : Nat) : Fld := ⟨0x201004 + 0x100 * i, 5, 1⟩
def TXL_STATUS_cx_req (i : Nat) : Fld := ⟨0x201004 + 0x100 * i, 4, 1⟩
def TXL_STATUS_state (i : Nat) : Fld := ⟨0x201004 + 0x100 * i, 0, 4⟩
def TXL_FREQ_fw (i : Nat) : Fld := ⟨0x201008 + 0x100 * i, 0, 32⟩
def TXL_PA_bias_on (i : Nat) : Fld := ⟨0x20100C + 0x100 * i, 22, 10⟩
def TXL_PA_bias_off (i : Nat) : Fld := ⟨0x20100C + 0x100 * i, 12, 10⟩
def TXL_PA_en_lead (i : Nat) : Fld := ⟨0x20100C + 0x100 * i, 6, 6⟩
def TXL_PA_en_lag (i : Nat) : Fld := ⟨0x20100C + 0x100 * i, 0, 6⟩
def TXL_ANT_corr_q (i : Nat) : Fld := ⟨0x201010 + 0x100 * i, 24, 8⟩
def TXL_ANT_corr_i (i : Nat) : Fld := ⟨0x201010 + 0x100 * i, 16, 8⟩
def TXL_ANT_rx_chain (i : Nat) : Fld := ⟨0x201010 + 0x100 * i, 0, 4⟩
def TXL_CAL_REQ_go (i : Nat) : Fld := ⟨0x201014 + 0x100 * i, 31, 1⟩
def TXL_CAL_REQ_pending (i : Nat) : Fld := ⟨0x201014 + 0x100 * i, 30, 1⟩
def TXL_CAL_REQ_chan_100k (i : Nat) : Fld := ⟨0x201014 + 0x100 * i, 0, 15⟩
def TXL_SENT_CNT_count (i : Nat) : Fld := ⟨0x201020 + 0x100 * i, 0, 32⟩
def TXL_MISS_CNT_count (i : Nat) : Fld := ⟨0x201024 + 0x100 * i, 0, 32⟩
def TXL_CAL_ENTRY_LO_entry_lo (i j : Nat) : Fld := ⟨0x208000 + 0x1000 * i + 0x8 * j, 0, 32⟩
def TXL_CAL_ENTRY_HI_entry_hi (i j : Nat) : Fld := ⟨0x208004 + 0x1000 * i + 0x8 * j, 0, 32⟩
/-! RGP -/

def RGP_PROFILE_fmt_ver : Fld := ⟨0x240000, 24, 8⟩
def RGP_PROFILE_range_count : Fld := ⟨0x240000, 20, 4⟩
def RGP_PROFILE_pending : Fld := ⟨0x240000, 2, 1⟩
def RGP_PROFILE_source : Fld := ⟨0x240000, 0, 2⟩
def RGP_PROFILE_SEQ_profile_seq : Fld := ⟨0x240004, 0, 32⟩
def RGP_REGION_region_code : Fld := ⟨0x240008, 0, 16⟩
def RGP_STAT_otp_fail : Fld := ⟨0x240010, 4, 1⟩
def RGP_STAT_otp_done : Fld := ⟨0x240010, 3, 1⟩
def RGP_STAT_switched : Fld := ⟨0x240010, 2, 1⟩
def RGP_STAT_duty_warn : Fld := ⟨0x240010, 1, 1⟩
def RGP_STAT_refused : Fld := ⟨0x240010, 0, 1⟩
def RGP_MASK_mask : Fld := ⟨0x240014, 0, 5⟩
def RGP_EVCNT_duty_warn_cnt : Fld := ⟨0x240018, 8, 8⟩
def RGP_EVCNT_refuse_cnt : Fld := ⟨0x240018, 0, 8⟩
def RGP_WARN_pct : Fld := ⟨0x24001C, 0, 7⟩
def RGP_LAST_REFUSE_cause : Fld := ⟨0x240020, 28, 4⟩
def RGP_LAST_REFUSE_range : Fld := ⟨0x240020, 24, 4⟩
def RGP_LAST_REFUSE_limb : Fld := ⟨0x240020, 20, 3⟩
def RGP_LAST_REFUSE_lid : Fld := ⟨0x240020, 0, 17⟩
def RGP_OTP_ADDR_LO_addr : Fld := ⟨0x240024, 0, 32⟩
def RGP_OTP_ADDR_HI_addr : Fld := ⟨0x240028, 0, 32⟩
def RGP_OTP_CTL_go : Fld := ⟨0x24002C, 0, 1⟩
def RGP_REFUSE_CNT_count (i : Nat) : Fld := ⟨0x240040 + 0x4 * i, 0, 32⟩
def RGP_IMAGE_bytes (i : Nat) : Fld := ⟨0x241000 + 0x4 * i, 0, 32⟩
def RGP_DUTY_USED_used_us (i : Nat) : Fld := ⟨0x242000 + 0x10 * i, 0, 32⟩
def RGP_DUTY_LIMIT_limit_us (i : Nat) : Fld := ⟨0x242004 + 0x10 * i, 0, 32⟩
def RGP_DWELL_MAP_count (i : Nat) : Fld := ⟨0x242008 + 0x10 * i, 16, 10⟩
def RGP_DWELL_MAP_first (i : Nat) : Fld := ⟨0x242008 + 0x10 * i, 0, 10⟩
def RGP_DWELL_USED_used_us (i : Nat) : Fld := ⟨0x244000 + 0x4 * i, 0, 32⟩
/-! SSE -/

def SSE_CTL_ap_resume : Fld := ⟨0x280000, 3, 1⟩
def SSE_CTL_ap_enter : Fld := ⟨0x280000, 2, 1⟩
def SSE_CTL_ack_unsched : Fld := ⟨0x280000, 1, 1⟩
def SSE_CTL_run : Fld := ⟨0x280000, 0, 1⟩
def SSE_TS_CFG_ts_us : Fld := ⟨0x280004, 0, 16⟩
def SSE_PAIR_single : Fld := ⟨0x280008, 2, 1⟩
def SSE_PAIR_inst1 : Fld := ⟨0x280008, 1, 1⟩
def SSE_PAIR_inst0 : Fld := ⟨0x280008, 0, 1⟩
def SSE_AP_elapsed_s : Fld := ⟨0x28000C, 16, 16⟩
def SSE_AP_reduced : Fld := ⟨0x28000C, 1, 1⟩
def SSE_AP_active : Fld := ⟨0x28000C, 0, 1⟩
def SSE_STAT_ack_drop : Fld := ⟨0x280010, 9, 1⟩
def SSE_STAT_sched_err : Fld := ⟨0x280010, 8, 1⟩
def SSE_STAT_cell_ovf : Fld := ⟨0x280010, 7, 1⟩
def SSE_STAT_holdover : Fld := ⟨0x280010, 6, 1⟩
def SSE_STAT_tp_lost : Fld := ⟨0x280010, 5, 1⟩
def SSE_STAT_lev_ovf : Fld := ⟨0x280010, 4, 1⟩
def SSE_STAT_leaf_event : Fld := ⟨0x280010, 3, 1⟩
def SSE_STAT_pair_mismatch : Fld := ⟨0x280010, 2, 1⟩
def SSE_STAT_ap_reduced : Fld := ⟨0x280010, 1, 1⟩
def SSE_STAT_ap : Fld := ⟨0x280010, 0, 1⟩
def SSE_MASK_mask : Fld := ⟨0x280014, 0, 10⟩
def SSE_EVCNT_ack_drop_cnt : Fld := ⟨0x280018, 24, 8⟩
def SSE_EVCNT_cell_ovf_cnt : Fld := ⟨0x280018, 16, 8⟩
def SSE_EVCNT_tp_lost_cnt : Fld := ⟨0x280018, 8, 8⟩
def SSE_EVCNT_pair_mismatch_cnt : Fld := ⟨0x280018, 0, 8⟩
def SSE_EVCNT1_lev_ovf_cnt : Fld := ⟨0x28001C, 16, 8⟩
def SSE_EVCNT1_ts_skip_cnt : Fld := ⟨0x28001C, 8, 8⟩
def SSE_EVCNT1_sched_err_cnt : Fld := ⟨0x28001C, 0, 8⟩
def SSE_ASN_LO_asn : Fld := ⟨0x280020, 0, 32⟩
def SSE_ASN_HI_asn : Fld := ⟨0x280024, 0, 8⟩
def SSE_ASN0_LO_value : Fld := ⟨0x280028, 0, 32⟩
def SSE_ASN0_HI_value : Fld := ⟨0x28002C, 0, 8⟩
def SSE_T0_LO_value : Fld := ⟨0x280030, 0, 32⟩
def SSE_T0_HI_value : Fld := ⟨0x280034, 0, 32⟩
def SSE_GUARD_margin : Fld := ⟨0x280038, 12, 12⟩
def SSE_GUARD_g_base_us : Fld := ⟨0x280038, 0, 12⟩
def SSE_LOST_MISSES_misses : Fld := ⟨0x28003C, 0, 8⟩
def SSE_RESYNC_WAIT_wait_s : Fld := ⟨0x280040, 0, 10⟩
def SSE_RESYNC_CFG_period_s : Fld := ⟨0x280044, 8, 8⟩
def SSE_RESYNC_CFG_max_conc : Fld := ⟨0x280044, 4, 4⟩
def SSE_RESYNC_CFG_burst_ts : Fld := ⟨0x280044, 0, 2⟩
def SSE_SHARED_CFG_max_retries : Fld := ⟨0x280048, 8, 4⟩
def SSE_SHARED_CFG_max_be : Fld := ⟨0x280048, 4, 4⟩
def SSE_SHARED_CFG_min_be : Fld := ⟨0x280048, 0, 4⟩
def SSE_AGE_LIMIT_age_ms : Fld := ⟨0x28004C, 0, 20⟩
def SSE_AP_CFG_hb_ms : Fld := ⟨0x280050, 0, 10⟩
def SSE_FW_HB_beat : Fld := ⟨0x280054, 0, 32⟩
def SSE_EB_epoch_ts : Fld := ⟨0x280058, 8, 8⟩
def SSE_EB_join_metric : Fld := ⟨0x280058, 0, 8⟩
def SSE_TP_CFG_g_max_us : Fld := ⟨0x28005C, 16, 12⟩
def SSE_TP_CFG_cand_en : Fld := ⟨0x28005C, 4, 4⟩
def SSE_TP_CFG_en : Fld := ⟨0x28005C, 0, 1⟩
def SSE_TP_STATUS_misses : Fld := ⟨0x280060, 8, 8⟩
def SSE_TP_STATUS_holdover : Fld := ⟨0x280060, 4, 1⟩
def SSE_TP_STATUS_active : Fld := ⟨0x280060, 0, 3⟩
def SSE_TP_CAND_lost (i : Nat) : Fld := ⟨0x280064 + 0x4 * i, 31, 1⟩
def SSE_TP_CAND_short_addr (i : Nat) : Fld := ⟨0x280064 + 0x4 * i, 0, 16⟩
def SSE_MISS_CNT_count : Fld := ⟨0x280080, 0, 32⟩
def SSE_DUP_CNT_count : Fld := ⟨0x280084, 0, 32⟩
def SSE_STALE_CNT_count : Fld := ⟨0x280088, 0, 32⟩
def SSE_AUTH_FAIL_CNT_count : Fld := ⟨0x28008C, 0, 32⟩
def SSE_PROMOTE_CNT_count : Fld := ⟨0x280090, 0, 32⟩
def SSE_AP_DROP_CNT_count : Fld := ⟨0x280094, 0, 32⟩
def SSE_RESYNC_CNT_count : Fld := ⟨0x280098, 0, 32⟩
def SSE_ACK_CNT_count : Fld := ⟨0x28009C, 0, 32⟩
def SSE_LEV_HEAD_index : Fld := ⟨0x2800A0, 0, 10⟩
def SSE_LEV_TAIL_index : Fld := ⟨0x2800A4, 0, 10⟩
def SSE_TMPL0_rx_offset (i : Nat) : Fld := ⟨0x280100 + 0x20 * i, 16, 16⟩
def SSE_TMPL0_tx_offset (i : Nat) : Fld := ⟨0x280100 + 0x20 * i, 0, 16⟩
def SSE_TMPL1_tx_ack_delay (i : Nat) : Fld := ⟨0x280104 + 0x20 * i, 16, 16⟩
def SSE_TMPL1_rx_wait (i : Nat) : Fld := ⟨0x280104 + 0x20 * i, 0, 16⟩
def SSE_TMPL2_ack_wait (i : Nat) : Fld := ⟨0x280108 + 0x20 * i, 16, 16⟩
def SSE_TMPL2_rx_ack_delay (i : Nat) : Fld := ⟨0x280108 + 0x20 * i, 0, 16⟩
def SSE_TMPL3_max_ack (i : Nat) : Fld := ⟨0x28010C + 0x20 * i, 16, 16⟩
def SSE_TMPL3_max_tx (i : Nat) : Fld := ⟨0x28010C + 0x20 * i, 0, 16⟩
def SSE_SF0_en (i : Nat) : Fld := ⟨0x280400 + 0x10 * i, 31, 1⟩
def SSE_SF0_v1 (i : Nat) : Fld := ⟨0x280400 + 0x10 * i, 30, 1⟩
def SSE_SF0_hop (i : Nat) : Fld := ⟨0x280400 + 0x10 * i, 16, 3⟩
def SSE_SF0_size (i : Nat) : Fld := ⟨0x280400 + 0x10 * i, 0, 16⟩
def SSE_SF1_base (i : Nat) : Fld := ⟨0x280404 + 0x10 * i, 0, 19⟩
def SSE_SF2_count (i : Nat) : Fld := ⟨0x280408 + 0x10 * i, 0, 20⟩
def SSE_HOP_LEN_len (i : Nat) : Fld := ⟨0x280800 + 0x4 * i, 0, 9⟩
def SSE_CHAN_format (i : Nat) : Fld := ⟨0x281000 + 0x4 * i, 30, 2⟩
def SSE_CHAN_mode (i : Nat) : Fld := ⟨0x281000 + 0x4 * i, 26, 4⟩
def SSE_CHAN_freq_100hz (i : Nat) : Fld := ⟨0x281000 + 0x4 * i, 0, 25⟩
def SSE_HOP_chan (i j : Nat) : Fld := ⟨0x282000 + 0x400 * i + 0x4 * j, 0, 10⟩

end Sys2Proof.Machine.F
end

