-- ==== Sys2Proof/Machine/FieldsB.lean ====
section
/-!
DEFINITION. The named fields of the register tables (LFT, LRN, BGH, TRF, HWD, BRK, GRF, GRV, ETH, DDR, XSP, TPR, MON): one definition for each field of the manual,
BLOCK_REG_field, with the index arguments of its register array.
-/

namespace Sys2Proof.Machine.F

/-! LFT -/

def LFT_STAT_lock_timeout : Fld := ⟨0x300010, 2, 1⟩
def LFT_STAT_dma_err : Fld := ⟨0x300010, 1, 1⟩
def LFT_STAT_dma_done : Fld := ⟨0x300010, 0, 1⟩
def LFT_MASK_mask : Fld := ⟨0x300014, 0, 3⟩
def LFT_EVCNT_dma_err_cnt : Fld := ⟨0x300018, 8, 8⟩
def LFT_EVCNT_lock_to_cnt : Fld := ⟨0x300018, 0, 8⟩
def LFT_STATE_CNT_count (i : Nat) : Fld := ⟨0x300020 + 0x4 * i, 0, 18⟩
def LFT_LOCK_TO_CNT_count : Fld := ⟨0x300040, 0, 32⟩
def LFT_DMA_DONE_CNT_count : Fld := ⟨0x300044, 0, 32⟩
def LFT_DMA_BASE_LO_addr (i : Nat) : Fld := ⟨0x300100 + 0x20 * i, 0, 32⟩
def LFT_DMA_BASE_HI_addr (i : Nat) : Fld := ⟨0x300104 + 0x20 * i, 0, 32⟩
def LFT_DMA_CFG_en (i : Nat) : Fld := ⟨0x300108 + 0x20 * i, 31, 1⟩
def LFT_DMA_CFG_log2_size (i : Nat) : Fld := ⟨0x300108 + 0x20 * i, 0, 4⟩
def LFT_DMA_HEAD_index (i : Nat) : Fld := ⟨0x30010C + 0x20 * i, 0, 12⟩
def LFT_DMA_TAIL_index (i : Nat) : Fld := ⟨0x300110 + 0x20 * i, 0, 12⟩
/-! LRN -/

def LRN_CFG_age_period_s : Fld := ⟨0x340000, 0, 16⟩
def LRN_SEED_LO_seed : Fld := ⟨0x340004, 0, 32⟩
def LRN_SEED_HI_seed : Fld := ⟨0x340008, 0, 32⟩
def LRN_STAT_seed_refused : Fld := ⟨0x340010, 4, 1⟩
def LRN_STAT_move : Fld := ⟨0x340010, 3, 1⟩
def LRN_STAT_insert_fail : Fld := ⟨0x340010, 2, 1⟩
def LRN_STAT_evict : Fld := ⟨0x340010, 1, 1⟩
def LRN_STAT_flood : Fld := ⟨0x340010, 0, 1⟩
def LRN_MASK_mask : Fld := ⟨0x340014, 0, 5⟩
def LRN_EVCNT_insert_fail_cnt : Fld := ⟨0x340018, 0, 8⟩
def LRN_CLASS_CFG_evict_random (i : Nat) : Fld := ⟨0x340020 + 0x4 * i, 2, 1⟩
def LRN_CLASS_CFG_age_remove (i : Nat) : Fld := ⟨0x340020 + 0x4 * i, 1, 1⟩
def LRN_CLASS_CFG_learn_en (i : Nat) : Fld := ⟨0x340020 + 0x4 * i, 0, 1⟩
def LRN_FILL_stash_used : Fld := ⟨0x340030, 21, 11⟩
def LRN_FILL_used : Fld := ⟨0x340030, 0, 19⟩
def LRN_FLOOD_CNT_count : Fld := ⟨0x340040, 0, 32⟩
def LRN_EVICT_CNT_count : Fld := ⟨0x340044, 0, 32⟩
def LRN_AGED_CNT_count : Fld := ⟨0x340048, 0, 32⟩
def LRN_MOVE_CNT_count : Fld := ⟨0x34004C, 0, 32⟩
def LRN_EVICT_LAST_value (i : Nat) : Fld := ⟨0x340050 + 0x4 * i, 0, 32⟩
/-! BGH -/

def BGH_CFG_grove_en : Fld := ⟨0x360000, 31, 1⟩
def BGH_CFG_mac_ovh : Fld := ⟨0x360000, 8, 8⟩
def BGH_CFG_exc_q : Fld := ⟨0x360000, 0, 3⟩
def BGH_STAT_miss_flood : Fld := ⟨0x360010, 3, 1⟩
def BGH_STAT_epoch_ahead : Fld := ⟨0x360010, 2, 1⟩
def BGH_STAT_epoch_stale : Fld := ⟨0x360010, 1, 1⟩
def BGH_STAT_exc : Fld := ⟨0x360010, 0, 1⟩
def BGH_MASK_mask : Fld := ⟨0x360014, 0, 4⟩
def BGH_EVCNT_epoch_ahead_cnt : Fld := ⟨0x360018, 8, 8⟩
def BGH_EVCNT_epoch_stale_cnt : Fld := ⟨0x360018, 0, 8⟩
def BGH_MAC_LO_mac : Fld := ⟨0x360020, 0, 32⟩
def BGH_MAC_HI_mac : Fld := ⟨0x360024, 0, 16⟩
def BGH_PREFIX_LO_prefix : Fld := ⟨0x360028, 0, 32⟩
def BGH_PREFIX_HI_prefix : Fld := ⟨0x36002C, 0, 32⟩
def BGH_UPLINK_LO_mac : Fld := ⟨0x360030, 0, 32⟩
def BGH_UPLINK_HI_tagged : Fld := ⟨0x360034, 31, 1⟩
def BGH_UPLINK_HI_vlan : Fld := ⟨0x360034, 16, 12⟩
def BGH_UPLINK_HI_mac : Fld := ⟨0x360034, 0, 16⟩
def BGH_EPOCH_DROP_CNT_count : Fld := ⟨0x360040, 0, 32⟩
def BGH_MISS_FLOOD_CNT_count : Fld := ⟨0x360044, 0, 32⟩
def BGH_EXC_CNT_count (i : Nat) : Fld := ⟨0x360100 + 0x4 * i, 0, 32⟩
def BGH_CTX0_prefix_lo (i : Nat) : Fld := ⟨0x360200 + 0x10 * i, 0, 32⟩
def BGH_CTX1_prefix_hi (i : Nat) : Fld := ⟨0x360204 + 0x10 * i, 0, 32⟩
def BGH_CTX2_valid (i : Nat) : Fld := ⟨0x360208 + 0x10 * i, 31, 1⟩
def BGH_CTX2_compress (i : Nat) : Fld := ⟨0x360208 + 0x10 * i, 30, 1⟩
def BGH_SET0_epoch (i : Nat) : Fld := ⟨0x368000 + 0x8 * i, 0, 32⟩
def BGH_SET1_valid (i : Nat) : Fld := ⟨0x368004 + 0x8 * i, 31, 1⟩
def BGH_SET1_standby (i : Nat) : Fld := ⟨0x368004 + 0x8 * i, 30, 1⟩
def BGH_SET1_owner (i : Nat) : Fld := ⟨0x368004 + 0x8 * i, 0, 6⟩
/-! TRF -/

def TRF_CFG_yellow_pct : Fld := ⟨0x380000, 0, 7⟩
def TRF_STAT_cfg_refused : Fld := ⟨0x380010, 4, 1⟩
def TRF_STAT_spill_full : Fld := ⟨0x380010, 3, 1⟩
def TRF_STAT_no_cell : Fld := ⟨0x380010, 2, 1⟩
def TRF_STAT_promote : Fld := ⟨0x380010, 1, 1⟩
def TRF_STAT_drop : Fld := ⟨0x380010, 0, 1⟩
def TRF_MASK_mask : Fld := ⟨0x380014, 0, 5⟩
def TRF_EVCNT_spill_full_cnt : Fld := ⟨0x380018, 16, 8⟩
def TRF_EVCNT_promote_cnt : Fld := ⟨0x380018, 8, 8⟩
def TRF_EVCNT_drop_cnt : Fld := ⟨0x380018, 0, 8⟩
def TRF_AGE_BH_age_ms : Fld := ⟨0x380020, 0, 20⟩
def TRF_AGE_MESH_age_ms : Fld := ⟨0x380024, 0, 20⟩
def TRF_CELLS_cells : Fld := ⟨0x380030, 0, 17⟩
def TRF_FREE_free : Fld := ⟨0x380034, 0, 17⟩
def TRF_POOL_RES_reserve (i : Nat) : Fld := ⟨0x380040 + 0x10 * i, 0, 17⟩
def TRF_POOL_LIM_limit (i : Nat) : Fld := ⟨0x380044 + 0x10 * i, 0, 17⟩
def TRF_POOL_USED_used (i : Nat) : Fld := ⟨0x380048 + 0x10 * i, 0, 17⟩
def TRF_VQ_CFG_max_frames : Fld := ⟨0x3800A0, 8, 8⟩
def TRF_VQ_CFG_onchip : Fld := ⟨0x3800A0, 0, 4⟩
def TRF_SPILL_BASE_LO_addr : Fld := ⟨0x3800B0, 0, 32⟩
def TRF_SPILL_BASE_HI_addr : Fld := ⟨0x3800B4, 0, 32⟩
def TRF_SPILL_SIZE_slots : Fld := ⟨0x3800B8, 0, 24⟩
def TRF_SPILL_USED_used : Fld := ⟨0x3800BC, 0, 24⟩
def TRF_DROP_CNT_count (i : Nat) : Fld := ⟨0x3800C0 + 0x4 * i, 0, 32⟩
def TRF_PROMOTE_CNT_count : Fld := ⟨0x3800E0, 0, 32⟩
def TRF_PCP_MAP_map : Fld := ⟨0x3800E4, 0, 24⟩
def TRF_CLASS_CFG_prio (i : Nat) : Fld := ⟨0x380100 + 0x4 * i, 16, 3⟩
def TRF_CLASS_CFG_up_q (i : Nat) : Fld := ⟨0x380100 + 0x4 * i, 0, 3⟩
def TRF_HQ_TP_BASE_LO_addr (i : Nat) : Fld := ⟨0x380400 + 0x40 * i, 0, 32⟩
def TRF_HQ_TP_BASE_HI_addr (i : Nat) : Fld := ⟨0x380404 + 0x40 * i, 0, 32⟩
def TRF_HQ_TP_CFG_en (i : Nat) : Fld := ⟨0x380408 + 0x40 * i, 31, 1⟩
def TRF_HQ_TP_CFG_log2_size (i : Nat) : Fld := ⟨0x380408 + 0x40 * i, 0, 4⟩
def TRF_HQ_TP_HEAD_index (i : Nat) : Fld := ⟨0x38040C + 0x40 * i, 0, 12⟩
def TRF_HQ_TP_TAIL_index (i : Nat) : Fld := ⟨0x380410 + 0x40 * i, 0, 12⟩
def TRF_HQ_TH_BASE_LO_addr (i : Nat) : Fld := ⟨0x380420 + 0x40 * i, 0, 32⟩
def TRF_HQ_TH_BASE_HI_addr (i : Nat) : Fld := ⟨0x380424 + 0x40 * i, 0, 32⟩
def TRF_HQ_TH_CFG_en (i : Nat) : Fld := ⟨0x380428 + 0x40 * i, 31, 1⟩
def TRF_HQ_TH_CFG_log2_size (i : Nat) : Fld := ⟨0x380428 + 0x40 * i, 0, 4⟩
def TRF_HQ_TH_HEAD_index (i : Nat) : Fld := ⟨0x38042C + 0x40 * i, 0, 12⟩
def TRF_HQ_TH_TAIL_index (i : Nat) : Fld := ⟨0x380430 + 0x40 * i, 0, 12⟩
def TRF_SHP0_en (i : Nat) : Fld := ⟨0x381000 + 0x20 * i, 31, 1⟩
def TRF_SHP0_reset_mode (i : Nat) : Fld := ⟨0x381000 + 0x20 * i, 30, 1⟩
def TRF_SHP0_queue (i : Nat) : Fld := ⟨0x381000 + 0x20 * i, 0, 7⟩
def TRF_SHP1_idle_slope (i : Nat) : Fld := ⟨0x381004 + 0x20 * i, 0, 32⟩
def TRF_SHP2_port_rate (i : Nat) : Fld := ⟨0x381008 + 0x20 * i, 0, 32⟩
def TRF_SHP3_hi_credit (i : Nat) : Fld := ⟨0x38100C + 0x20 * i, 0, 32⟩
def TRF_SHP4_lo_credit (i : Nat) : Fld := ⟨0x381010 + 0x20 * i, 0, 32⟩
def TRF_SHP5_credit (i : Nat) : Fld := ⟨0x381014 + 0x20 * i, 0, 32⟩
def TRF_VLAN_METER_en (i : Nat) : Fld := ⟨0x384000 + 0x4 * i, 31, 1⟩
def TRF_VLAN_METER_meter (i : Nat) : Fld := ⟨0x384000 + 0x4 * i, 0, 12⟩
def TRF_METER0_cir (i : Nat) : Fld := ⟨0x388000 + 0x20 * i, 0, 32⟩
def TRF_METER1_pir (i : Nat) : Fld := ⟨0x388004 + 0x20 * i, 0, 32⟩
def TRF_METER2_cbs (i : Nat) : Fld := ⟨0x388008 + 0x20 * i, 0, 24⟩
def TRF_METER3_pbs (i : Nat) : Fld := ⟨0x38800C + 0x20 * i, 0, 24⟩
def TRF_METER4_color_aware (i : Nat) : Fld := ⟨0x388010 + 0x20 * i, 1, 1⟩
def TRF_METER4_red_action (i : Nat) : Fld := ⟨0x388010 + 0x20 * i, 0, 1⟩
def TRF_METER5_green_cnt (i : Nat) : Fld := ⟨0x388014 + 0x20 * i, 0, 32⟩
def TRF_METER6_yellow_cnt (i : Nat) : Fld := ⟨0x388018 + 0x20 * i, 0, 32⟩
def TRF_METER7_red_cnt (i : Nat) : Fld := ⟨0x38801C + 0x20 * i, 0, 32⟩
/-! HWD -/

def HWD_STATUS_locked : Fld := ⟨0x400000, 31, 1⟩
def HWD_STATUS_dus_ok : Fld := ⟨0x400000, 30, 1⟩
def HWD_STATUS_meas_final : Fld := ⟨0x400000, 20, 5⟩
def HWD_STATUS_root : Fld := ⟨0x400000, 0, 2⟩
def HWD_GEN_sweep : Fld := ⟨0x400004, 9, 2⟩
def HWD_GEN_current : Fld := ⟨0x400004, 8, 1⟩
def HWD_GEN_gen1 : Fld := ⟨0x400004, 2, 2⟩
def HWD_GEN_gen0 : Fld := ⟨0x400004, 0, 2⟩
def HWD_REMASK_ms : Fld := ⟨0x400008, 0, 14⟩
def HWD_STAT_engine_prune : Fld := ⟨0x400010, 8, 1⟩
def HWD_STAT_cmd_done : Fld := ⟨0x400010, 7, 1⟩
def HWD_STAT_no_gen : Fld := ⟨0x400010, 6, 1⟩
def HWD_STAT_locked : Fld := ⟨0x400010, 5, 1⟩
def HWD_STAT_entropy_fail : Fld := ⟨0x400010, 4, 1⟩
def HWD_STAT_remask_late : Fld := ⟨0x400010, 3, 1⟩
def HWD_STAT_usage_err : Fld := ⟨0x400010, 2, 1⟩
def HWD_STAT_blob_bad : Fld := ⟨0x400010, 1, 1⟩
def HWD_STAT_sweep_done : Fld := ⟨0x400010, 0, 1⟩
def HWD_MASK_mask : Fld := ⟨0x400014, 0, 9⟩
def HWD_EVCNT_engine_prune_cnt : Fld := ⟨0x400018, 24, 8⟩
def HWD_EVCNT_remask_late_cnt : Fld := ⟨0x400018, 16, 8⟩
def HWD_EVCNT_usage_err_cnt : Fld := ⟨0x400018, 8, 8⟩
def HWD_EVCNT_blob_bad_cnt : Fld := ⟨0x400018, 0, 8⟩
def HWD_SWEEP_CFG_rate : Fld := ⟨0x400020, 0, 20⟩
def HWD_SWEEP_POS_lid : Fld := ⟨0x400024, 0, 18⟩
def HWD_SWEEP_LAST_BAD_lid : Fld := ⟨0x400028, 0, 17⟩
def HWD_GROUP_SLOT_en : Fld := ⟨0x40002C, 6, 1⟩
def HWD_GROUP_SLOT_slot : Fld := ⟨0x40002C, 0, 6⟩
def HWD_BLOB_BASE_LO_addr (i : Nat) : Fld := ⟨0x400030 + 0x8 * i, 0, 32⟩
def HWD_BLOB_BASE_HI_addr (i : Nat) : Fld := ⟨0x400034 + 0x8 * i, 0, 32⟩
def HWD_BLOB_CFG_en : Fld := ⟨0x400040, 0, 1⟩
def HWD_BLOB_SERIAL_serial : Fld := ⟨0x400044, 0, 32⟩
def HWD_CACHE_USED_entries : Fld := ⟨0x400048, 0, 15⟩
def HWD_DRBG_healthy : Fld := ⟨0x40004C, 0, 1⟩
def HWD_ENGINE_kwp : Fld := ⟨0x400050, 8, 2⟩
def HWD_ENGINE_ccm : Fld := ⟨0x400050, 0, 8⟩
def HWD_CACHE_HIT_CNT_count : Fld := ⟨0x400060, 0, 32⟩
def HWD_CACHE_MISS_CNT_count : Fld := ⟨0x400064, 0, 32⟩
def HWD_BLOB_BAD_CNT_count : Fld := ⟨0x400068, 0, 32⟩
def HWD_USAGE_ERR_CNT_count : Fld := ⟨0x40006C, 0, 32⟩
def HWD_DIGEST_bytes (i : Nat) : Fld := ⟨0x400080 + 0x4 * i, 0, 32⟩
def HWD_DIGEST_NEXT_bytes (i : Nat) : Fld := ⟨0x4000A0 + 0x4 * i, 0, 32⟩
def HWD_CMD_go (i : Nat) : Fld := ⟨0x400100 + 0x40 * i, 31, 1⟩
def HWD_CMD_busy (i : Nat) : Fld := ⟨0x400100 + 0x40 * i, 30, 1⟩
def HWD_CMD_slot (i : Nat) : Fld := ⟨0x400100 + 0x40 * i, 16, 6⟩
def HWD_CMD_op (i : Nat) : Fld := ⟨0x400100 + 0x40 * i, 0, 8⟩
def HWD_CMD_ARG_key_index (i : Nat) : Fld := ⟨0x400104 + 0x40 * i, 24, 8⟩
def HWD_CMD_ARG_lid (i : Nat) : Fld := ⟨0x400104 + 0x40 * i, 0, 17⟩
def HWD_CMD_CNT_count (i : Nat) : Fld := ⟨0x400108 + 0x40 * i, 0, 13⟩
def HWD_CMD_BUF_LO_addr (i : Nat) : Fld := ⟨0x40010C + 0x40 * i, 0, 32⟩
def HWD_CMD_BUF_HI_addr (i : Nat) : Fld := ⟨0x400110 + 0x40 * i, 0, 32⟩
def HWD_CMD_RESULT_done (i : Nat) : Fld := ⟨0x400114 + 0x40 * i, 31, 1⟩
def HWD_CMD_RESULT_status (i : Nat) : Fld := ⟨0x400114 + 0x40 * i, 24, 7⟩
def HWD_CMD_RESULT_items (i : Nat) : Fld := ⟨0x400114 + 0x40 * i, 0, 13⟩
def HWD_CMD_DONE_CNT_count (i : Nat) : Fld := ⟨0x400118 + 0x40 * i, 0, 32⟩
def HWD_MEAS_bytes (i j : Nat) : Fld := ⟨0x400200 + 0x20 * i + 0x4 * j, 0, 32⟩
def HWD_SIG_STAT_resv_fail : Fld := ⟨0x400300, 4, 1⟩
def HWD_SIG_STAT_sign_rate : Fld := ⟨0x400300, 3, 1⟩
def HWD_SIG_STAT_ku_recovered : Fld := ⟨0x400300, 2, 1⟩
def HWD_SIG_STAT_ku_refused : Fld := ⟨0x400300, 1, 1⟩
def HWD_SIG_STAT_ku_done : Fld := ⟨0x400300, 0, 1⟩
def HWD_SIG_MASK_mask : Fld := ⟨0x400304, 0, 5⟩
def HWD_SIG_EVCNT_resv_fail_cnt : Fld := ⟨0x400308, 16, 8⟩
def HWD_SIG_EVCNT_rate_cnt : Fld := ⟨0x400308, 8, 8⟩
def HWD_SIG_EVCNT_ku_refused_cnt : Fld := ⟨0x400308, 0, 8⟩
def HWD_KU_COUNTER_LO_counter : Fld := ⟨0x400310, 0, 32⟩
def HWD_KU_COUNTER_HI_counter : Fld := ⟨0x400314, 0, 32⟩
def HWD_XMSS_NEXT_LO_idx : Fld := ⟨0x400318, 0, 32⟩
def HWD_XMSS_NEXT_HI_idx : Fld := ⟨0x40031C, 0, 8⟩
def HWD_XMSS_RESV_LO_boundary : Fld := ⟨0x400320, 0, 32⟩
def HWD_XMSS_RESV_HI_boundary : Fld := ⟨0x400324, 0, 8⟩
def HWD_SIGN_CFG_tokens : Fld := ⟨0x400328, 24, 8⟩
def HWD_SIGN_CFG_rate : Fld := ⟨0x400328, 0, 7⟩
def HWD_KU_LAST_kind : Fld := ⟨0x40032C, 24, 8⟩
def HWD_KU_LAST_status : Fld := ⟨0x40032C, 16, 7⟩
def HWD_KU_LAST_target : Fld := ⟨0x40032C, 8, 6⟩
def HWD_OPKEY_programmed : Fld := ⟨0x400330, 4, 4⟩
def HWD_OPKEY_active : Fld := ⟨0x400330, 0, 2⟩
def HWD_DEVICE_ID_bytes (i : Nat) : Fld := ⟨0x400340 + 0x4 * i, 0, 32⟩
def HWD_SLOT_ATTR_valid (i : Nat) : Fld := ⟨0x401000 + 0x8 * i, 31, 1⟩
def HWD_SLOT_ATTR_requester (i : Nat) : Fld := ⟨0x401000 + 0x8 * i, 28, 2⟩
def HWD_SLOT_ATTR_lifetime (i : Nat) : Fld := ⟨0x401000 + 0x8 * i, 27, 1⟩
def HWD_SLOT_ATTR_source (i : Nat) : Fld := ⟨0x401000 + 0x8 * i, 24, 2⟩
def HWD_SLOT_ATTR_usage (i : Nat) : Fld := ⟨0x401000 + 0x8 * i, 0, 14⟩
def HWD_SLOT_EXP_expiry (i : Nat) : Fld := ⟨0x401004 + 0x8 * i, 0, 32⟩
/-! BRK -/

def BRK_LC_next : Fld := ⟨0x420000, 8, 3⟩
def BRK_LC_state : Fld := ⟨0x420000, 0, 3⟩
def BRK_STATUS_erase_lock : Fld := ⟨0x420004, 31, 1⟩
def BRK_STATUS_boot_window : Fld := ⟨0x420004, 30, 1⟩
def BRK_STATUS_live : Fld := ⟨0x420004, 0, 10⟩
def BRK_STAT_lc_refused : Fld := ⟨0x420010, 5, 1⟩
def BRK_STAT_lc_done : Fld := ⟨0x420010, 4, 1⟩
def BRK_STAT_cfg_refused : Fld := ⟨0x420010, 3, 1⟩
def BRK_STAT_erase : Fld := ⟨0x420010, 2, 1⟩
def BRK_STAT_alarm : Fld := ⟨0x420010, 1, 1⟩
def BRK_STAT_notice : Fld := ⟨0x420010, 0, 1⟩
def BRK_MASK_mask : Fld := ⟨0x420014, 0, 6⟩
def BRK_EVCNT_lc_refused_cnt : Fld := ⟨0x420018, 24, 8⟩
def BRK_EVCNT_erase_cnt : Fld := ⟨0x420018, 16, 8⟩
def BRK_EVCNT_alarm_cnt : Fld := ⟨0x420018, 8, 8⟩
def BRK_EVCNT_notice_cnt : Fld := ⟨0x420018, 0, 8⟩
def BRK_LAST_sensor : Fld := ⟨0x420020, 28, 4⟩
def BRK_LAST_class : Fld := ⟨0x420020, 26, 2⟩
def BRK_LAST_context : Fld := ⟨0x420020, 24, 2⟩
def BRK_LAST_rr_index : Fld := ⟨0x420020, 0, 12⟩
def BRK_TAMPER_CNT_count : Fld := ⟨0x420024, 0, 32⟩
def BRK_HOLD_CNT_count : Fld := ⟨0x420028, 0, 32⟩
def BRK_CTL_new_nonce : Fld := ⟨0x42002C, 3, 1⟩
def BRK_CTL_persist : Fld := ⟨0x42002C, 2, 1⟩
def BRK_CTL_lc_go : Fld := ⟨0x42002C, 1, 1⟩
def BRK_CTL_boot_done : Fld := ⟨0x42002C, 0, 1⟩
def BRK_LC_ADDR_LO_addr : Fld := ⟨0x420030, 0, 32⟩
def BRK_LC_ADDR_HI_addr : Fld := ⟨0x420034, 0, 32⟩
def BRK_LC_RESULT_done : Fld := ⟨0x420038, 31, 1⟩
def BRK_LC_RESULT_status : Fld := ⟨0x420038, 24, 7⟩
def BRK_LC_RESULT_to : Fld := ⟨0x420038, 0, 3⟩
def BRK_LC_NONCE_bytes (i : Nat) : Fld := ⟨0x420040 + 0x4 * i, 0, 32⟩
def BRK_SENSOR_CFG_episode (i : Nat) : Fld := ⟨0x420100 + 0x4 * i, 31, 1⟩
def BRK_SENSOR_CFG_class (i : Nat) : Fld := ⟨0x420100 + 0x4 * i, 0, 2⟩
def BRK_SENSOR_CNT_count (i : Nat) : Fld := ⟨0x420140 + 0x4 * i, 0, 32⟩
/-! GRF -/

def GRF_STATUS_phase : Fld := ⟨0x440000, 8, 4⟩
def GRF_STATUS_type : Fld := ⟨0x440000, 0, 3⟩
def GRF_BOOT_halt : Fld := ⟨0x440004, 16, 3⟩
def GRF_BOOT_fallback : Fld := ⟨0x440004, 1, 5⟩
def GRF_STAT_plan_refused : Fld := ⟨0x440010, 7, 1⟩
def GRF_STAT_boot_fallback : Fld := ⟨0x440010, 6, 1⟩
def GRF_STAT_conflict : Fld := ⟨0x440010, 5, 1⟩
def GRF_STAT_settings_reset : Fld := ⟨0x440010, 4, 1⟩
def GRF_STAT_rolled_back : Fld := ⟨0x440010, 3, 1⟩
def GRF_STAT_plan_done : Fld := ⟨0x440010, 2, 1⟩
def GRF_STAT_piece_bad : Fld := ⟨0x440010, 1, 1⟩
def GRF_STAT_staged : Fld := ⟨0x440010, 0, 1⟩
def GRF_MASK_mask : Fld := ⟨0x440014, 0, 8⟩
def GRF_EVCNT_refused_cnt : Fld := ⟨0x440018, 24, 8⟩
def GRF_EVCNT_fallback_cnt : Fld := ⟨0x440018, 16, 8⟩
def GRF_EVCNT_rollback_cnt : Fld := ⟨0x440018, 8, 8⟩
def GRF_EVCNT_piece_bad_cnt : Fld := ⟨0x440018, 0, 8⟩
def GRF_CTL_pollen_en : Fld := ⟨0x440020, 6, 1⟩
def GRF_CTL_relay_en : Fld := ⟨0x440020, 5, 1⟩
def GRF_CTL_discard : Fld := ⟨0x440020, 4, 1⟩
def GRF_CTL_confirm : Fld := ⟨0x440020, 3, 1⟩
def GRF_CTL_cancel : Fld := ⟨0x440020, 1, 1⟩
def GRF_CTL_plan_go : Fld := ⟨0x440020, 0, 1⟩
def GRF_PLAN_types : Fld := ⟨0x440024, 1, 5⟩
def GRF_RESULT_type : Fld := ⟨0x440028, 8, 3⟩
def GRF_RESULT_code : Fld := ⟨0x440028, 0, 8⟩
def GRF_READY_types : Fld := ⟨0x44002C, 1, 5⟩
def GRF_RELAY_CFG_want_ms : Fld := ⟨0x440030, 16, 16⟩
def GRF_RELAY_CFG_pct : Fld := ⟨0x440030, 8, 6⟩
def GRF_RELAY_CFG_stage : Fld := ⟨0x440030, 4, 1⟩
def GRF_RELAY_UP_up_mask_lo : Fld := ⟨0x440034, 0, 32⟩
def GRF_RELAY_UP_HI_up_mask_hi : Fld := ⟨0x440038, 0, 32⟩
def GRF_RELAY_PEER_en (i : Nat) : Fld := ⟨0x440040 + 0x4 * i, 7, 1⟩
def GRF_RELAY_PEER_router (i : Nat) : Fld := ⟨0x440040 + 0x4 * i, 0, 6⟩
def GRF_STAGE_BASE_LO_addr : Fld := ⟨0x440050, 0, 32⟩
def GRF_STAGE_BASE_HI_addr : Fld := ⟨0x440054, 0, 32⟩
def GRF_STAGE_SIZE_bytes : Fld := ⟨0x440058, 0, 28⟩
def GRF_GRAFT_ID_graft_id : Fld := ⟨0x44005C, 0, 32⟩
def GRF_PROGRESS_held : Fld := ⟨0x440060, 0, 32⟩
def GRF_POLLEN_CFG_sf : Fld := ⟨0x440064, 16, 6⟩
def GRF_POLLEN_CFG_peer : Fld := ⟨0x440064, 0, 16⟩
def GRF_CONFLICT_conflict : Fld := ⟨0x440068, 0, 32⟩
def GRF_SLOT_tries (i : Nat) : Fld := ⟨0x440080 + 0x4 * i, 4, 3⟩
def GRF_SLOT_committed (i : Nat) : Fld := ⟨0x440080 + 0x4 * i, 2, 1⟩
def GRF_SLOT_next_boot (i : Nat) : Fld := ⟨0x440080 + 0x4 * i, 1, 1⟩
def GRF_SLOT_active (i : Nat) : Fld := ⟨0x440080 + 0x4 * i, 0, 1⟩
def GRF_FLOOR_security_ver (i : Nat) : Fld := ⟨0x4400A0 + 0x4 * i, 0, 32⟩
def GRF_RESET_LIST_groups (i : Nat) : Fld := ⟨0x4400C0 + 0x4 * i, 0, 32⟩
def GRF_PIECE_BAD_CNT_count : Fld := ⟨0x4400E0, 0, 32⟩
def GRF_RELAYED_CNT_count : Fld := ⟨0x4400E4, 0, 32⟩
def GRF_POLLEN_CNT_count : Fld := ⟨0x4400E8, 0, 32⟩
/-! GRV -/

def GRV_CFG_en : Fld := ⟨0x460000, 31, 1⟩
def GRV_CFG_ver_max : Fld := ⟨0x460000, 24, 2⟩
def GRV_CFG_q : Fld := ⟨0x460000, 16, 3⟩
def GRV_CFG_slot : Fld := ⟨0x460000, 8, 6⟩
def GRV_CFG_router_id : Fld := ⟨0x460000, 0, 6⟩
def GRV_GROVE_ID_grove_id : Fld := ⟨0x460004, 0, 32⟩
def GRV_PORT_port : Fld := ⟨0x460008, 0, 16⟩
def GRV_HB_CFG_hb_en : Fld := ⟨0x46000C, 31, 1⟩
def GRV_HB_CFG_misses : Fld := ⟨0x46000C, 16, 4⟩
def GRV_HB_CFG_period_ms : Fld := ⟨0x46000C, 0, 16⟩
def GRV_STAT_conflict : Fld := ⟨0x460010, 8, 1⟩
def GRV_STAT_grid : Fld := ⟨0x460010, 7, 1⟩
def GRV_STAT_incompatible : Fld := ⟨0x460010, 6, 1⟩
def GRV_STAT_tag_fail : Fld := ⟨0x460010, 5, 1⟩
def GRV_STAT_standby : Fld := ⟨0x460010, 4, 1⟩
def GRV_STAT_own_rx : Fld := ⟨0x460010, 3, 1⟩
def GRV_STAT_contact : Fld := ⟨0x460010, 2, 1⟩
def GRV_STAT_adopt_due : Fld := ⟨0x460010, 1, 1⟩
def GRV_STAT_peer_dead : Fld := ⟨0x460010, 0, 1⟩
def GRV_MASK_mask : Fld := ⟨0x460014, 0, 9⟩
def GRV_EVCNT_grid_cnt : Fld := ⟨0x460018, 24, 8⟩
def GRV_EVCNT_tag_fail_cnt : Fld := ⟨0x460018, 16, 8⟩
def GRV_EVCNT_standby_cnt : Fld := ⟨0x460018, 8, 8⟩
def GRV_EVCNT_dead_cnt : Fld := ⟨0x460018, 0, 8⟩
def GRV_RANK2_MS_delay : Fld := ⟨0x46001C, 0, 16⟩
def GRV_ADOPT_DUE_LO_due : Fld := ⟨0x460020, 0, 32⟩
def GRV_ADOPT_DUE_HI_due : Fld := ⟨0x460024, 0, 32⟩
def GRV_CONFLICT_conflict : Fld := ⟨0x460028, 0, 32⟩
def GRV_SRC_ADDR_addr (i : Nat) : Fld := ⟨0x460030 + 0x4 * i, 0, 32⟩
def GRV_HB_TX_CNT_count : Fld := ⟨0x460040, 0, 32⟩
def GRV_HB_RX_CNT_count : Fld := ⟨0x460044, 0, 32⟩
def GRV_DROP_CNT_count : Fld := ⟨0x460048, 0, 32⟩
def GRV_PEER_CFG_en (i : Nat) : Fld := ⟨0x461000 + 0x20 * i, 31, 1⟩
def GRV_PEER_CFG_spare_rank (i : Nat) : Fld := ⟨0x461000 + 0x20 * i, 28, 2⟩
def GRV_PEER_CFG_vlan (i : Nat) : Fld := ⟨0x461000 + 0x20 * i, 16, 12⟩
def GRV_PEER_CFG_mac_hi (i : Nat) : Fld := ⟨0x461000 + 0x20 * i, 0, 16⟩
def GRV_PEER_MAC_LO_mac_lo (i : Nat) : Fld := ⟨0x461004 + 0x20 * i, 0, 32⟩
def GRV_PEER_ADDR_addr (i j : Nat) : Fld := ⟨0x461008 + 0x20 * i + 0x4 * j, 0, 32⟩
def GRV_PEER_STATUS_state (i : Nat) : Fld := ⟨0x461018 + 0x20 * i, 29, 3⟩
def GRV_PEER_STATUS_ver (i : Nat) : Fld := ⟨0x461018 + 0x20 * i, 26, 2⟩
def GRV_PEER_STATUS_grid_mismatch (i : Nat) : Fld := ⟨0x461018 + 0x20 * i, 25, 1⟩
def GRV_PEER_STATUS_boot_lo (i : Nat) : Fld := ⟨0x461018 + 0x20 * i, 16, 8⟩
def GRV_PEER_STATUS_misses (i : Nat) : Fld := ⟨0x461018 + 0x20 * i, 0, 4⟩
def GRV_PEER_SEQ_seq (i : Nat) : Fld := ⟨0x46101C + 0x20 * i, 0, 32⟩
/-! ETH -/

def ETH_CFG_def_pcp (i : Nat) : Fld := ⟨0x500000 + 0x10000 * i, 28, 3⟩
def ETH_CFG_def_vlan (i : Nat) : Fld := ⟨0x500000 + 0x10000 * i, 16, 12⟩
def ETH_CFG_fec (i : Nat) : Fld := ⟨0x500000 + 0x10000 * i, 2, 1⟩
def ETH_CFG_mode (i : Nat) : Fld := ⟨0x500000 + 0x10000 * i, 0, 2⟩
def ETH_MAXFRAME_bytes (i : Nat) : Fld := ⟨0x500004 + 0x10000 * i, 0, 14⟩
def ETH_STATUS_pruned (i : Nat) : Fld := ⟨0x500008 + 0x10000 * i, 5, 1⟩
def ETH_STATUS_hi_ber (i : Nat) : Fld := ⟨0x500008 + 0x10000 * i, 4, 1⟩
def ETH_STATUS_rx_clk_lock (i : Nat) : Fld := ⟨0x500008 + 0x10000 * i, 3, 1⟩
def ETH_STATUS_fec_lock (i : Nat) : Fld := ⟨0x500008 + 0x10000 * i, 2, 1⟩
def ETH_STATUS_block_lock (i : Nat) : Fld := ⟨0x500008 + 0x10000 * i, 1, 1⟩
def ETH_STATUS_link_up (i : Nat) : Fld := ⟨0x500008 + 0x10000 * i, 0, 1⟩
def ETH_STAT_wake (i : Nat) : Fld := ⟨0x500010 + 0x10000 * i, 3, 1⟩
def ETH_STAT_fcs_err (i : Nat) : Fld := ⟨0x500010 + 0x10000 * i, 2, 1⟩
def ETH_STAT_rx_drop (i : Nat) : Fld := ⟨0x500010 + 0x10000 * i, 1, 1⟩
def ETH_STAT_link_change (i : Nat) : Fld := ⟨0x500010 + 0x10000 * i, 0, 1⟩
def ETH_MASK_mask (i : Nat) : Fld := ⟨0x500014 + 0x10000 * i, 0, 4⟩
def ETH_EVCNT_fcs_cnt (i : Nat) : Fld := ⟨0x500018 + 0x10000 * i, 8, 8⟩
def ETH_EVCNT_link_cnt (i : Nat) : Fld := ⟨0x500018 + 0x10000 * i, 0, 8⟩
def ETH_RX_FRAMES_count (i : Nat) : Fld := ⟨0x500020 + 0x10000 * i, 0, 32⟩
def ETH_TX_FRAMES_count (i : Nat) : Fld := ⟨0x500024 + 0x10000 * i, 0, 32⟩
def ETH_RX_DROP_CNT_count (i : Nat) : Fld := ⟨0x500028 + 0x10000 * i, 0, 32⟩
def ETH_FCS_ERR_CNT_count (i : Nat) : Fld := ⟨0x50002C + 0x10000 * i, 0, 32⟩
def ETH_OVERSIZE_CNT_count (i : Nat) : Fld := ⟨0x500030 + 0x10000 * i, 0, 32⟩
def ETH_FEC_CORR_CNT_count (i : Nat) : Fld := ⟨0x500034 + 0x10000 * i, 0, 32⟩
def ETH_FEC_UNCORR_CNT_count (i : Nat) : Fld := ⟨0x500038 + 0x10000 * i, 0, 32⟩
def ETH_WAKE_CFG_en (i : Nat) : Fld := ⟨0x500060 + 0x10000 * i, 0, 1⟩
def ETH_WAKE_PAT_pat (i j : Nat) : Fld := ⟨0x500064 + 0x10000 * i + 0x4 * j, 0, 32⟩
def ETH_WAKE_MASK_mask (i j : Nat) : Fld := ⟨0x500074 + 0x10000 * i + 0x4 * j, 0, 32⟩
def ETH_VLAN_MEMB_memb (i j : Nat) : Fld := ⟨0x500100 + 0x10000 * i + 0x4 * j, 0, 32⟩
/-! DDR -/

def DDR_CFG_max_rate : Fld := ⟨0x580000, 8, 2⟩
def DDR_CFG_ch_en : Fld := ⟨0x580000, 0, 2⟩
def DDR_SIZE_mib : Fld := ⟨0x580004, 0, 16⟩
def DDR_STAT_board_fail : Fld := ⟨0x580010, 2, 1⟩
def DDR_STAT_board_done : Fld := ⟨0x580010, 1, 1⟩
def DDR_STAT_ue : Fld := ⟨0x580010, 0, 1⟩
def DDR_MASK_mask : Fld := ⟨0x580014, 0, 3⟩
def DDR_CE_CNT_count : Fld := ⟨0x580020, 0, 32⟩
def DDR_UE_CNT_count : Fld := ⟨0x580024, 0, 32⟩
def DDR_UE_ADDR_LO_addr : Fld := ⟨0x580028, 0, 32⟩
def DDR_UE_ADDR_HI_addr : Fld := ⟨0x58002C, 0, 32⟩
def DDR_BOARD_ADDR_LO_addr : Fld := ⟨0x580030, 0, 32⟩
def DDR_BOARD_ADDR_HI_addr : Fld := ⟨0x580034, 0, 32⟩
def DDR_BOARD_CTL_go : Fld := ⟨0x580038, 0, 1⟩
/-! XSP -/

def XSP_CMD_go : Fld := ⟨0x5A0000, 31, 1⟩
def XSP_CMD_busy : Fld := ⟨0x5A0000, 30, 1⟩
def XSP_CMD_op : Fld := ⟨0x5A0000, 0, 2⟩
def XSP_ADDR_addr : Fld := ⟨0x5A0004, 0, 32⟩
def XSP_LEN_len : Fld := ⟨0x5A0008, 0, 24⟩
def XSP_BUF_LO_addr : Fld := ⟨0x5A000C, 0, 32⟩
def XSP_BUF_HI_addr : Fld := ⟨0x5A0010, 0, 32⟩
def XSP_RESULT_done : Fld := ⟨0x5A0014, 31, 1⟩
def XSP_RESULT_status : Fld := ⟨0x5A0014, 0, 3⟩
def XSP_STAT_err : Fld := ⟨0x5A0020, 1, 1⟩
def XSP_STAT_done : Fld := ⟨0x5A0020, 0, 1⟩
def XSP_MASK_mask : Fld := ⟨0x5A0024, 0, 2⟩
/-! TPR -/

def TPR_ID_device : Fld := ⟨0x5C0000, 16, 16⟩
def TPR_ID_vendor : Fld := ⟨0x5C0000, 0, 16⟩
def TPR_LINK_pm : Fld := ⟨0x5C0004, 8, 2⟩
def TPR_LINK_gen : Fld := ⟨0x5C0004, 4, 4⟩
def TPR_LINK_width : Fld := ⟨0x5C0004, 0, 4⟩
def TPR_STAT_mb_version : Fld := ⟨0x5C0010, 1, 1⟩
def TPR_STAT_bar2_oor : Fld := ⟨0x5C0010, 0, 1⟩
def TPR_MASK_mask : Fld := ⟨0x5C0014, 0, 2⟩
def TPR_BAR2_WIN_win : Fld := ⟨0x5C0020, 0, 3⟩
def TPR_COAL_us : Fld := ⟨0x5C0024, 0, 16⟩
def TPR_BAR2_OOR_CNT_count : Fld := ⟨0x5C0028, 0, 32⟩
def TPR_MB_VER_valid : Fld := ⟨0x5C0030, 31, 1⟩
def TPR_MB_VER_major : Fld := ⟨0x5C0030, 8, 8⟩
def TPR_MB_VER_minor : Fld := ⟨0x5C0030, 0, 8⟩
def TPR_MB_TP_BASE_LO_addr : Fld := ⟨0x5C0100, 0, 32⟩
def TPR_MB_TP_BASE_HI_addr : Fld := ⟨0x5C0104, 0, 32⟩
def TPR_MB_TP_CFG_en : Fld := ⟨0x5C0108, 31, 1⟩
def TPR_MB_TP_CFG_log2_size : Fld := ⟨0x5C0108, 0, 4⟩
def TPR_MB_TP_HEAD_index : Fld := ⟨0x5C010C, 0, 12⟩
def TPR_MB_TP_TAIL_index : Fld := ⟨0x5C0110, 0, 12⟩
def TPR_MB_TH_BASE_LO_addr : Fld := ⟨0x5C0120, 0, 32⟩
def TPR_MB_TH_BASE_HI_addr : Fld := ⟨0x5C0124, 0, 32⟩
def TPR_MB_TH_CFG_en : Fld := ⟨0x5C0128, 31, 1⟩
def TPR_MB_TH_CFG_log2_size : Fld := ⟨0x5C0128, 0, 4⟩
def TPR_MB_TH_HEAD_index : Fld := ⟨0x5C012C, 0, 12⟩
def TPR_MB_TH_TAIL_index : Fld := ⟨0x5C0130, 0, 12⟩
/-! MON -/

def MON_STATUS_session : Fld := ⟨0x5E0000, 31, 1⟩
def MON_STATUS_signer : Fld := ⟨0x5E0000, 30, 1⟩
def MON_STATUS_lockout : Fld := ⟨0x5E0000, 29, 1⟩
def MON_STATUS_secs_left : Fld := ⟨0x5E0000, 0, 16⟩
def MON_BAUD_rate : Fld := ⟨0x5E0004, 0, 32⟩
def MON_STAT_lockout : Fld := ⟨0x5E0010, 3, 1⟩
def MON_STAT_auth_fail : Fld := ⟨0x5E0010, 2, 1⟩
def MON_STAT_auth_ok : Fld := ⟨0x5E0010, 1, 1⟩
def MON_STAT_priv_cmd : Fld := ⟨0x5E0010, 0, 1⟩
def MON_MASK_mask : Fld := ⟨0x5E0014, 0, 4⟩
def MON_EVCNT_auth_fail_cnt : Fld := ⟨0x5E0018, 8, 8⟩
def MON_EVCNT_auth_ok_cnt : Fld := ⟨0x5E0018, 0, 8⟩
def MON_CTL_priv_off : Fld := ⟨0x5E0020, 1, 1⟩
def MON_CTL_kill : Fld := ⟨0x5E0020, 0, 1⟩
def MON_AUTH_FAIL_CNT_count : Fld := ⟨0x5E0024, 0, 32⟩
def MON_CMD_CNT_count : Fld := ⟨0x5E0028, 0, 32⟩

end Sys2Proof.Machine.F
end

