-- ==== Sys2Proof/Machine/RegMap.lean ====
section
/-!
DEFINITION. The register map of the BX7160: every register table of the manual, block by block of R23,
with the offset, the dimensions, and each field's bits, access type and reset value.
A reset value that the manual says comes from the plan, the boot, OTP or MRAM stands as 0 here: the
boot sequence writes it.
-/

namespace Sys2Proof.Machine

/-- Registers of the GLB range, 0x0 to 0x100. -/
def regsGlb : List RegRow := [
  ⟨"GLB_ID", 0x0, [], [⟨16, 16, .ro, 0x7160⟩, ⟨0, 8, .ro, 177⟩]⟩,
  ⟨"GLB_STAT", 0x10, [], [⟨2, 1, .w1c, 0⟩, ⟨1, 1, .w1c, 0⟩, ⟨0, 1, .w1c, 0⟩]⟩,
  ⟨"GLB_MASK", 0x14, [], [⟨2, 1, .rw, 1⟩, ⟨1, 1, .rw, 1⟩, ⟨0, 1, .rw, 1⟩]⟩,
  ⟨"GLB_EVCNT", 0x18, [], [⟨16, 8, .rw, 0⟩, ⟨8, 8, .rw, 0⟩, ⟨0, 8, .rw, 0⟩]⟩,
  ⟨"GLB_PACE", 0x20, [], [⟨16, 4, .ro, 0⟩, ⟨0, 16, .ro, 0⟩]⟩,
  ⟨"GLB_PACE_THR", 0x24, [], [⟨0, 16, .rw, 1024⟩]⟩,
  ⟨"GLB_TSTALL", 0x30, [], [⟨0, 10, .rw, 50⟩]⟩,
  ⟨"GLB_FIFO_OVF_CNT", 0x100, [⟨0, 32, 0x4⟩], [⟨0, 32, .rw, 0⟩]⟩]

/-- Registers of the STP range, 0x20000 to 0x20064. -/
def regsStp : List RegRow := [
  ⟨"STP_ABI", 0x20000, [], [⟨24, 8, .ro, 2⟩, ⟨16, 8, .ro, 3⟩]⟩,
  ⟨"STP_PLAN_ID", 0x20004, [], [⟨0, 32, .ro, 0⟩]⟩,
  ⟨"STP_PLAN_SEQ", 0x20008, [], [⟨0, 32, .ro, 0⟩]⟩,
  ⟨"STP_SEQ_FLOOR", 0x2000C, [], [⟨0, 32, .ro, 0⟩]⟩,
  ⟨"STP_STAT", 0x20010, [], [⟨5, 1, .ro, 0⟩, ⟨4, 1, .w1c, 0⟩, ⟨3, 1, .w1c, 0⟩, ⟨2, 1, .w1c, 0⟩, ⟨1, 1, .w1c, 0⟩, ⟨0, 1, .w1c, 0⟩]⟩,
  ⟨"STP_MASK", 0x20014, [], [⟨0, 5, .rw, 31⟩]⟩,
  ⟨"STP_EVCNT", 0x20018, [], [⟨16, 8, .rw, 0⟩, ⟨8, 8, .rw, 0⟩, ⟨0, 8, .rw, 0⟩]⟩,
  ⟨"STP_LOAD_ADDR_LO", 0x20020, [], [⟨0, 32, .rw, 0⟩]⟩,
  ⟨"STP_LOAD_ADDR_HI", 0x20024, [], [⟨0, 32, .rw, 0⟩]⟩,
  ⟨"STP_LOAD_LEN", 0x20028, [], [⟨0, 21, .rw, 0⟩]⟩,
  ⟨"STP_LIVE_CTL", 0x2002C, [], [⟨3, 1, .rw, 0⟩, ⟨2, 1, .rw, 0⟩, ⟨1, 1, .w1s, 0⟩, ⟨0, 1, .w1s, 0⟩]⟩,
  ⟨"STP_LIVE_ASN_LO", 0x20030, [], [⟨0, 32, .rw, 0⟩]⟩,
  ⟨"STP_LIVE_ASN_HI", 0x20034, [], [⟨0, 8, .rw, 0⟩]⟩,
  ⟨"STP_RESULT", 0x20038, [], [⟨26, 6, .ro, 0⟩, ⟨16, 10, .ro, 0⟩, ⟨12, 4, .ro, 0⟩, ⟨8, 4, .ro, 0⟩, ⟨0, 8, .ro, 0⟩]⟩,
  ⟨"STP_LIVE_DIGEST", 0x20040, [⟨0, 8, 0x4⟩], [⟨0, 32, .ro, 0⟩]⟩,
  ⟨"STP_CONFLICT_LAST", 0x20060, [], [⟨16, 16, .ro, 0⟩, ⟨8, 8, .ro, 0⟩, ⟨0, 8, .ro, 0⟩]⟩,
  ⟨"STP_SLOT", 0x20064, [], [⟨1, 1, .ro, 0⟩, ⟨0, 1, .ro, 0⟩]⟩]

/-- Registers of the PWR range, 0x40010 to 0x400B0. -/
def regsPwrA : List RegRow := [
  ⟨"PWR_STAT", 0x40010, [], [⟨5, 1, .w1c, 0⟩, ⟨4, 1, .w1c, 0⟩, ⟨3, 1, .w1c, 0⟩, ⟨2, 1, .w1c, 0⟩, ⟨1, 1, .w1c, 0⟩, ⟨0, 1, .w1c, 0⟩]⟩,
  ⟨"PWR_MASK", 0x40014, [], [⟨0, 6, .rw, 63⟩]⟩,
  ⟨"PWR_EVCNT", 0x40018, [], [⟨24, 8, .rw, 0⟩, ⟨16, 8, .rw, 0⟩, ⟨8, 8, .rw, 0⟩, ⟨0, 8, .rw, 0⟩]⟩,
  ⟨"PWR_BUDGET", 0x40020, [⟨0, 7, 0x4⟩], [⟨0, 24, .rw, 0⟩]⟩,
  ⟨"PWR_DOM_STATE", 0x40040, [⟨0, 2, 0x4⟩], [⟨0, 32, .ro, 0⟩]⟩,
  ⟨"PWR_DOM_TARGET", 0x40048, [⟨0, 2, 0x4⟩], [⟨0, 32, .ro, 0⟩]⟩,
  ⟨"PWR_AUTOWAKE", 0x40050, [], [⟨0, 28, .ro, 0⟩]⟩,
  ⟨"PWR_FENCE_STAT", 0x40060, [], [⟨31, 1, .ro, 0⟩, ⟨16, 1, .ro, 0⟩, ⟨8, 4, .ro, 0⟩, ⟨0, 5, .ro, 0⟩]⟩,
  ⟨"PWR_FENCE_ADDR", 0x40064, [], [⟨0, 32, .ro, 0⟩]⟩,
  ⟨"PWR_FENCE_CNT", 0x40068, [], [⟨0, 32, .rw, 0⟩]⟩,
  ⟨"PWR_DVFS", 0x40070, [], [⟨8, 1, .ro, 0⟩, ⟨4, 2, .ro, 3⟩, ⟨0, 2, .rw, 3⟩]⟩,
  ⟨"PWR_VCORE", 0x40074, [], [⟨16, 10, .ro, 800⟩, ⟨0, 10, .ro, 720⟩]⟩,
  ⟨"PWR_AVS_CFG", 0x40078, [], [⟨20, 12, .rw, 1088⟩, ⟨12, 8, .rw, 50⟩, ⟨6, 6, .rw, 10⟩, ⟨5, 1, .w1s, 0⟩, ⟨0, 4, .rw, 0⟩]⟩,
  ⟨"PWR_WAKE_EN", 0x40080, [], [⟨1, 11, .rw, 2047⟩]⟩,
  ⟨"PWR_WAKE_HOST", 0x40084, [], [⟨1, 11, .rw, 1088⟩]⟩,
  ⟨"PWR_WAKE_CFG", 0x40088, [], [⟨0, 14, .rw, 100⟩]⟩,
  ⟨"PWR_WAKE_LAST", 0x4008C, [], [⟨24, 8, .ro, 0⟩, ⟨16, 5, .ro, 0⟩, ⟨0, 8, .ro, 0⟩]⟩,
  ⟨"PWR_WAKE_TS_LO", 0x40090, [], [⟨0, 32, .ro, 0⟩]⟩,
  ⟨"PWR_WAKE_TS_HI", 0x40094, [], [⟨0, 32, .ro, 0⟩]⟩,
  ⟨"PWR_WAKE_AON", 0x40098, [], [⟨0, 32, .ro, 0⟩]⟩,
  ⟨"PWR_TMU_WAKE", 0x4009C, [], [⟨0, 32, .rw, 0⟩]⟩,
  ⟨"PWR_GPIO_WAKE", 0x400A0, [], [⟨0, 32, .rw, 0⟩]⟩,
  ⟨"PWR_GPIO_POL", 0x400A4, [], [⟨0, 32, .rw, 0⟩]⟩,
  ⟨"PWR_BUD_CFG", 0x400B0, [], [⟨31, 1, .rw, 0⟩, ⟨16, 13, .rw, 1500⟩, ⟨4, 10, .rw, 20⟩, ⟨0, 4, .rw, 0⟩]⟩]

/-- Registers of the PWR range, 0x400B4 to 0x40180. -/
def regsPwrB : List RegRow := [
  ⟨"PWR_BUD_CHAN", 0x400B4, [], [⟨0, 25, .rw, 0⟩]⟩,
  ⟨"PWR_BUD_SEQ_LO", 0x400B8, [], [⟨0, 32, .rw, 0xb26c05f8⟩]⟩,
  ⟨"PWR_BUD_SEQ_HI", 0x400BC, [], [⟨0, 32, .rw, 0x4e3a91d7⟩]⟩,
  ⟨"PWR_BUD_CNT", 0x400C0, [], [⟨0, 32, .rw, 0⟩]⟩,
  ⟨"PWR_DOM_CFG", 0x40100, [⟨0, 28, 0x4⟩], [⟨12, 20, .ro, 0⟩, ⟨8, 1, .ro, 0⟩, ⟨4, 2, .rw, 0⟩, ⟨2, 1, .ro, 0⟩, ⟨0, 2, .ro, 0⟩]⟩,
  ⟨"PWR_DOM_LAT", 0x40180, [⟨0, 28, 0x4⟩], [⟨13, 19, .ro, 0⟩, ⟨0, 13, .ro, 0⟩]⟩]

/-- All registers of the PWR range. -/
def regsPwr : List RegRow := regsPwrA ++ regsPwrB

/-- Registers of the PRN range, 0x60010 to 0x61034. -/
def regsPrnA : List RegRow := [
  ⟨"PRN_STAT", 0x60010, [], [⟨6, 1, .w1c, 0⟩, ⟨5, 1, .w1c, 0⟩, ⟨4, 1, .w1c, 0⟩, ⟨3, 1, .w1c, 0⟩, ⟨2, 1, .w1c, 0⟩, ⟨1, 1, .w1c, 0⟩, ⟨0, 1, .w1c, 0⟩]⟩,
  ⟨"PRN_MASK", 0x60014, [], [⟨0, 7, .rw, 127⟩]⟩,
  ⟨"PRN_EVCNT", 0x60018, [], [⟨24, 8, .rw, 0⟩, ⟨16, 8, .rw, 0⟩, ⟨8, 8, .rw, 0⟩, ⟨0, 8, .rw, 0⟩]⟩,
  ⟨"PRN_READMIT", 0x60020, [], [⟨31, 1, .w1s, 0⟩, ⟨30, 1, .ro, 0⟩, ⟨16, 8, .rw, 0⟩, ⟨0, 16, .rw, 0⟩]⟩,
  ⟨"PRN_READMIT_RESULT", 0x60024, [], [⟨31, 1, .ro, 0⟩, ⟨24, 7, .ro, 0⟩, ⟨16, 8, .ro, 0⟩, ⟨0, 16, .ro, 0⟩]⟩,
  ⟨"PRN_LAST", 0x60028, [], [⟨24, 8, .ro, 0⟩, ⟨16, 4, .ro, 0⟩, ⟨0, 16, .ro, 0⟩]⟩,
  ⟨"PRN_LAST_RR", 0x6002C, [], [⟨0, 12, .ro, 0⟩]⟩,
  ⟨"PRN_INJECT", 0x60030, [], [⟨31, 1, .w1s, 0⟩, ⟨16, 8, .rw, 0⟩, ⟨0, 16, .rw, 0⟩]⟩,
  ⟨"PRN_CE_CFG", 0x60034, [], [⟨0, 8, .rw, 4⟩]⟩,
  ⟨"PRN_FENCE_DROP_CNT", 0x60040, [], [⟨0, 32, .rw, 0⟩]⟩,
  ⟨"PRN_ROW_SPARE_CNT", 0x60044, [], [⟨0, 32, .rw, 0⟩]⟩,
  ⟨"PRN_CE_CNT", 0x60048, [], [⟨0, 32, .rw, 0⟩]⟩,
  ⟨"PRN_SPARE_BANK", 0x60060, [⟨0, 8, 0x4⟩], [⟨31, 1, .ro, 0⟩, ⟨0, 9, .ro, 0⟩]⟩,
  ⟨"PRN_BANK_MAP", 0x60100, [⟨0, 296, 0x4⟩], [⟨8, 5, .ro, 0⟩, ⟨0, 4, .ro, 0⟩]⟩,
  ⟨"PRN_PRUNED", 0x60600, [⟨1, 11, 0x80⟩, ⟨0, 32, 0x4⟩], [⟨0, 32, .ro, 0⟩]⟩,
  ⟨"RRC_STAT", 0x61010, [], [⟨3, 1, .w1c, 0⟩, ⟨2, 1, .w1c, 0⟩, ⟨1, 1, .w1c, 0⟩, ⟨0, 1, .w1c, 0⟩]⟩,
  ⟨"RRC_MASK", 0x61014, [], [⟨0, 4, .rw, 15⟩]⟩,
  ⟨"RRC_EVCNT", 0x61018, [], [⟨8, 8, .rw, 0⟩, ⟨0, 8, .rw, 0⟩]⟩,
  ⟨"RRC_CFG", 0x61020, [], [⟨16, 12, .rw, 1024⟩, ⟨0, 3, .rw, 7⟩]⟩,
  ⟨"RRC_CTL", 0x61024, [], [⟨8, 1, .rw, 0⟩, ⟨4, 1, .rw, 0⟩, ⟨1, 1, .w1s, 0⟩, ⟨0, 1, .w1s, 0⟩]⟩,
  ⟨"RRC_HEAD", 0x61028, [], [⟨0, 12, .ro, 0⟩]⟩,
  ⟨"RRC_FREEZE", 0x6102C, [], [⟨31, 1, .ro, 0⟩, ⟨0, 12, .ro, 0⟩]⟩,
  ⟨"RRC_SEQ", 0x61030, [], [⟨0, 32, .ro, 0⟩]⟩,
  ⟨"RRC_FLUSH", 0x61034, [], [⟨31, 1, .ro, 0⟩, ⟨30, 1, .ro, 0⟩, ⟨0, 12, .ro, 0⟩]⟩]

/-- Registers of the PRN range, 0x61038 to 0x61044. -/
def regsPrnB : List RegRow := [
  ⟨"RRC_FLUSH_SEQ", 0x61038, [], [⟨0, 32, .ro, 0⟩]⟩,
  ⟨"RRC_LOST_CNT", 0x61044, [], [⟨0, 32, .rw, 0⟩]⟩]

/-- All registers of the PRN range. -/
def regsPrn : List RegRow := regsPrnA ++ regsPrnB

/-- Registers of the TMB range, 0x80000 to 0x80060. -/
def regsTmbA : List RegRow := [
  ⟨"TMB_NS_LO", 0x80000, [], [⟨0, 32, .ro, 0⟩]⟩,
  ⟨"TMB_NS_HI", 0x80004, [], [⟨0, 32, .ro, 0⟩]⟩,
  ⟨"TMB_NS_FRAC", 0x80008, [], [⟨0, 32, .ro, 0⟩]⟩,
  ⟨"TMB_CTL", 0x8000C, [], [⟨5, 1, .w1s, 0⟩, ⟨4, 1, .w1s, 0⟩, ⟨3, 1, .w1s, 0⟩, ⟨2, 1, .w1s, 0⟩, ⟨1, 1, .w1s, 0⟩, ⟨0, 1, .w1s, 0⟩]⟩,
  ⟨"TMB_STAT", 0x80010, [], [⟨9, 1, .w1c, 0⟩, ⟨8, 1, .w1c, 0⟩, ⟨7, 1, .w1c, 0⟩, ⟨6, 1, .w1c, 0⟩, ⟨5, 1, .w1c, 0⟩, ⟨4, 1, .w1c, 0⟩, ⟨3, 1, .w1c, 0⟩, ⟨2, 1, .w1c, 0⟩, ⟨1, 1, .w1c, 0⟩, ⟨0, 1, .w1c, 0⟩]⟩,
  ⟨"TMB_MASK", 0x80014, [], [⟨0, 10, .rw, 1023⟩]⟩,
  ⟨"TMB_EVCNT", 0x80018, [], [⟨24, 8, .rw, 0⟩, ⟨16, 8, .rw, 0⟩, ⟨8, 8, .rw, 0⟩, ⟨0, 8, .rw, 0⟩]⟩,
  ⟨"TMB_INC_LO", 0x80020, [], [⟨0, 32, .rw, 0x8d55555⟩]⟩,
  ⟨"TMB_INC_HI", 0x80024, [], [⟨0, 8, .rw, 2⟩]⟩,
  ⟨"TMB_STEP_LO", 0x80028, [], [⟨0, 32, .rw, 0⟩]⟩,
  ⟨"TMB_STEP_HI", 0x8002C, [], [⟨0, 32, .rw, 0⟩]⟩,
  ⟨"TMB_STATE", 0x80030, [], [⟨4, 3, .ro, 0⟩, ⟨2, 1, .ro, 0⟩, ⟨0, 2, .ro, 0⟩]⟩,
  ⟨"TMB_HOLD", 0x80034, [], [⟨0, 2, .rw, 0⟩]⟩,
  ⟨"TMB_JUMP_LIMIT", 0x80038, [], [⟨0, 32, .rw, 1000⟩]⟩,
  ⟨"TMB_REF", 0x8003C, [], [⟨0, 2, .rw, 0⟩]⟩,
  ⟨"TMB_OTA_CFG", 0x80040, [], [⟨16, 16, .rw, 0⟩, ⟨4, 4, .rw, 4⟩, ⟨0, 4, .rw, 1⟩]⟩,
  ⟨"TMB_OTA_LAST", 0x80044, [], [⟨0, 32, .ro, 0⟩]⟩,
  ⟨"TMB_OTA_FREQ", 0x80048, [], [⟨0, 32, .ro, 0⟩]⟩,
  ⟨"TMB_PTP_CFG", 0x8004C, [], [⟨0, 3, .rw, 0⟩]⟩,
  ⟨"TMB_PPS_CFG", 0x80050, [], [⟨31, 1, .rw, 0⟩, ⟨30, 1, .rw, 0⟩, ⟨29, 1, .rw, 0⟩, ⟨16, 10, .rw, 100⟩]⟩,
  ⟨"TMB_PPS_OFS", 0x80054, [], [⟨0, 32, .rw, 0⟩]⟩,
  ⟨"TMB_PPS_CAP_LO", 0x80058, [], [⟨0, 32, .ro, 0⟩]⟩,
  ⟨"TMB_PPS_CAP_HI", 0x8005C, [], [⟨0, 32, .ro, 0⟩]⟩,
  ⟨"TMB_PPS_CAP_ST", 0x80060, [], [⟨8, 8, .ro, 0⟩, ⟨1, 1, .w1c, 0⟩, ⟨0, 1, .ro, 0⟩]⟩]

/-- Registers of the TMB range, 0x80064 to 0x80104. -/
def regsTmbB : List RegRow := [
  ⟨"TMB_SYNCE", 0x80064, [], [⟨31, 1, .rw, 0⟩, ⟨28, 1, .ro, 0⟩, ⟨24, 2, .rw, 0⟩, ⟨0, 10, .rw, 16⟩]⟩,
  ⟨"TMB_CONFLICT", 0x80068, [], [⟨0, 32, .ro, 0⟩]⟩,
  ⟨"TMB_TS_BASE_LO", 0x80070, [], [⟨0, 32, .rw, 0⟩]⟩,
  ⟨"TMB_TS_BASE_HI", 0x80074, [], [⟨0, 32, .rw, 0⟩]⟩,
  ⟨"TMB_TS_CFG", 0x80078, [], [⟨31, 1, .rw, 0⟩, ⟨0, 4, .rw, 4⟩]⟩,
  ⟨"TMB_TS_HEAD", 0x8007C, [], [⟨0, 12, .ro, 0⟩]⟩,
  ⟨"TMB_TS_TAIL", 0x80080, [], [⟨0, 12, .rw, 0⟩]⟩,
  ⟨"TMB_NO_TRAILER_CNT", 0x80090, [], [⟨0, 32, .rw, 0⟩]⟩,
  ⟨"TMB_TS_LOST_CNT", 0x80094, [], [⟨0, 32, .rw, 0⟩]⟩,
  ⟨"TMB_PTP_PORT", 0x80100, [⟨0, 4, 0x10⟩], [⟨4, 1, .rw, 0⟩, ⟨0, 2, .rw, 2⟩]⟩,
  ⟨"TMB_PTP_ADJ", 0x80104, [⟨0, 4, 0x10⟩], [⟨16, 16, .rw, 0⟩, ⟨0, 16, .rw, 0⟩]⟩]

/-- All registers of the TMB range. -/
def regsTmb : List RegRow := regsTmbA ++ regsTmbB

/-- Registers of the TMU range, 0x90010 to 0x92004. -/
def regsTmu : List RegRow := [
  ⟨"TMU_STAT", 0x90010, [], [⟨2, 1, .ro, 0⟩, ⟨1, 1, .w1c, 0⟩, ⟨0, 1, .w1c, 0⟩]⟩,
  ⟨"TMU_MASK", 0x90014, [], [⟨0, 3, .rw, 7⟩]⟩,
  ⟨"TMU_EVCNT", 0x90018, [], [⟨8, 8, .rw, 0⟩, ⟨0, 8, .rw, 0⟩]⟩,
  ⟨"TMU_CONFLICT", 0x90020, [], [⟨0, 32, .ro, 0⟩]⟩,
  ⟨"TMU_SUM", 0x90024, [], [⟨0, 32, .ro, 0⟩]⟩,
  ⟨"TMU_LINK_COUNT", 0x90028, [], [⟨0, 11, .ro, 0⟩]⟩,
  ⟨"TMU_CTL", 0x91000, [⟨0, 32, 0x80⟩], [⟨13, 2, .rw, 0⟩, ⟨8, 5, .rw, 0⟩, ⟨4, 4, .rw, 0⟩, ⟨2, 1, .rw, 0⟩, ⟨1, 1, .rw, 0⟩, ⟨0, 1, .rw, 0⟩]⟩,
  ⟨"TMU_PRESC", 0x91004, [⟨0, 32, 0x80⟩], [⟨0, 16, .rw, 0⟩]⟩,
  ⟨"TMU_TOP", 0x91008, [⟨0, 32, 0x80⟩], [⟨0, 32, .rw, 0xffffffff⟩]⟩,
  ⟨"TMU_CNT", 0x9100C, [⟨0, 32, 0x80⟩], [⟨0, 32, .rw, 0⟩]⟩,
  ⟨"TMU_STATUS", 0x91010, [⟨0, 32, 0x80⟩], [⟨16, 16, .ro, 0⟩, ⟨1, 1, .ro, 0⟩, ⟨0, 1, .ro, 1⟩]⟩,
  ⟨"TMU_USTAT", 0x91014, [⟨0, 32, 0x80⟩], [⟨5, 4, .w1c, 0⟩, ⟨1, 4, .w1c, 0⟩, ⟨0, 1, .w1c, 0⟩]⟩,
  ⟨"TMU_UMASK", 0x91018, [⟨0, 32, 0x80⟩], [⟨0, 9, .rw, 511⟩]⟩,
  ⟨"TMU_UEVCNT", 0x9101C, [⟨0, 32, 0x80⟩], [⟨24, 8, .rw, 0⟩, ⟨16, 8, .rw, 0⟩, ⟨8, 8, .rw, 0⟩, ⟨0, 8, .rw, 0⟩]⟩,
  ⟨"TMU_OUT", 0x91020, [⟨0, 32, 0x80⟩], [⟨8, 6, .rw, 63⟩, ⟨1, 1, .rw, 0⟩, ⟨0, 1, .rw, 0⟩]⟩,
  ⟨"TMU_CH_CFG", 0x91040, [⟨0, 32, 0x80⟩, ⟨0, 4, 0x10⟩], [⟨16, 2, .rw, 0⟩, ⟨8, 6, .rw, 0⟩, ⟨4, 2, .rw, 0⟩, ⟨2, 1, .rw, 0⟩, ⟨0, 2, .rw, 0⟩]⟩,
  ⟨"TMU_CCV", 0x91044, [⟨0, 32, 0x80⟩, ⟨0, 4, 0x10⟩], [⟨0, 32, .rw, 0⟩]⟩,
  ⟨"TMU_CH_ST", 0x91048, [⟨0, 32, 0x80⟩, ⟨0, 4, 0x10⟩], [⟨8, 8, .ro, 0⟩, ⟨1, 1, .w1c, 0⟩, ⟨0, 1, .ro, 0⟩]⟩,
  ⟨"TMU_LINK0", 0x92000, [⟨0, 1024, 0x8⟩], [⟨0, 32, .ro, 0⟩]⟩,
  ⟨"TMU_LINK1", 0x92004, [⟨0, 1024, 0x8⟩], [⟨0, 32, .ro, 0⟩]⟩]

/-- Registers of the PIN range, 0xA0010 to 0xA0100. -/
def regsPin : List RegRow := [
  ⟨"PIN_STAT", 0xA0010, [], [⟨0, 1, .w1c, 0⟩]⟩,
  ⟨"PIN_MASK", 0xA0014, [], [⟨0, 1, .rw, 1⟩]⟩,
  ⟨"PIN_CONFLICT", 0xA0018, [], [⟨0, 32, .ro, 0⟩]⟩,
  ⟨"PIN_GPIO_DIR", 0xA0020, [], [⟨0, 32, .rw, 0⟩]⟩,
  ⟨"PIN_GPIO_OUT", 0xA0024, [], [⟨0, 32, .rw, 0⟩]⟩,
  ⟨"PIN_GPIO_IN", 0xA0028, [], [⟨0, 32, .ro, 0⟩]⟩,
  ⟨"PIN_GPIO_PULL", 0xA002C, [], [⟨0, 32, .rw, 0⟩]⟩,
  ⟨"PIN_CX_DIR", 0xA0030, [], [⟨0, 12, .rw, 0⟩]⟩,
  ⟨"PIN_CX_OUT", 0xA0034, [], [⟨0, 12, .rw, 0⟩]⟩,
  ⟨"PIN_CX_IN", 0xA0038, [], [⟨0, 12, .ro, 0⟩]⟩,
  ⟨"PIN_OWNER", 0xA0100, [⟨0, 46, 0x4⟩], [⟨0, 16, .ro, 0⟩]⟩]

/-- Registers of the CNP range, 0x100000 to 0x101014. -/
def regsCnp : List RegRow := [
  ⟨"CNP_CLK", 0x100000, [], [⟨6, 1, .ro, 0⟩, ⟨5, 1, .ro, 0⟩, ⟨4, 1, .ro, 0⟩, ⟨1, 1, .rw, 1⟩, ⟨0, 1, .rw, 0⟩]⟩,
  ⟨"CNP_STAT", 0x100010, [], [⟨2, 1, .ro, 0⟩, ⟨1, 1, .w1c, 0⟩, ⟨0, 1, .w1c, 0⟩]⟩,
  ⟨"CNP_MASK", 0x100014, [], [⟨0, 3, .rw, 7⟩]⟩,
  ⟨"CNP_EVCNT", 0x100018, [], [⟨16, 8, .rw, 0⟩, ⟨8, 8, .rw, 0⟩, ⟨0, 8, .rw, 0⟩]⟩,
  ⟨"CNP_AGC_CFG", 0x100020, [], [⟨16, 8, .rw, 4⟩, ⟨12, 4, .rw, 4⟩, ⟨0, 11, .rw, 1984⟩]⟩,
  ⟨"CNP_CH_CTL", 0x101000, [⟨0, 16, 0x100⟩], [⟨12, 1, .rw, 0⟩, ⟨8, 2, .rw, 0⟩, ⟨4, 3, .rw, 0⟩, ⟨1, 1, .rw, 0⟩, ⟨0, 1, .rw, 0⟩]⟩,
  ⟨"CNP_CH_STATUS", 0x101004, [⟨0, 16, 0x100⟩], [⟨16, 16, .ro, 0xffff⟩, ⟨8, 8, .ro, 0⟩, ⟨6, 1, .ro, 1⟩, ⟨5, 1, .ro, 0⟩, ⟨4, 1, .ro, 0⟩, ⟨0, 3, .ro, 4⟩]⟩,
  ⟨"CNP_CH_STAT", 0x101008, [⟨0, 16, 0x100⟩], [⟨1, 1, .w1c, 0⟩, ⟨0, 1, .w1c, 0⟩]⟩,
  ⟨"CNP_CH_MASK", 0x10100C, [⟨0, 16, 0x100⟩], [⟨0, 2, .rw, 3⟩]⟩,
  ⟨"CNP_CH_EXT", 0x101010, [⟨0, 16, 0x100⟩], [⟨16, 8, .rw, 20⟩, ⟨8, 8, .rw, 0⟩, ⟨0, 8, .rw, 0⟩]⟩,
  ⟨"CNP_CH_OVL_CNT", 0x101014, [⟨0, 16, 0x100⟩], [⟨0, 32, .rw, 0⟩]⟩]

/-- Registers of the CHZ range, 0x140000 to 0x144000. -/
def regsChz : List RegRow := [
  ⟨"CHZ_QMAP_CFG", 0x140000, [], [⟨16, 16, .rw, 6000⟩, ⟨8, 8, .rw, 20⟩, ⟨0, 3, .rw, 2⟩]⟩,
  ⟨"CHZ_STAT", 0x140010, [], [⟨4, 4, .w1c, 0⟩, ⟨3, 1, .w1c, 0⟩, ⟨2, 1, .w1c, 0⟩, ⟨1, 1, .w1c, 0⟩, ⟨0, 1, .w1c, 0⟩]⟩,
  ⟨"CHZ_MASK", 0x140014, [], [⟨0, 8, .rw, 255⟩]⟩,
  ⟨"CHZ_EVCNT", 0x140018, [], [⟨8, 8, .rw, 0⟩, ⟨0, 8, .rw, 0⟩]⟩,
  ⟨"CHZ_WIN_CFG", 0x140100, [⟨0, 4, 0x20⟩], [⟨16, 16, .ro, 0⟩, ⟨2, 4, .ro, 0⟩, ⟨1, 1, .ro, 0⟩, ⟨0, 1, .ro, 0⟩]⟩,
  ⟨"CHZ_WIN_CENTRE", 0x140104, [⟨0, 4, 0x20⟩], [⟨0, 32, .ro, 0⟩]⟩,
  ⟨"CHZ_WIN_WIDTH", 0x140108, [⟨0, 4, 0x20⟩], [⟨0, 32, .ro, 0⟩]⟩,
  ⟨"CHZ_WIN_RASTER", 0x14010C, [⟨0, 4, 0x20⟩], [⟨0, 14, .ro, 0⟩]⟩,
  ⟨"CHZ_WIN_BINS", 0x140110, [⟨0, 4, 0x20⟩], [⟨16, 11, .ro, 0⟩, ⟨0, 10, .ro, 0⟩]⟩,
  ⟨"CHZ_SLICE", 0x140200, [⟨0, 9, 0x4⟩], [⟨12, 4, .ro, 0⟩, ⟨8, 1, .ro, 0⟩, ⟨6, 1, .ro, 0⟩, ⟨4, 2, .ro, 0⟩, ⟨0, 3, .ro, 0⟩]⟩,
  ⟨"CHZ_BIN", 0x144000, [⟨0, 1024, 0x4⟩], [⟨31, 1, .ro, 0⟩, ⟨28, 2, .ro, 0⟩, ⟨26, 2, .ro, 0⟩, ⟨0, 14, .ro, 0⟩]⟩]

/-- Registers of the SPC range, 0x180000 to 0x1A4000. -/
def regsSpc : List RegRow := [
  ⟨"SPC_CFG", 0x180000, [], [⟨16, 16, .rw, 1000⟩, ⟨8, 8, .rw, 12⟩, ⟨0, 4, .rw, 6⟩]⟩,
  ⟨"SPC_STAT", 0x180010, [], [⟨2, 1, .w1c, 0⟩, ⟨1, 1, .w1c, 0⟩, ⟨0, 1, .w1c, 0⟩]⟩,
  ⟨"SPC_MASK", 0x180014, [], [⟨0, 3, .rw, 7⟩]⟩,
  ⟨"SPC_EVCNT", 0x180018, [], [⟨16, 8, .rw, 0⟩, ⟨8, 8, .rw, 0⟩, ⟨0, 8, .rw, 0⟩]⟩,
  ⟨"SPC_WIN_INCL", 0x180020, [⟨0, 4, 0x4⟩], [⟨0, 16, .ro, 0⟩]⟩,
  ⟨"SPC_LOOK", 0x181000, [⟨0, 4, 0x100⟩, ⟨0, 4, 0x40⟩, ⟨0, 16, 0x4⟩], [⟨16, 16, .rw, 0⟩, ⟨0, 16, .rw, 0⟩]⟩,
  ⟨"SPC_STREAM", 0x184000, [⟨0, 2048, 0x4⟩], [⟨31, 1, .ro, 0⟩, ⟨30, 1, .ro, 0⟩, ⟨28, 2, .ro, 0⟩, ⟨18, 10, .ro, 0⟩, ⟨0, 17, .ro, 0⟩]⟩,
  ⟨"SRH_CFG", 0x1A0000, [], [⟨16, 8, .rw, 16⟩, ⟨8, 8, .rw, 4⟩, ⟨1, 1, .rw, 1⟩]⟩,
  ⟨"SRH_STAT", 0x1A0010, [], [⟨4, 1, .w1c, 0⟩, ⟨3, 1, .w1c, 0⟩, ⟨2, 1, .w1c, 0⟩, ⟨1, 1, .w1c, 0⟩, ⟨0, 1, .w1c, 0⟩]⟩,
  ⟨"SRH_MASK", 0x1A0014, [], [⟨0, 5, .rw, 31⟩]⟩,
  ⟨"SRH_EVCNT", 0x1A0018, [], [⟨24, 8, .rw, 0⟩, ⟨16, 8, .rw, 0⟩, ⟨8, 8, .rw, 0⟩, ⟨0, 8, .rw, 0⟩]⟩,
  ⟨"SRH_THR", 0x1A0020, [⟨0, 3, 0x4⟩], [⟨0, 8, .rw, 48⟩]⟩,
  ⟨"SRH_WIN_FMT", 0x1A0030, [⟨0, 4, 0x4⟩], [⟨0, 3, .rw, 0⟩]⟩,
  ⟨"SRH_LATE_CFG", 0x1A0040, [], [⟨0, 5, .rw, 20⟩]⟩,
  ⟨"SRH_EXH_CNT", 0x1A0050, [], [⟨0, 32, .rw, 0⟩]⟩,
  ⟨"SRH_LATE_CNT", 0x1A0054, [], [⟨0, 32, .rw, 0⟩]⟩,
  ⟨"SRH_GEN_DISCARD_CNT", 0x1A0058, [], [⟨0, 32, .rw, 0⟩]⟩,
  ⟨"SRH_MERGE_CNT", 0x1A005C, [], [⟨0, 32, .rw, 0⟩]⟩,
  ⟨"SRH_PRUNE_LOSS_CNT", 0x1A0060, [], [⟨0, 32, .rw, 0⟩]⟩,
  ⟨"SRH_POOL_EXH_CNT", 0x1A0100, [⟨0, 16, 0x4⟩], [⟨0, 32, .rw, 0⟩]⟩,
  ⟨"SRH_LANE_MAP", 0x1A2000, [⟨0, 544, 0x4⟩], [⟨30, 2, .ro, 0⟩, ⟨24, 4, .ro, 0⟩, ⟨16, 8, .ro, 0⟩, ⟨8, 8, .ro, 0⟩, ⟨0, 1, .ro, 0⟩]⟩,
  ⟨"SRH_STREAM_STATUS", 0x1A4000, [⟨0, 2048, 0x4⟩], [⟨29, 3, .ro, 0⟩, ⟨28, 1, .ro, 0⟩, ⟨18, 10, .ro, 0⟩, ⟨10, 8, .ro, 0⟩, ⟨8, 2, .ro, 0⟩, ⟨0, 8, .ro, 0⟩]⟩]

/-- Registers of the LNE range, 0x1C0000 to 0x1E2108. -/
def regsLne : List RegRow := [
  ⟨"LNE_CTL", 0x1C0000, [⟨0, 544, 0x100⟩], [⟨1, 1, .w1s, 0⟩, ⟨0, 1, .w1s, 0⟩]⟩,
  ⟨"LNE_STATUS", 0x1C0004, [⟨0, 544, 0x100⟩], [⟨24, 8, .ro, 0⟩, ⟨3, 1, .ro, 0⟩, ⟨0, 3, .ro, 0⟩]⟩,
  ⟨"LNE_ST_RESULT", 0x1C0008, [⟨0, 544, 0x100⟩], [⟨16, 16, .ro, 0⟩, ⟨0, 4, .ro, 0⟩]⟩,
  ⟨"LNE_PRUNE_CAUSE", 0x1C000C, [⟨0, 544, 0x100⟩], [⟨16, 12, .ro, 0⟩, ⟨0, 4, .ro, 0⟩]⟩,
  ⟨"LNE_FRAME_CNT", 0x1C0010, [⟨0, 544, 0x100⟩], [⟨0, 32, .rw, 0⟩]⟩,
  ⟨"LNE_NOSFD_CNT", 0x1C0014, [⟨0, 544, 0x100⟩], [⟨0, 32, .rw, 0⟩]⟩,
  ⟨"LNE_CRC_CNT", 0x1C0018, [⟨0, 544, 0x100⟩], [⟨0, 32, .rw, 0⟩]⟩,
  ⟨"LNE_UCODE", 0x1E2000, [], [⟨16, 16, .ro, 0⟩, ⟨0, 1, .ro, 0⟩]⟩,
  ⟨"LNE_STAT", 0x1E2010, [], [⟨3, 1, .w1c, 0⟩, ⟨2, 1, .w1c, 0⟩, ⟨1, 1, .w1c, 0⟩, ⟨0, 1, .w1c, 0⟩]⟩,
  ⟨"LNE_MASK", 0x1E2014, [], [⟨0, 4, .rw, 15⟩]⟩,
  ⟨"LNE_EVCNT", 0x1E2018, [], [⟨24, 8, .rw, 0⟩, ⟨16, 8, .rw, 0⟩, ⟨8, 8, .rw, 0⟩, ⟨0, 8, .rw, 0⟩]⟩,
  ⟨"LNE_SPARE_TEST", 0x1E2020, [], [⟨0, 12, .rw, 60⟩]⟩,
  ⟨"LNE_POOL_CFG", 0x1E2100, [⟨0, 16, 0x10⟩], [⟨31, 1, .rw, 0⟩, ⟨0, 16, .rw, 0⟩]⟩,
  ⟨"LNE_POOL_EQ", 0x1E2104, [⟨0, 16, 0x10⟩], [⟨8, 4, .rw, 9⟩, ⟨4, 4, .rw, 6⟩, ⟨0, 2, .rw, 2⟩]⟩,
  ⟨"LNE_POOL_FSK", 0x1E2108, [⟨0, 16, 0x10⟩], [⟨2, 1, .rw, 0⟩, ⟨1, 1, .rw, 0⟩, ⟨0, 1, .rw, 0⟩]⟩]

/-- Registers of the TXL range, 0x200000 to 0x208004. -/
def regsTxl : List RegRow := [
  ⟨"TXL_LATE_MAX", 0x200000, [], [⟨0, 7, .rw, 0⟩]⟩,
  ⟨"TXL_CX_CFG", 0x200004, [], [⟨8, 8, .rw, 50⟩, ⟨0, 1, .rw, 1⟩]⟩,
  ⟨"TXL_CAL_CFG", 0x200008, [], [⟨0, 4, .rw, 12⟩]⟩,
  ⟨"TXL_STAT", 0x200010, [], [⟨8, 1, .w1c, 0⟩, ⟨7, 1, .w1c, 0⟩, ⟨6, 1, .w1c, 0⟩, ⟨5, 1, .w1c, 0⟩, ⟨4, 1, .w1c, 0⟩, ⟨3, 1, .w1c, 0⟩, ⟨2, 1, .w1c, 0⟩, ⟨1, 1, .w1c, 0⟩, ⟨0, 1, .w1c, 0⟩]⟩,
  ⟨"TXL_MASK", 0x200014, [], [⟨0, 9, .rw, 511⟩]⟩,
  ⟨"TXL_EVCNT", 0x200018, [], [⟨24, 8, .rw, 0⟩, ⟨16, 8, .rw, 0⟩, ⟨8, 8, .rw, 0⟩, ⟨0, 8, .rw, 0⟩]⟩,
  ⟨"TXL_CX_CTL", 0x200020, [⟨0, 4, 0x4⟩], [⟨1, 1, .ro, 0⟩, ⟨0, 1, .rw, 0⟩]⟩,
  ⟨"TXL_CONFLICT", 0x200030, [], [⟨16, 16, .ro, 0⟩, ⟨8, 8, .ro, 0⟩, ⟨0, 8, .ro, 0⟩]⟩,
  ⟨"TXL_GANG", 0x200040, [⟨0, 2, 0x4⟩], [⟨8, 4, .ro, 0⟩, ⟨4, 3, .ro, 0⟩, ⟨1, 1, .ro, 0⟩, ⟨0, 1, .rw, 0⟩]⟩,
  ⟨"TXL_CTL", 0x201000, [⟨0, 8, 0x100⟩], [⟨16, 16, .rw, 1000⟩, ⟨3, 1, .w1s, 0⟩, ⟨2, 1, .rw, 1⟩, ⟨0, 1, .rw, 0⟩]⟩,
  ⟨"TXL_STATUS", 0x201004, [⟨0, 8, 0x100⟩], [⟨24, 8, .ro, 0⟩, ⟨14, 10, .ro, 0⟩, ⟨8, 3, .ro, 0⟩, ⟨6, 1, .ro, 0⟩, ⟨5, 1, .ro, 0⟩, ⟨4, 1, .ro, 0⟩, ⟨0, 4, .ro, 0⟩]⟩,
  ⟨"TXL_FREQ", 0x201008, [⟨0, 8, 0x100⟩], [⟨0, 32, .ro, 0⟩]⟩,
  ⟨"TXL_PA", 0x20100C, [⟨0, 8, 0x100⟩], [⟨22, 10, .rw, 0⟩, ⟨12, 10, .rw, 0⟩, ⟨6, 6, .rw, 8⟩, ⟨0, 6, .rw, 2⟩]⟩,
  ⟨"TXL_ANT", 0x201010, [⟨0, 8, 0x100⟩], [⟨24, 8, .rw, 0⟩, ⟨16, 8, .rw, 127⟩, ⟨0, 4, .rw, 0⟩]⟩,
  ⟨"TXL_CAL_REQ", 0x201014, [⟨0, 8, 0x100⟩], [⟨31, 1, .w1s, 0⟩, ⟨30, 1, .ro, 0⟩, ⟨0, 15, .rw, 0⟩]⟩,
  ⟨"TXL_SENT_CNT", 0x201020, [⟨0, 8, 0x100⟩], [⟨0, 32, .rw, 0⟩]⟩,
  ⟨"TXL_MISS_CNT", 0x201024, [⟨0, 8, 0x100⟩], [⟨0, 32, .rw, 0⟩]⟩,
  ⟨"TXL_CAL_ENTRY_LO", 0x208000, [⟨0, 8, 0x1000⟩, ⟨0, 512, 0x8⟩], [⟨0, 32, .ro, 0⟩]⟩,
  ⟨"TXL_CAL_ENTRY_HI", 0x208004, [⟨0, 8, 0x1000⟩, ⟨0, 512, 0x8⟩], [⟨0, 32, .ro, 0⟩]⟩]

/-- Registers of the RGP range, 0x240000 to 0x244000. -/
def regsRgp : List RegRow := [
  ⟨"RGP_PROFILE", 0x240000, [], [⟨24, 8, .ro, 0⟩, ⟨20, 4, .ro, 0⟩, ⟨2, 1, .ro, 0⟩, ⟨0, 2, .ro, 0⟩]⟩,
  ⟨"RGP_PROFILE_SEQ", 0x240004, [], [⟨0, 32, .ro, 0⟩]⟩,
  ⟨"RGP_REGION", 0x240008, [], [⟨0, 16, .ro, 0⟩]⟩,
  ⟨"RGP_STAT", 0x240010, [], [⟨4, 1, .w1c, 0⟩, ⟨3, 1, .w1c, 0⟩, ⟨2, 1, .w1c, 0⟩, ⟨1, 1, .w1c, 0⟩, ⟨0, 1, .w1c, 0⟩]⟩,
  ⟨"RGP_MASK", 0x240014, [], [⟨0, 5, .rw, 31⟩]⟩,
  ⟨"RGP_EVCNT", 0x240018, [], [⟨8, 8, .rw, 0⟩, ⟨0, 8, .rw, 0⟩]⟩,
  ⟨"RGP_WARN", 0x24001C, [], [⟨0, 7, .rw, 90⟩]⟩,
  ⟨"RGP_LAST_REFUSE", 0x240020, [], [⟨28, 4, .ro, 0⟩, ⟨24, 4, .ro, 0⟩, ⟨20, 3, .ro, 0⟩, ⟨0, 17, .ro, 0⟩]⟩,
  ⟨"RGP_OTP_ADDR_LO", 0x240024, [], [⟨0, 32, .rw, 0⟩]⟩,
  ⟨"RGP_OTP_ADDR_HI", 0x240028, [], [⟨0, 32, .rw, 0⟩]⟩,
  ⟨"RGP_OTP_CTL", 0x24002C, [], [⟨0, 1, .w1s, 0⟩]⟩,
  ⟨"RGP_REFUSE_CNT", 0x240040, [⟨0, 9, 0x4⟩], [⟨0, 32, .rw, 0⟩]⟩,
  ⟨"RGP_IMAGE", 0x241000, [⟨0, 128, 0x4⟩], [⟨0, 32, .ro, 0⟩]⟩,
  ⟨"RGP_DUTY_USED", 0x242000, [⟨0, 12, 0x10⟩], [⟨0, 32, .ro, 0⟩]⟩,
  ⟨"RGP_DUTY_LIMIT", 0x242004, [⟨0, 12, 0x10⟩], [⟨0, 32, .ro, 0⟩]⟩,
  ⟨"RGP_DWELL_MAP", 0x242008, [⟨0, 12, 0x10⟩], [⟨16, 10, .ro, 0⟩, ⟨0, 10, .ro, 0⟩]⟩,
  ⟨"RGP_DWELL_USED", 0x244000, [⟨0, 1024, 0x4⟩], [⟨0, 32, .ro, 0⟩]⟩]

/-- Registers of the SSE range, 0x280000 to 0x28005C. -/
def regsSseA : List RegRow := [
  ⟨"SSE_CTL", 0x280000, [], [⟨3, 1, .w1s, 0⟩, ⟨2, 1, .w1s, 0⟩, ⟨1, 1, .rw, 0⟩, ⟨0, 1, .rw, 0⟩]⟩,
  ⟨"SSE_TS_CFG", 0x280004, [], [⟨0, 16, .rw, 0x2710⟩]⟩,
  ⟨"SSE_PAIR", 0x280008, [], [⟨2, 1, .ro, 0⟩, ⟨1, 1, .ro, 1⟩, ⟨0, 1, .ro, 1⟩]⟩,
  ⟨"SSE_AP", 0x28000C, [], [⟨16, 16, .ro, 0⟩, ⟨1, 1, .ro, 0⟩, ⟨0, 1, .ro, 0⟩]⟩,
  ⟨"SSE_STAT", 0x280010, [], [⟨9, 1, .w1c, 0⟩, ⟨8, 1, .w1c, 0⟩, ⟨7, 1, .w1c, 0⟩, ⟨6, 1, .w1c, 0⟩, ⟨5, 1, .w1c, 0⟩, ⟨4, 1, .w1c, 0⟩, ⟨3, 1, .ro, 0⟩, ⟨2, 1, .w1c, 0⟩, ⟨1, 1, .w1c, 0⟩, ⟨0, 1, .w1c, 0⟩]⟩,
  ⟨"SSE_MASK", 0x280014, [], [⟨0, 10, .rw, 1023⟩]⟩,
  ⟨"SSE_EVCNT", 0x280018, [], [⟨24, 8, .rw, 0⟩, ⟨16, 8, .rw, 0⟩, ⟨8, 8, .rw, 0⟩, ⟨0, 8, .rw, 0⟩]⟩,
  ⟨"SSE_EVCNT1", 0x28001C, [], [⟨16, 8, .rw, 0⟩, ⟨8, 8, .rw, 0⟩, ⟨0, 8, .rw, 0⟩]⟩,
  ⟨"SSE_ASN_LO", 0x280020, [], [⟨0, 32, .ro, 0⟩]⟩,
  ⟨"SSE_ASN_HI", 0x280024, [], [⟨0, 8, .ro, 0⟩]⟩,
  ⟨"SSE_ASN0_LO", 0x280028, [], [⟨0, 32, .rw, 0⟩]⟩,
  ⟨"SSE_ASN0_HI", 0x28002C, [], [⟨0, 8, .rw, 0⟩]⟩,
  ⟨"SSE_T0_LO", 0x280030, [], [⟨0, 32, .rw, 0⟩]⟩,
  ⟨"SSE_T0_HI", 0x280034, [], [⟨0, 32, .rw, 0⟩]⟩,
  ⟨"SSE_GUARD", 0x280038, [], [⟨12, 12, .rw, 100⟩, ⟨0, 12, .rw, 120⟩]⟩,
  ⟨"SSE_LOST_MISSES", 0x28003C, [], [⟨0, 8, .rw, 16⟩]⟩,
  ⟨"SSE_RESYNC_WAIT", 0x280040, [], [⟨0, 10, .rw, 10⟩]⟩,
  ⟨"SSE_RESYNC_CFG", 0x280044, [], [⟨8, 8, .rw, 10⟩, ⟨4, 4, .rw, 1⟩, ⟨0, 2, .rw, 2⟩]⟩,
  ⟨"SSE_SHARED_CFG", 0x280048, [], [⟨8, 4, .rw, 3⟩, ⟨4, 4, .rw, 7⟩, ⟨0, 4, .rw, 1⟩]⟩,
  ⟨"SSE_AGE_LIMIT", 0x28004C, [], [⟨0, 20, .rw, 0x7530⟩]⟩,
  ⟨"SSE_AP_CFG", 0x280050, [], [⟨0, 10, .rw, 100⟩]⟩,
  ⟨"SSE_FW_HB", 0x280054, [], [⟨0, 32, .wo, 0⟩]⟩,
  ⟨"SSE_EB", 0x280058, [], [⟨8, 8, .rw, 100⟩, ⟨0, 8, .rw, 0⟩]⟩,
  ⟨"SSE_TP_CFG", 0x28005C, [], [⟨16, 12, .rw, 2200⟩, ⟨4, 4, .rw, 0⟩, ⟨0, 1, .rw, 0⟩]⟩]

/-- Registers of the SSE range, 0x280060 to 0x282000. -/
def regsSseB : List RegRow := [
  ⟨"SSE_TP_STATUS", 0x280060, [], [⟨8, 8, .ro, 0⟩, ⟨4, 1, .ro, 0⟩, ⟨0, 3, .ro, 7⟩]⟩,
  ⟨"SSE_TP_CAND", 0x280064, [⟨0, 4, 0x4⟩], [⟨31, 1, .ro, 0⟩, ⟨0, 16, .rw, 0⟩]⟩,
  ⟨"SSE_MISS_CNT", 0x280080, [], [⟨0, 32, .rw, 0⟩]⟩,
  ⟨"SSE_DUP_CNT", 0x280084, [], [⟨0, 32, .rw, 0⟩]⟩,
  ⟨"SSE_STALE_CNT", 0x280088, [], [⟨0, 32, .rw, 0⟩]⟩,
  ⟨"SSE_AUTH_FAIL_CNT", 0x28008C, [], [⟨0, 32, .rw, 0⟩]⟩,
  ⟨"SSE_PROMOTE_CNT", 0x280090, [], [⟨0, 32, .rw, 0⟩]⟩,
  ⟨"SSE_AP_DROP_CNT", 0x280094, [], [⟨0, 32, .rw, 0⟩]⟩,
  ⟨"SSE_RESYNC_CNT", 0x280098, [], [⟨0, 32, .rw, 0⟩]⟩,
  ⟨"SSE_ACK_CNT", 0x28009C, [], [⟨0, 32, .rw, 0⟩]⟩,
  ⟨"SSE_LEV_HEAD", 0x2800A0, [], [⟨0, 10, .ro, 0⟩]⟩,
  ⟨"SSE_LEV_TAIL", 0x2800A4, [], [⟨0, 10, .rw, 0⟩]⟩,
  ⟨"SSE_TMPL0", 0x280100, [⟨0, 8, 0x20⟩], [⟨16, 16, .rw, 1020⟩, ⟨0, 16, .rw, 2120⟩]⟩,
  ⟨"SSE_TMPL1", 0x280104, [⟨0, 8, 0x20⟩], [⟨16, 16, .rw, 1000⟩, ⟨0, 16, .rw, 2200⟩]⟩,
  ⟨"SSE_TMPL2", 0x280108, [⟨0, 8, 0x20⟩], [⟨16, 16, .rw, 400⟩, ⟨0, 16, .rw, 800⟩]⟩,
  ⟨"SSE_TMPL3", 0x28010C, [⟨0, 8, 0x20⟩], [⟨16, 16, .rw, 2400⟩, ⟨0, 16, .rw, 4256⟩]⟩,
  ⟨"SSE_SF0", 0x280400, [⟨0, 64, 0x10⟩], [⟨31, 1, .rw, 0⟩, ⟨30, 1, .rw, 0⟩, ⟨16, 3, .rw, 0⟩, ⟨0, 16, .rw, 0⟩]⟩,
  ⟨"SSE_SF1", 0x280404, [⟨0, 64, 0x10⟩], [⟨0, 19, .rw, 0⟩]⟩,
  ⟨"SSE_SF2", 0x280408, [⟨0, 64, 0x10⟩], [⟨0, 20, .rw, 0⟩]⟩,
  ⟨"SSE_HOP_LEN", 0x280800, [⟨0, 8, 0x4⟩], [⟨0, 9, .rw, 1⟩]⟩,
  ⟨"SSE_CHAN", 0x281000, [⟨0, 1024, 0x4⟩], [⟨30, 2, .rw, 0⟩, ⟨26, 4, .rw, 0⟩, ⟨0, 25, .rw, 0⟩]⟩,
  ⟨"SSE_HOP", 0x282000, [⟨0, 8, 0x400⟩, ⟨0, 256, 0x4⟩], [⟨0, 10, .rw, 0⟩]⟩]

/-- All registers of the SSE range. -/
def regsSse : List RegRow := regsSseA ++ regsSseB

/-- Registers of the LFT range, 0x300010 to 0x300110. -/
def regsLft : List RegRow := [
  ⟨"LFT_STAT", 0x300010, [], [⟨2, 1, .w1c, 0⟩, ⟨1, 1, .w1c, 0⟩, ⟨0, 1, .w1c, 0⟩]⟩,
  ⟨"LFT_MASK", 0x300014, [], [⟨0, 3, .rw, 7⟩]⟩,
  ⟨"LFT_EVCNT", 0x300018, [], [⟨8, 8, .rw, 0⟩, ⟨0, 8, .rw, 0⟩]⟩,
  ⟨"LFT_STATE_CNT", 0x300020, [⟨0, 7, 0x4⟩], [⟨0, 18, .ro, 0⟩]⟩,
  ⟨"LFT_LOCK_TO_CNT", 0x300040, [], [⟨0, 32, .rw, 0⟩]⟩,
  ⟨"LFT_DMA_DONE_CNT", 0x300044, [], [⟨0, 32, .rw, 0⟩]⟩,
  ⟨"LFT_DMA_BASE_LO", 0x300100, [⟨0, 2, 0x20⟩], [⟨0, 32, .rw, 0⟩]⟩,
  ⟨"LFT_DMA_BASE_HI", 0x300104, [⟨0, 2, 0x20⟩], [⟨0, 32, .rw, 0⟩]⟩,
  ⟨"LFT_DMA_CFG", 0x300108, [⟨0, 2, 0x20⟩], [⟨31, 1, .rw, 0⟩, ⟨0, 4, .rw, 4⟩]⟩,
  ⟨"LFT_DMA_HEAD", 0x30010C, [⟨0, 2, 0x20⟩], [⟨0, 12, .rw, 0⟩]⟩,
  ⟨"LFT_DMA_TAIL", 0x300110, [⟨0, 2, 0x20⟩], [⟨0, 12, .ro, 0⟩]⟩]

/-- Registers of the LRN range, 0x340000 to 0x340050. -/
def regsLrn : List RegRow := [
  ⟨"LRN_CFG", 0x340000, [], [⟨0, 16, .rw, 300⟩]⟩,
  ⟨"LRN_SEED_LO", 0x340004, [], [⟨0, 32, .rw, 0⟩]⟩,
  ⟨"LRN_SEED_HI", 0x340008, [], [⟨0, 32, .rw, 0⟩]⟩,
  ⟨"LRN_STAT", 0x340010, [], [⟨4, 1, .w1c, 0⟩, ⟨3, 1, .w1c, 0⟩, ⟨2, 1, .w1c, 0⟩, ⟨1, 1, .w1c, 0⟩, ⟨0, 1, .w1c, 0⟩]⟩,
  ⟨"LRN_MASK", 0x340014, [], [⟨0, 5, .rw, 31⟩]⟩,
  ⟨"LRN_EVCNT", 0x340018, [], [⟨0, 8, .rw, 0⟩]⟩,
  ⟨"LRN_CLASS_CFG", 0x340020, [⟨0, 2, 0x4⟩], [⟨2, 1, .rw, 0⟩, ⟨1, 1, .rw, 0⟩, ⟨0, 1, .rw, 0⟩]⟩,
  ⟨"LRN_FILL", 0x340030, [], [⟨21, 11, .ro, 0⟩, ⟨0, 19, .ro, 0⟩]⟩,
  ⟨"LRN_FLOOD_CNT", 0x340040, [], [⟨0, 32, .rw, 0⟩]⟩,
  ⟨"LRN_EVICT_CNT", 0x340044, [], [⟨0, 32, .rw, 0⟩]⟩,
  ⟨"LRN_AGED_CNT", 0x340048, [], [⟨0, 32, .rw, 0⟩]⟩,
  ⟨"LRN_MOVE_CNT", 0x34004C, [], [⟨0, 32, .rw, 0⟩]⟩,
  ⟨"LRN_EVICT_LAST", 0x340050, [⟨0, 4, 0x4⟩], [⟨0, 32, .ro, 0⟩]⟩]

/-- Registers of the BGH range, 0x360000 to 0x368004. -/
def regsBgh : List RegRow := [
  ⟨"BGH_CFG", 0x360000, [], [⟨31, 1, .rw, 0⟩, ⟨8, 8, .rw, 25⟩, ⟨0, 3, .rw, 0⟩]⟩,
  ⟨"BGH_STAT", 0x360010, [], [⟨3, 1, .w1c, 0⟩, ⟨2, 1, .w1c, 0⟩, ⟨1, 1, .w1c, 0⟩, ⟨0, 1, .w1c, 0⟩]⟩,
  ⟨"BGH_MASK", 0x360014, [], [⟨0, 4, .rw, 15⟩]⟩,
  ⟨"BGH_EVCNT", 0x360018, [], [⟨8, 8, .rw, 0⟩, ⟨0, 8, .rw, 0⟩]⟩,
  ⟨"BGH_MAC_LO", 0x360020, [], [⟨0, 32, .rw, 0⟩]⟩,
  ⟨"BGH_MAC_HI", 0x360024, [], [⟨0, 16, .rw, 0⟩]⟩,
  ⟨"BGH_PREFIX_LO", 0x360028, [], [⟨0, 32, .rw, 0⟩]⟩,
  ⟨"BGH_PREFIX_HI", 0x36002C, [], [⟨0, 32, .rw, 0⟩]⟩,
  ⟨"BGH_UPLINK_LO", 0x360030, [], [⟨0, 32, .rw, 0⟩]⟩,
  ⟨"BGH_UPLINK_HI", 0x360034, [], [⟨31, 1, .rw, 0⟩, ⟨16, 12, .rw, 0⟩, ⟨0, 16, .rw, 0⟩]⟩,
  ⟨"BGH_EPOCH_DROP_CNT", 0x360040, [], [⟨0, 32, .rw, 0⟩]⟩,
  ⟨"BGH_MISS_FLOOD_CNT", 0x360044, [], [⟨0, 32, .rw, 0⟩]⟩,
  ⟨"BGH_EXC_CNT", 0x360100, [⟨0, 16, 0x4⟩], [⟨0, 32, .rw, 0⟩]⟩,
  ⟨"BGH_CTX0", 0x360200, [⟨0, 16, 0x10⟩], [⟨0, 32, .rw, 0⟩]⟩,
  ⟨"BGH_CTX1", 0x360204, [⟨0, 16, 0x10⟩], [⟨0, 32, .rw, 0⟩]⟩,
  ⟨"BGH_CTX2", 0x360208, [⟨0, 16, 0x10⟩], [⟨31, 1, .rw, 0⟩, ⟨30, 1, .rw, 0⟩]⟩,
  ⟨"BGH_SET0", 0x368000, [⟨0, 4096, 0x8⟩], [⟨0, 32, .rw, 0⟩]⟩,
  ⟨"BGH_SET1", 0x368004, [⟨0, 4096, 0x8⟩], [⟨31, 1, .rw, 0⟩, ⟨30, 1, .rw, 0⟩, ⟨0, 6, .rw, 0⟩]⟩]

/-- Registers of the TRF range, 0x380000 to 0x38040C. -/
def regsTrfA : List RegRow := [
  ⟨"TRF_CFG", 0x380000, [], [⟨0, 7, .rw, 75⟩]⟩,
  ⟨"TRF_STAT", 0x380010, [], [⟨4, 1, .w1c, 0⟩, ⟨3, 1, .w1c, 0⟩, ⟨2, 1, .w1c, 0⟩, ⟨1, 1, .w1c, 0⟩, ⟨0, 1, .w1c, 0⟩]⟩,
  ⟨"TRF_MASK", 0x380014, [], [⟨0, 5, .rw, 31⟩]⟩,
  ⟨"TRF_EVCNT", 0x380018, [], [⟨16, 8, .rw, 0⟩, ⟨8, 8, .rw, 0⟩, ⟨0, 8, .rw, 0⟩]⟩,
  ⟨"TRF_AGE_BH", 0x380020, [], [⟨0, 20, .rw, 500⟩]⟩,
  ⟨"TRF_AGE_MESH", 0x380024, [], [⟨0, 20, .rw, 0x7530⟩]⟩,
  ⟨"TRF_CELLS", 0x380030, [], [⟨0, 17, .ro, 65536⟩]⟩,
  ⟨"TRF_FREE", 0x380034, [], [⟨0, 17, .ro, 0⟩]⟩,
  ⟨"TRF_POOL_RES", 0x380040, [⟨0, 6, 0x10⟩], [⟨0, 17, .rw, 0⟩]⟩,
  ⟨"TRF_POOL_LIM", 0x380044, [⟨0, 6, 0x10⟩], [⟨0, 17, .rw, 0⟩]⟩,
  ⟨"TRF_POOL_USED", 0x380048, [⟨0, 6, 0x10⟩], [⟨0, 17, .ro, 0⟩]⟩,
  ⟨"TRF_VQ_CFG", 0x3800A0, [], [⟨8, 8, .rw, 32⟩, ⟨0, 4, .rw, 2⟩]⟩,
  ⟨"TRF_SPILL_BASE_LO", 0x3800B0, [], [⟨0, 32, .rw, 0⟩]⟩,
  ⟨"TRF_SPILL_BASE_HI", 0x3800B4, [], [⟨0, 32, .rw, 0⟩]⟩,
  ⟨"TRF_SPILL_SIZE", 0x3800B8, [], [⟨0, 24, .rw, 0⟩]⟩,
  ⟨"TRF_SPILL_USED", 0x3800BC, [], [⟨0, 24, .ro, 0⟩]⟩,
  ⟨"TRF_DROP_CNT", 0x3800C0, [⟨0, 8, 0x4⟩], [⟨0, 32, .rw, 0⟩]⟩,
  ⟨"TRF_PROMOTE_CNT", 0x3800E0, [], [⟨0, 32, .rw, 0⟩]⟩,
  ⟨"TRF_PCP_MAP", 0x3800E4, [], [⟨0, 24, .rw, 0xfac688⟩]⟩,
  ⟨"TRF_CLASS_CFG", 0x380100, [⟨0, 64, 0x4⟩], [⟨16, 3, .rw, 0⟩, ⟨0, 3, .rw, 0⟩]⟩,
  ⟨"TRF_HQ_TP_BASE_LO", 0x380400, [⟨0, 8, 0x40⟩], [⟨0, 32, .rw, 0⟩]⟩,
  ⟨"TRF_HQ_TP_BASE_HI", 0x380404, [⟨0, 8, 0x40⟩], [⟨0, 32, .rw, 0⟩]⟩,
  ⟨"TRF_HQ_TP_CFG", 0x380408, [⟨0, 8, 0x40⟩], [⟨31, 1, .rw, 0⟩, ⟨0, 4, .rw, 4⟩]⟩,
  ⟨"TRF_HQ_TP_HEAD", 0x38040C, [⟨0, 8, 0x40⟩], [⟨0, 12, .rw, 0⟩]⟩]

/-- Registers of the TRF range, 0x380410 to 0x38801C. -/
def regsTrfB : List RegRow := [
  ⟨"TRF_HQ_TP_TAIL", 0x380410, [⟨0, 8, 0x40⟩], [⟨0, 12, .ro, 0⟩]⟩,
  ⟨"TRF_HQ_TH_BASE_LO", 0x380420, [⟨0, 8, 0x40⟩], [⟨0, 32, .rw, 0⟩]⟩,
  ⟨"TRF_HQ_TH_BASE_HI", 0x380424, [⟨0, 8, 0x40⟩], [⟨0, 32, .rw, 0⟩]⟩,
  ⟨"TRF_HQ_TH_CFG", 0x380428, [⟨0, 8, 0x40⟩], [⟨31, 1, .rw, 0⟩, ⟨0, 4, .rw, 4⟩]⟩,
  ⟨"TRF_HQ_TH_HEAD", 0x38042C, [⟨0, 8, 0x40⟩], [⟨0, 12, .ro, 0⟩]⟩,
  ⟨"TRF_HQ_TH_TAIL", 0x380430, [⟨0, 8, 0x40⟩], [⟨0, 12, .rw, 0⟩]⟩,
  ⟨"TRF_SHP0", 0x381000, [⟨0, 96, 0x20⟩], [⟨31, 1, .rw, 0⟩, ⟨30, 1, .rw, 0⟩, ⟨0, 7, .rw, 0⟩]⟩,
  ⟨"TRF_SHP1", 0x381004, [⟨0, 96, 0x20⟩], [⟨0, 32, .rw, 0⟩]⟩,
  ⟨"TRF_SHP2", 0x381008, [⟨0, 96, 0x20⟩], [⟨0, 32, .rw, 0⟩]⟩,
  ⟨"TRF_SHP3", 0x38100C, [⟨0, 96, 0x20⟩], [⟨0, 32, .rw, 0⟩]⟩,
  ⟨"TRF_SHP4", 0x381010, [⟨0, 96, 0x20⟩], [⟨0, 32, .rw, 0⟩]⟩,
  ⟨"TRF_SHP5", 0x381014, [⟨0, 96, 0x20⟩], [⟨0, 32, .ro, 0⟩]⟩,
  ⟨"TRF_VLAN_METER", 0x384000, [⟨0, 4096, 0x4⟩], [⟨31, 1, .rw, 0⟩, ⟨0, 12, .rw, 0⟩]⟩,
  ⟨"TRF_METER0", 0x388000, [⟨0, 4096, 0x20⟩], [⟨0, 32, .rw, 0⟩]⟩,
  ⟨"TRF_METER1", 0x388004, [⟨0, 4096, 0x20⟩], [⟨0, 32, .rw, 0⟩]⟩,
  ⟨"TRF_METER2", 0x388008, [⟨0, 4096, 0x20⟩], [⟨0, 24, .rw, 0⟩]⟩,
  ⟨"TRF_METER3", 0x38800C, [⟨0, 4096, 0x20⟩], [⟨0, 24, .rw, 0⟩]⟩,
  ⟨"TRF_METER4", 0x388010, [⟨0, 4096, 0x20⟩], [⟨1, 1, .rw, 0⟩, ⟨0, 1, .rw, 0⟩]⟩,
  ⟨"TRF_METER5", 0x388014, [⟨0, 4096, 0x20⟩], [⟨0, 32, .rw, 0⟩]⟩,
  ⟨"TRF_METER6", 0x388018, [⟨0, 4096, 0x20⟩], [⟨0, 32, .rw, 0⟩]⟩,
  ⟨"TRF_METER7", 0x38801C, [⟨0, 4096, 0x20⟩], [⟨0, 32, .rw, 0⟩]⟩]

/-- All registers of the TRF range. -/
def regsTrf : List RegRow := regsTrfA ++ regsTrfB

/-- Registers of the HWD range, 0x400000 to 0x400100. -/
def regsHwdA : List RegRow := [
  ⟨"HWD_STATUS", 0x400000, [], [⟨31, 1, .ro, 0⟩, ⟨30, 1, .ro, 0⟩, ⟨20, 5, .ro, 0⟩, ⟨0, 2, .ro, 0⟩]⟩,
  ⟨"HWD_GEN", 0x400004, [], [⟨9, 2, .ro, 0⟩, ⟨8, 1, .ro, 0⟩, ⟨2, 2, .ro, 0⟩, ⟨0, 2, .ro, 0⟩]⟩,
  ⟨"HWD_REMASK", 0x400008, [], [⟨0, 14, .rw, 250⟩]⟩,
  ⟨"HWD_STAT", 0x400010, [], [⟨8, 1, .w1c, 0⟩, ⟨7, 1, .w1c, 0⟩, ⟨6, 1, .w1c, 0⟩, ⟨5, 1, .w1c, 0⟩, ⟨4, 1, .w1c, 0⟩, ⟨3, 1, .w1c, 0⟩, ⟨2, 1, .w1c, 0⟩, ⟨1, 1, .w1c, 0⟩, ⟨0, 1, .w1c, 0⟩]⟩,
  ⟨"HWD_MASK", 0x400014, [], [⟨0, 9, .rw, 511⟩]⟩,
  ⟨"HWD_EVCNT", 0x400018, [], [⟨24, 8, .rw, 0⟩, ⟨16, 8, .rw, 0⟩, ⟨8, 8, .rw, 0⟩, ⟨0, 8, .rw, 0⟩]⟩,
  ⟨"HWD_SWEEP_CFG", 0x400020, [], [⟨0, 20, .rw, 0x186a0⟩]⟩,
  ⟨"HWD_SWEEP_POS", 0x400024, [], [⟨0, 18, .ro, 0⟩]⟩,
  ⟨"HWD_SWEEP_LAST_BAD", 0x400028, [], [⟨0, 17, .ro, 0⟩]⟩,
  ⟨"HWD_GROUP_SLOT", 0x40002C, [], [⟨6, 1, .rw, 0⟩, ⟨0, 6, .rw, 0⟩]⟩,
  ⟨"HWD_BLOB_BASE_LO", 0x400030, [⟨0, 2, 0x8⟩], [⟨0, 32, .rw, 0⟩]⟩,
  ⟨"HWD_BLOB_BASE_HI", 0x400034, [⟨0, 2, 0x8⟩], [⟨0, 32, .rw, 0⟩]⟩,
  ⟨"HWD_BLOB_CFG", 0x400040, [], [⟨0, 1, .rw, 0⟩]⟩,
  ⟨"HWD_BLOB_SERIAL", 0x400044, [], [⟨0, 32, .ro, 0⟩]⟩,
  ⟨"HWD_CACHE_USED", 0x400048, [], [⟨0, 15, .ro, 0⟩]⟩,
  ⟨"HWD_DRBG", 0x40004C, [], [⟨0, 1, .ro, 0⟩]⟩,
  ⟨"HWD_ENGINE", 0x400050, [], [⟨8, 2, .ro, 3⟩, ⟨0, 8, .ro, 255⟩]⟩,
  ⟨"HWD_CACHE_HIT_CNT", 0x400060, [], [⟨0, 32, .rw, 0⟩]⟩,
  ⟨"HWD_CACHE_MISS_CNT", 0x400064, [], [⟨0, 32, .rw, 0⟩]⟩,
  ⟨"HWD_BLOB_BAD_CNT", 0x400068, [], [⟨0, 32, .rw, 0⟩]⟩,
  ⟨"HWD_USAGE_ERR_CNT", 0x40006C, [], [⟨0, 32, .rw, 0⟩]⟩,
  ⟨"HWD_DIGEST", 0x400080, [⟨0, 8, 0x4⟩], [⟨0, 32, .ro, 0⟩]⟩,
  ⟨"HWD_DIGEST_NEXT", 0x4000A0, [⟨0, 8, 0x4⟩], [⟨0, 32, .ro, 0⟩]⟩,
  ⟨"HWD_CMD", 0x400100, [⟨0, 2, 0x40⟩], [⟨31, 1, .w1s, 0⟩, ⟨30, 1, .ro, 0⟩, ⟨16, 6, .rw, 0⟩, ⟨0, 8, .rw, 0⟩]⟩]

/-- Registers of the HWD range, 0x400104 to 0x401004. -/
def regsHwdB : List RegRow := [
  ⟨"HWD_CMD_ARG", 0x400104, [⟨0, 2, 0x40⟩], [⟨24, 8, .rw, 0⟩, ⟨0, 17, .rw, 0⟩]⟩,
  ⟨"HWD_CMD_CNT", 0x400108, [⟨0, 2, 0x40⟩], [⟨0, 13, .rw, 0⟩]⟩,
  ⟨"HWD_CMD_BUF_LO", 0x40010C, [⟨0, 2, 0x40⟩], [⟨0, 32, .rw, 0⟩]⟩,
  ⟨"HWD_CMD_BUF_HI", 0x400110, [⟨0, 2, 0x40⟩], [⟨0, 32, .rw, 0⟩]⟩,
  ⟨"HWD_CMD_RESULT", 0x400114, [⟨0, 2, 0x40⟩], [⟨31, 1, .ro, 0⟩, ⟨24, 7, .ro, 0⟩, ⟨0, 13, .ro, 0⟩]⟩,
  ⟨"HWD_CMD_DONE_CNT", 0x400118, [⟨0, 2, 0x40⟩], [⟨0, 32, .rw, 0⟩]⟩,
  ⟨"HWD_MEAS", 0x400200, [⟨0, 5, 0x20⟩, ⟨0, 8, 0x4⟩], [⟨0, 32, .ro, 0⟩]⟩,
  ⟨"HWD_SIG_STAT", 0x400300, [], [⟨4, 1, .w1c, 0⟩, ⟨3, 1, .w1c, 0⟩, ⟨2, 1, .w1c, 0⟩, ⟨1, 1, .w1c, 0⟩, ⟨0, 1, .w1c, 0⟩]⟩,
  ⟨"HWD_SIG_MASK", 0x400304, [], [⟨0, 5, .rw, 31⟩]⟩,
  ⟨"HWD_SIG_EVCNT", 0x400308, [], [⟨16, 8, .rw, 0⟩, ⟨8, 8, .rw, 0⟩, ⟨0, 8, .rw, 0⟩]⟩,
  ⟨"HWD_KU_COUNTER_LO", 0x400310, [], [⟨0, 32, .ro, 0⟩]⟩,
  ⟨"HWD_KU_COUNTER_HI", 0x400314, [], [⟨0, 32, .ro, 0⟩]⟩,
  ⟨"HWD_XMSS_NEXT_LO", 0x400318, [], [⟨0, 32, .ro, 0⟩]⟩,
  ⟨"HWD_XMSS_NEXT_HI", 0x40031C, [], [⟨0, 8, .ro, 0⟩]⟩,
  ⟨"HWD_XMSS_RESV_LO", 0x400320, [], [⟨0, 32, .ro, 0⟩]⟩,
  ⟨"HWD_XMSS_RESV_HI", 0x400324, [], [⟨0, 8, .ro, 0⟩]⟩,
  ⟨"HWD_SIGN_CFG", 0x400328, [], [⟨24, 8, .ro, 64⟩, ⟨0, 7, .rw, 10⟩]⟩,
  ⟨"HWD_KU_LAST", 0x40032C, [], [⟨24, 8, .ro, 0⟩, ⟨16, 7, .ro, 0⟩, ⟨8, 6, .ro, 0⟩]⟩,
  ⟨"HWD_OPKEY", 0x400330, [], [⟨4, 4, .ro, 0⟩, ⟨0, 2, .ro, 0⟩]⟩,
  ⟨"HWD_DEVICE_ID", 0x400340, [⟨0, 8, 0x4⟩], [⟨0, 32, .ro, 0⟩]⟩,
  ⟨"HWD_SLOT_ATTR", 0x401000, [⟨0, 64, 0x8⟩], [⟨31, 1, .ro, 0⟩, ⟨28, 2, .ro, 0⟩, ⟨27, 1, .ro, 0⟩, ⟨24, 2, .ro, 0⟩, ⟨0, 14, .ro, 0⟩]⟩,
  ⟨"HWD_SLOT_EXP", 0x401004, [⟨0, 64, 0x8⟩], [⟨0, 32, .ro, 0⟩]⟩]

/-- All registers of the HWD range. -/
def regsHwd : List RegRow := regsHwdA ++ regsHwdB

/-- Registers of the BRK range, 0x420000 to 0x420140. -/
def regsBrk : List RegRow := [
  ⟨"BRK_LC", 0x420000, [], [⟨8, 3, .ro, 0⟩, ⟨0, 3, .ro, 0⟩]⟩,
  ⟨"BRK_STATUS", 0x420004, [], [⟨31, 1, .ro, 0⟩, ⟨30, 1, .ro, 1⟩, ⟨0, 10, .ro, 0⟩]⟩,
  ⟨"BRK_STAT", 0x420010, [], [⟨5, 1, .w1c, 0⟩, ⟨4, 1, .w1c, 0⟩, ⟨3, 1, .w1c, 0⟩, ⟨2, 1, .w1c, 0⟩, ⟨1, 1, .w1c, 0⟩, ⟨0, 1, .w1c, 0⟩]⟩,
  ⟨"BRK_MASK", 0x420014, [], [⟨0, 6, .rw, 63⟩]⟩,
  ⟨"BRK_EVCNT", 0x420018, [], [⟨24, 8, .rw, 0⟩, ⟨16, 8, .rw, 0⟩, ⟨8, 8, .rw, 0⟩, ⟨0, 8, .rw, 0⟩]⟩,
  ⟨"BRK_LAST", 0x420020, [], [⟨28, 4, .ro, 0⟩, ⟨26, 2, .ro, 0⟩, ⟨24, 2, .ro, 0⟩, ⟨0, 12, .ro, 0⟩]⟩,
  ⟨"BRK_TAMPER_CNT", 0x420024, [], [⟨0, 32, .ro, 0⟩]⟩,
  ⟨"BRK_HOLD_CNT", 0x420028, [], [⟨0, 32, .ro, 0⟩]⟩,
  ⟨"BRK_CTL", 0x42002C, [], [⟨3, 1, .w1s, 0⟩, ⟨2, 1, .w1s, 0⟩, ⟨1, 1, .w1s, 0⟩, ⟨0, 1, .rwo, 0⟩]⟩,
  ⟨"BRK_LC_ADDR_LO", 0x420030, [], [⟨0, 32, .rw, 0⟩]⟩,
  ⟨"BRK_LC_ADDR_HI", 0x420034, [], [⟨0, 32, .rw, 0⟩]⟩,
  ⟨"BRK_LC_RESULT", 0x420038, [], [⟨31, 1, .ro, 0⟩, ⟨24, 7, .ro, 0⟩, ⟨0, 3, .ro, 0⟩]⟩,
  ⟨"BRK_LC_NONCE", 0x420040, [⟨0, 8, 0x4⟩], [⟨0, 32, .ro, 0⟩]⟩,
  ⟨"BRK_SENSOR_CFG", 0x420100, [⟨0, 10, 0x4⟩], [⟨31, 1, .ro, 0⟩, ⟨0, 2, .rw, 0⟩]⟩,
  ⟨"BRK_SENSOR_CNT", 0x420140, [⟨0, 10, 0x4⟩], [⟨0, 32, .rw, 0⟩]⟩]

/-- Registers of the GRF range, 0x440000 to 0x4400E0. -/
def regsGrfA : List RegRow := [
  ⟨"GRF_STATUS", 0x440000, [], [⟨8, 4, .ro, 0⟩, ⟨0, 3, .ro, 0⟩]⟩,
  ⟨"GRF_BOOT", 0x440004, [], [⟨16, 3, .ro, 0⟩, ⟨1, 5, .ro, 0⟩]⟩,
  ⟨"GRF_STAT", 0x440010, [], [⟨7, 1, .w1c, 0⟩, ⟨6, 1, .w1c, 0⟩, ⟨5, 1, .w1c, 0⟩, ⟨4, 1, .w1c, 0⟩, ⟨3, 1, .w1c, 0⟩, ⟨2, 1, .w1c, 0⟩, ⟨1, 1, .w1c, 0⟩, ⟨0, 1, .w1c, 0⟩]⟩,
  ⟨"GRF_MASK", 0x440014, [], [⟨0, 8, .rw, 255⟩]⟩,
  ⟨"GRF_EVCNT", 0x440018, [], [⟨24, 8, .rw, 0⟩, ⟨16, 8, .rw, 0⟩, ⟨8, 8, .rw, 0⟩, ⟨0, 8, .rw, 0⟩]⟩,
  ⟨"GRF_CTL", 0x440020, [], [⟨6, 1, .rw, 0⟩, ⟨5, 1, .rw, 0⟩, ⟨4, 1, .w1s, 0⟩, ⟨3, 1, .w1s, 0⟩, ⟨1, 1, .w1s, 0⟩, ⟨0, 1, .w1s, 0⟩]⟩,
  ⟨"GRF_PLAN", 0x440024, [], [⟨1, 5, .rw, 0⟩]⟩,
  ⟨"GRF_RESULT", 0x440028, [], [⟨8, 3, .ro, 0⟩, ⟨0, 8, .ro, 0⟩]⟩,
  ⟨"GRF_READY", 0x44002C, [], [⟨1, 5, .ro, 0⟩]⟩,
  ⟨"GRF_RELAY_CFG", 0x440030, [], [⟨16, 16, .rw, 500⟩, ⟨8, 6, .rw, 2⟩, ⟨4, 1, .rw, 0⟩]⟩,
  ⟨"GRF_RELAY_UP", 0x440034, [], [⟨0, 32, .rw, 0⟩]⟩,
  ⟨"GRF_RELAY_UP_HI", 0x440038, [], [⟨0, 32, .rw, 0⟩]⟩,
  ⟨"GRF_RELAY_PEER", 0x440040, [⟨0, 4, 0x4⟩], [⟨7, 1, .rw, 0⟩, ⟨0, 6, .rw, 0⟩]⟩,
  ⟨"GRF_STAGE_BASE_LO", 0x440050, [], [⟨0, 32, .rw, 0⟩]⟩,
  ⟨"GRF_STAGE_BASE_HI", 0x440054, [], [⟨0, 32, .rw, 0⟩]⟩,
  ⟨"GRF_STAGE_SIZE", 0x440058, [], [⟨0, 28, .rw, 0⟩]⟩,
  ⟨"GRF_GRAFT_ID", 0x44005C, [], [⟨0, 32, .ro, 0⟩]⟩,
  ⟨"GRF_PROGRESS", 0x440060, [], [⟨0, 32, .ro, 0⟩]⟩,
  ⟨"GRF_POLLEN_CFG", 0x440064, [], [⟨16, 6, .rw, 0⟩, ⟨0, 16, .rw, 0⟩]⟩,
  ⟨"GRF_CONFLICT", 0x440068, [], [⟨0, 32, .ro, 0⟩]⟩,
  ⟨"GRF_SLOT", 0x440080, [⟨1, 5, 0x4⟩], [⟨4, 3, .ro, 0⟩, ⟨2, 1, .ro, 0⟩, ⟨1, 1, .ro, 0⟩, ⟨0, 1, .ro, 0⟩]⟩,
  ⟨"GRF_FLOOR", 0x4400A0, [⟨1, 5, 0x4⟩], [⟨0, 32, .ro, 0⟩]⟩,
  ⟨"GRF_RESET_LIST", 0x4400C0, [⟨0, 8, 0x4⟩], [⟨0, 32, .ro, 0⟩]⟩,
  ⟨"GRF_PIECE_BAD_CNT", 0x4400E0, [], [⟨0, 32, .rw, 0⟩]⟩]

/-- Registers of the GRF range, 0x4400E4 to 0x4400E8. -/
def regsGrfB : List RegRow := [
  ⟨"GRF_RELAYED_CNT", 0x4400E4, [], [⟨0, 32, .rw, 0⟩]⟩,
  ⟨"GRF_POLLEN_CNT", 0x4400E8, [], [⟨0, 32, .rw, 0⟩]⟩]

/-- All registers of the GRF range. -/
def regsGrf : List RegRow := regsGrfA ++ regsGrfB

/-- Registers of the GRV range, 0x460000 to 0x46101C. -/
def regsGrv : List RegRow := [
  ⟨"GRV_CFG", 0x460000, [], [⟨31, 1, .rw, 0⟩, ⟨24, 2, .rw, 2⟩, ⟨16, 3, .rw, 0⟩, ⟨8, 6, .rw, 0⟩, ⟨0, 6, .rw, 0⟩]⟩,
  ⟨"GRV_GROVE_ID", 0x460004, [], [⟨0, 32, .rw, 0⟩]⟩,
  ⟨"GRV_PORT", 0x460008, [], [⟨0, 16, .rw, 0xbb8b⟩]⟩,
  ⟨"GRV_HB_CFG", 0x46000C, [], [⟨31, 1, .rw, 0⟩, ⟨16, 4, .rw, 6⟩, ⟨0, 16, .rw, 50⟩]⟩,
  ⟨"GRV_STAT", 0x460010, [], [⟨8, 1, .w1c, 0⟩, ⟨7, 1, .w1c, 0⟩, ⟨6, 1, .w1c, 0⟩, ⟨5, 1, .w1c, 0⟩, ⟨4, 1, .w1c, 0⟩, ⟨3, 1, .w1c, 0⟩, ⟨2, 1, .w1c, 0⟩, ⟨1, 1, .w1c, 0⟩, ⟨0, 1, .w1c, 0⟩]⟩,
  ⟨"GRV_MASK", 0x460014, [], [⟨0, 9, .rw, 511⟩]⟩,
  ⟨"GRV_EVCNT", 0x460018, [], [⟨24, 8, .rw, 0⟩, ⟨16, 8, .rw, 0⟩, ⟨8, 8, .rw, 0⟩, ⟨0, 8, .rw, 0⟩]⟩,
  ⟨"GRV_RANK2_MS", 0x46001C, [], [⟨0, 16, .rw, 1000⟩]⟩,
  ⟨"GRV_ADOPT_DUE_LO", 0x460020, [], [⟨0, 32, .w1c, 0⟩]⟩,
  ⟨"GRV_ADOPT_DUE_HI", 0x460024, [], [⟨0, 32, .w1c, 0⟩]⟩,
  ⟨"GRV_CONFLICT", 0x460028, [], [⟨0, 32, .ro, 0⟩]⟩,
  ⟨"GRV_SRC_ADDR", 0x460030, [⟨0, 4, 0x4⟩], [⟨0, 32, .rw, 0⟩]⟩,
  ⟨"GRV_HB_TX_CNT", 0x460040, [], [⟨0, 32, .rw, 0⟩]⟩,
  ⟨"GRV_HB_RX_CNT", 0x460044, [], [⟨0, 32, .rw, 0⟩]⟩,
  ⟨"GRV_DROP_CNT", 0x460048, [], [⟨0, 32, .rw, 0⟩]⟩,
  ⟨"GRV_PEER_CFG", 0x461000, [⟨0, 64, 0x20⟩], [⟨31, 1, .rw, 0⟩, ⟨28, 2, .rw, 0⟩, ⟨16, 12, .rw, 0⟩, ⟨0, 16, .rw, 0⟩]⟩,
  ⟨"GRV_PEER_MAC_LO", 0x461004, [⟨0, 64, 0x20⟩], [⟨0, 32, .rw, 0⟩]⟩,
  ⟨"GRV_PEER_ADDR", 0x461008, [⟨0, 64, 0x20⟩, ⟨0, 4, 0x4⟩], [⟨0, 32, .rw, 0⟩]⟩,
  ⟨"GRV_PEER_STATUS", 0x461018, [⟨0, 64, 0x20⟩], [⟨29, 3, .ro, 0⟩, ⟨26, 2, .ro, 0⟩, ⟨25, 1, .ro, 0⟩, ⟨16, 8, .ro, 0⟩, ⟨0, 4, .ro, 0⟩]⟩,
  ⟨"GRV_PEER_SEQ", 0x46101C, [⟨0, 64, 0x20⟩], [⟨0, 32, .ro, 0⟩]⟩]

/-- Registers of the ETH range, 0x500000 to 0x500100. -/
def regsEth : List RegRow := [
  ⟨"ETH_CFG", 0x500000, [⟨0, 4, 0x10000⟩], [⟨28, 3, .rw, 0⟩, ⟨16, 12, .rw, 1⟩, ⟨2, 1, .rw, 0⟩, ⟨0, 2, .rw, 0⟩]⟩,
  ⟨"ETH_MAXFRAME", 0x500004, [⟨0, 4, 0x10000⟩], [⟨0, 14, .rw, 9728⟩]⟩,
  ⟨"ETH_STATUS", 0x500008, [⟨0, 4, 0x10000⟩], [⟨5, 1, .ro, 0⟩, ⟨4, 1, .ro, 0⟩, ⟨3, 1, .ro, 0⟩, ⟨2, 1, .ro, 0⟩, ⟨1, 1, .ro, 0⟩, ⟨0, 1, .ro, 0⟩]⟩,
  ⟨"ETH_STAT", 0x500010, [⟨0, 4, 0x10000⟩], [⟨3, 1, .w1c, 0⟩, ⟨2, 1, .w1c, 0⟩, ⟨1, 1, .w1c, 0⟩, ⟨0, 1, .w1c, 0⟩]⟩,
  ⟨"ETH_MASK", 0x500014, [⟨0, 4, 0x10000⟩], [⟨0, 4, .rw, 15⟩]⟩,
  ⟨"ETH_EVCNT", 0x500018, [⟨0, 4, 0x10000⟩], [⟨8, 8, .rw, 0⟩, ⟨0, 8, .rw, 0⟩]⟩,
  ⟨"ETH_RX_FRAMES", 0x500020, [⟨0, 4, 0x10000⟩], [⟨0, 32, .rw, 0⟩]⟩,
  ⟨"ETH_TX_FRAMES", 0x500024, [⟨0, 4, 0x10000⟩], [⟨0, 32, .rw, 0⟩]⟩,
  ⟨"ETH_RX_DROP_CNT", 0x500028, [⟨0, 4, 0x10000⟩], [⟨0, 32, .rw, 0⟩]⟩,
  ⟨"ETH_FCS_ERR_CNT", 0x50002C, [⟨0, 4, 0x10000⟩], [⟨0, 32, .rw, 0⟩]⟩,
  ⟨"ETH_OVERSIZE_CNT", 0x500030, [⟨0, 4, 0x10000⟩], [⟨0, 32, .rw, 0⟩]⟩,
  ⟨"ETH_FEC_CORR_CNT", 0x500034, [⟨0, 4, 0x10000⟩], [⟨0, 32, .rw, 0⟩]⟩,
  ⟨"ETH_FEC_UNCORR_CNT", 0x500038, [⟨0, 4, 0x10000⟩], [⟨0, 32, .rw, 0⟩]⟩,
  ⟨"ETH_WAKE_CFG", 0x500060, [⟨0, 4, 0x10000⟩], [⟨0, 1, .rw, 0⟩]⟩,
  ⟨"ETH_WAKE_PAT", 0x500064, [⟨0, 4, 0x10000⟩, ⟨0, 4, 0x4⟩], [⟨0, 32, .rw, 0⟩]⟩,
  ⟨"ETH_WAKE_MASK", 0x500074, [⟨0, 4, 0x10000⟩, ⟨0, 4, 0x4⟩], [⟨0, 32, .rw, 0⟩]⟩,
  ⟨"ETH_VLAN_MEMB", 0x500100, [⟨0, 4, 0x10000⟩, ⟨0, 128, 0x4⟩], [⟨0, 32, .rw, 0⟩]⟩]

/-- Registers of the DDR range, 0x580000 to 0x580038. -/
def regsDdr : List RegRow := [
  ⟨"DDR_CFG", 0x580000, [], [⟨8, 2, .ro, 0⟩, ⟨0, 2, .ro, 0⟩]⟩,
  ⟨"DDR_SIZE", 0x580004, [], [⟨0, 16, .ro, 0⟩]⟩,
  ⟨"DDR_STAT", 0x580010, [], [⟨2, 1, .w1c, 0⟩, ⟨1, 1, .w1c, 0⟩, ⟨0, 1, .w1c, 0⟩]⟩,
  ⟨"DDR_MASK", 0x580014, [], [⟨0, 3, .rw, 7⟩]⟩,
  ⟨"DDR_CE_CNT", 0x580020, [], [⟨0, 32, .rw, 0⟩]⟩,
  ⟨"DDR_UE_CNT", 0x580024, [], [⟨0, 32, .rw, 0⟩]⟩,
  ⟨"DDR_UE_ADDR_LO", 0x580028, [], [⟨0, 32, .ro, 0⟩]⟩,
  ⟨"DDR_UE_ADDR_HI", 0x58002C, [], [⟨0, 32, .ro, 0⟩]⟩,
  ⟨"DDR_BOARD_ADDR_LO", 0x580030, [], [⟨0, 32, .rw, 0⟩]⟩,
  ⟨"DDR_BOARD_ADDR_HI", 0x580034, [], [⟨0, 32, .rw, 0⟩]⟩,
  ⟨"DDR_BOARD_CTL", 0x580038, [], [⟨0, 1, .w1s, 0⟩]⟩]

/-- Registers of the XSP range, 0x5A0000 to 0x5A0024. -/
def regsXsp : List RegRow := [
  ⟨"XSP_CMD", 0x5A0000, [], [⟨31, 1, .w1s, 0⟩, ⟨30, 1, .ro, 0⟩, ⟨0, 2, .rw, 0⟩]⟩,
  ⟨"XSP_ADDR", 0x5A0004, [], [⟨0, 32, .rw, 0⟩]⟩,
  ⟨"XSP_LEN", 0x5A0008, [], [⟨0, 24, .rw, 0⟩]⟩,
  ⟨"XSP_BUF_LO", 0x5A000C, [], [⟨0, 32, .rw, 0⟩]⟩,
  ⟨"XSP_BUF_HI", 0x5A0010, [], [⟨0, 32, .rw, 0⟩]⟩,
  ⟨"XSP_RESULT", 0x5A0014, [], [⟨31, 1, .ro, 0⟩, ⟨0, 3, .ro, 0⟩]⟩,
  ⟨"XSP_STAT", 0x5A0020, [], [⟨1, 1, .w1c, 0⟩, ⟨0, 1, .w1c, 0⟩]⟩,
  ⟨"XSP_MASK", 0x5A0024, [], [⟨0, 2, .rw, 3⟩]⟩]

/-- Registers of the TPR range, 0x5C0000 to 0x5C0130. -/
def regsTpr : List RegRow := [
  ⟨"TPR_ID", 0x5C0000, [], [⟨16, 16, .ro, 0x7160⟩, ⟨0, 16, .ro, 7946⟩]⟩,
  ⟨"TPR_LINK", 0x5C0004, [], [⟨8, 2, .ro, 0⟩, ⟨4, 4, .ro, 0⟩, ⟨0, 4, .ro, 0⟩]⟩,
  ⟨"TPR_STAT", 0x5C0010, [], [⟨1, 1, .w1c, 0⟩, ⟨0, 1, .w1c, 0⟩]⟩,
  ⟨"TPR_MASK", 0x5C0014, [], [⟨0, 2, .rw, 3⟩]⟩,
  ⟨"TPR_BAR2_WIN", 0x5C0020, [], [⟨0, 3, .rw, 0⟩]⟩,
  ⟨"TPR_COAL", 0x5C0024, [], [⟨0, 16, .rw, 20⟩]⟩,
  ⟨"TPR_BAR2_OOR_CNT", 0x5C0028, [], [⟨0, 32, .rw, 0⟩]⟩,
  ⟨"TPR_MB_VER", 0x5C0030, [], [⟨31, 1, .ro, 0⟩, ⟨8, 8, .ro, 0⟩, ⟨0, 8, .ro, 0⟩]⟩,
  ⟨"TPR_MB_TP_BASE_LO", 0x5C0100, [], [⟨0, 32, .rw, 0⟩]⟩,
  ⟨"TPR_MB_TP_BASE_HI", 0x5C0104, [], [⟨0, 32, .rw, 0⟩]⟩,
  ⟨"TPR_MB_TP_CFG", 0x5C0108, [], [⟨31, 1, .rw, 0⟩, ⟨0, 4, .rw, 4⟩]⟩,
  ⟨"TPR_MB_TP_HEAD", 0x5C010C, [], [⟨0, 12, .rw, 0⟩]⟩,
  ⟨"TPR_MB_TP_TAIL", 0x5C0110, [], [⟨0, 12, .ro, 0⟩]⟩,
  ⟨"TPR_MB_TH_BASE_LO", 0x5C0120, [], [⟨0, 32, .rw, 0⟩]⟩,
  ⟨"TPR_MB_TH_BASE_HI", 0x5C0124, [], [⟨0, 32, .rw, 0⟩]⟩,
  ⟨"TPR_MB_TH_CFG", 0x5C0128, [], [⟨31, 1, .rw, 0⟩, ⟨0, 4, .rw, 4⟩]⟩,
  ⟨"TPR_MB_TH_HEAD", 0x5C012C, [], [⟨0, 12, .ro, 0⟩]⟩,
  ⟨"TPR_MB_TH_TAIL", 0x5C0130, [], [⟨0, 12, .rw, 0⟩]⟩]

/-- Registers of the MON range, 0x5E0000 to 0x5E0028. -/
def regsMon : List RegRow := [
  ⟨"MON_STATUS", 0x5E0000, [], [⟨31, 1, .ro, 0⟩, ⟨30, 1, .ro, 0⟩, ⟨29, 1, .ro, 0⟩, ⟨0, 16, .ro, 0⟩]⟩,
  ⟨"MON_BAUD", 0x5E0004, [], [⟨0, 32, .ro, 0x1c200⟩]⟩,
  ⟨"MON_STAT", 0x5E0010, [], [⟨3, 1, .w1c, 0⟩, ⟨2, 1, .w1c, 0⟩, ⟨1, 1, .w1c, 0⟩, ⟨0, 1, .w1c, 0⟩]⟩,
  ⟨"MON_MASK", 0x5E0014, [], [⟨0, 4, .rw, 15⟩]⟩,
  ⟨"MON_EVCNT", 0x5E0018, [], [⟨8, 8, .rw, 0⟩, ⟨0, 8, .rw, 0⟩]⟩,
  ⟨"MON_CTL", 0x5E0020, [], [⟨1, 1, .rwo, 0⟩, ⟨0, 1, .w1s, 0⟩]⟩,
  ⟨"MON_AUTH_FAIL_CNT", 0x5E0024, [], [⟨0, 32, .rw, 0⟩]⟩,
  ⟨"MON_CMD_CNT", 0x5E0028, [], [⟨0, 32, .rw, 0⟩]⟩]

/-- The registers of the BAR0 range an offset lies in (R23). -/
def regsNear (off : Nat) : List RegRow :=

  if off < 0x20000 then regsGlb
  else if 0x20000 ≤ off ∧ off < 0x40000 then regsStp
  else if 0x40000 ≤ off ∧ off < 0x60000 then regsPwr
  else if 0x60000 ≤ off ∧ off < 0x80000 then regsPrn
  else if 0x80000 ≤ off ∧ off < 0x90000 then regsTmb
  else if 0x90000 ≤ off ∧ off < 0xA0000 then regsTmu
  else if 0xA0000 ≤ off ∧ off < 0xB0000 then regsPin
  else if 0x100000 ≤ off ∧ off < 0x140000 then regsCnp
  else if 0x140000 ≤ off ∧ off < 0x180000 then regsChz
  else if 0x180000 ≤ off ∧ off < 0x1C0000 then regsSpc
  else if 0x1C0000 ≤ off ∧ off < 0x200000 then regsLne
  else if 0x200000 ≤ off ∧ off < 0x240000 then regsTxl
  else if 0x240000 ≤ off ∧ off < 0x280000 then regsRgp
  else if 0x280000 ≤ off ∧ off < 0x300000 then regsSse
  else if 0x300000 ≤ off ∧ off < 0x340000 then regsLft
  else if 0x340000 ≤ off ∧ off < 0x360000 then regsLrn
  else if 0x360000 ≤ off ∧ off < 0x380000 then regsBgh
  else if 0x380000 ≤ off ∧ off < 0x400000 then regsTrf
  else if 0x400000 ≤ off ∧ off < 0x420000 then regsHwd
  else if 0x420000 ≤ off ∧ off < 0x440000 then regsBrk
  else if 0x440000 ≤ off ∧ off < 0x460000 then regsGrf
  else if 0x460000 ≤ off ∧ off < 0x480000 then regsGrv
  else if 0x500000 ≤ off ∧ off < 0x540000 then regsEth
  else if 0x580000 ≤ off ∧ off < 0x5A0000 then regsDdr
  else if 0x5A0000 ≤ off ∧ off < 0x5C0000 then regsXsp
  else if 0x5C0000 ≤ off ∧ off < 0x5E0000 then regsTpr
  else if 0x5E0000 ≤ off ∧ off < 0x600000 then regsMon
  else []

end Sys2Proof.Machine
end

