-- ==== Sys2Proof/Machine/State.lean ====
section
/-!
DEFINITION. The state of the BX7160: every register (one sparse register file, keyed by BAR0
offset), every table, queue, counter, mode and pin the manual gives the part, and the queue of
waiting commands.  Plain data throughout.
-/

namespace Sys2Proof.Machine

/-- Reasons a step stops with a fault.  There are none: the manual gives every command of the table
an effect, and an access the part turns away has the effect R5, R8, R25 or R372 states. -/
inductive Fault where
  deriving DecidableEq, Repr

/-- Reasons a step is refused. -/
inductive Refusal where
  /-- Raised by a dispatch arm whose command has no meaning yet.  Safe: nothing can be proved of
  what follows. -/
  | notModelled (mnemonic : String)
  deriving DecidableEq, Repr

/-- Power state of a domain (R364); the last four are the transitions. -/
inductive DomState where
  | off | ret | on | toOff | toRet | offToOn | retToOn
  deriving DecidableEq, Repr

/-- One power domain: its state, and whether a wake waits for an entry to complete (R365). -/
structure Domain where
  st : DomState := .on
  wake : Bool := false
  deriving DecidableEq, Repr

/-- An access to a BAR0 offset, a DRAM address or a table address: initiator as PWR_FENCE_STAT
codes it (0 PCIe, 1 to 4 Crown cores, 5 table DMA, 6 other hardware); a read of fewer bytes than a word keeps the
lowest bit and the number of bits it returns (R5). -/
structure Stalled where
  domain : Nat
  acc : Access
  narrow : Option (Nat × Nat) := none
  deriving DecidableEq, Repr

/-- A hold of R371 for one cell: a key for the cell and the domains it keeps ON. -/
structure CellHold where
  key : Nat
  doms : List Nat
  deriving DecidableEq, Repr

/-- Where an operating-point change stands (R375). -/
inductive OpPhase where
  | idle
  | raiseSettling (target : Nat)
  | raisePace (target : Nat)
  deriving DecidableEq, Repr

/-- The power manager (R364 to R382). A domain that is not listed is ON (R366). `paced` says that the pace monitors have
made an update since the release (R449). The always-on counter counts 32.768 kHz; aonPart counts the time-island ticks
of its present period. -/
structure PowerState where
  doms : Tab Domain := []
  wakeHolds : List Nat := []
  cellHolds : List CellHold := []
  stalled : List Stalled := []
  wakeL : Bool := false
  opPhase : OpPhase := .idle
  opWaiting : Option Nat := none
  avsFailed : Bool := false
  budOpen : Bool := false
  crownIrqWaiting : List Nat := []
  budgetSet : Bool := false
  aonTicks : Nat := 0
  aonPart : Nat := 0
  lateRates : List Nat := []
  starts : Tab Nat := []
  paced : Bool := false
  deriving DecidableEq, Repr

/-- BAND record of a plan (R33). -/
structure BandRec where
  window : Nat
  enable : Nat
  binCode : Nat
  centre : Nat
  width : Nat
  chainMask : Nat
  deriving DecidableEq, Repr

/-- BINS record of a plan (R33). -/
structure BinsRec where
  window : Nat
  beams : Nat
  first : Nat
  count : Nat
  deriving DecidableEq, Repr

/-- LANE record of a plan (R33). -/
structure LaneRec where
  pool : Nat
  format : Nat
  modeMask : Nat
  counts : List Nat
  deriving DecidableEq, Repr

/-- QTREE record of a plan (R231). -/
structure QtreeRec where
  bytes : List Byte
  deriving DecidableEq, Repr

/-- POWER record of a plan (R366). -/
structure PowerRec where
  domain : Nat
  floor : Nat
  autowake : Nat
  idleUs : Nat
  deriving DecidableEq, Repr

/-- OWN record of a plan (R39). -/
structure OwnRec where
  resClass : Nat
  first : Nat
  count : Nat
  owner : Nat
  deriving DecidableEq, Repr

/-- Directory facts of a region that enter a measurement (R37): type, record version, digest. -/
structure RegionId where
  type : Nat
  recVer : Nat
  digest : List Byte
  deriving DecidableEq, Repr

/-- A parsed stand plan (R29 to R35). -/
structure Plan where
  major : Nat := 2
  planId : Nat := 0
  seq : Nat := 0
  signer : Nat := 0
  bands : List BandRec := []
  bins : List BinsRec := []
  lanes : List LaneRec := []
  pbMib : Nat := 16
  qtree : List QtreeRec := []
  tlinks : List (List Byte) := []
  powers : List PowerRec := []
  owns : List OwnRec := []
  fixed : List RegionId := []
  live : List RegionId := []
  skipped : Nat := 0
  bytes : List Byte := []
  deriving DecidableEq, Repr

/-- Phase of a live re-stand (R46), coded as STP_RESULT.phase shows it. -/
inductive RestandPhase where
  | idle | verify | prepare | armed | drain | persisting | done
  deriving DecidableEq, Repr

/-- The stand-plan loader (R29 to R49): the plan in force; of a live re-stand its phase, the container that is
verified, the new plan, the drain timeslot, the affected windows, the lanes to move and those still to join, each
with its target, and whether the update planner runs it. -/
structure StandState where
  inForce : Option Plan := none
  phase : RestandPhase := .idle
  shadow : Option Plan := none
  drainAsn : Nat := 0
  affected : List Nat := []
  lateLanes : List (Nat × Nat) := []
  planned : List (Nat × Nat) := []
  staged : List Byte := []
  planner : Bool := false
  persist : Bool := false
  atAsn : Bool := false
  deriving DecidableEq, Repr

/-- One event of the ring record (R395). -/
structure RrEvent where
  seq : Nat
  code : Nat
  cls : Nat
  flags : Nat
  time : Nat
  unit : Nat
  domain : Nat
  cause : Nat
  data : List Byte
  deriving DecidableEq, Repr

/-- A ring-record flush in an MRAM slot (R399). -/
structure RrFlush where
  magic : List Byte
  version : Nat
  flushSeq : Nat
  head : Nat
  f : Nat
  newest : Nat
  bootCount : Nat
  time : Nat
  events : Tab RrEvent
  crc : Nat
  deriving DecidableEq, Repr

/-- The ring record (R395 to R400). Head, seq, freeze and flush facts stand in the RRC registers. -/
structure RingState where
  events : Tab RrEvent := []
  any : Bool := false
  protFrom : Nat := 0
  protCount : Nat := 0
  flushes : Tab RrFlush := []
  copying : Option Nat := none
  sinceFlush : Bool := true
  deriving DecidableEq, Repr

/-- Poisoned 64-bit words (R390): the memory by its use code (PRN_BANK_MAP.use), the first word from the
start of that memory, and how many. -/
structure PoisonRange where
  use : Nat
  first : Nat
  count : Nat
  deriving DecidableEq, Repr

/-- The prune controller and the SRAM banks (R383 to R394). Pruned units stand in PRN_PRUNED. A bank that is
being copied has the words that will be poisoned; the spare of a bank group is 288 + g where none is listed; a
physical bank serves one less than the number listed for it (0: no bank), else itself, a spare none. Crown cores
that stand at their reset vector after a re-admission are stopped. -/
structure PruneState where
  readmit : Option (Nat × Nat) := none
  bankCopy : Tab (List PoisonRange) := []
  groupSpare : Tab Nat := []
  serves : Tab Nat := []
  poisoned : List PoisonRange := []
  rowErrors : Tab Nat := []
  rowsSpared : Tab Nat := []
  mismatchTimes : List Nat := []
  secRestarting : Bool := false
  stopped : List Nat := []
  deriving DecidableEq, Repr

/-- A monitor session (R403, R404). -/
structure MonSession where
  mask : Nat
  signer : Nat
  ends : Nat
  deriving DecidableEq, Repr

/-- The Preup monitor (R401 to R404). -/
structure MonState where
  session : Option MonSession := none
  nonce : Option (List Byte) := none
  nonceTime : Nat := 0
  failures : Nat := 0
  lockout : Bool := false
  partialFrame : Bool := false
  baudPending : Bool := false
  privOff : Bool := false
  deriving DecidableEq, Repr

/-- The time base and its outputs (R241 to R260). The correction state stands in TMB_STATE. -/
structure TimeState where
  ns : Nat := 0
  frac : Nat := 0
  pendingHi : Option Nat := none
  unfollowed : Bool := false
  otaFreq : Rat := 0
  otaLast : List (Nat × Int) := []
  ppsLast : Int := 0
  ppsOn : Bool := false
  ppsRise : Int := 0
  ppsGap : Bool := false
  tsGap : Bool := false
  deriving DecidableEq, Repr

/-- One MSI-X table entry (R411, R415). -/
structure MsixEntry where
  addr : Nat := 0
  data : Nat := 0
  masked : Bool := true
  deriving DecidableEq, Repr

/-- Taproot: MSI-X, the PCIe link and the mailbox (R411 to R419). -/
structure TaprootState where
  msix : Tab MsixEntry := []
  funcMask : Bool := false
  pba : List Nat := []
  gapRunning : List Nat := []
  coalesced : List Nat := []
  perstLow : Bool := false
  eventSeq : Nat := 0
  fwReported : Option Bool := none
  outbox : List (List Byte) := []
  waiting : List (Nat × List Byte) := []
  deriving DecidableEq, Repr

/-- A flash operation in progress (R424). -/
structure FlashOp where
  op : Nat
  addr : Nat
  len : Nat
  buf : Nat
  deriving DecidableEq, Repr

/-- The ports of the board: DRAM, flash, pins and boundary scan (R420 to R428). -/
structure BoardState where
  flash : Tab Byte := []
  flashOp : Option FlashOp := none
  flashHeld : Bool := false
  octal : Bool := false
  flashMhz : Nat := 25
  dqDrive : Nat := 0
  dqOdt : Nat := 0
  gpioIn : Nat := 0
  tap : Nat := 0
  pfailLow : Bool := false
  porLow : Bool := false
  resetLow : Bool := false
  suppliesGood : Bool := true
  deriving DecidableEq, Repr

/-- What the part shows its surroundings while it carries out one command; air names a limb, its drive in dBm, its complex
weight, and the bits or chips it sends. -/
inductive Output where
  | busError (core : Nat)
  | loadFault (core : Nat)
  | read (value : Word)
  | msix (vector addr data : Nat)
  | crownInterrupt (block : Nat)
  | crownFrame (queue : Nat)
  | wakeL
  | ethernet (port : Nat) (frame : List Byte)
  | air (limb : Nat) (drive : Rat) (weight : Rat × Rat) (sent : List Bool)
  | paEn (limb : Nat) (high : Bool)
  | paBias (limb code : Nat)
  | cxReq (set : Nat) (high : Bool)
  | cxPri (set : Nat) (high : Bool)
  | pps (high : Bool)
  | synce (port div : Nat) (on : Bool)
  | pin (number : Nat) (high : Bool)
  | undriven (number : Nat)
  | lna (chain : Nat) (high : Bool)
  | monitor (frame : List Byte)
  | toFirmware (block : Nat) (data : List Byte)
  | avsWrite (rail mv : Nat)
  | idcode (value : Word)
  deriving DecidableEq, Repr

/-- An RX chain beyond its registers (R50 to R57): the settings in effect since the last edge,
complete timeslots since a detection, a detection in the present timeslot, an external LNA settle
under way, waiting for the edge at which it rejoins, whether it was ever enabled since release,
the level of its LNA_CTL pin, and the instant to which overload detection pauses, in ns. -/
structure ChainState where
  gainMode : Nat := 0
  fixedLadder : Nat := 0
  extMode : Nat := 0
  quiet : Nat := 0
  detected : Bool := false
  settling : Bool := false
  waitEdge : Bool := false
  started : Bool := false
  pin : Bool := false
  pauseTo : Nat := 0
  deriving DecidableEq, Repr

/-- A quiet-map entry of a bin and an RX group (R69 to R71): state 0 not measured, 1 valid, 2 stale. -/
structure QmapEntry where
  state : Nat := 0
  ladder : Nat := 0
  level : Nat := 0
  busy : Nat := 0
  wasUnfed : Bool := false
  deriving DecidableEq, Repr

/-- Where spare slice 8 stands (R67): on standby, loading for a slice, waiting for the edge at which
its chains join, serving, or handing back at the next edge. -/
inductive SparePhase where
  | standby
  | loading (slice : Nat)
  | filling (slice : Nat)
  | joining (slice : Nat)
  | serving (slice : Nat)
  | returning (slice : Nat)
  deriving DecidableEq, Repr

/-- The receive front (R50 to R71): chains that joined a window (window, chain) and do not yet contribute to it. -/
structure CanopyState where
  chains : Tab ChainState := []
  filling : List Nat := []
  qmap : Tab QmapEntry := []
  spare : SparePhase := .standby
  stopped : Bool := false
  spoiltBins : List Nat := []
  spoiltWindows : List Nat := []
  spoiltChains : List Nat := []
  cellChans : List (Nat × Nat) := []
  drainWindows : List Nat := []
  joining : List (Nat × Nat) := []
  deriving DecidableEq, Repr

/-- What the engine read of a cell for a timeslot and judges its frames by (R161, R165): its leaf, whether it is shared,
its channel in 100 Hz, TsTxAckDelay in µs, and the expected arrival less T_s + TsTxOffset in ns. -/
structure CellUse where
  lid : Nat := 0
  shared : Bool := false
  freq : Nat := 0
  ackDelay : Nat := 0
  early : Int := 0
  sf : Nat := 0
  deriving DecidableEq, Repr

/-- A receive cell posted to the combiner and searchers (R77, R86), by the schedule cell it
executes: the bin, the leaf of a dedicated cell (0 else), the receive window and expected arrival in
time-base ns, the stored weights, and the stream that carries them. -/
structure RxPost where
  asn : Nat
  cell : Nat
  bin : Nat
  lid : Nat
  dedicated : Bool
  expect : Bool
  opens : Nat
  closes : Nat
  expected : Nat
  weights : List Byte
  stream : Option Nat
  cellUse : CellUse := {}
  opened : Bool := false
  deriving DecidableEq, Repr

/-- A detection that waits for a lane (R84 to R88). -/
structure LaneRequest where
  stream : Nat
  format : Nat
  mode : Nat
  snr : Nat
  stamp : Nat
  cfo : Int
  catchClass : Nat
  offset : Int
  cell : Option (Nat × Nat)
  pool : Nat
  bankWait : Bool
  cellUse : Option CellUse := none
  deriving DecidableEq, Repr

/-- Search and spatial combining (R72 to R92); busyBins are the bins with a request in their present block (R73). -/
structure SearchState where
  posts : List RxPost := []
  requests : List LaneRequest := []
  suppressed : Tab Nat := []
  covariance : Tab (List Rat) := []
  weights : Tab (List Rat) := []
  blind : Tab (List Rat) := []
  lookPending : Tab Word := []
  fmtInForce : Tab Nat := []
  lastDetection : Tab Detection := []
  busyBins : List Nat := []
  deriving DecidableEq, Repr

/-- The equaliser of a lane (R105 to R107): 16 feed-forward and 8 feedback taps, the last 8 decisions, the feed-forward
taps at the end of training, the feedback taps there, and the error powers of the last 32 symbols of training and of the
decision-directed phase, newest first. -/
structure Equaliser where
  forward : List (Rat × Rat) := (List.range 16).map (fun i => if i = 4 then (1, 0) else (0, 0))
  back : List (Rat × Rat) := List.replicate 8 (0, 0)
  decided : List (Rat × Rat) := []
  trained : Option (List (Rat × Rat)) := none
  trainErr : List Rat := []
  dataErr : List Rat := []
  deriving DecidableEq, Repr

/-- A frame a lane holds (R94, R97 to R112): its request, the settings taken at the grant, what it has decoded and
measured, the coded bits corrected so far, the instant its PHR was decoded, and its equaliser. -/
structure LaneFrame where
  req : LaneRequest
  position : Nat
  gen : Nat
  cfg : Word
  eq : Word
  fsk : Word
  stored : Bool
  found : Bool
  coded : Bool
  sfdStamp : Nat
  phrKnown : Bool
  phr : Nat
  len : Nat
  whitened : Bool
  crc16 : Bool
  cells : List Nat
  noBuffer : Bool
  eqReset : Bool
  incl : Nat := 0xFFFF
  measure : FrameMeasure := ⟨0, 0, 0, 0, 0, []⟩
  fecCorr : Nat := 0
  begun : Nat := 0
  equaliser : Equaliser := {}
  deriving DecidableEq, Repr

/-- A receive descriptor (R114). -/
structure RxDescriptor where
  status : Nat
  format : Nat
  catchClass : Nat
  mode : Nat
  flags : Nat
  lane : Nat
  pool : Nat
  gen : Nat
  position : Nat
  stream : Nat
  bin : Nat
  window : Nat
  beam : Nat
  cell : Option (Nat × Nat)
  sfdStamp : Nat
  catchOffset : Int
  cfo : Int
  symRate : Int
  rssi : Int
  snr : Nat
  detSnr : Nat
  fecCorr : Nat
  psduLen : Nat
  phr : Nat
  cells : List Nat
  asn : Nat
  macFlags : Nat
  endDelta : Nat
  seq : Nat
  chanVec : List Byte
  psdu : List Byte
  cellUse : Option CellUse := none
  deriving DecidableEq, Repr

/-- A lane self-test under way (R115, R117): who started it. -/
inductive SelfTestBy where
  | software | timer | readmission
  deriving DecidableEq, Repr

/-- The lanes and the collector (R93 to R118).  fenced holds the frames that pruned lanes had, whose output may still
come (R92); loading says until when a lane loads microcode (R118); noUcode says that a boot found none to load (R335). -/
structure LaneState where
  frames : Tab LaneFrame := []
  delivered : List RxDescriptor := []
  nextSeq : Nat := 0
  tests : Tab SelfTestBy := []
  oldRole : Tab Nat := []
  faulted : List Nat := []
  nextSpare : Tab Nat := []
  oldUcode : List Nat := []
  fenced : Tab LaneFrame := []
  loading : Tab Nat := []
  noUcode : Bool := false
  deriving DecidableEq, Repr

/-- A frame in a per-leaf virtual queue (R228 to R230). -/
structure VqFrame where
  payload : List Byte
  cls : Nat
  ingress : Nat
  header : List Byte
  spilled : Option Nat
  cells : List Nat
  attempts : Nat
  taken : Bool
  broadcast : Bool
  deriving DecidableEq, Repr

/-- A frame in an Ethernet port queue (R232), untagged, with its VLAN and priority, the port and
stamp of its arrival, for a host frame the tag of its descriptor, and whether the relay sends it (R342). -/
structure PortFrame where
  frame : List Byte
  vlan : Nat
  pcp : Nat
  dei : Nat
  ingress : Nat
  stamp : Nat
  tag : Nat
  relay : Bool
  cells : List Nat
  tagged : Option Bool := none
  transparent : Bool := false
  deriving DecidableEq, Repr

/-- A frame that waits for a to-host descriptor (R233). -/
structure HostFrame where
  kind : Nat
  frame : List Byte
  stamp : Nat
  cells : List Nat
  deriving DecidableEq, Repr

/-- A shaper's internal state (R235): credit in 1/256 bit, the part of one that has risen beyond it in millionths, the end of
its sending period and the time its credit was last brought up to date, in ns. -/
structure ShaperState where
  credit : Int := 0
  sendingTo : Nat := 0
  updated : Nat := 0
  part : Nat := 0
  deriving DecidableEq, Repr

/-- A meter's buckets (R238), in units of 1/8,000,000 byte so that a rate of 1 kb/s fills one unit
per ns, and the time of the last arrival in ns. -/
structure MeterState where
  tc : Nat := 0
  tp : Nat := 0
  last : Nat := 0
  deriving DecidableEq, Repr

/-- Traffic (R224 to R240).  A virtual queue's head has waited since vqSince, and no longer counts from vqPause
on while its neighbour gets no scheduled downlink; fetchDue counts the fetches owed to a neighbour's queue by frames that have
left it, and fetchWait holds the neighbours whose fetch waits for a cell, each with the DRAM addresses that read uncorrectable
for it (R230). -/
structure TrafficState where
  held : List Nat := []
  vqs : Tab (List VqFrame) := []
  vqSince : Tab Nat := []
  vqPause : Tab Nat := []
  ports : Tab (List PortFrame) := []
  portSince : Tab Nat := []
  hosts : Tab (List HostFrame) := []
  shapers : Tab ShaperState := []
  meters : Tab MeterState := []
  slots : List Nat := []
  fetchDue : Tab Nat := []
  fetchWait : Tab (List Nat) := []
  deriving DecidableEq, Repr

/-- A transmit descriptor (R141): launch in 1/256 ns, drive in 0.25 dBm, tilt in 0.01 ppm, the PSDU
its cells hold, the limb state at its arrival, and
of an acknowledgement the end of the frame it answers in 1/256 ns. -/
structure TxDesc where
  limb : Nat
  format : Nat
  mode : Nat
  coded : Bool
  whiten : Bool
  crc16 : Bool
  cxPri : Bool
  interleave : Bool
  rsc : Bool
  ret : Nat
  power : Int
  preamble : Nat
  launch : Nat
  chanFw : Nat
  tilt : Int
  nextFw : Nat
  cells : List Nat
  psdu : List Byte
  sfdGroup : Nat
  cell : Option (Nat × Nat)
  lid : Nat
  tag : Nat
  weights : List Byte
  arrival : Nat
  ended : Nat := 0
  deriving DecidableEq, Repr

/-- The completion a limb writes (R141): actual launch in 1/256 ns, lateness in ns. -/
structure TxDone where
  desc : TxDesc
  status : Nat
  limbsOnAir : Nat
  lateNs : Nat
  actual : Nat
  deriving DecidableEq, Repr

/-- The frame a limb has on air: its ramp's instant in ns, its actual launch, the members that radiate
it, and the status it ends with. -/
structure OnAir where
  desc : TxDesc
  rampAt : Nat
  actual : Nat
  members : Nat
  launched : Bool
  status : Nat
  deriving DecidableEq, Repr

/-- A background calibration under way (R127): the channel in 100 kHz, whether the limb was READY, the
word and the channel it was tuned to, and whether software asked for it. -/
structure BgCal where
  chan : Nat
  wasReady : Bool
  fw : Nat
  prevChan : Nat
  requested : Bool
  deriving DecidableEq, Repr

/-- A frame of a limb that holds its coexistence set's request, by its launch, and whether it raises CX_PRI (R140). -/
structure CxHold where
  launch : Nat
  set : Nat
  pri : Bool
  deriving DecidableEq, Repr

/-- A limb beyond its registers (R122 to R142): its queue, the frame on air, the frames whose octets its buffer holds,
the channel its synthesiser is tuned or tuning to (100 kHz), whether it is still on the way from OFF to STANDBY, a
background calibration under way and those requested, the store's entries by recency of use, a pending power-off,
the frames that hold a coexistence request, the end of the tail of the last frame sent in full, the instants of
lost locks and failed acquisitions, and refused frames whose return state waits for the frames ahead of them (R132). -/
structure LimbState where
  queue : List TxDesc := []
  air : Option OnAir := none
  buffer : List (List Byte) := []
  chan : Nat := 0
  waking : Bool := false
  bg : Option BgCal := none
  requests : List Nat := []
  recent : List Nat := []
  offPending : Bool := false
  cx : List CxHold := []
  tailEnd : Option Nat := none
  lockLost : List Nat := []
  acqFails : List Nat := []
  owed : List TxDesc := []
  deriving DecidableEq, Repr

/-- The transmit limbs (R119 to R142): posted descriptors that have not reached their limb, the limbs,
completions the engine has not yet seen, and calibration that a pruned leader's gang waits for. -/
structure TxlState where
  crossing : List TxDesc := []
  limbs : Tab LimbState := []
  done : List TxDone := []
  takeover : List Nat := []
  deriving DecidableEq, Repr

/-- A replacement profile's MRAM slot: its commit number and bytes (R147). -/
structure ProfileSlot where
  commit : Nat
  bytes : List Byte
  deriving DecidableEq, Repr

/-- The regulatory profile (R143 to R157). Accounts hold charges in units of 1/3 µs by absolute bucket
number, by range for duty and by dwell channel for dwell. -/
structure RgpState where
  inForce : List Byte := []
  otp : List Byte := []
  otpDead : Bool := false
  slots : Tab ProfileSlot := []
  pending : Option Nat := none
  rewrapped : Bool := false
  duty : Tab (Tab Nat) := []
  dwell : Tab (Tab Nat) := []
  warned : List Nat := []
  deriving DecidableEq, Repr

/-- A Learning Table entry (R199). -/
structure LearnEntry where
  ctl : Nat := 0
  key : Nat := 0
  setId : Nat := 0
  home : Nat := 0
  hits : Nat := 0
  fwTag : Nat := 0
  deriving DecidableEq, Repr

/-- The Leaf Table by word (48 to a row, R196), the Learning Table by entry, the schedule store by
word (2 to a cell, R163), the leaf event ring (R187), the 16-bit generator of R207 (none: the seed of the last reset,
from which nothing is drawn yet) and the DMA ring that ran last (R209).  A word or an entry that is not listed is 0. -/
structure TableState where
  leaf : Tab Word := []
  learn : Tab LearnEntry := []
  cells : Tab Word := []
  events : Tab Nat := []
  lfsr : Option Nat := none
  lastRing : Nat := 1
  deriving DecidableEq, Repr

/-- A grove peer beyond its registers (R352, R354): the last accepted boot count and sequence, if any,
whether a HEARTBEAT was accepted in the present period, and the last HELLO sent to it in ns. -/
structure PeerState where
  last : Option (Nat × Nat) := none
  beat : Bool := false
  helloAt : Option Nat := none
  deriving DecidableEq, Repr

/-- Grove federation (R213, R351 to R363): pending words +4 of set entries, the peers, the sender's own
message sequence, the timer unit that marks heartbeats, the timeslots in which the epochs of sets changed,
and the second-rank adoptions that wait, with
the instant each falls due and the sets and epochs the dead router owned. -/
structure GroveState where
  staged : Tab Word := []
  peers : Tab PeerState := []
  txSeq : Nat := 0
  unit : Option Nat := none
  marked : Bool := false
  epochAt : Tab Nat := []
  rank2 : List (Nat × Nat × List (Nat × Nat)) := []
  deriving DecidableEq, Repr

/-- A link event on its way (R265 to R267): the record that sent it (source unit, event, target unit, action:
0 GATE, 1 RESET, 2 CLOCK, 3 TRIGGER) and the ticks since it was issued. -/
structure LinkMsg where
  src : Nat
  ev : Nat
  dst : Nat
  action : Nat
  age : Nat
  deriving DecidableEq, Repr

/-- A change of a unit's level on its way to the pin (R275): the level before it, and the ticks since the match. -/
structure OutMsg where
  unit : Nat
  was : Bool
  age : Nat
  deriving DecidableEq, Repr

/-- The timer units beyond their registers (R261 to R275): a unit's clock events since the last count and
the divider in force, the link events in flight and the level changes on their way to pins, oldest first, the
compare channels written since the last tick, the units that have counted in the present one, and the GPIO levels
as sampled at the last tick and as the synchroniser shows them. -/
structure TmuState where
  presc : Tab (Nat × Nat) := []
  links : List LinkMsg := []
  outs : List OutMsg := []
  written : List (Nat × Nat) := []
  counted : List Nat := []
  sampled : Nat := 0
  seen : Nat := 0
  deriving DecidableEq, Repr

/-- A key held as two shares whose XOR is the key (R288). -/
structure Shares where
  a : List Byte
  b : List Byte
  deriving DecidableEq, Repr

/-- A key-cache entry (R293): LID, key index and the key's shares. -/
structure CacheEntry where
  lid : Nat
  keyIndex : Nat
  key : Shares
  deriving DecidableEq, Repr

/-- A Heartwood command in progress (R300): its operation and slot, whether it still waits to begin, and
otherwise its result and what it will put in its buffer; when its go came, in ns; its place in the line of signings (R310), and
the DRAM addresses that read uncorrectable at its go. -/
structure HwdRun where
  op : Nat
  slot : Nat
  torn : Bool
  waiting : Bool
  status : Nat
  items : Nat
  out : Option (Nat × List Byte)
  since : Nat
  place : Nat := 0
  ue : List Nat := []
  deriving DecidableEq, Repr

/-- Heartwood beyond its registers (R278 to R303): the keys of the 64 slots, the key cache by set, most
recently used entry first, the commands in progress by channel, the identity index and its
reservation boundary, leaves whose keys are to be fetched ahead, and whether a change is prepared and
whether no generation matched at this boot; the slots that an alarm or an OFF zeroised and that wait for their next use (R303),
the leaves whose own fetch has been made and counted for the frame that comes next (R293), the last mask that the DRBG gave
(R288), and when the last signing token came in ns (R309). -/
structure HwdState where
  keys : Tab Shares := []
  cache : Tab (List CacheEntry) := []
  runs : Tab HwdRun := []
  nextIdx : Nat := 0
  resvIdx : Nat := 0
  prefetch : List Nat := []
  prepared : Bool := false
  noGenSeen : Bool := false
  lost : List Nat := []
  served : List Nat := []
  mask : List Byte := []
  refilled : Nat := 0
  deriving DecidableEq, Repr

/-- A reservation record of the signing index (R308). -/
structure ResvRecord where
  boundary : Nat
  seq : Nat
  crc : Nat
  deriving DecidableEq, Repr

/-- A key-update commit record (R317). -/
structure KuRecord where
  seq : Nat
  kind : Nat
  target : Nat
  position : Nat
  counter : Nat
  attributes : List Byte
  material : List Byte
  crc : Nat
  deriving DecidableEq, Repr

/-- A graft in staging (R338 to R344): manifest chunks of the relay, the verified manifest (empty before), the
pieces held with their paths, Pollen pieces held and the length of its object, the instant of the last new
piece in ns, and the router that sent it. -/
structure Graft where
  chunks : Tab (List Byte) := []
  manifest : List Byte := []
  pieces : Tab (List Byte) := []
  paths : Tab (List Byte) := []
  small : Tab (List Byte) := []
  objLen : Nat := 0
  progress : Nat := 0
  from_ : Nat := 0
  deriving DecidableEq, Repr

/-- A settings group in the settings store (R350): its format and its records. -/
structure Setting where
  format : Nat
  records : List Byte
  deriving DecidableEq, Repr

/-- A type's boot record (R334). -/
structure BootRec where
  active : Nat := 0
  nextBoot : Nat := 0
  committed : Bool := true
  tries : Nat := 0
  deriving DecidableEq, Repr

/-- What survives resets and power loss: the die's secret behind the PUF (R278), OTP (bytes by address),
and the NV store's boot and tamper counts (R311), reservation records (by 8 × root + position, R308), identity public
keys with their checks by root (R306), key-update journal (by ring index, R317), slot
store (by (64 × generation + slot) × 2 + position, R287), debug-key records with their tags by position (R304), whether an ERASE has locked Heartwood, whether a key update that a reset cut left material
without a commit (R318), and the generations' states and
digests (R296), Graft's staging, boot records and floors by type (the floor of stand plans, STP_SEQ_FLOOR, at 0), the settings store by group
(R350), the plan step that is activated and not committed (its type) and the groups it
reset, how many bytes of the target an interrupted application has written (R341), Bark's stored classes by sensor
(R324). -/
structure NvState where
  dus : List Byte := []
  otp : Tab Byte := []
  boots : Nat := 0
  tampers : Nat := 0
  resv : Tab ResvRecord := []
  idPub : Tab (List Byte × List Byte) := []
  journal : Tab KuRecord := []
  slotStore : Tab (List Byte) := []
  debugKey : Tab (List Byte × List Byte) := []
  locked : Bool := false
  kuOpen : Bool := false
  genStates : Nat × Nat := (0, 0)
  genDigests : Tab (List Byte) := []
  grafts : Tab Graft := []
  bootRecs : Tab BootRec := []
  floors : Tab Nat := []
  settings : Tab Setting := []
  openStep : Option Nat := none
  cleared : Tab Setting := []
  applyPos : Nat := 0
  classes : Tab Nat := []
  holds : Nat := 0
  lcNonce : List Byte := []
  deriving DecidableEq, Repr

/-- An update plan in progress (R346 to R350): the types still to come, the type of the step, its old slot
and old measurement, whether it is activated, when its health check ends in ns, whether the new firmware
confirmed, whether a cancel waits for the step to end, and whether its health check has met a failure. -/
structure PlanRun where
  rest : List Nat
  type : Nat
  oldSlot : Nat
  oldMeas : List Byte
  activated : Bool
  ends : Nat
  confirmed : Bool
  cancelled : Bool
  failed : Bool := false
  deriving DecidableEq, Repr

/-- Boot and Graft update beyond the registers and what survives (R333 to R350): a SEED2 step that awaits its
reset, the plan, Pollen frames that wait for a cell, whether the first of them is posted and how often it has been attempted
(R176), the relay's token bucket by port, what relay neighbours
last reported in DONE, the graft that is being applied, whether the Crown cores were started at this boot, and whether they restart
at the next edge (R347). -/
structure GrfState where
  seed2Waiting : Bool := false
  plan : Option PlanRun := none
  pollenOut : List (List Byte) := []
  pollenTaken : Bool := false
  pollenTries : Nat := 0
  tokens : Tab MeterState := []
  doneBy : Tab Nat := []
  applying : Option Nat := none
  started : Bool := false
  crownWaits : Bool := false
  deriving DecidableEq, Repr

/-- A resync leaf (R188): its LID, whether its wait has ended, when its last burst began in ns, and the timeslots left of a
burst that runs. -/
structure ResyncLeaf where
  lid : Nat
  due : Bool
  last : Option Nat
  left : Nat
  deriving DecidableEq, Repr

/-- The slot schedule engine beyond its registers (R158 to R194): autopilot asked for and its resumption, the
last firmware heartbeat, the instant from which its limit runs and the entry to autopilot in ns, the last descriptor
judged with its marks, expect cells and time-parent cells that wait for
their frame (ASN, cell, and LID or candidate), shared cells each neighbour still lets pass, when a shared
request last began its wait, leaves in DRIFTED in the order of their entry, spans in progress (slotframe and
last ASN), spans of timeslots each limb is held for (from, and below which ASN), whether the grid is to be reloaded from the next parent
beacon, the instances that wait for the edge at which they rejoin, one more than the last ASN whose cells
were read and than the last whose bursts were sent, and what the last check of a parent's beacon against the grid showed: whether
its ASN agrees and how far its timeslot's start lies off in ns (R190). -/
structure SseState where
  apWanted : Bool := false
  resumeWanted : Bool := false
  beat : Option Nat := none
  hbFrom : Option Nat := none
  judged : Option RxDescriptor := none
  apSince : Nat := 0
  expects : List (Nat × Nat × Nat) := []
  parents : List (Nat × Nat × Nat) := []
  backoff : Tab Nat := []
  waitFrom : Tab Nat := []
  resync : List ResyncLeaf := []
  spans : List (Nat × Nat) := []
  limbUse : List (Nat × Nat × Nat) := []
  reload : Bool := false
  rejoin : List Nat := []
  read : Nat := 0
  bursts : Nat := 0
  gridCheck : Option (Bool × Int) := none
  deriving DecidableEq, Repr

/-- Bark beyond its registers (R320 to R332): whether BARK_HOLD stands, the state a transition is being
programmed to, the sensors whose events wait for the end of that programming, and how many releases of POR_L have drawn the
seeds of the loops (R320). -/
structure BarkState where
  hold : Bool := false
  lc : Option Nat := none
  waiting : List (Nat × Nat) := []
  release : Nat := 0
  deriving DecidableEq, Repr

/-- The whole state of the part (INVENTORY.md, State). -/
structure State where
  pending : List Instr := []
  regs : Tab Word := []
  rwoWritten : List Nat := []
  out : List Output := []
  irqLevel : List Nat := []
  cleared : List (Nat × Nat) := []
  free : Nat := 0
  dram : List Host.Cell := []
  power : PowerState := {}
  stand : StandState := {}
  ring : RingState := {}
  prune : PruneState := {}
  mon : MonState := {}
  time : TimeState := {}
  tap : TaprootState := {}
  board : BoardState := {}
  canopy : CanopyState := {}
  search : SearchState := {}
  lanes : LaneState := {}
  traffic : TrafficState := {}
  txl : TxlState := {}
  rgp : RgpState := {}
  tables : TableState := {}
  grove : GroveState := {}
  tmu : TmuState := {}
  hwd : HwdState := {}
  nv : NvState := {}
  grf : GrfState := {}
  sse : SseState := {}
  bark : BarkState := {}
  deriving DecidableEq, Repr

/-- The machine right after reset (R9): no register written, every field at its reset value, no
command waiting. -/
def State.reset : State := {}

end Sys2Proof.Machine
end

