-- ==== Sys2Proof/Machine/Ops.lean ====
section
/-!
DEFINITION. The named operations over registers, DRAM, outputs, free values, ownership and
conflicts that every block shares.
-/

namespace Sys2Proof.Machine

/-! Registers (R4 to R9). -/

/-- The indices of a register array at a byte distance from its base. -/
def idxOf (ds : List Dim) (rem : Nat) : Option (List Nat) :=
  match ds with
  | [] => if rem = 0 then some [] else none
  | d :: rest =>
    let i := rem / d.stride
    if d.first ≤ i ∧ i < d.first + d.count then (idxOf rest (rem % d.stride)).map (i :: ·) else none

/-- The row of a list that an offset belongs to, with its indices. -/
def findRow (rows : List RegRow) (off : Nat) : Option (RegRow × List Nat) :=
  match rows with
  | [] => none
  | r :: rest =>
    if off < r.base then findRow rest off
    else
      match idxOf r.dims (off - r.base) with
      | some ix => some (r, ix)
      | none => findRow rest off

/-- The register at a BAR0 offset. -/
def regRow (off : Nat) : Option (RegRow × List Nat) := findRow (regsNear off) off

/-- The reset word of a row: its fields at their reset values. -/
def rowReset (fs : List FieldRow) : Word :=
  fs.foldl (fun w f => wordSet w f.lsb f.width f.reset) 0#32

/-- Reset latencies of PWR_DOM_LAT: (OFF to ON, RET to ON) in µs (R365). -/
def domLatency (d : Nat) : Nat × Nat :=
  if d = 1 then (200, 5) else if d = 2 then (30000, 20)
  else if 3 ≤ d ∧ d ≤ 6 then (400, 15) else if d = 7 then (3000, 10)
  else if 8 ≤ d ∧ d ≤ 10 then (2000, 10) else if 11 ≤ d ∧ d ≤ 14 then (120, 8)
  else if d = 15 ∨ d = 16 then (60, 10) else if d = 17 ∨ d = 18 then (80, 10)
  else if 19 ≤ d ∧ d ≤ 22 then (250, 10) else if d = 23 then (100, 10)
  else if d = 24 then (1000, 12) else if d = 25 then (25000, 5000)
  else if d = 26 then (300000, 10) else (0, 0)

/-- The default floor of a domain (R365). -/
def defaultFloor (d : Nat) : Nat :=
  if d = 0 ∨ d = 1 then 2 else if (2 ≤ d ∧ d ≤ 10) ∨ d = 23 ∨ d = 24 ∨ d = 26 then 1 else 0

/-- The use and domain of a bank under the partition of R20 with a packet buffer of `pb` MiB (R21, R389). -/
def bankUse (pb b : Nat) : Nat × Nat :=
  if b < 96 then (0, 7) else if b < 128 then (1, 8) else if b < 144 then (2, 8) else if b < 144 + 4 * pb then (3, 9)
  else if b < 272 then (4, 10) else if b < 280 then (5, 17 + (Config.contextDomain b).toNat % 6) else if b < 284 then (6, 2)
  else if b < 287 then (7, 24) else if b = 287 then (9, 0) else (8, 0)

/-- Reset values that differ within a register array: TXL_ANT, LRN_CLASS_CFG, PWR_DOM_LAT (R365), PWR_DOM_CFG
(the policy of a domain with no record, R366), PRN_BANK_MAP (the default partition of R20), TRF_POOL_RES (the default reserves of
R225, whose sum fits the 65,536 cells at reset, R227), BRK_SENSOR_CFG (R324) and ETH_VLAN_MEMB. -/
def arrayReset (base : Nat) (ix : List Nat) (w : Word) : Word :=
  match ix with
  | [i] =>
    if base = 0x201010 then wordSet w 0 4 i
    else if base = 0x420100 then (if i < 6 then 2#32 else 0#32)
    else if base = 0x340020 then (if i = 0 then 3#32 else w)
    else if base = 0x40100 then BitVec.ofNat 32 (1000 * 2 ^ 12 + 2 ^ 2 + defaultFloor i)
    else if base = 0x60100 then
      if i < 288 then BitVec.ofNat 32 ((bankUse 16 i).2 * 2 ^ 8 + (bankUse 16 i).1) else 8#32
    else if base = 0x380040 then BitVec.ofNat 32 ([2048, 4096, 512, 8192, 4096, 1024].getD i 0)
    else if base = 0x40180 then BitVec.ofNat 32 ((domLatency i).1 * 2 ^ 13 + (domLatency i).2)
    else w
  | [_, i] => if base = 0x500100 ∧ i = 0 then 2#32 else w
  | _ => w

/-- The reset value of the register at an offset; 0 where no register lies there (R8, R9). -/
def regReset (off : Nat) : Word :=
  match regRow off with
  | some (r, ix) => arrayReset r.base ix (rowReset r.fields)
  | none => 0#32

/-- The stored word of the register at an offset. -/
def State.reg (s : State) (off : Nat) : Word := tabGet s.regs off (regReset off)

/-- Store a register's word. -/
def State.setReg (s : State) (off : Nat) (w : Word) : State :=
  { s with regs := tabPut s.regs off w }

/-- The value of a field. -/
def State.get (s : State) (f : Fld) : Nat := wordField (s.reg f.off) f.lsb f.width

/-- Set a field. -/
def State.set (s : State) (f : Fld) (v : Nat) : State :=
  s.setReg f.off (wordSet (s.reg f.off) f.lsb f.width v)

/-- Whether a field is not 0. -/
def State.on (s : State) (f : Fld) : Bool := decide (s.get f ≠ 0)

/-- Add to a counter field, saturating at its greatest value (R28). -/
def State.add (s : State) (f : Fld) (n : Nat) : State := s.set f (min (s.get f + n) (2 ^ f.width - 1))

/-- Count one occurrence, saturating (R28). -/
def State.inc (s : State) (f : Fld) : State := s.add f 1

/-- Set a STAT flag and count the occurrence (R27, R28). -/
def State.event (s : State) (flag cnt : Fld) : State := (s.set flag 1).inc cnt

/-- Set a field when the condition holds. -/
def State.setIf (s : State) (c : Bool) (f : Fld) (v : Nat) : State := if c then s.set f v else s

/-- Apply a change when the condition holds. -/
def State.when (s : State) (c : Bool) (f : State → State) : State := if c then f s else s

/-! Outputs and free values. -/

/-- Record something the part shows its surroundings. -/
def State.emit (s : State) (o : Output) : State := { s with out := s.out ++ [o] }

/-- A value the manual leaves open, of `w` bits. -/
def State.open (s : State) (w : Nat) : Nat := (Config.freeValue s.free w).toNat

/-- Count one open value as used, so that the next is another. -/
def State.used (s : State) : State := { s with free := s.free + 1 }

/-! DRAM (R412, R421): bytes listed by address, an unlisted byte reads 0. -/

/-- The byte at an address. -/
def memGet (m : List Host.Cell) (a : Nat) : Byte := tabGet m a 0#8

/-- Write one byte, keeping the canonical form: a byte of 0 is not listed. -/
def memPut (m : List Host.Cell) (a : Nat) (b : Byte) : List Host.Cell :=
  if b = 0#8 then tabErase m a else tabPut m a b

/-- The canonical form of a memory: addresses strictly rising, no listed byte 0. -/
def Memory.wf (m : List Host.Cell) : Bool := tabSorted m && m.all (fun c => decide (c.2 ≠ 0#8))

/-- `n` bytes from an address. -/
def memRead (m : List Host.Cell) (a n : Nat) : List Byte :=
  match n with
  | 0 => []
  | n + 1 => memGet m a :: memRead m (a + 1) n

/-- Write bytes from an address. -/
def memWrite (m : List Host.Cell) (a : Nat) (l : List Byte) : List Host.Cell :=
  match l with
  | [] => m
  | b :: rest => memWrite (memPut m a b) (a + 1) rest

/-- Usable DRAM in bytes (R421). -/
def State.dramSize (s : State) : Nat := s.get F.DDR_SIZE_mib * 2 ^ 20

/-- Whether `n` bytes from an address lie in usable DRAM (R421). -/
def State.dramOk (s : State) (a n : Nat) : Bool := decide (a + n ≤ s.dramSize)

/-- Bytes of DRAM. -/
def State.dramRead (s : State) (a n : Nat) : List Byte := memRead s.dram a n

/-- Write DRAM. -/
def State.dramWrite (s : State) (a : Nat) (l : List Byte) : State := { s with dram := memWrite s.dram a l }

/-- A little-endian number in DRAM. -/
def State.dramNat (s : State) (a n : Nat) : Nat := leNat (s.dramRead a n)

/-- A 64-bit address from its two registers. -/
def State.pair (s : State) (lo hi : Fld) : Nat := s.get lo + s.get hi * 2 ^ 32

/-- Set a 64-bit value in its two registers. -/
def State.setPair (s : State) (lo hi : Fld) (v : Nat) : State := (s.set lo (v % 2 ^ 32)).set hi (v / 2 ^ 32)

/-! Time (R241). -/

/-- The time base in ns. -/
def State.now (s : State) : Nat := s.time.ns

/-- The time base in ns with 8 fractional bits, the format of stamps (R10, R114). -/
def State.stamp (s : State) : Nat := s.time.ns * 256 + s.time.frac / 2 ^ 24

/-! Ownership (R39 to R43). -/

/-- The default owner of a resource (R39). -/
def defaultOwner (cls idx : Nat) : Nat :=
  if cls = 1 then 0x0100
  else if cls = 2 then 0x0200 + idx
  else if cls = 3 then 0x0400 + idx / 3
  else if cls = 4 then 0x0300
  else if cls = 5 then 0x0700
  else if cls = 6 then 0x0800
  else 0

/-- The owner the records name for a resource, else its default (R40). -/
def ownerIn (recs : List OwnRec) (cls idx : Nat) : Nat :=
  match recs with
  | [] => defaultOwner cls idx
  | r :: rest =>
    if r.resClass = cls ∧ r.first ≤ idx ∧ idx < r.first + r.count then r.owner else ownerIn rest cls idx

/-- The owner of a resource under the plan in force (R29, R40). -/
def State.owner (s : State) (cls idx : Nat) : Nat :=
  match s.stand.inForce with
  | some p => ownerIn p.owns cls idx
  | none => defaultOwner cls idx

/-- Record a CONFLICT word: in the block's register and STAT flag, and in STP (R42). -/
def State.conflict (s : State) (reg flag : Fld) (owner cls idx : Nat) : State :=
  let w := owner * 2 ^ 16 + cls * 2 ^ 8 + idx
  (((s.set reg w).set flag 1).setReg 0x20060 (BitVec.ofNat 32 w)).event F.STP_STAT_conflict F.STP_EVCNT_conflict_cnt

/-! Domains (R364). -/

/-- A domain's entry. -/
def State.dom (s : State) (d : Nat) : Domain := tabGet s.power.doms d ⟨.on, false⟩

/-- Whether a domain is ON. -/
def State.domOn (s : State) (d : Nat) : Bool := decide ((s.dom d).st = .on)

/-- Replace a domain's entry; one that is ON is not listed. -/
def State.setDom (s : State) (d : Nat) (x : Domain) : State :=
  { s with power := { s.power with doms := if x = ⟨.on, false⟩ then tabErase s.power.doms d else tabPut s.power.doms d x } }

/-- Whether a unit is pruned (PRN_PRUNED, R385). -/
def State.pruned (s : State) (cls inst : Nat) : Bool :=
  decide (1 ≤ cls ∧ cls ≤ 0x0B) && bit (s.get (F.PRN_PRUNED_pruned cls (inst / 32))) (inst % 32)

/-- Set or clear a unit's PRN_PRUNED bit. -/
def State.setPruned (s : State) (cls inst : Nat) (b : Bool) : State :=
  s.set (F.PRN_PRUNED_pruned cls (inst / 32)) (putBit (s.get (F.PRN_PRUNED_pruned cls (inst / 32))) (inst % 32) b)

/-- Whether a Crown core is in service: not pruned, not stopped at its reset vector, not forced OFF (R193). -/
def State.coreServes (s : State) (c : Nat) : Bool :=
  !s.pruned 5 c && !s.prune.stopped.contains c && decide (s.get (F.PWR_DOM_CFG_force (3 + c)) ≠ 1)

/-- A Crown core is in service (R193). -/
def crownServed (s : State) : Bool := (upTo 4).any s.coreServes

/-- The Crown cores that take interrupts now: in service, with their domain ON (R193, R382). -/
def State.coresInService (s : State) : List Nat := (upTo 4).filter (fun c => s.domOn (3 + c) && s.coreServes c)

/-- Words from bytes, least significant byte first. -/
def wordsOf (l : List Byte) : List Nat :=
  match l with
  | a :: b :: c :: d :: rest => leNat [a, b, c, d] :: wordsOf rest
  | [] => []
  | l => [leNat l]

/-- The bytes of words, least significant first. -/
def bytesOfWords (l : List Nat) : List Byte := l.flatMap (leBytes 4)

/-! Poisoned words (R390). -/

/-- Whether a poisoned range meets `n` words from `first` of a memory. -/
def PoisonRange.has (r : PoisonRange) (use first n : Nat) : Bool :=
  decide (r.use = use ∧ r.first < first + n ∧ first < r.first + r.count)

/-- Whether a 64-bit word among `n` from `first` of a memory is poisoned (R390). -/
def State.poison (s : State) (use first n : Nat) : Bool := s.prune.poisoned.any (·.has use first n)

/-- What is left of a poisoned range when `n` words of it are written whole. -/
def PoisonRange.minus (r : PoisonRange) (use first n : Nat) : List PoisonRange :=
  if r.has use first n then
    (if r.first < first then [⟨r.use, r.first, first - r.first⟩] else []) ++
    (if first + n < r.first + r.count then [⟨r.use, first + n, r.first + r.count - (first + n)⟩] else [])
  else [r]

/-- Whether one of the words will be poisoned when the copy of its bank ends (R389). -/
def State.poisonDue (s : State) (use first n : Nat) : Bool := s.prune.bankCopy.any (fun x => x.2.any (·.has use first n))

/-- Words of a memory are written whole: they are poisoned no longer (R390), nor in the spare that their bank is being copied to,
since writes go to both banks (R389). -/
def State.healRange (s : State) (use first n : Nat) : State :=
  if s.poison use first n || s.poisonDue use first n then
    { s with prune := { s.prune with
      poisoned := s.prune.poisoned.flatMap (·.minus use first n)
      bankCopy := s.prune.bankCopy.map (fun x => (x.1, x.2.flatMap (·.minus use first n))) } }
  else s

/-- A 64-bit word of a memory is written whole. -/
def State.heal (s : State) (use i : Nat) : State := s.healRange use i 1

/-- Whether a word of the packet-buffer cells of a frame is poisoned: cell n is words 32n to 32n + 31 of the buffer. -/
def State.cellsLost (s : State) (cells : List Nat) : Bool := cells.any (fun c => s.poison 3 (32 * c) 32)

/-- A frame is written into its cells. -/
def State.healCells (s : State) (cells : List Nat) : State := cells.foldl (fun s c => s.healRange 3 (32 * c) 32) s

/-- The health check of an activated step meets a failure (R347). -/
def failCheck (types : List Nat) (s : State) : State :=
  match s.grf.plan with
  | some p => if p.activated && types.contains p.type then { s with grf := { s.grf with plan := some { p with failed := true } } } else s
  | none => s

/-- What a health check asks for within `limit` ns of the activation comes now: too late, it is a failure (R347). -/
def failLate (types : List Nat) (limit : Nat) (s : State) : State :=
  match s.grf.plan with
  | some p => s.when (decide (p.ends + limit < s.now + 120000000000)) (failCheck types)
  | none => s

end Sys2Proof.Machine
end

