-- ==== Sys2Proof/Machine/Ring.lean ====
section
/-!
DEFINITION. The ring record: events, freeze and protection (R395 to R398).
-/

namespace Sys2Proof.Machine

/-- The events protected by a freeze (R398): 0 acts as 1, above 3,072 as 3,072. -/
def ringKeep (s : State) : Nat := clamp 1 3072 (s.get F.RRC_CFG_keep)

/-- Whether the frozen ring protects an index (R398). -/
def ringProtected (s : State) (i : Nat) : Bool :=
  s.on F.RRC_FREEZE_frozen && decide ((s.ring.protFrom + 4096 - i % 4096) % 4096 < s.ring.protCount)

/-- Freeze the ring at index `f`, protecting `n` events up to and including it (R398). -/
def ringFreeze (s : State) (f n : Nat) : State :=
  let s := ((s.set F.RRC_FREEZE_frozen 1).set F.RRC_FREEZE_f f).set F.RRC_STAT_frozen 1
  { s with ring := { s.ring with protFrom := f, protCount := n } }

/-- The time field and flag of an event (R395): time-base ns, or always-on ticks while PD_TIME is
not ON. -/
def ringTime (s : State) : Nat := if s.domOn 1 then s.now else s.power.aonTicks

/-- Write an event at the head of the ring, or discard it where the head is protected (R395, R397,
R398).  A trigger freezes an unfrozen ring at its own event. -/
def ringWrite (s : State) (code cls unit domain cause : Nat) (data : List Byte) (trigger : Bool) : State :=
  let head := s.get F.RRC_HEAD_index
  if ringProtected s head then
    (s.inc F.RRC_LOST_CNT_count).event F.RRC_STAT_lost F.RRC_EVCNT_lost_cnt
  else
    let frozen := s.on F.RRC_FREEZE_frozen
    let seq := s.get F.RRC_SEQ_seq
    let fl := b2n (trigger && !frozen) + 2 * b2n frozen + 4 * b2n (!s.domOn 1) + 8 * b2n (s.on F.SSE_AP_active)
    let e : RrEvent := ⟨seq, code, cls, fl, ringTime s, unit, domain, cause, fit 12 data⟩
    let s := { s with ring := { s.ring with events := tabPut s.ring.events head e, any := true, sinceFlush := true } }
    let s := (s.set F.RRC_HEAD_index (head + 1)).set F.RRC_SEQ_seq (seq + 1)
    if trigger && !frozen then ringFreeze s head (min (ringKeep s) (seq + 1)) else s

/-- The 32 bytes of an event (R395). -/
def eventBytes (e : RrEvent) : List Byte :=
  leBytes 4 e.seq ++ leBytes 2 e.code ++ leBytes 1 e.cls ++ leBytes 1 e.flags ++ leBytes 8 e.time ++
  leBytes 2 e.unit ++ leBytes 1 e.domain ++ leBytes 1 e.cause ++ fit 12 e.data

end Sys2Proof.Machine
end

