-- ==== Sys2Proof/Machine/Irq.lean ====
section
/-!
DEFINITION. Interrupts: the STAT and MASK pairs of R26, their vectors (R414), MSI-X messages
(R415), the delivery to the Crown cores and the wake it brings (R382), and `settle`, which closes
every command by raising the messages of the blocks whose unmasked flags became non-zero.
-/

namespace Sys2Proof.Machine

/-- One STAT and MASK pair: offsets, the STAT bits that are flags, the MSI-X vector, and the block's
resource index in class 0x06. -/
structure IrqSource where
  stat : Nat
  mask : Nat
  flags : Nat
  vector : Nat
  block : Nat
  deriving DecidableEq, Repr

/-- The STAT and MASK pairs of single blocks (R26, R414). -/
def irqBlocks : List IrqSource := [
  ⟨0x10, 0x14, 0x7, 52, 0x00⟩, ⟨0x20010, 0x20014, 0x1F, 44, 0x02⟩, ⟨0x40010, 0x40014, 0x3F, 48, 0x04⟩,
  ⟨0x60010, 0x60014, 0x7F, 49, 0x06⟩, ⟨0x61010, 0x61014, 0xF, 50, 0x06⟩, ⟨0x80010, 0x80014, 0x3FF, 32, 0x08⟩,
  ⟨0x90010, 0x90014, 0x7, 33, 0x09⟩, ⟨0xA0010, 0xA0014, 0x1, 53, 0x0A⟩, ⟨0x100010, 0x100014, 0x7, 8, 0x10⟩,
  ⟨0x140010, 0x140014, 0xFF, 9, 0x14⟩, ⟨0x180010, 0x180014, 0x7, 10, 0x18⟩, ⟨0x1A0010, 0x1A0014, 0x1F, 11, 0x18⟩,
  ⟨0x1E2010, 0x1E2014, 0xF, 12, 0x1C⟩, ⟨0x200010, 0x200014, 0x1FF, 16, 0x20⟩, ⟨0x240010, 0x240014, 0x1F, 17, 0x24⟩,
  ⟨0x280010, 0x280014, 0x3FF, 18, 0x28⟩, ⟨0x300010, 0x300014, 0x7, 24, 0x30⟩, ⟨0x340010, 0x340014, 0x1F, 25, 0x34⟩,
  ⟨0x360010, 0x360014, 0xF, 26, 0x36⟩, ⟨0x380010, 0x380014, 0x1F, 27, 0x38⟩, ⟨0x400010, 0x400014, 0x1FF, 40, 0x40⟩,
  ⟨0x400300, 0x400304, 0x1F, 41, 0x40⟩, ⟨0x420010, 0x420014, 0x3F, 42, 0x42⟩, ⟨0x440010, 0x440014, 0xFF, 43, 0x44⟩,
  ⟨0x460010, 0x460014, 0x1FF, 60, 0x46⟩, ⟨0x580010, 0x580014, 0x7, 54, 0x58⟩, ⟨0x5A0020, 0x5A0024, 0x3, 55, 0x5A⟩,
  ⟨0x5C0010, 0x5C0014, 0x3, 2, 0x5C⟩, ⟨0x5E0010, 0x5E0014, 0xF, 51, 0x5E⟩]

/-- All STAT and MASK pairs, the Ethernet ports' ones included. -/
def irqSources : List IrqSource :=
  irqBlocks ++ (upTo 4).map (fun p => ⟨0x500010 + 0x10000 * p, 0x500014 + 0x10000 * p, 0xF, 56 + p, 0x50 + p⟩)

/-- A STAT register's word: every STAT register resets to 0. -/
def statWord (s : State) (off : Nat) : Word := tabGet s.regs off 0#32

/-- Whether (STAT AND NOT MASK) of a pair is non-zero (R26). -/
def irqHigh (s : State) (q : IrqSource) : Bool :=
  if statWord s q.stat = 0#32 then false
  else decide ((statWord s q.stat &&& ~~~(s.reg q.mask)).toNat &&& q.flags ≠ 0)

/-- Whether some chain has an unmasked CNP_CH_STAT flag (CNP_STAT.chain_evt). -/
def chainEvent (s : State) : Bool :=
  (upTo 16).any (fun n => irqHigh s ⟨0x101008 + 0x100 * n, 0x10100C + 0x100 * n, 0x3, 8, 0x10⟩)

/-- The timer units with an unmasked flag (TMU_SUM, R277). -/
def unitSum (s : State) : Nat :=
  maskOf ((upTo 32).filter (fun u => irqHigh s ⟨0x91014 + 0x80 * u, 0x91018 + 0x80 * u, 0x1FF, 33, 0x09⟩))

/-- A field that shows a condition of other registers, brought up to date. -/
def follow (f : Fld) (v : Nat) (s : State) : State := if s.get f = v then s else s.set f v

/-- CNP_STAT.chain_evt and TMU_STAT.unit_evt brought up to date (R277). -/
def derive (s : State) : State :=
  let s := follow F.CNP_STAT_chain_evt (b2n (chainEvent s)) s
  follow F.TMU_STAT_unit_evt (b2n (unitSum s ≠ 0)) s

/-- Begin bringing a domain ON: from OFF or RET the transition starts, an entry under way is
completed first (R365). -/
def wakeDomain (d : Nat) (s : State) : State :=
  match (s.dom d).st with
  | .off => s.setDom d ⟨.offToOn, false⟩
  | .ret => s.setDom d ⟨.retToOn, false⟩
  | .toOff => s.setDom d ⟨.toOff, true⟩
  | .toRet => s.setDom d ⟨.toRet, true⟩
  | _ => s

/-- Wake PD_CROWN0 to 3 and PD_MEM3 for firmware work, those that are not forced (R382). -/
def wakeCrown (s : State) : State :=
  each [3, 4, 5, 6, 10] (fun d s =>
    s.when (decide (s.get (F.PWR_DOM_CFG_force d) = 0 ∨ s.get (F.PWR_DOM_CFG_force d) = 3)) (wakeDomain d)) s

/-- Send an MSI-X message (R415): a masked vector, or one whose link is not in L0, sets its PBA
bit; a message raised in L1 starts the exit. -/
def sendMsix (v : Nat) (s : State) : State :=
  let e := tabGet s.tap.msix v {}
  let pm := s.get F.TPR_LINK_pm
  let hold (s : State) : State :=
    { s with tap := { s.tap with pba := if s.tap.pba.contains v then s.tap.pba else s.tap.pba ++ [v] } }
  if e.masked || s.tap.funcMask then hold s
  else if pm = 0 then s.emit (.msix v e.addr e.data)
  else if pm = 1 then wakeDomain 27 (hold s)
  else hold s

/-- Deliver a block's interrupt to the owner of its handling (R414, R382). -/
def raiseIrq (vector block : Nat) (s : State) : State :=
  let o := s.owner 6 block
  if o = 0x0800 then sendMsix vector s
  else if o = 0x0900 then
    let s := wakeCrown s
    if s.coresInService.isEmpty then
      { s with power := { s.power with crownIrqWaiting := s.power.crownIrqWaiting ++ [block] } }
    else s.emit (.crownInterrupt block)
  else s

/-- A ring advances (R415): while its vector's gap runs the advance is coalesced into the next message, and else a message goes and
a gap begins, unless TPR_COAL asks for none. -/
def ringVector (v block : Nat) (s : State) : State :=
  if s.tap.gapRunning.contains v then
    { s with tap := { s.tap with coalesced := if s.tap.coalesced.contains v then s.tap.coalesced else s.tap.coalesced ++ [v] } }
  else
    let s := raiseIrq v block s
    s.when (decide (s.get F.TPR_COAL_us ≠ 0))
      (fun s => { s with tap := { s.tap with gapRunning := s.tap.gapRunning ++ [v] } })

/-- The sources whose unmasked flags are non-zero, by STAT offset. -/
def irqLevels (s : State) : List Nat := (irqSources.filter (irqHigh s)).map IrqSource.stat

/-- The flags of each pair that a command took from 1 to 0. -/
def clearedFlags (s0 s : State) : List (Nat × Nat) :=
  irqSources.filterMap (fun q =>
    let m := (statWord s0 q.stat &&& ~~~(statWord s q.stat)).toNat &&& q.flags
    if m = 0 then none else some (q.stat, m))

/-- Whether a flag of a pair that the command before cleared is set again and not masked. -/
def setAgain (s0 s : State) (q : IrqSource) : Bool :=
  match s0.cleared.lookup q.stat with
  | none => false
  | some m => decide ((statWord s q.stat &&& ~~~(s.reg q.mask)).toNat &&& m ≠ 0)

/-- Close a command: raise the message of every source whose unmasked flags became non-zero with it (R26), and note
the levels.  A flag set by the very command after the one that cleared it may have been set in the same arbitration as
the clear: whether the interrupt is then raised again (R27) is left open. -/
def settle (s0 s : State) : State :=
  let s := derive s
  let lv := irqLevels s
  let new := irqSources.filter (fun q => lv.contains q.stat && !s0.irqLevel.contains q.stat)
  let raced := irqSources.filter (fun q => s0.irqLevel.contains q.stat && setAgain s0 s q)
  let s := each new (fun q s => raiseIrq q.vector q.block s) s
  let s := each raced (fun q s => (s.when (decide (s.open 1 = 1)) (raiseIrq q.vector q.block)).used) s
  { s with irqLevel := lv, cleared := clearedFlags s0 s }

/-- The outcome of a command whose effect is `f`: outputs start empty, and the command closes with
its interrupt messages. -/
def run (f : State → State) (s : State) : Host.Outcome State Fault Refusal :=
  .next (settle s (f { s with out := [] }))

end Sys2Proof.Machine
end

