-- ==== Sys2Proof/Machine/PowerOps.lean ====
section
/-!
DEFINITION. Power operations that other blocks use: services and their domains, allowed states and
holds (R366 to R370), wake sources (R378, R379), and the domain that decides an access (R23, R450).
-/

namespace Sys2Proof.Machine

/-- Fill time of a bin code in ns (R65). -/
def fillNs (code : Nat) : Nat :=
  if code = 0 then 241000 else if code = 1 then 121000 else if code = 2 then 61000
  else if code = 3 then 31000 else if code = 4 then 16000 else if code = 5 then 8500
  else if code = 6 then 4000 else if code = 7 then 2500 else 1600

/-- The enabled windows. -/
def windowsOn (s : State) : List Nat := (upTo 4).filter (fun w => s.on (F.CHZ_WIN_CFG_enable w))

/-- Whether an enabled window has a chain of RX group `g` (R367). -/
def rxgNeeded (s : State) (g : Nat) : Bool :=
  (windowsOn s).any (fun w => decide (bits (s.get (F.CHZ_WIN_CFG_chain_mask w)) (4 * g) 4 ≠ 0))

/-- The slices of PD_CHZ0 (0 to 3 and the spare 8) or PD_CHZ1 (R66). -/
def slicesOf (c : Nat) : List Nat := if c = 0 then [0, 1, 2, 3, 8] else [4, 5, 6, 7]

/-- Whether a slice is active or filling (CHZ_SLICE.state 1 or 4). -/
def sliceActive (s : State) (i : Nat) : Bool :=
  decide (s.get (F.CHZ_SLICE_state i) = 1 ∨ s.get (F.CHZ_SLICE_state i) = 4)

/-- Whether a lane bank has a working lane: the SRH_LANE_MAP words of its lanes with role 1. -/
def bankNeeded (s : State) (b : Nat) : Bool :=
  s.regs.any (fun (o, w) => decide (0x1A2000 + 544 * b ≤ o ∧ o < 0x1A2000 + 544 * b + 544) && decide (bits w.toNat 30 2 = 1))

/-- Whether a limb is powered: outside OFF and FENCED (R154). -/
def limbPowered (s : State) (l : Nat) : Bool :=
  decide (s.get (F.TXL_STATUS_state l) ≠ 0 ∧ s.get (F.TXL_STATUS_state l) ≠ 8)

/-- Whether a TX group has a powered limb (R367). -/
def txgNeeded (s : State) (g : Nat) : Bool := (upTo 4).any (fun k => limbPowered s (4 * g + k))

/-- The domains a service depends on (R367). -/
def serviceDomains (s : State) (svc : Nat) : List Nat :=
  if svc = 0 then
    (upTo 4).filterMap (fun g => if rxgNeeded s g then some (11 + g) else none)
      ++ (upTo 2).filterMap (fun c => if (slicesOf c).any (sliceActive s) then some (17 + c) else none)
      ++ (upTo 4).filterMap (fun b => if bankNeeded s b then some (19 + b) else none) ++ [7, 8, 2]
  else if svc = 1 then [27]
  else if svc = 2 then (upTo 2).filterMap (fun g => if txgNeeded s g then some (15 + g) else none) ++ [7, 8, 9, 2, 24]
  else if svc = 3 then [27]
  else if svc = 4 then [25, 24, 8, 9, 26]
  else if svc = 5 then [1, 25]
  else [3, 4, 5, 6, 10, 26]

/-- The smallest budget among the services that depend on a domain, none without constraint
(R367): 0xFF_FFFF places no constraint. -/
def domainBudget (s : State) (d : Nat) : Option Nat :=
  ((upTo 7).filterMap (fun v =>
    if (serviceDomains s v).contains d ∧ s.get (F.PWR_BUDGET_us v) ≠ 0xFFFFFF then some (s.get (F.PWR_BUDGET_us v)) else none)).min?

/-- The latency of test 1 or 2 of R367 in ns, with the longest fill time for PD_CHZ. -/
def testLatency (s : State) (d : Nat) (us : Nat) : Nat :=
  if d = 17 ∨ d = 18 then
    us * 1000 + ((slicesOf (d - 17)).filter (sliceActive s)).foldl
      (fun m i => max m (if s.on (F.CHZ_WIN_CFG_enable (s.get (F.CHZ_SLICE_window i)))
        then fillNs (s.get (F.CHZ_WIN_CFG_bin_code (s.get (F.CHZ_SLICE_window i)))) else 0)) 0
  else us * 1000

/-- Whether a latency in ns meets a budget in µs; no budget is no constraint. -/
def within (ns : Nat) (budget : Option Nat) : Bool :=
  match budget with
  | some b => decide (ns ≤ b * 1000)
  | none => true

/-- The services a wake source wakes (R378). -/
def wakeServices (code : Nat) : List Nat :=
  if code = 1 then [4] else if code = 2 then [4, 6] else if code = 3 then [3]
  else if code = 4 ∨ code = 5 then [3, 6] else if code = 6 then [0] else if code = 7 then [0, 1]
  else if code = 8 ∨ code = 9 then [6] else if code = 10 then [6] else [1]

/-- The domains a wake source brings ON; UART wakes PD_SEC too (R378). -/
def wakeDomains (s : State) (code : Nat) : List Nat :=
  (wakeServices code).flatMap (serviceDomains s) ++ (if code = 10 then [2] else [])

/-- Whether a generation sweep runs (R297, HWD_GEN.sweep). -/
def State.sweeping (s : State) : Bool := decide (s.get F.HWD_GEN_sweep = 1)

/-- Whether a key operation, generation sweep, key update or plan step runs (R368). -/
def State.hwBusy (s : State) : Bool :=
  s.on (F.HWD_CMD_busy 0) || s.on (F.HWD_CMD_busy 1) || s.sweeping || s.on F.GRF_STATUS_phase

/-- The domains a live re-stand touches (R368): those that serve its affected windows, and the banks of the lanes that move, those
that join late among them (R44, R46). -/
def restandTouches (s : State) : List Nat :=
  let lanes := s.stand.lateLanes.map (fun x => 19 + x.1 / 136)
  if s.stand.phase = .prepare ∨ s.stand.phase = .armed ∨ s.stand.phase = .drain then
    s.stand.affected.map (fun w => 17 + w / 2) ++ s.stand.planned.map (fun x => 19 + x.1 / 136) ++ lanes
  else lanes

/-- Whether an image activation touches a domain (R368): that of microcode the lane banks until every lane runs it, that of a
Crown image the domains of MGMT until its autopilot ends. -/
def activationTouches (s : State) (d : Nat) : Bool :=
  match s.grf.plan with
  | none => false
  | some p => p.activated && (
      (decide (p.type = 3 ∧ 19 ≤ d ∧ d ≤ 22) && s.on F.LNE_UCODE_switching)
      || (decide (p.type = 5) && (serviceDomains s 6).contains d && (s.sse.apWanted || s.on F.SSE_AP_active)))

/-- Whether a hold of R368 other than the PD_TIME and PD_HOST rules keeps a domain ON. -/
def heldHw (s : State) (d : Nat) : Bool :=
  (decide (d = 2) && ((upTo 8).any (limbPowered s) || s.hwBusy))
  || (decide (d = 17) && decide (s.get (F.CHZ_SLICE_is_sub 8) = 1) && decide (4 ≤ s.get (F.CHZ_SLICE_serves 8)))
  || (decide (d = 23) && s.on F.SSE_CTL_run)
  || s.power.wakeHolds.any (fun c => (wakeDomains s c).contains d)
  || s.power.cellHolds.any (fun h => h.doms.contains d)
  || (restandTouches s).contains d
  || activationTouches s d

/-- Whether a hold of R368 stands on a domain; the PD_TIME hold yields to a force (R370). -/
def held (s : State) (d : Nat) : Bool :=
  heldHw s d || (decide (d = 1) && decide (s.get (F.PWR_DOM_CFG_force 1) = 0))

/-- No RX chain, channelizer slice or TX limb is powered in BARK_HOLD (R326). -/
def barredByHold (s : State) (d : Nat) : Bool :=
  let halt := decide (s.get F.GRF_BOOT_halt ≠ 0)
  ((s.bark.hold || halt) && decide (11 ≤ d) && decide (d ≤ 18)) || (halt && decide (3 ≤ d) && decide (d ≤ 6))

/-- Begin bringing a domain ON unless a force below ON stands against it without a hold (R370). -/
def wakeAllowed (d : Nat) (s : State) : State :=
  let f := s.get (F.PWR_DOM_CFG_force d)
  s.when ((held s d || decide (f = 0 ∨ f = 3)) && !barredByHold s d) (wakeDomain d)

/-- A wake source acts (R378, R379): its domains come ON under a wake hold, the last-wake record is
written, and WAKE_L is asserted where the source's bit asks for it and the link is not in L0. -/
def wakeSource (code srcDomain detail : Nat) (s : State) : State :=
  if !(bit (s.get F.PWR_WAKE_EN_en) (code - 1) || decide (code = 11)) then s
  else
    let s := { s with power := { s.power with wakeHolds := if s.power.wakeHolds.contains code then s.power.wakeHolds else s.power.wakeHolds ++ [code] } }
    let s := each (wakeDomains s code) (fun d s => s.when (decide (d ≠ 27)) (wakeAllowed d)) s
    let s := s.event F.PWR_STAT_wake F.PWR_EVCNT_wake_cnt
    let s := ((s.set F.PWR_WAKE_LAST_code code).set F.PWR_WAKE_LAST_domain srcDomain).set F.PWR_WAKE_LAST_detail detail
    let s := s.setPair F.PWR_WAKE_TS_LO_ns F.PWR_WAKE_TS_HI_ns (if s.domOn 1 then s.now else 0)
    let s := s.set F.PWR_WAKE_AON_ticks s.power.aonTicks
    if (bit (s.get F.PWR_WAKE_HOST_host) (code - 1) || decide (code = 11)) && decide (s.get F.TPR_LINK_pm ≠ 0 ∨ s.tap.perstLow) then
      ({ s with power := { s.power with wakeL := true } }).emit .wakeL
    else s

/-- The domains whose state decides an access to a BAR0 offset (R23, R450): one domain, or any of
several for a common register. -/
def accessDomains (off : Nat) : List Nat :=
  if off < 0x20000 then [0] else if off < 0x40000 then [2] else if off < 0x80000 then [0]
  else if off < 0xA0000 then [1] else if off < 0xB0000 then [0]
  else if 0x100000 ≤ off ∧ off < 0x140000 then
    (if 0x101000 ≤ off ∧ off < 0x102000 then [11 + (off - 0x101000) / 0x400] else [11, 12, 13, 14])
  else if 0x140000 ≤ off ∧ off < 0x180000 then
    (if 0x140200 ≤ off ∧ off < 0x140224 then
      (if 4 ≤ (off - 0x140200) / 4 ∧ (off - 0x140200) / 4 ≤ 7 then [18] else [17]) else [17, 18])
  else if 0x180000 ≤ off ∧ off < 0x1C0000 then [17, 18]
  else if 0x1C0000 ≤ off ∧ off < 0x1E2000 then [19 + (off - 0x1C0000) / 0x100 / 136]
  else if 0x1E2000 ≤ off ∧ off < 0x200000 then [19, 20, 21, 22]
  else if 0x201000 ≤ off ∧ off < 0x201800 then [15 + (off - 0x201000) / 0x400]
  else if 0x208000 ≤ off ∧ off < 0x210000 then [15 + (off - 0x208000) / 0x4000]
  else if 0x200000 ≤ off ∧ off < 0x240000 then [15, 16]
  else if 0x240000 ≤ off ∧ off < 0x280000 then [2] else if 0x280000 ≤ off ∧ off < 0x300000 then [23]
  else if 0x300000 ≤ off ∧ off < 0x340000 then [7] else if 0x340000 ≤ off ∧ off < 0x400000 then [24]
  else if 0x400000 ≤ off ∧ off < 0x420000 then [2] else if 0x420000 ≤ off ∧ off < 0x440000 then [0]
  else if 0x440000 ≤ off ∧ off < 0x460000 then [2] else if 0x460000 ≤ off ∧ off < 0x480000 then [24]
  else if 0x500000 ≤ off ∧ off < 0x540000 then [25] else if 0x580000 ≤ off ∧ off < 0x5A0000 then [26]
  else if 0x5A0000 ≤ off ∧ off < 0x5C0000 then [0] else if 0x5C0000 ≤ off ∧ off < 0x5E0000 then [27]
  else if 0x5E0000 ≤ off ∧ off < 0x600000 then [0]
  else if 0x1000000 ≤ off ∧ off < 0x2800000 then [7] else if 0x2800000 ≤ off ∧ off < 0x3400000 then [8]
  else [0]

/-- Whether an offset belongs to a block or a table window (R8, R23). -/
def mapped (off : Nat) : Bool :=
  decide (off < 0xB0000) || (decide (0x100000 ≤ off) && decide (off < 0x480000))
  || (decide (0x500000 ≤ off) && decide (off < 0x540000)) || (decide (0x580000 ≤ off) && decide (off < 0x600000))
  || (decide (0x1000000 ≤ off) && decide (off < 0x3400000))

/-- The domain that decides an access now: an ON domain of the block if there is one, else its
lowest-numbered domain (R450). -/
def decidingDomain (s : State) (off : Nat) : Nat :=
  let ds := accessDomains off
  (ds.find? s.domOn).getD (ds.headD 0)

/-- The outcome of a command that is something a unit of a domain does: nothing runs in a domain that is not ON (R364). -/
def runIn (d : Nat) (f : State → State) (s : State) : Host.Outcome State Fault Refusal :=
  run (fun s => if s.domOn d then f s else s) s

/-- Record a fenced access (R372). -/
def recordFence (d : Nat) (a : Access) (s : State) : State :=
  let s := (((s.setReg 0x40060 0#32).set F.PWR_FENCE_STAT_valid 1).set F.PWR_FENCE_STAT_write (b2n a.write))
  let s := (s.set F.PWR_FENCE_STAT_initiator a.initiator).set F.PWR_FENCE_STAT_domain d
  let s := s.set F.PWR_FENCE_ADDR_addr a.off
  (s.inc F.PWR_FENCE_CNT_count).event F.PWR_STAT_fence F.PWR_EVCNT_fence_cnt

/-- What becomes of an access to a domain (R372): it completes, stalls until the domain is ON, or is
fenced. -/
inductive Gate where
  | pass | stall | fence
  deriving DecidableEq, Repr

/-- The gate of R372 for a domain. -/
def gate (s : State) (d : Nat) : Gate :=
  let f := s.get (F.PWR_DOM_CFG_force d)
  let aw := s.on (F.PWR_DOM_CFG_autowake d) && decide (f = 0 ∨ f = 3)
  match (s.dom d).st with
  | .on => .pass
  | .offToOn | .retToOn => .stall
  | .ret | .toRet => if aw then .stall else .fence
  | .off | .toOff => .fence

/-- Whether a hardware access to a domain may go on now (R373): a sleeping domain that autowakes is
brought ON and the access waits for it within the step, else it is fenced and recorded. -/
def hwAccess (d initiator addr : Nat) (write : Bool) (s : State) : Bool × State :=
  match gate s d with
  | .pass => (true, s)
  | .stall => (true, wakeDomain d s)
  | .fence => (false, recordFence d ⟨initiator, addr, write, 0#32⟩ s)

end Sys2Proof.Machine
end

