-- ==== Sys2Proof/Machine/Prune.lean ====
section
/-!
DEFINITION. What every prune shares: the domain of a unit, and the record of R385.
-/

namespace Sys2Proof.Machine

/-- Instances of a unit class (R383). -/
def unitCount (cls : Nat) : Nat :=
  if cls = 1 then 544 else if cls = 2 then 16 else if cls = 3 then 8 else if cls = 4 then 9 else if cls = 5 then 4
  else if cls = 6 then 296 else if cls = 7 then 4 else if cls = 8 then 8 else if cls = 9 then 2
  else if cls = 10 then 2 else if cls = 11 then 1 else 0

/-- The power domain of a unit. -/
def unitDomain (s : State) (cls inst : Nat) : Nat :=
  if cls = 1 then 19 + inst / 136 else if cls = 2 then 11 + inst / 4 else if cls = 3 then 15 + inst / 4
  else if cls = 4 then (if 4 ≤ inst ∧ inst ≤ 7 then 18 else 17) else if cls = 5 then 3 + inst
  else if cls = 6 then s.get (F.PRN_BANK_MAP_domain inst) else if cls = 7 then 25
  else if cls = 10 then 23 else if cls = 0 then 0 else 2

/-- Record a prune (R385): the unit's bit, PRN_LAST, the PRUNE event and its index, the flag and the
count.  Where the frozen ring discards the event its index is left open. -/
def recordPrune (cls inst cause : Nat) (data : List Byte) (s : State) : State :=
  let s := s.when (decide (1 ≤ cls)) (fun s => s.setPruned cls inst true)
  let s := ((s.set F.PRN_LAST_class cls).set F.PRN_LAST_cause cause).set F.PRN_LAST_instance inst
  let head := s.get F.RRC_HEAD_index
  let lost := ringProtected s head
  let s := if lost then (s.set F.PRN_LAST_RR_rr_index (s.open 12)).used else s.set F.PRN_LAST_RR_rr_index head
  let s := ringWrite s 1 cls inst (unitDomain s cls inst) cause data (bit (s.get F.RRC_CFG_trig) 0)
  let s := s.when (decide (cls = 1) && decide (cause = 3 ∨ cause = 4)) (failCheck [3])
  let s := s.when (decide (cls = 1 ∨ cls = 4) && decide (s.stand.phase = .drain)) (failCheck [2])
  s.event F.PRN_STAT_prune F.PRN_EVCNT_prune_cnt

/-- Words of a bank. -/
def bankWords : Nat := 32768

/-- MiB of the packet buffer under the plan in force. -/
def planPb (s : State) : Nat := match s.stand.inForce with | some p => p.pbMib | none => 16

/-- Where a bank's first word lies in its memory: the memory's use and how many banks of it come before. -/
def bankPlace (s : State) (v : Nat) : Nat × Nat :=
  let use := (bankUse (planPb s) v).1
  (use, ((upTo v).filter (fun k => decide ((bankUse (planPb s) k).1 = use))).length)

/-- A memory returns from OFF at zero with valid ECC (R364): no word of a domain's banks is poisoned; the upper half of bank 287 lies
in PD_NET. -/
def cleanBanks (d : Nat) (s : State) : State :=
  if s.prune.poisoned.isEmpty && s.prune.bankCopy.isEmpty then s
  else
    let mine := (upTo 287).filter (fun v => decide ((bankUse (planPb s) v).2 = d))
    let s := mine.foldl (fun s v => s.healRange (bankPlace s v).1 ((bankPlace s v).2 * bankWords) bankWords) s
    s.when (decide (d = 24)) (fun s => s.healRange 9 (bankWords / 2) (bankWords / 2))

/-- No spare is free for a pruned unit (R385). -/
def noSpare (s : State) : State := s.event F.PRN_STAT_no_spare F.PRN_EVCNT_no_spare_cnt

/-- Output that reaches the fence of a pruned unit (R387). -/
def fenceDrop (s : State) : State := (s.inc F.PRN_FENCE_DROP_CNT_count).set F.PRN_STAT_fence_drop 1

/-- An event about no containment unit: its unit and domain fields are left open (R395). -/
def ringNote (code : Nat) (data : List Byte) (trigger : Bool) (s : State) : State :=
  ringWrite s.used code 0 (s.open 16) ((s.open 24) / 65536) 0 data trigger

end Sys2Proof.Machine
end

