-- ==== Sys2Proof/Machine/Bus.lean ====
section
/-!
DEFINITION. Accesses through the fabric: the fence of R372 around an access, and the way of a hardware
initiator to DRAM (R373, R421, R422).
-/

namespace Sys2Proof.Machine

/-- Whether an initiator is a Crown core that is pruned. -/
def coreFenced (s : State) (initiator : Nat) : Bool := decide (1 ≤ initiator ∧ initiator ≤ 4) && s.pruned 5 (initiator - 1)

/-- What an initiator does reaches no further than its fence where it is a Crown core that is pruned (R387). -/
def fromCore (initiator : Nat) (f : State → State) (s : State) : State :=
  if coreFenced s initiator then fenceDrop s else f s

/-- Carry out an access whose effect is `f` behind the fence of R372: it passes, stalls until the domain
is ON, or is fenced; a fenced read returns the pattern, and a fenced Crown core also takes a bus error.  A read of
part of a word (R5) stalls as `narrow`. -/
def gatedAs (narrow : Option (Nat × Nat)) (a : Access) (f : State → State) : State → State := fromCore a.initiator fun s =>
  let d := decidingDomain s a.off
  match gate s d with
  | .pass => f s
  | .stall =>
    let s := wakeDomain d s
    { s with power := { s.power with stalled := s.power.stalled ++ [⟨d, a, narrow⟩] } }
  | .fence =>
    let s := recordFence d a s
    let s := if a.write then s else s.emit (.read 0x0FF00FF0#32)
    if 1 ≤ a.initiator ∧ a.initiator ≤ 4 then s.emit (.busError (a.initiator - 1)) else s

/-- An access of a whole word behind the fence (R372). -/
def gated (a : Access) (f : State → State) (s : State) : State := gatedAs none a f s

/-- The word a field keeps after a software write (R6): RW takes the written bits, W1C clears the bits
written 1, RWO takes them once; RO, W1S and WO bits keep what they were. -/
def writeField (written : Bool) (v : Word) (w : Word) (f : FieldRow) : Word :=
  match f.acc with
  | .rw => wordSet w f.lsb f.width (wordField v f.lsb f.width)
  | .w1c => wordSet w f.lsb f.width (wordField (w &&& ~~~v) f.lsb f.width)
  | .rwo => if written then w else wordSet w f.lsb f.width (wordField v f.lsb f.width)
  | _ => w

/-- A write to a register with no effect beyond its own fields (R6, R7): a word outside every register
changes nothing (R8). -/
def writePlain (off : Nat) (v : Word) (s : State) : State :=
  match regRow off with
  | none => s
  | some (r, _) =>
    let s' := s.setReg off (r.fields.foldl (writeField (s.rwoWritten.contains off) v) (s.reg off))
    if r.fields.any (fun f => f.acc = .rwo) && !s.rwoWritten.contains off
    then { s' with rwoWritten := s.rwoWritten ++ [off] } else s'

/-- Whether a hardware initiator reaches `n` bytes of DRAM (R373, R421). -/
def dramReach (initiator : Nat) (write : Bool) (addr n : Nat) (s : State) : Bool × State :=
  let (ok, s) := hwAccess 26 initiator (addr % 2 ^ 32) write s
  (ok && s.dramOk addr n, s)

/-- Record an uncorrectable DRAM error (R422). -/
def dramError (addr : Nat) (s : State) : State :=
  ((s.set F.DDR_STAT_ue 1).inc F.DDR_UE_CNT_count).setPair F.DDR_UE_ADDR_LO_addr F.DDR_UE_ADDR_HI_addr addr

/-- Read `n` bytes of DRAM for a hardware initiator: none where it cannot reach them or where one of
the addresses in `ue` reads uncorrectable (R422). -/
def dramFetch (ue : List Nat) (initiator addr n : Nat) (s : State) : Option (List Byte) × State :=
  let (ok, s) := dramReach initiator false addr n s
  if !ok then (none, s)
  else
    match ue.find? (fun a => decide (addr ≤ a ∧ a < addr + n)) with
    | some a => (none, dramError a s)
    | none => (some (s.dramRead addr n), s)

/-- Write DRAM for a hardware initiator, if it reaches the place. -/
def dramStore (initiator addr : Nat) (l : List Byte) (s : State) : Bool × State :=
  let (ok, s) := dramReach initiator true addr l.length s
  if ok then (true, s.dramWrite addr l) else (false, s)

end Sys2Proof.Machine
end

