-- ==== Sys2Proof/Machine/Weights.lean ====
section
/-!
DEFINITION. Arithmetic of weight vectors (R74, R75): complex rationals, the scaling to unit norm, the phase of a look
vector at a bin, and the minimum-variance solution.  A vector is a list of rationals, in-phase and quadrature in turn.
-/

namespace Sys2Proof.Machine

/-- A complex rational: in-phase and quadrature. -/
abbrev Cx := Rat × Rat

/-- Product of complex numbers. -/
def cxMul (a b : Cx) : Cx := (a.1 * b.1 - a.2 * b.2, a.1 * b.2 + a.2 * b.1)

/-- Difference of complex numbers. -/
def cxSub (a b : Cx) : Cx := (a.1 - b.1, a.2 - b.2)

/-- Quotient of complex numbers; the divisor is not 0. -/
def cxDiv (a b : Cx) : Cx :=
  let n := b.1 * b.1 + b.2 * b.2
  ((a.1 * b.1 + a.2 * b.2) / n, (a.2 * b.1 - a.1 * b.2) / n)

/-- The complex elements of a vector. -/
def cxElements (v : List Rat) : List Cx :=
  match v with
  | i :: q :: rest => (i, q) :: cxElements rest
  | _ => []

/-- A vector of complex elements. -/
def cxVector (l : List Cx) : List Rat := l.flatMap (fun z => [z.1, z.2])

/-- A vector scaled to unit norm (R75); the zero vector has no such multiple and stays. -/
def unitNorm (v : List Rat) : List Rat :=
  let n := (v.map (fun x => x * x)).sum
  if n = 0 then v else v.map (fun x => x / Config.squareRoot n)

/-- A complex number whose phase is multiplied by a ratio (R74); one of phase 0 stays. -/
def phaseTimes (ratio : Rat) (z : Cx) : Cx :=
  if z.2 = 0 ∧ 0 ≤ z.1 then z
  else
    let m := Config.squareRoot (z.1 * z.1 + z.2 * z.2)
    let a := ratio * Config.angle z.1 z.2
    (m * Config.cosine a, m * Config.sine a)

/-- The solution of `n` linear equations, each a row of its coefficients and its right side, by elimination; none
where they are singular. -/
def cxSolve (n : Nat) (rows : List (List Cx)) : Option (List Cx) :=
  match n with
  | 0 => some []
  | n + 1 =>
    match rows.find? (fun r => decide (r.headD (0, 0) ≠ (0, 0))) with
    | none => none
    | some p =>
      let q := p.map (fun z => cxDiv z (p.headD (0, 0)))
      let rest := (rows.erase p).map (fun r => (List.zipWith (fun x y => cxSub x (cxMul (r.headD (0, 0)) y)) r q).drop 1)
      match cxSolve n rest with
      | none => none
      | some xs => some ((List.zipWith cxMul (q.drop 1) xs).foldl cxSub (q.getLastD (0, 0)) :: xs)

/-- (R + δI)^−1 a over the chains of a mask (R74), 0 for the other chains; a singular R + δI has no such vector, and
what the combiner then applies is left open. -/
def minimumVariance (r : List Rat) (delta : Rat) (a : List Rat) (mask : Nat) : List Rat :=
  let idx := onesOf mask 16
  let m := cxElements r
  let v := cxElements a
  let entry (i j : Nat) : Cx :=
    let z := m.getD (16 * i + j) (0, 0)
    if i = j then (z.1 + delta, z.2) else z
  match cxSolve idx.length (idx.map (fun i => idx.map (entry i) ++ [v.getD i (0, 0)])) with
  | some xs => cxVector ((List.range 16).map (fun i => ((idx.idxOf? i).bind (fun k => xs[k]?)).getD (0, 0)))
  | none => Config.singularWeights r

end Sys2Proof.Machine
end

