-- ==== Sys2Proof/Machine/Phy.lean ====
section
/-!
DEFINITION. What a lane and a limb do to the bits of a frame (R97 to R101, R106 to R108, R119): convolutional codes and
their soft-decision decoding, interleaving, spreading, chip sequences, whitening, and the equaliser's adaptation.
A soft value is above 0 for a received 1, and its size says how sure the lane is.
-/

namespace Sys2Proof.Machine

/-- The hard decision of a soft value. -/
def hard (v : Int) : Bool := decide (0 < v)

/-- The bits of a word, bit 0 first. -/
def bitsFrom (n w : Nat) : List Bool := (List.range n).map (fun i => w.testBit i)

/-- The bits of octets, least significant bit first (R97, R100). -/
def bitsOf (l : List Byte) : List Bool := l.flatMap (fun b => bitsFrom 8 b.toNat)

/-- The word whose bit i is the i-th of a list. -/
def wordFrom (l : List Bool) : Nat :=
  match l with
  | [] => 0
  | b :: rest => b.toNat + 2 * wordFrom rest

/-- Octets of a bit sequence, least significant bit first. -/
def octetsOf (n : Nat) (l : List Bool) : List Byte :=
  match n with
  | 0 => []
  | n + 1 => BitVec.ofNat 8 (wordFrom (l.take 8)) :: octetsOf n (l.drop 8)

/-! Convolutional codes of rate 1/2 (R97, R99, R108). -/

/-- A code: its states, the state an input bit leads to, and the pair it sends. -/
structure Trellis where
  states : Nat
  next : Nat → Bool → Nat
  pair : Nat → Bool → Bool × Bool

/-- The Understory code (R99): K = 7, G0 = 171 and G1 = 133 octal, whose top bit taps the present input. -/
def understoryCode : Trellis where
  states := 64
  next st b := (64 * b.toNat + st) / 2
  pair st b :=
    let r := 64 * b.toNat + st
    (popCount (r &&& 0o171) 7 % 2 = 1, popCount (r &&& 0o133) 7 % 2 = 1)

/-- The SUN-FSK code (R97): K = 4, NRNSC or RSC, as IEEE 802.15.4-2020 defines them. -/
def fskCode (rsc : Bool) : Trellis where
  states := 8
  next st b := (Config.fskEncoder rsc st b).toNat / 4
  pair st b := ((Config.fskEncoder rsc st b).toNat.testBit 1, (Config.fskEncoder rsc st b).toNat.testBit 0)

/-- The coded bits of an input from a state, and the state it leaves. -/
def encode (t : Trellis) (st : Nat) (l : List Bool) : List Bool × Nat :=
  match l with
  | [] => ([], st)
  | b :: rest =>
    let (p, q) := t.pair st b
    let (out, e) := encode t (t.next st b) rest
    (p :: q :: out, e)

/-- A path through a trellis: how well it matches, and its input bits, the last first. -/
abbrev Path := Option (Int × List Bool)

/-- How well a pair of soft values matches a pair of bits. -/
def matchOf (x y : Int) (p : Bool × Bool) : Int := (if p.1 then x else -x) + if p.2 then y else -y

/-- The better of two paths into a state at a step; which of equals survives is left open. -/
def betterPath (step st : Nat) (a b : Path) : Path :=
  match a, b with
  | none, b => b
  | a, none => a
  | some x, some y => if x.1 < y.1 ∨ (x.1 = y.1 ∧ Config.decoderTie step st) then some y else some x

/-- One step of the Viterbi decoder: the surviving path into each state (R108). -/
def viterbiStep (t : Trellis) (step : Nat) (x y : Int) (paths : List Path) : List Path :=
  let grown := (List.range t.states).flatMap (fun st => [false, true].map (fun b =>
    (t.next st b, (paths.getD st none).map (fun (m, l) => (m + matchOf x y (t.pair st b), b :: l)))))
  (List.range t.states).map (fun st => (grown.filter (fun g => decide (g.1 = st))).foldl (fun a g => betterPath step st a g.2) none)

/-- The surviving paths after the soft values of the pairs that follow one another. -/
def viterbi (t : Trellis) (step : Nat) (rx : List Int) (paths : List Path) : List Path :=
  match rx with
  | x :: y :: rest => viterbi t (step + 1) rest (viterbiStep t step x y paths)
  | _ => paths

/-- The bits the soft-decision Viterbi decoder reads, from the zero state; ended says that the stream is whole and ends
in the zero state (R99, R108).  The traceback spans the whole stream. -/
def decode (t : Trellis) (ended : Bool) (rx : List Int) : List Bool :=
  let paths := viterbi t 0 rx ((List.range t.states).map (fun st => if st = 0 then some (0, []) else none))
  let best := if ended then paths.headD none else paths.foldl (betterPath (rx.length / 2) t.states) none
  ((best.map Prod.snd).getD []).reverse

/-- Coded bits whose hard decision differs from the decoded stream coded again (R108). -/
def corrected (t : Trellis) (rx : List Int) (decoded : List Bool) : Nat :=
  ((List.zipWith (fun v b => decide (hard v ≠ b)) rx (encode t 0 decoded).1).filter id).length

/-! Interleaving, spreading and chip sequences (R97 to R99). -/

/-- Coded SUN-FSK soft values in coded order: each block of 32 is put back as the standard's interleaver set it (R97). -/
def deinterleave (rx : List Int) : List Int :=
  (List.range (rx.length / 32)).flatMap (fun k => (List.range 32).map (fun i => rx.getD (32 * k + (Config.fskInterleaver (BitVec.ofNat 5 i)).toNat) 0))

/-- Coded SUN-FSK bits as they are sent (R97). -/
def interleave (l : List Bool) : List Bool :=
  (List.range (l.length / 32)).flatMap (fun k => (List.range 32).map (fun j =>
    (List.range 32).any (fun i => decide ((Config.fskInterleaver (BitVec.ofNat 5 i)).toNat = j) && l.getD (32 * k + i) false)))

/-- The chips of coded bits (R99): bit 0 gives 0, 1, 1, 0 and bit 1 gives 1, 0, 0, 1. -/
def spreadBits (l : List Bool) : List Bool := l.flatMap (fun b => if b then [true, false, false, true] else [false, true, true, false])

/-- The soft value of each coded bit from those of its four chips. -/
def despread (rx : List Int) : List Int :=
  match rx with
  | a :: b :: c :: d :: rest => (a - b - c + d) :: despread rest
  | _ => []

/-- The chips of an O-QPSK symbol, first chip first (R98): the 16 sequences of IEEE 802.15.4-2020. -/
def chipsOf (symbol : Nat) : List Bool :=
  let base := (bitsFrom 32 0xD9C3522E).reverse
  let turned := base.rotateRight (4 * (symbol % 8))
  if symbol < 8 then turned else turned.zipIdx.map (fun (c, i) => if i % 2 = 1 then !c else c)

/-- Chips in which received soft values differ from a symbol's sequence. -/
def chipErrors (rx : List Int) (symbol : Nat) : Nat :=
  ((List.zipWith (fun v c => decide (hard v ≠ c)) rx (chipsOf symbol)).filter id).length

/-- The symbol whose sequence matches best, and the chips in which it differs (R98); which of equals is left open. -/
def bestSymbol (rx : List Int) : Nat × Nat :=
  let l := (List.range 16).map (fun k => (k, chipErrors rx k))
  let best := (l.map Prod.snd).foldl min 32
  match l.filter (fun x => decide (x.2 = best)) with
  | [] => (0, best)
  | a :: rest => rest.foldl (fun a b => if Config.decoderTie a.1 b.1 then b else a) a

/-- The symbols of soft chips, each with its chip errors. -/
def symbolsOf (n : Nat) (rx : List Int) : List (Nat × Nat) :=
  match n with
  | 0 => []
  | n + 1 => bestSymbol (rx.take 32) :: symbolsOf n (rx.drop 32)

/-! Whitening (R97). -/

/-- Whitening's PN9 sequence (R97): `n` bits from a register whose bit 0 is the oldest. -/
def pn9 (n r : Nat) : List Bool :=
  match n with
  | 0 => []
  | n + 1 =>
    let b := xor (r.testBit 0) (r.testBit 5)
    b :: pn9 n (r / 2 + 256 * b2n b)

/-- Whiten a PSDU, or remove its whitening (R97, R99). -/
def dewhiten (l : List Byte) : List Byte := List.zipWith (· ^^^ ·) l (octetsOf l.length (pn9 (8 * l.length) 511))

/-! What a lane reads after the delimiter, and what a limb sends. -/

/-- The soft values of a coded frame that its decoder takes: of a whole frame with a PSDU of known octets those up to the
end of the tail that forces the zero state (K − 1 bits after the PSDU), the padding of the last interleaver block left out (R97, R108). -/
def codedPart (memory : Nat) (whole : Option Nat) (rx : List Int) : List Int :=
  match whole with
  | some len => rx.take (2 * (16 + 8 * len + memory))
  | none => rx

/-- The bits a lane decodes from the soft values that follow the delimiter, and the count of R108: PHR first; of a frame
that is whole, the octets of its PSDU are given. -/
def decodeBits (format : Nat) (coded : Bool) (fsk : Nat) (whole : Option Nat) (rx : List Int) : List Bool × Nat :=
  if format = 1 then
    let l := symbolsOf (rx.length / 32) rx
    (l.flatMap (fun x => bitsFrom 4 x.1), (l.filter (fun x => decide (6 < x.2))).length)
  else if format = 2 then
    let r := codedPart 6 whole (despread rx)
    let b := decode understoryCode whole.isSome r
    (b, corrected understoryCode r b)
  else if coded then
    let r := codedPart 3 whole (if bits fsk 2 1 = 1 then deinterleave rx else rx)
    let b := decode (fskCode (fsk.testBit 1)) whole.isSome r
    (b, corrected (fskCode (fsk.testBit 1)) r b)
  else (rx.map hard, 0)

/-- PHR bits of a format (R97, R98, R101). -/
def phrBits (format : Nat) : Nat := if format = 1 then 8 else 16

/-- Duration of one PSDU octet in ns (R95, R97, R98, R100), rounded down. -/
def octetNs (format mode : Nat) (coded : Bool) : Nat :=
  if format = 1 then 32000
  else if format = 2 then 1280000
  else
    let rate := if mode = 0 then 50 else if mode = 1 then 100 else if mode = 2 then 150 else if mode = 3 then 200
      else if mode = 4 then 200 else if mode = 5 then 300 else 400
    (if coded then 16000000 else 8000000) / rate

/-! The equaliser (R105 to R107). -/

/-- The conjugate of a complex number. -/
def cxConj (z : Cx) : Cx := (z.1, -z.2)

/-- Sum of complex numbers. -/
def cxAdd (a b : Cx) : Cx := (a.1 + b.1, a.2 + b.2)

/-- The squared magnitude of a complex number. -/
def cxPower (z : Cx) : Rat := z.1 * z.1 + z.2 * z.2

/-- The output of taps over samples. -/
def tapsOut (taps xs : List Cx) : Cx := (List.zipWith cxMul taps xs).foldl cxAdd (0, 0)

/-- Taps moved by LMS with step 2^-k: each by the error times the conjugate of its sample (R106). -/
def lms (k : Nat) (e : Cx) (taps xs : List Cx) : List Cx :=
  taps.zipIdx.map (fun (w, i) =>
    let g := cxMul e (cxConj (xs.getD i (0, 0)))
    (w.1 + g.1 / 2 ^ k, w.2 + g.2 / 2 ^ k))

/-- The mean of error powers. -/
def meanOf (l : List Rat) : Rat := l.sum / l.length

/-- The equaliser meets one symbol, in training or after it, held at 0 in its feedback after a reset: it adapts as
LNE_POOL_EQ says (R105, R106). -/
def eqSymbol (cfg : Nat) (training held : Bool) (x : EqSymbol) (q : Equaliser) : Equaliser :=
  let mode := bits cfg 0 2
  let k := clamp 4 12 (if training then bits cfg 4 4 else bits cfg 8 4)
  let e := cxSub x.wanted (cxAdd (tapsOut q.forward x.samples) (tapsOut q.back q.decided))
  let errs (l : List Rat) : List Rat := (cxPower e :: l).take 32
  { q with
    forward := if mode = 0 then q.forward else lms k e q.forward x.samples
    back := if mode ≤ 1 || held then q.back else lms k e q.back q.decided
    decided := (x.wanted :: q.decided).take 8
    trainErr := if training then errs q.trainErr else q.trainErr
    dataErr := if training then q.dataErr else errs q.dataErr }

/-- Whether the error power of the last 32 symbols exceeds four times its mean in training (R107). -/
def eqFails (q : Equaliser) : Bool :=
  q.trained.isSome && decide (q.dataErr.length = 32) && !q.trainErr.isEmpty && decide (4 * meanOf q.trainErr < meanOf q.dataErr)

/-- The equaliser meets the symbols of a frame's training or data; the flag says that it has returned to the taps it was
trained to, at most once in a frame (R106, R107). -/
def equalise (cfg : Nat) (training : Bool) (l : List EqSymbol) (q : Equaliser) (done : Bool) : Equaliser × Bool :=
  match l with
  | [] => (q, done)
  | x :: rest =>
    let q := eqSymbol cfg training done x q
    if !training && !done && eqFails q then
      equalise cfg training rest { q with forward := q.trained.getD q.forward, back := List.replicate 8 (0, 0) } true
    else equalise cfg training rest q done

end Sys2Proof.Machine
end

