-- ==== Sys2Proof/Machine/Ppdu.lean ====
section
/-!
DEFINITION. What a limb sends (R97 to R101, R119) and the 96 bytes of a transmit descriptor (R141).
-/

namespace Sys2Proof.Machine

/-- The PHR of a frame, bit i the i-th bit sent (R97, R98, R101). -/
def txPhr (d : TxDesc) : Nat :=
  let n := d.psdu.length
  if d.format = 0 then b2n d.crc16 * 8 + b2n d.whiten * 16 + wordFrom ((bitsFrom 11 n).reverse) * 32
  else if d.format = 1 then n % 128
  else
    let w := n % 256 + 256
    w + crc4 w * 4096

/-- The bits of the PHR and the whitened PSDU in the order sent (R97 to R100). -/
def txBits (d : TxDesc) : List Bool :=
  let psdu := if d.format = 2 ∨ (d.format = 0 ∧ d.whiten) then dewhiten d.psdu else d.psdu
  bitsFrom (phrBits d.format) (txPhr d) ++ bitsOf psdu

/-- The delimiter of a SUN-FSK frame, the top bit first (R97; the order is PRESUMED, notes/assumptions/124). -/
def fskDelimiter (d : TxDesc) : List Bool :=
  let w := if d.coded then (if d.sfdGroup = 0 then 0x6F4E else 0x632D) else (if d.sfdGroup = 0 then 0x904E else 0x7A0E)
  (bitsFrom 16 w).reverse

/-- The two symbols of an O-QPSK octet, the low half first (R98). -/
def nibbles (b : Byte) : List Nat := [b.toNat % 16, b.toNat / 16]

/-- The PPDU a limb's modulator produces, as the bits or chips it sends (R119). -/
def ppdu (d : TxDesc) : List Bool :=
  let body := txBits d
  if d.format = 1 then
    ((List.replicate d.preamble 0#8 ++ [0xA7#8]).flatMap nibbles ++
      (octetsOf (1 + d.psdu.length) body).flatMap nibbles).flatMap chipsOf
  else if d.format = 2 then
    bitsOf (List.replicate d.preamble 0x55#8) ++ spreadBits (bitsFrom 32 0x9B1E4A73).reverse ++
      spreadBits (encode understoryCode 0 (body ++ List.replicate 6 false)).1
  else
    let start := bitsOf (List.replicate d.preamble (if d.mode = 4 ∨ d.mode = 6 then Config.fourFskPreamble else 0x55#8)) ++ fskDelimiter d
    if !d.coded then start ++ body
    else
      let c := fskCode d.rsc
      let (l, st) := encode c 0 body
      let l := l ++ (encode c st (Config.fskTail d.rsc st (decide (d.psdu.length % 2 = 0)))).1
      start ++ if d.interleave then interleave l else l

/-- The octets of a frame that the limb's frame buffer holds: PHR and PSDU (R119). -/
def buffered (d : TxDesc) : List Byte :=
  if d.format = 1 then leBytes 1 (txPhr d) ++ d.psdu else leBytes 2 (txPhr d) ++ d.psdu

/-- A transmit descriptor as it is laid out, the completion with it (R141). -/
def txImage (x : TxDone) : List Byte :=
  let d := x.desc
  let fl := b2n d.coded + 2 * b2n d.whiten + 4 * b2n d.crc16 + 8 * b2n (!d.weights.isEmpty) + 16 * b2n d.cxPri
    + 32 * b2n d.interleave + 64 * b2n d.rsc
  let buf := match d.cells with
    | [] => 0
    | c :: _ => c % 2 ^ 17 + (d.cells.length % 16) * 2 ^ 24
  let cr := match d.cell with
    | some (_, i) => 2 ^ 31 + i % 2 ^ 19
    | none => 0
  leBytes 1 1 ++ leBytes 1 (d.limb % 8) ++ leBytes 1 (d.format * 64 + d.mode) ++ leBytes 1 fl ++ leBytes 1 (d.ret % 4) ++
  leBytes 1 (unsigned 8 d.power) ++ leBytes 2 d.preamble ++ leBytes 8 d.launch ++ leBytes 4 d.chanFw ++
  leBytes 4 (unsigned 32 d.tilt) ++ leBytes 4 d.nextFw ++ leBytes 4 buf ++ leBytes 2 d.psdu.length ++ leBytes 1 d.sfdGroup ++
  leBytes 1 0 ++ leBytes 4 cr ++ leBytes 4 (d.lid % 2 ^ 17) ++ leBytes 4 d.tag ++ leBytes 1 x.status ++ leBytes 1 d.arrival ++
  leBytes 1 x.limbsOnAir ++ leBytes 1 0 ++ leBytes 4 x.lateNs ++ leBytes 8 x.actual ++ fit 32 d.weights

end Sys2Proof.Machine
end

