-- ==== Sys2Proof/Machine/Traffic.lean ====
section
/-!
DEFINITION. Traffic operations: packet-buffer cells and allocations (R224 to R227), drops, shapers
(R235, R236) and the port and host queues' shared steps (R232, R233).
-/

namespace Sys2Proof.Machine

/-- One of several choices the manual leaves open: the only one, or one picked by a free value. -/
def pick {α : Type} (s : State) (xs : List α) : Option α :=
  match xs with
  | [] => none
  | [x] => some x
  | xs => xs[(s.open 32) % xs.length]?

/-- The first packet-buffer cell at or after `c` that nothing holds, among `n` cells. -/
def nextCell (held : List Nat) (n c fuel : Nat) : Nat :=
  match fuel with
  | 0 => c % n
  | fuel + 1 => if held.contains (c % n) then nextCell held n (c + 1) fuel else c % n

/-- `k` cells that nothing holds, the first at a place the manual leaves open. -/
def takeCells (held : List Nat) (n c k : Nat) : List Nat :=
  match k with
  | 0 => []
  | k + 1 =>
    let x := nextCell held n c (held.length + 1)
    x :: takeCells (x :: held) n (x + 1) k

/-- Cells of the packet buffer: 4,096 in each MiB (R224). -/
def bufferCells (s : State) : Nat :=
  match s.stand.inForce with
  | some p => p.pbMib * 4096
  | none => 16 * 4096

/-- The cells of slices owned by Graft staging (R43). -/
def graftCells (s : State) : List Nat :=
  ((upTo (bufferCells s / 4096)).filter (fun i => decide (s.owner 5 i = 0x0600))).flatMap
    (fun i => (upTo 4096).map (4096 * i + ·))

/-- The cells of slices that traffic does not own (R39, R224). -/
def barredCells (s : State) : List Nat :=
  ((upTo (bufferCells s / 4096)).filter (fun i => decide (s.owner 5 i ≠ 0x0700))).flatMap
    (fun i => (upTo 4096).map (4096 * i + ·))

/-- Cells used beyond an allocation's reserve (R226). -/
def beyond (s : State) (k : Nat) : Nat := s.get (F.TRF_POOL_USED_used k) - s.get (F.TRF_POOL_RES_reserve k)

/-- Shared cells that are free (R226). -/
def sharedFree (s : State) : Nat :=
  s.get F.TRF_CELLS_cells - ((upTo 6).map (fun k => s.get (F.TRF_POOL_RES_reserve k))).sum - ((upTo 6).map (beyond s)).sum

/-- Whether allocation `k` can take `n` more cells: from its unused reserve first, then from the
shared cells, within its limit (R226). -/
def canTake (s : State) (k n : Nat) : Bool :=
  let used := s.get (F.TRF_POOL_USED_used k)
  let lim := s.get (F.TRF_POOL_LIM_limit k)
  decide (lim = 0 ∨ used + n ≤ lim) &&
    decide (n - (s.get (F.TRF_POOL_RES_reserve k) - used) ≤ sharedFree s)

/-- Charge `n` cells to an allocation. -/
def charge (k n : Nat) (s : State) : State :=
  s.set (F.TRF_POOL_USED_used k) (s.get (F.TRF_POOL_USED_used k) + n)

/-- Return `n` cells of an allocation's charge. -/
def discharge (k n : Nat) (s : State) : State :=
  s.set (F.TRF_POOL_USED_used k) (s.get (F.TRF_POOL_USED_used k) - n)

/-- Cells of the packet buffer that nothing holds, in slices that traffic owns. -/
def unheld (s : State) : Nat :=
  let own (i : Nat) : Bool := s.stand.inForce.isNone || decide (s.owner 5 i = 0x0700)
  4096 * ((upTo (bufferCells s / 4096)).filter own).length - (s.traffic.held.filter (fun c => own (c / 4096))).length

/-- Take cells for a frame of `len` bytes (R224): none where the allocation cannot, or where
PD_MEM2 fences the access (R373); none either where fewer cells are free than the allocation may take, as after a reserve
was raised over cells in use (R227; DESIGN CHOICE, notes/assumptions/163). -/
def allocCells (k len : Nat) (s : State) : Option (List Nat) × State :=
  let n := ceilDiv len 256
  let (ok, s) := hwAccess 9 6 0 true s
  if ok && canTake s k n && decide (n ≤ unheld s) then
    let cells := takeCells (s.traffic.held ++ (if s.stand.inForce.isSome then barredCells s else [])) (bufferCells s) (s.open 17) n
    let s := charge k n s.used
    (some cells, { s with traffic := { s.traffic with held := s.traffic.held ++ cells } }.healCells cells)
  else (none, s)

/-- Release a frame's cells from an allocation (R226). -/
def freeCells (k : Nat) (cells : List Nat) (s : State) : State :=
  let s := discharge k cells.length s
  { s with traffic := { s.traffic with held := s.traffic.held.filter (fun c => !cells.contains c) } }

/-- Move a frame's charge to its destination's allocation without a copy, where that can take it
(R226). -/
def moveCharge (k k' n : Nat) (s : State) : Option State :=
  let s' := discharge k n s
  if canTake s' k' n then some (charge k' n s') else none

/-- Count a dropped frame by its cause (TRF_DROP_CNT). -/
def countDrop (cause : Nat) (s : State) : State :=
  let s := (s.inc (F.TRF_DROP_CNT_count cause)).event F.TRF_STAT_drop F.TRF_EVCNT_drop_cnt
  let s := s.setIf (decide (cause = 0)) F.TRF_STAT_no_cell 1
  if cause = 2 then s.event F.TRF_STAT_spill_full F.TRF_EVCNT_spill_full_cnt else s

/-! Shapers (R235, R236). Queue IDs: 0 to 63 class queues, 64 + 8p + q port queues, 96 to 103 host
queues. -/

/-- The enabled shaper of a queue, if any. -/
def shaperOf (s : State) (queue : Nat) : Option Nat :=
  firstBelow 96 (fun i => s.on (F.TRF_SHP0_en i) && decide (s.get (F.TRF_SHP0_queue i) = queue))

/-- Line rate of a port in kb/s (R405). -/
def lineRate (s : State) (p : Nat) : Nat := if s.get (F.ETH_CFG_mode p) = 2 then 25000000 else 10000000

/-- The rate a shaper's queue sends at, in kb/s (R235). -/
def shaperRate (s : State) (i : Nat) : Nat :=
  let q := s.get (F.TRF_SHP0_queue i)
  if q < 64 then s.get (F.TRF_SHP2_port_rate i)
  else if q < 96 then lineRate s ((q - 64) / 8)
  else Config.hostQueueRate (q - 96)

/-- Whether a class queue has an on-chip head frame waiting to be taken (R235). -/
def classHolds (s : State) (c : Nat) : Bool :=
  s.traffic.vqs.any (fun (_, q) =>
    match q with
    | f :: _ => decide (f.cls = c) && f.spilled.isNone && !f.taken
    | [] => false)

/-- Whether the queue of a shaper holds a frame (R235). -/
def queueHolds (s : State) (q : Nat) : Bool :=
  if q < 64 then classHolds s q
  else if q < 96 then !(tabGet s.traffic.ports (q - 64) []).isEmpty
  else !(tabGet s.traffic.hosts (q - 96) []).isEmpty

/-- Credit bounds in 1/256 bit (R235). -/
def creditBounds (s : State) (i : Nat) : Int × Int :=
  (signed 32 (s.get (F.TRF_SHP4_lo_credit i)) * 256, (s.get (F.TRF_SHP3_hi_credit i) : Int) * 256)

/-- A shaper's credit brought up to the present (R235): it rises at idle_slope while the queue holds
a frame and no sending period runs, and toward 0 while the queue is empty with credit below 0; there too a sending period ends
first (DESIGN CHOICE, notes/assumptions/166).  What rises by less than 1/256 bit is kept. -/
def shaperNow (s : State) (i : Nat) : ShaperState :=
  let x := tabGet s.traffic.shapers i {}
  let start := max x.updated x.sendingTo
  let dt := s.now - start
  let total := x.part + s.get (F.TRF_SHP1_idle_slope i) * dt * 256
  let rise : Int := ((total / 1000000 : Nat) : Int)
  let b := creditBounds s i
  let (c, stop) := if queueHolds s (s.get (F.TRF_SHP0_queue i)) then (clampInt b.1 b.2 (x.credit + rise), decide (b.2 ≤ x.credit + rise))
    else if x.credit < 0 then (min 0 (x.credit + rise), decide (0 ≤ x.credit + rise)) else (x.credit, true)
  { x with credit := c, updated := max start s.now, part := if stop then 0 else total % 1000000 }

/-- Store a shaper's state and show the integer part of its credit. -/
def putShaper (i : Nat) (x : ShaperState) (s : State) : State :=
  let s := { s with traffic := { s.traffic with shapers := tabPut s.traffic.shapers i x } }
  s.set (F.TRF_SHP5_credit i) (unsigned 32 (x.credit.fdiv 256))

/-- Bring every enabled shaper's credit up to the present, before its queue changes. -/
def syncShapers (s : State) : State :=
  each ((upTo 96).filter (fun i => s.on (F.TRF_SHP0_en i))) (fun i s => putShaper i (shaperNow s i) s) s

/-- Whether a queue is eligible (R236). -/
def eligible (s : State) (queue : Nat) : Bool :=
  match shaperOf s queue with
  | none => true
  | some i => decide (shaperRate s i ≤ s.get (F.TRF_SHP1_idle_slope i)) || decide (0 ≤ (shaperNow s i).credit)

/-- Charge a take of `len` bits to the queue's shaper (R235); `empties` says that the take leaves
the queue empty.  A port_rate of 0, of which the manual states neither charge nor period, counts as 1 kb/s (DESIGN CHOICE,
notes/assumptions/167). -/
def shaperTake (queue bitsLen : Nat) (empties : Bool) (s : State) : State :=
  match shaperOf s queue with
  | none => s
  | some i =>
    let x := shaperNow s i
    let rate := shaperRate s i
    let slope := s.get (F.TRF_SHP1_idle_slope i)
    let b := creditBounds s i
    let c := x.credit + ((bitsLen * 256 : Nat) : Int) * ((slope : Int) - rate) / (max rate 1 : Nat)
    let c := clampInt b.1 b.2 c
    let c := if empties && decide (0 < c) then 0 else c
    putShaper i { x with credit := c, sendingTo := max s.now x.sendingTo + bitsLen * 1000000 / max rate 1, updated := s.now } s

/-! Host queues (R233). -/

/-- Number of descriptors of a ring: log2_size below 4 acts as 4, above 12 as 12 (R209). -/
def ringSize (log2 : Nat) : Nat := 2 ^ clamp 4 12 log2

/-- The 32-byte host descriptor the part fills (R234): its own fields, with the buffer and tag that
software posted kept. -/
def hostDescriptor (old : List Byte) (kind len q stamp : Nat) : List Byte :=
  leBytes 1 1 ++ leBytes 1 kind ++ leBytes 2 len ++ leBytes 1 0 ++ leBytes 1 q ++ leBytes 2 0 ++
  slice old 8 8 ++ leBytes 4 0 ++ slice old 20 4 ++ leBytes 8 stamp

/-- The vector and the interrupt block of a host queue's to-host ring (R414). -/
def hostVector (q : Nat) : Nat := 28 + q / 2

/-- Deliver one waiting frame of host queue `q` into a posted buffer, if there is one and the queue is eligible (R233,
R236) and PD_DDR lets the descriptor and the data through (R373); the take is charged with the frame's length, DEDUCED, entry 130. -/
def deliverOne (q : Nat) (s : State) : State :=
  match tabGet s.traffic.hosts q [] with
  | [] => s
  | f :: rest =>
    let n := ringSize (s.get (F.TRF_HQ_TH_CFG_log2_size q))
    let h := s.get (F.TRF_HQ_TH_HEAD_index q) % n
    if !s.on (F.TRF_HQ_TH_CFG_en q) || decide (h = s.get (F.TRF_HQ_TH_TAIL_index q) % n) || !eligible s (96 + q) then s
    else if s.cellsLost f.cells then
      let s := syncShapers s
      countDrop 6 (freeCells 5 f.cells { s with traffic := { s.traffic with hosts := tabPut s.traffic.hosts q rest } })
    else
      let a := s.pair (F.TRF_HQ_TH_BASE_LO_addr q) (F.TRF_HQ_TH_BASE_HI_addr q) / 32 * 32 + 32 * h
      let (open_, s) := hwAccess 26 6 (a % 2 ^ 32) true s
      if !open_ then s
      else
      let s := shaperTake (96 + q) (8 * f.frame.length) rest.isEmpty (syncShapers s)
      let old := s.dramRead a 32
      let s := if s.dramOk (leAt old 8 8) f.frame.length then s.dramWrite (leAt old 8 8) f.frame else s
      let s := s.dramWrite a (hostDescriptor old f.kind f.frame.length q f.stamp)
      let s := s.set (F.TRF_HQ_TH_HEAD_index q) ((h + 1) % n)
      let s := { s with traffic := { s.traffic with hosts := tabPut s.traffic.hosts q rest } }
      ringVector (hostVector q) 0x38 (freeCells 5 f.cells s)

/-- Deliver waiting frames into posted buffers, at most `n`. -/
def deliverHost (q n : Nat) (s : State) : State :=
  match n with
  | 0 => s
  | n + 1 =>
    let s1 := deliverOne q s
    if (tabGet s1.traffic.hosts q []).length = (tabGet s.traffic.hosts q []).length then s1 else deliverHost q n s1

/-- Deliver what the host queues may send. -/
def deliverHosts (s : State) : State := each (upTo 8) (fun q s => deliverHost q (tabGet s.traffic.hosts q []).length s) s

/-- Append a frame to a host queue. -/
def addHost (q : Nat) (f : HostFrame) (s : State) : State :=
  { s with traffic := { s.traffic with hosts := tabMod s.traffic.hosts q [] (· ++ [f]) } }

/-- A frame of a queue that Crown firmware handles wakes it (R382). -/
def tellCrown (q : Nat) (s : State) : State :=
  if s.owner 6 0x38 = 0x0900 then (wakeCrown s).emit (.crownFrame q) else s

/-- Put a frame that holds cells of allocation `k` in a host queue (R233): a frame that finds
TO_HOST at its limit is dropped with HOST_FULL, one it cannot take otherwise with NO_CELL (R226). -/
def toHost (q kind k : Nat) (frame : List Byte) (stamp : Nat) (cells : List Nat) (s : State) : State :=
  match moveCharge k 5 cells.length s with
  | none =>
    let lim := s.get (F.TRF_POOL_LIM_limit 5)
    countDrop (if lim ≠ 0 ∧ lim < s.get (F.TRF_POOL_USED_used 5) + cells.length then 5 else 0) (freeCells k cells s)
  | some s => deliverHost q 1 (tellCrown q (addHost q ⟨kind, frame, stamp, cells⟩ (syncShapers s)))

end Sys2Proof.Machine
end

