-- ==== Sys2Proof/Machine/Canopy.lean ====
section
/-!
DEFINITION. The receive front (R50 to R71): chains, gain, the external LNA pin, the included sets and
their weights (R80, R76), windows, slices and the quiet map.
-/

namespace Sys2Proof.Machine

/-! Streams and bins. -/

/-- The stream IDs of the plan in force (SPC_STREAM.valid). -/
def validStreams (s : State) : List Nat :=
  s.regs.filterMap (fun (o, w) =>
    if 0x184000 ≤ o ∧ o < 0x186000 ∧ w.toNat.testBit 31 then some ((o - 0x184000) / 4) else none)

/-- The window of a bin. -/
def binWindow (s : State) (b : Nat) : Nat := s.get (F.CHZ_BIN_window b)

/-- The window of a stream. -/
def streamWindow (s : State) (i : Nat) : Nat := binWindow s (s.get (F.SPC_STREAM_bin i))

/-- The streams of a window. -/
def windowStreams (s : State) (w : Nat) : List Nat :=
  (validStreams s).filter (fun i => decide (streamWindow s i = w))

/-- The streams of a bin. -/
def binStreams (s : State) (b : Nat) : List Nat :=
  (validStreams s).filter (fun i => decide (s.get (F.SPC_STREAM_bin i) = b))

/-- Whether a lane holds a stream, so that its weights are frozen (R76). -/
def frozen (s : State) (i : Nat) : Bool := s.lanes.frames.any (fun (_, f) => decide (f.req.stream = i))

/-- Bin width in kHz times 2 of a bin code (R65). -/
def binWidth2 (code : Nat) : Nat :=
  if code = 0 then 25 else if code = 1 then 50 else if code = 2 then 100 else if code = 3 then 200
  else if code = 4 then 400 else if code = 5 then 800 else if code = 6 then 2000 else if code = 7 then 4000
  else 10000

/-- The centre of a bin in Hz (R62). -/
def binCentreHz (s : State) (b : Nat) : Int :=
  let w := binWindow s b
  ((s.get (F.CHZ_WIN_CENTRE_centre_khz w) : Int) * 1000) - (s.get (F.CHZ_WIN_WIDTH_width_khz w) * 500 : Nat)
    + (s.get (F.CHZ_BIN_raster b) * binWidth2 (s.get (F.CHZ_WIN_CFG_bin_code w)) * 500 : Nat)

/-- Whether the raster position of a bin of an enabled window contains a frequency in 100 Hz (R62, R164). -/
def binHolds (s : State) (freq b : Nat) : Bool :=
  s.on (F.CHZ_WIN_CFG_enable (binWindow s b))
    && decide (2 * ((freq : Int) * 100 - binCentreHz s b).natAbs ≤ binWidth2 (s.get (F.CHZ_WIN_CFG_bin_code (binWindow s b))) * 500)

/-! Chains (R50 to R57, R452, R453). -/

/-- A chain's state beyond its registers. -/
def State.chain (s : State) (n : Nat) : ChainState := tabGet s.canopy.chains n {}

/-- Replace a chain's state. -/
def State.setChain (s : State) (n : Nat) (c : ChainState) : State :=
  { s with canopy := { s.canopy with chains := tabPut s.canopy.chains n c } }

/-- The top ladder of an ext_mode (R53). -/
def topLadder (ext : Nat) : Nat := if ext = 1 then 5 else 4

/-- Whether the external LNA is on for a mode and a ladder (R53). -/
def lnaOn (ext ladder : Nat) : Bool := decide (ext = 2) || (decide (ext = 1) && decide (ladder = 5))

/-- Whether the sampling clock runs, so that samples flow (R59, R60). -/
def clockRuns (s : State) : Bool := s.on F.CNP_CLK_locked && !s.canopy.stopped

/-- Whether a chain delivers samples (R50, R60). -/
def delivers (s : State) (n : Nat) : Bool :=
  s.on (F.CNP_CH_CTL_enable n) && s.domOn (11 + n / 4) && !s.pruned 2 n && clockRuns s

/-- Whether a chain is excluded from every window (R50, R55, R56, R68; a pruned chain, R383). -/
def excluded (s : State) (n : Nat) : Bool :=
  !s.on (F.CNP_CH_CTL_enable n) || !s.domOn (11 + n / 4) || s.pruned 2 n
  || s.on (F.CNP_CH_STATUS_saturated n) || (s.chain n).settling || (s.chain n).waitEdge

/-- Whether an exclusion is one that zeroes a frozen element at once (R76: R56 or R68). -/
def zeroesFrozen (s : State) (n : Nat) : Bool :=
  s.on (F.CNP_CH_STATUS_saturated n) || !s.domOn (11 + n / 4) || (s.chain n).waitEdge

/-- Whether a slice serves its half of a window: active or filling itself, or replaced by the spare
(R66, R67). -/
def halfServed (s : State) (i : Nat) : Bool :=
  sliceActive s i || decide (s.canopy.spare = .serving i) || decide (s.canopy.spare = .returning i)

/-- The included chains of a window, as a mask (R80); one that rejoins a window that is fed has no part in it for one
fill time (R68). -/
def includedMask (s : State) (w : Nat) : Nat :=
  if s.on (F.CHZ_WIN_CFG_enable w) then
    maskOf ((onesOf (s.get (F.CHZ_WIN_CFG_chain_mask w)) 16).filter
      (fun n => !excluded s n && halfServed s (2 * w + n / 8) && !s.canopy.joining.contains (w, n)))
  else 0

/-- A weight vector (in-phase and quadrature in turn) with the elements outside a mask zeroed. -/
def zeroOutside (mask : Nat) (v : List Rat) : List Rat :=
  v.zipIdx.map (fun (x, i) => if mask.testBit (i / 2) then x else 0)

/-- A weight vector restricted to a mask and scaled to unit norm (R75, R80). -/
def restrictTo (mask : Nat) (v : List Rat) : List Rat := unitNorm (zeroOutside mask v)

/-- Set a stream's weights in effect. -/
def putWeights (i : Nat) (v : List Rat) (s : State) : State :=
  { s with search := { s.search with weights := tabPut s.search.weights i v } }

/-- The elements of a stored weight vector (R79). -/
def storedElements (l : List Byte) : List Rat := l.map (fun b => ((signed 8 b.toNat : Int) : Rat))

/-- Whether a frame detected in a post's window still waits for a lane on its stream (R77). -/
def postWaits (s : State) (p : RxPost) : Bool :=
  s.search.requests.any (fun r => decide (p.stream = some r.stream ∧ p.opens ≤ r.stamp / 256 ∧ r.stamp / 256 ≤ p.closes))

/-- The post whose stored weights apply to a stream that no lane holds, if any (R77): its window is open, or a frame
detected in it waits for its lane. -/
def postOn (s : State) (i : Nat) : Option RxPost :=
  s.search.posts.find? (fun p => decide (p.stream = some i ∧ p.opens ≤ s.now) && (decide (s.now ≤ p.closes) || postWaits s p))

/-- Set a stream's blind weights: the ones that apply where no stored weights do. -/
def putBlind (i : Nat) (v : List Rat) (s : State) : State :=
  { s with search := { s.search with blind := tabPut s.search.blind i v } }

/-- Put in effect the weights a stream that is not frozen has: the stored weights of its post, else its
blind weights, restricted to the included chains (R75, R77). -/
def applyWeights (i : Nat) (s : State) : State :=
  let mask := s.get (F.SPC_WIN_INCL_incl (streamWindow s i))
  let v := match postOn s i with
    | some p => storedElements p.weights
    | none => tabGet s.search.blind i []
  putWeights i (restrictTo mask v) s

/-- Bring one stream's weights to a new included set (R76, R80). -/
def restrictStream (mask : Nat) (i : Nat) (s : State) : State :=
  let s := putBlind i (restrictTo mask (tabGet s.search.blind i [])) s
  if frozen s i then
    let gone := (upTo 16).filter (fun n => zeroesFrozen s n)
    putWeights i (zeroOutside (65535 - maskOf gone) (tabGet s.search.weights i [])) s
  else applyWeights i s

/-- The state a stream's searcher is in: off while its window is not filled, assigned while a lane holds the stream,
drain in a drain timeslot that affects its window, requesting, suppressed, else correlating (R80, R82, R85). -/
def searcherState (s : State) (i : Nat) : Nat :=
  let w := streamWindow s i
  if !s.on (F.CHZ_WIN_CFG_filled w) then 0
  else if frozen s i then 3
  else if s.canopy.drainWindows.contains w then 5
  else if s.search.requests.any (fun r => decide (r.stream = i)) then 2
  else if (tabFind s.search.suppressed i).isSome then 4
  else 1

/-- Every stream of a window reads off (R80, R82). -/
def streamsOff (w : Nat) (s : State) : State :=
  each (windowStreams s w) (fun i s => s.set (F.SRH_STREAM_STATUS_state i) 0) s

/-- The present timeslot yields no quiet-map measurement of a window's bins (R69). -/
def spoilWindow (w : Nat) (s : State) : State :=
  { s with canopy := { s.canopy with
    spoiltWindows := if s.canopy.spoiltWindows.contains w then s.canopy.spoiltWindows else s.canopy.spoiltWindows ++ [w] } }

/-- A window's output becomes invalid (R65, R68): its streams read off, the requests that wait on them end, and beams
they had suppressed correlate again (R80). -/
def unfill (w : Nat) (s : State) : State :=
  let ws := windowStreams s w
  let s := spoilWindow w (s.set (F.CHZ_WIN_CFG_filled w) 0)
  let gone (i : Nat) : Bool := ws.contains i && !frozen s i
  let freed := (s.search.suppressed.filter (fun (_, k) => gone k)).map Prod.fst
  let s := { s with
    canopy := { s.canopy with filling := s.canopy.filling.filter (fun x => x ≠ w) }
    search := { s.search with
      requests := s.search.requests.filter (fun r => !ws.contains r.stream)
      suppressed := s.search.suppressed.filter (fun (_, k) => !gone k) } }
  streamsOff w (each freed (fun i s => s.set (F.SRH_STREAM_STATUS_state i) (searcherState s i)) s)

/-- A window begins to fill: its output is valid one fill time later (R65). -/
def beginFill (w : Nat) (s : State) : State :=
  { s with canopy := { s.canopy with filling := if s.canopy.filling.contains w then s.canopy.filling else s.canopy.filling ++ [w] } }

/-- The elements of chains out under R56 or R68 are zero in the frozen streams of a window, by whatever they were excluded
first (R76). -/
def zeroWindow (w : Nat) (s : State) : State :=
  let gone := (upTo 16).filter (zeroesFrozen s)
  each ((windowStreams s w).filter (fun i => frozen s i && (tabFind s.search.weights i).isSome)) (fun i s =>
    putWeights i (zeroOutside (65535 - maskOf gone) (tabGet s.search.weights i [])) s) s

/-- Bring a window's included set up to date (R80, R68). -/
def refreshWindow (w : Nat) (s : State) : State :=
  let new := includedMask s w
  let old := s.get (F.SPC_WIN_INCL_incl w)
  if new = old then zeroWindow w s
  else
    let s := (s.set (F.SPC_WIN_INCL_incl w) new).event F.SPC_STAT_incl_change F.SPC_EVCNT_incl_change_cnt
    let s := each ((windowStreams s w).filter (fun i => (tabFind s.search.weights i).isSome)) (restrictStream new) s
    if new = 0 then unfill w s else if old = 0 then beginFill w s else s

/-- Bring a chain's exclusion up to date. -/
def refreshChain (n : Nat) (s : State) : State :=
  let e := b2n (excluded s n)
  if s.get (F.CNP_CH_STATUS_excluded n) = e then s
  else
    let s := s.set (F.CNP_CH_STATUS_excluded n) e
    { s with canopy := { s.canopy with spoiltChains := s.canopy.spoiltChains ++ [n] } }

/-- The fed chains of a group for a window (R69). -/
def fedChains (s : State) (w g : Nat) : List Nat :=
  ((upTo 4).map (4 * g + ·)).filter (fun n => bit (s.get (F.CHZ_WIN_CFG_chain_mask w)) n && s.on (F.CNP_CH_CTL_enable n))

/-- Whether an entry reads not fed (R70). -/
def notFed (s : State) (bin group : Nat) : Bool :=
  (fedChains s (binWindow s bin) group).isEmpty || !s.domOn (11 + group)

/-- Quiet-map entries that are not fed remember it until their next measurement (R70). -/
def noteUnfed (s : State) : State :=
  let q := s.canopy.qmap.map (fun (k, e) => (k, { e with wasUnfed := e.wasUnfed || notFed s (k / 4) (k % 4) }))
  { s with canopy := { s.canopy with qmap := q } }

/-- Bring every chain and every window up to date after a change that may exclude or include; a quiet-map entry that is
not fed now is loaded directly by its next measurement (R70). -/
def refreshFront (s : State) : State := noteUnfed (each (upTo 4) refreshWindow (each (upTo 16) refreshChain s))

/-- Drive a chain's LNA_CTL pin for its mode, ladder and polarity; in a mode with an external path, and when the path
itself changes, a change of the pin excludes the chain for the settle time it declares (R53, R55, R452). -/
def drivePin (n ext : Nat) (s : State) : State :=
  let on := lnaOn ext (s.get (F.CNP_CH_STATUS_ladder n))
  let high := on != s.on (F.CNP_CH_CTL_lna_pol n)
  let path := s.on (F.CNP_CH_STATUS_ext_on n) != on
  let s := if path then s.set (F.CNP_CH_STATUS_ext_on n) (b2n on) else s
  if (s.chain n).pin = high then s
  else
    let s := (s.setChain n { s.chain n with pin := high }).emit (.lna n high)
    if s.get (F.CNP_CH_EXT_settle n) = 0 ∨ (ext = 0 ∧ path = false) then s else s.setChain n { s.chain n with settling := true }

/-- Move a chain to a ladder index (R54, R55, R57). -/
def setLadder (n l : Nat) (s : State) : State :=
  let s := if s.get (F.CNP_CH_STATUS_ladder n) = l then s
    else
      let s := s.set (F.CNP_CH_STATUS_ladder n) l
      { s with canopy := { s.canopy with spoiltChains := s.canopy.spoiltChains ++ [n] } }
  drivePin n (s.chain n).extMode s

/-- The ladder a chain starts at when it is first enabled or returns from OFF (R453, R68). -/
def startLadder (s : State) (n : Nat) : Nat :=
  let c := s.chain n
  if c.gainMode = 1 then min c.fixedLadder (topLadder c.extMode) else topLadder c.extMode

/-- After a write to CNP_CH_CTL: a chain first enabled starts (R453), the pin follows its polarity (R53), and
exclusions follow. -/
def chainControl (n : Nat) (s : State) : State :=
  let c := s.chain n
  let s := if s.on (F.CNP_CH_CTL_enable n) && !c.started then
      setLadder n (startLadder s n) (s.setChain n { c with started := true }) else s
  refreshFront (drivePin n (s.chain n).extMode s)

/-- Whether a chain's overload detection pauses (R54); a pause is at most 12.75 µs, so that a time base stepped back
does not prolong one. -/
def detectionPaused (s : State) (n : Nat) : Bool :=
  decide (s.now < (s.chain n).pauseTo) && decide ((s.chain n).pauseTo ≤ s.now + 12750)

/-- An overload detection on a chain, and the pause that follows it (R54). -/
def execOverloadDetect (chain : Nat) (s : State) : Host.Outcome State Fault Refusal :=
  run (fun s =>
    if chain < 16 ∧ delivers s chain ∧ detectionPaused s chain = false then
      let s := ((s.inc (F.CNP_CH_OVL_CNT_count chain)).set (F.CNP_CH_STAT_ovl chain) 1).inc F.CNP_EVCNT_ovl_cnt
      let l := s.get (F.CNP_CH_STATUS_ladder chain)
      let step := decide ((s.chain chain).gainMode = 0 ∧ l ≠ 0)
      let pause := if !step then 100
        else if l = 5 ∧ (s.chain chain).extMode = 1 then max 200 (50 * s.get (F.CNP_CH_EXT_settle chain)) else 200
      let s := s.setChain chain { s.chain chain with detected := true, pauseTo := s.now + pause }
      if step then refreshFront (setLadder chain (l - 1) s) else s
    else s) s

/-- A chain saturates (R56): at ladder 0 under AGC, or at any ladder in fixed mode. -/
def execSaturationStart (chain : Nat) (s : State) : Host.Outcome State Fault Refusal :=
  run (fun s =>
    if chain < 16 ∧ delivers s chain ∧ s.get (F.CNP_CH_STATUS_saturated chain) = 0 ∧
        ((s.chain chain).gainMode = 1 ∨ s.get (F.CNP_CH_STATUS_ladder chain) = 0) then
      refreshFront (((s.set (F.CNP_CH_STAT_sat chain) 1).set (F.CNP_CH_STATUS_saturated chain) 1).inc F.CNP_EVCNT_sat_cnt)
    else s) s

/-- A saturation episode ends (R56). -/
def execSaturationEnd (chain : Nat) (s : State) : Host.Outcome State Fault Refusal :=
  run (fun s => if chain < 16 then refreshFront (s.set (F.CNP_CH_STATUS_saturated chain) 0) else s) s

/-- An external LNA's settle time ends (R55). -/
def execExtLnaSettleEnd (chain : Nat) (s : State) : Host.Outcome State Fault Refusal :=
  run (fun s => if chain < 16 then refreshFront (s.setChain chain { s.chain chain with settling := false }) else s) s

/-- Gain of a ladder step upward from `l`, in 0.25 dB (R51; step 4 to 5 by the declared gains). -/
def stepGain (s : State) (n l : Nat) : Int :=
  if l = 0 then 48 else if l = 1 then 32 else if l = 2 then 24 else if l = 3 then 24
  else signed 8 (s.get (F.CNP_CH_EXT_gain_on n)) - signed 8 (s.get (F.CNP_CH_EXT_gain_byp n))

/-- Whether `peak` times a gain in 0.25 dB is at most half of `clip` (R57). -/
def peakFits (peak clip : Nat) (g : Int) : Bool :=
  if 0 ≤ g then decide ((2 * peak) ^ 80 * 10 ^ g.toNat ≤ clip ^ 80)
  else decide ((2 * peak) ^ 80 ≤ clip ^ 80 * 10 ^ (-g).toNat)

/-- A chain that rejoins at an edge has no part, for one fill time, in the windows that other chains keep valid
(R68). -/
def rejoinWindows (n : Nat) (s : State) : State :=
  let ws := (windowsOn s).filter (fun w => bit (s.get (F.CHZ_WIN_CFG_chain_mask w)) n && decide (s.get (F.SPC_WIN_INCL_incl w) ≠ 0))
  { s with canopy := { s.canopy with joining := s.canopy.joining.filter (fun x => decide (x.2 ≠ n)) ++ ws.map (fun w => (w, n)) } }

/-- What one timeslot edge does to a chain: the power report of the timeslot that ends, a rejoin
(R68), the written modes (R57, R452), and a gain rise (R57).  A chain whose mode becomes AGC at this edge may rise to
ladder 5 at it, and a chain that delivers no samples does not rise (notes/assumptions/113, DESIGN CHOICE). -/
def edgeChain (report : List ChainSample) (n : Nat) (s : State) : State :=
  let c := s.chain n
  let r := report.find? (fun x => decide (x.chain = n))
  let s : State := match r with
    | some x => (s.set (F.CNP_CH_STATUS_mean_pwr n) (min x.mean 65535)).set (F.CNP_CH_STATUS_peak n) (x.peak / 8)
    | none => (s.set (F.CNP_CH_STATUS_mean_pwr n) 0xFFFF).set (F.CNP_CH_STATUS_peak n) 0
  let peak : Nat := match r with | some x => x.peak | none => 0
  let quiet := if c.detected then 0 else c.quiet + 1
  let ext := s.get (F.CNP_CH_CTL_ext_mode n)
  let gm := s.get (F.CNP_CH_CTL_gain_mode n)
  let fl := s.get (F.CNP_CH_CTL_fixed_ladder n)
  let s := if c.waitEdge && s.domOn (11 + n / 4) then rejoinWindows n s else s
  let s := s.setChain n { c with quiet := quiet, detected := false, waitEdge := false, extMode := ext, gainMode := gm, fixedLadder := fl }
  let l := s.get (F.CNP_CH_STATUS_ladder n)
  let l := if l = 5 ∧ ext ≠ 1 then 4 else l
  let rise := decide (gm = 0) && delivers s n && !c.waitEdge && decide (l < topLadder ext) &&
    decide (max 1 (s.get F.CNP_AGC_CFG_rise_ts) ≤ quiet) &&
    peakFits peak (s.get F.CNP_AGC_CFG_clip_level) (stepGain s n l)
  let l := if gm = 1 then min fl (topLadder ext) else if rise then l + 1 else l
  if s.domOn (11 + n / 4) then setLadder n l s else s

/-- What one timeslot edge does to the chains: of what it changes, only a ladder that moves is a change within the
timeslot that begins (R69). -/
def edgeChains (reports : List ChainSample) (s : State) : State :=
  let s := each (upTo 16) (edgeChain reports) s
  let moved := s.canopy.spoiltChains
  let s := refreshFront s
  { s with canopy := { s.canopy with spoiltChains := moved } }

/-! Windows, slices and the clock (R58 to R68). -/

/-- A window's output becomes valid: its searchers start (R65, R82). -/
def fillWindow (w : Nat) (s : State) : State :=
  let s := s.set (F.CHZ_WIN_CFG_filled w) 1
  let s := { s with
    canopy := { s.canopy with filling := s.canopy.filling.filter (fun x => x ≠ w) }
    search := { s.search with covariance := s.search.covariance.filter (fun (b, _) => decide (binWindow s b ≠ w)) } }
  each ((windowStreams s w).filter (fun i => decide (s.get (F.SRH_STREAM_STATUS_state i) = 0)))
    (fun i s => s.set (F.SRH_STREAM_STATUS_state i) (searcherState s i)) s

/-- A window's fill time has passed (R65), or the spare slice's output for it is valid (R67); chains that rejoined
the window have their part in it from now on (R68). -/
def execWindowFilled (window : Nat) (s : State) : Host.Outcome State Fault Refusal :=
  run (fun s =>
    let s : State := match s.canopy.spare with
      | .filling i => if i / 2 = window then { s with canopy := { s.canopy with spare := .joining i } } else s
      | _ => s
    let s : State := if s.canopy.joining.any (fun x => decide (x.1 = window)) then
        refreshWindow window { s with canopy := { s.canopy with joining := s.canopy.joining.filter (fun x => decide (x.1 ≠ window)) } }
      else s
    if s.canopy.filling.contains window ∧ clockRuns s then fillWindow window (spoilWindow window s) else s) s

/-- The spare is loaded with a pruned slice's settings and begins to fill (R67). -/
def execSpareSliceLoaded (s : State) : Host.Outcome State Fault Refusal :=
  run (fun s =>
    match s.canopy.spare with
    | .loading i =>
      if s.domOn 17 then
        let s := { s with canopy := { s.canopy with spare := .filling i } }
        ((((s.set (F.CHZ_SLICE_state 8) 4).set (F.CHZ_SLICE_is_sub 8) 1).set (F.CHZ_SLICE_serves 8) i).set
          (F.CHZ_SLICE_window 8) (i / 2)).set (F.CHZ_SLICE_half 8) (i % 2)
      else s
    | _ => s) s

/-- The spare returns to standby. -/
def spareStandby (s : State) : State :=
  let s := { s with canopy := { s.canopy with spare := .standby } }
  s.setReg 0x140220 3#32

/-- What a timeslot edge does to the spare (R67): its chains join, or it hands back. -/
def edgeSpare (s : State) : State :=
  match s.canopy.spare with
  | .joining i =>
    let s := { s with canopy := { s.canopy with spare := .serving i } }
    let s := (s.set (F.CHZ_SLICE_state 8) 1).set F.CHZ_STAT_spare_used 1
    let empty := s.get (F.SPC_WIN_INCL_incl (i / 2)) = 0
    let s := refreshWindow (i / 2) s
    if empty ∧ s.canopy.filling.contains (i / 2) ∧ clockRuns s then fillWindow (i / 2) s else s
  | .returning i => refreshWindow (i / 2) (spareStandby (s.set (F.CHZ_SLICE_state i) 1))
  | _ => s

/-- The sampling clock locks (R60): a lock of the source that is selected clears fell_back, and the windows with
included chains fill. -/
def execSamplingClockLock (s : State) : Host.Outcome State Fault Refusal :=
  run (fun s =>
    if s.canopy.stopped ∨ s.on F.CNP_CLK_locked then s
    else
      let s := s.set F.CNP_CLK_locked 1
      let s := if s.get F.CNP_CLK_active_src = s.get F.CNP_CLK_src then s.set F.CNP_CLK_fell_back 0 else s
      each ((windowsOn s).filter (fun w => decide (s.get (F.SPC_WIN_INCL_incl w) ≠ 0 ∧ s.get (F.CHZ_WIN_CFG_filled w) = 0))) beginFill s) s

/-- A write of CNP_CLK (R58 to R60). A change of src, a write of src after a fall-back to the
internal synthesiser included, needs every chain disabled, else the whole write is ignored. From an accepted write of
src on, the windows read not filled, and fill after lock (notes/assumptions/114, DESIGN CHOICE). -/
def writeCnpClk (w : Word) (s : State) : State :=
  let src := b2n (w.toNat.testBit 0)
  let change := decide (src ≠ s.get F.CNP_CLK_src) || (decide (src = 1) && s.on F.CNP_CLK_fell_back)
  if change && (upTo 16).any (fun n => s.on (F.CNP_CH_CTL_enable n)) then s.set F.CNP_STAT_clk_refused 1
  else
    let s := (s.set F.CNP_CLK_fallback (b2n (w.toNat.testBit 1))).set F.CNP_CLK_src src
    if change || s.canopy.stopped then
      let s := { s with canopy := { s.canopy with stopped := false } }
      let s := (s.set F.CNP_CLK_active_src src).set F.CNP_CLK_locked 0
      each (upTo 4) unfill s
    else s

/-! The quiet map (R69 to R71). -/

/-- The key of a quiet-map entry. -/
def qmapKey (bin group : Nat) : Nat := 4 * bin + group

/-- A quiet-map entry. -/
def State.qmap (s : State) (bin group : Nat) : QmapEntry := tabGet s.canopy.qmap (qmapKey bin group) {}

/-- Whether a bin was idle for a group over the timeslot that ends, whose cells were of ASN `asn`
(R69). -/
def wasIdle (s : State) (asn bin group : Nat) : Bool :=
  let w := binWindow s bin
  !s.canopy.spoiltBins.contains bin && !s.canopy.cellChans.any (fun x => decide (x.1 = asn) && binHolds s x.2 bin)
  && !s.canopy.spoiltWindows.contains w && !s.canopy.drainWindows.contains w
  && s.on (F.CHZ_WIN_CFG_filled w) && !notFed s bin group
  && (fedChains s w group).all (fun n => !s.canopy.spoiltChains.contains n && !excluded s n)

/-- A power in mW of a level in 0.25 dB above −200 dBm (R71). -/
def levelPower (l : Nat) : Rat := Config.tenPower (((l : Rat) / 4 - 200) / 10)

/-- The nearest level in 0.25 dB above −200 dBm of a power in mW, 0 to 1,023. -/
def powerLevel (x : Rat) : Nat := min 1023 (4 * (Config.tenLog x + 200) + 1 / 2).floor.toNat

/-- The level of an entry after a later measurement, averaged in linear power with weight 2^−alpha (R70). -/
def averageLevel (old new alpha : Nat) : Nat :=
  powerLevel (levelPower old + (levelPower new - levelPower old) / ((2 ^ alpha : Nat) : Rat))

/-- One measurement enters its entry (R70). -/
def measureQmap (q : QuietSample) (s : State) : State :=
  let e := s.qmap q.bin q.group
  let a := s.get F.CHZ_QMAP_CFG_alpha
  let lv := if e.state ≠ 1 ∨ e.wasUnfed ∨ a = 0 then min q.level 1023 else averageLevel e.level q.level a
  let lad := ((fedChains s (binWindow s q.bin) q.group).map (fun n => s.get (F.CNP_CH_STATUS_ladder n))).min?.getD 0
  { s with canopy := { s.canopy with qmap := tabPut s.canopy.qmap (qmapKey q.bin q.group) ⟨1, lad, lv, 0, false⟩ } }

/-- What a timeslot edge does to the quiet map: measurements of the idle bins, and one more timeslot
without one for the others (R69, R70). -/
def edgeQmap (asn : Nat) (samples : List QuietSample) (s : State) : State :=
  let ok := samples.filter (fun q => decide (q.group < 4) && s.on (F.CHZ_BIN_valid q.bin) && wasIdle s asn q.bin q.group)
  let aged := s.canopy.qmap.map (fun (k, e) =>
    (k, { e with busy := if e.state = 1 then e.busy + 1 else e.busy, wasUnfed := e.wasUnfed || notFed s (k / 4) (k % 4) }))
  let s := { s with canopy := { s.canopy with qmap := aged } }
  let s := each ok measureQmap s
  { s with canopy := { s.canopy with spoiltBins := [], spoiltWindows := [], spoiltChains := [], drainWindows := [], cellChans := s.canopy.cellChans.filter (fun p => decide (asn < p.1)) } }

/-- A quiet-map entry goes stale (R70). -/
def execQmapStale (bin group : Nat) (s : State) : Host.Outcome State Fault Refusal :=
  run (fun s =>
    let e := s.qmap bin group
    if e.state = 1 ∧ max 1 (s.get F.CHZ_QMAP_CFG_stale_ts) ≤ e.busy then
      let s := { s with canopy := { s.canopy with qmap := tabPut s.canopy.qmap (qmapKey bin group) { e with state := 2 } } }
      s.event F.CHZ_STAT_qmap_stale F.CHZ_EVCNT_qmap_stale_cnt
    else s) s

/-- The 16 bits of an entry (R71): one that is not fed keeps its ladder and shows no level. -/
def qmapBits (s : State) (bin group : Nat) : Nat :=
  let e := s.qmap bin group
  if !s.on (F.CHZ_BIN_valid bin) then 0
  else if notFed s bin group then 0xC000 + e.ladder * 2 ^ 11
  else if e.state = 0 then 0
  else e.state * 2 ^ 14 + e.ladder * 2 ^ 11 + e.level

/-- A word of the quiet map at a byte distance from 0x14_8000 (R71). -/
def qmapWord (s : State) (d : Nat) : Word :=
  let g := 2 * ((d / 4) % 2)
  BitVec.ofNat 32 (qmapBits s (d / 8) g + qmapBits s (d / 8) (g + 1) * 2 ^ 16)

end Sys2Proof.Machine
end

