-- ==== Sys2Proof/Machine/Tmu.lean ====
section
/-!
DEFINITION. Timer units (R261 to R277).
-/

namespace Sys2Proof.Machine

/-- The TLINK records in force (R265). -/
def linkRecords (s : State) : List (List Byte) :=
  match s.stand.inForce with
  | some p => p.tlinks
  | none => []

/-- Whether a unit has a GATE record (R266). -/
def hasGate (s : State) (u : Nat) : Bool := (linkRecords s).any (fun r => byteAt r 2 = u && byteAt r 3 = 0)

/-- Issue an event's link events (R265, R267): 0 overflow, 1 to 4 compare, 5 to 8 capture. -/
def issueLinks (u ev : Nat) (s : State) : State :=
  let ms := ((linkRecords s).filter (fun r => byteAt r 0 = u && byteAt r 1 = ev)).map
    (fun r => (⟨u, ev, byteAt r 2, byteAt r 3, 0⟩ : LinkMsg))
  { s with tmu := { s.tmu with links := s.tmu.links ++ ms } }

/-- A flag of TMU_USTAT[u] is set: an unmasked one of a unit in PWR_TMU_WAKE is wake source 8 (R378). -/
def unitFlag (u b : Nat) (s : State) : State :=
  let s := s.setReg (0x91014 + 0x80 * u) (BitVec.ofNat 32 (setBit (s.reg (0x91014 + 0x80 * u)).toNat b))
  if !bit (s.get (F.TMU_UMASK_mask u)) b && bit (s.get F.PWR_TMU_WAKE_units) u then wakeSource 8 1 u s else s

/-- The class and index of the pin a unit's output names (R275): GPIO_n or PPS_OUT. -/
def outPin (s : State) (u : Nat) : Option (Nat × Nat) :=
  let p := s.get (F.TMU_OUT_pin u)
  if p < 32 then some (1, p) else if p = 32 then some (2, 0) else none

/-- Whether general use owns a unit (R276). -/
def unitOwned (s : State) (u : Nat) : Bool := decide (s.owner 4 u = 0x0300)

/-- Whether a unit is the one that the grove heartbeat owns and programs (R356). -/
def beatUnit (s : State) (u : Nat) : Bool := decide (s.grove.unit = some u) && decide (s.owner 4 u = 0x0500)

/-- The level of a unit's output as it has reached the pin: a change takes 2 ticks (R275). -/
def shownLevel (s : State) (u : Nat) : Bool :=
  match s.tmu.outs.find? (fun m => decide (m.unit = u)) with
  | some m => m.was
  | none => s.on (F.TMU_STATUS_level u)

/-- A unit's level is on the pin it drives, if it drives one (R275). -/
def driveOut (u : Nat) (s : State) : State :=
  let high := shownLevel s u != s.on (F.TMU_OUT_pol u)
  match outPin s u with
  | some (c, i) =>
    if s.on (F.TMU_OUT_en u) && unitOwned s u && decide (s.owner c i = 0x0300 + u) then
      s.emit (if c = 2 then .pps high else .pin i high)
    else s
  | none => s

/-- Whether a timer unit owns PPS_OUT and drives it (R252, R275). -/
def unitDrivesPps (s : State) : Bool :=
  let o := s.owner 2 0
  decide (0x0300 ≤ o ∧ o < 0x0320) && s.on (F.TMU_OUT_en (o - 0x0300)) && unitOwned s (o - 0x0300)
    && decide (s.get (F.TMU_OUT_pin (o - 0x0300)) = 32)

/-- Whether the GPIO block owns a GPIO pin (class 1) or a coexistence pin (class 3). -/
def gpioOwns (s : State) (cls i : Nat) : Bool := decide (s.owner cls i = 0x0100)

/-- The level a timer unit drives on GPIO_i, if one owns and drives it (R275). -/
def unitLevel (s : State) (i : Nat) : Option Bool :=
  let o := s.owner 1 i
  let u := o - 0x0300
  if 0x0300 ≤ o ∧ o < 0x0320 ∧ s.get (F.TMU_OUT_pin u) = i ∧ (s.on (F.TMU_OUT_en u) && unitOwned s u) = true then
    some (shownLevel s u != s.on (F.TMU_OUT_pol u))
  else none

/-- The level at GPIO_i, whoever owns it (R263, R425): what the GPIO block or a timer unit drives, else what stands at the
ball. -/
def gpioLevel (s : State) (i : Nat) : Bool :=
  if gpioOwns s 1 i && bit (s.get F.PIN_GPIO_DIR_bits) i then bit (s.get F.PIN_GPIO_OUT_bits) i
  else (unitLevel s i).getD (bit s.board.gpioIn i)

/-- The levels at the 32 GPIO pins. -/
def gpioLevels (s : State) : Nat := maskOf ((upTo 32).filter (gpioLevel s))

/-- A compare match of a channel (R270, R275): the level's change is on its way to the pin. -/
def matchChannel (u k : Nat) (s : State) : State :=
  let s := (unitFlag u (1 + k) s).inc (F.TMU_UEVCNT_match_cnt u)
  let s := issueLinks u (1 + k) s
  let a := s.get (F.TMU_CH_CFG_out_act u k)
  if a = 0 then s
  else
    let l := s.get (F.TMU_STATUS_level u)
    { s.set (F.TMU_STATUS_level u) (if a = 1 then 1 else if a = 2 then 0 else 1 - l) with
      tmu := { s.tmu with outs := s.tmu.outs ++ [⟨u, decide (l = 1), 0⟩] } }

/-- Whether a channel compares and its value equals the counter (R270). -/
def matchesNow (s : State) (u k : Nat) : Bool :=
  decide (s.get (F.TMU_CH_CFG_mode u k) = 1) && s.on (F.TMU_CH_CFG_en u k)
    && decide (s.get (F.TMU_CCV_value u k) = s.get (F.TMU_CNT_count u))
    && decide (s.get (F.TMU_CCV_value u k) ≤ s.get (F.TMU_TOP_top u))

/-- An overflow of a unit (R261, R264): of the heartbeat's unit it is a mark that waits to be sent (R356). -/
def unitOverflows (u : Nat) (s : State) : State :=
  let s := (unitFlag u 0 (s.set (F.TMU_CNT_count u) 0)).inc (F.TMU_UEVCNT_ovf_cnt u)
  let s := issueLinks u 0 (s.setIf (s.on (F.TMU_CTL_oneshot u)) (F.TMU_CTL_run u) 0)
  if beatUnit s u then { s with grove := { s.grove with marked := true } } else s

/-- One count of a unit (R261, R264, R270): a count at top wraps it to 0 with its overflow event, then
the compare channels act on the value that results. -/
def countUnit (u : Nat) (s : State) : State :=
  let s := { s with tmu := { s.tmu with counted := s.tmu.counted ++ [u] } }
  let s := if s.get (F.TMU_CNT_count u) = s.get (F.TMU_TOP_top u) then unitOverflows u s
    else s.set (F.TMU_CNT_count u) (s.get (F.TMU_CNT_count u) + 1)
  each ((upTo 4).filter (matchesNow s u)) (matchChannel u) s

/-- Whether a unit runs for its owner: one that general use or the heartbeat has lost stays disabled (R42, R276). -/
def unitRuns (s : State) (u : Nat) : Bool := s.on (F.TMU_CTL_run u) && (unitOwned s u || beatUnit s u)

/-- Whether a count of a unit takes effect: it runs and its gate is open (R261, R266, R268). -/
def unitCounts (s : State) (u : Nat) : Bool := unitRuns s u && s.on (F.TMU_STATUS_gate_open u)

/-- Whether a unit's source gives clock events (R262). -/
def hasClock (s : State) (u : Nat) : Bool := decide (s.get (F.TMU_CTL_src u) ≤ 4)

/-- A unit's clock events since its last prescaler wrap, and the divider in force. -/
def prescOf (s : State) (u : Nat) : Nat × Nat := tabGet s.tmu.presc u (0, 0)

/-- The prescaler of a unit is set to `c` events under the divider `d`. -/
def setPresc (u c d : Nat) (s : State) : State := { s with tmu := { s.tmu with presc := tabPut s.tmu.presc u (c, d) } }

/-- The prescaler is cleared; the divider in force stays until the next wrap (R264). -/
def clearPresc (u : Nat) (s : State) : State := setPresc u 0 (prescOf s u).2 s

/-- The prescaler wraps (R261, R264): a divider written meanwhile takes effect, and an open gate passes a count. -/
def wrapPresc (u : Nat) (s : State) : State := (setPresc u 0 (s.get (F.TMU_PRESC_div u)) s).when (unitCounts s u) (countUnit u)

/-- A clock event of a unit (R261): while the unit runs the prescaler takes it, and every div + 1 events pass a count. -/
def clockUnit (u : Nat) (s : State) : State :=
  if !unitRuns s u then s
  else
    let (c, d) := prescOf s u
    if c < d then setPresc u (c + 1) d s else wrapPresc u s

/-- Start a unit (R264): the prescaler is cleared and the gate set; the counter keeps its value. -/
def startUnit (u : Nat) (s : State) : State :=
  let s := clearPresc u s
  (s.set (F.TMU_CTL_run u) 1).set (F.TMU_STATUS_gate_open u) (if hasGate s u then s.get (F.TMU_CTL_gate_init u) else 1)

/-- A link event reaches its target (R266). -/
def arriveLink (m : LinkMsg) (s : State) : State :=
  let u := m.dst
  if m.action = 0 then s.set (F.TMU_STATUS_gate_open u) (1 - s.get (F.TMU_STATUS_gate_open u))
  else if m.action = 1 then clearPresc u (s.set (F.TMU_CNT_count u) 0)
  else if m.action = 2 then (if s.get (F.TMU_CTL_src u) = 4 then clockUnit u s else s)
  else if s.on (F.TMU_CTL_run u) then s else startUnit u s

/-- Link events of one tick arrive (R268): RESET, TRIGGER, GATE, then the CLOCKs of units that RESET has not reached. -/
def arriveGroup (ms : List LinkMsg) (s : State) : State :=
  let act (a : Nat) : List LinkMsg := ms.filter (fun m => m.action = a)
  let s := each (act 0) arriveLink (each (act 3) arriveLink (each (act 1) arriveLink s))
  each ((act 2).filter (fun m => !((act 1).map LinkMsg.dst).contains m.dst)) arriveLink s

/-- The link events in flight toward some units arrive, those of an earlier tick first (R267). -/
def arriveAt (us : List Nat) (s : State) : State :=
  let ms := s.tmu.links.filter (fun m => us.contains m.dst)
  let s := { s with tmu := { s.tmu with links := s.tmu.links.filter (fun m => !us.contains m.dst) } }
  each [2, 1, 0] (fun a => arriveGroup (ms.filter (fun m => m.age = a))) s

/-- A capture of the value `v` on a channel (R273). -/
def latch (v u k : Nat) (s : State) : State :=
  let s := if s.on (F.TMU_CH_ST_new u k) then (s.set (F.TMU_CH_ST_ovr u k) 1).inc (F.TMU_UEVCNT_ovr_cnt u) else s
  let s := (s.set (F.TMU_CCV_value u k) v).set (F.TMU_CH_ST_new u k) 1
  let s := s.set (F.TMU_CH_ST_seq u k) (s.get (F.TMU_CH_ST_seq u k) + 1)
  issueLinks u (5 + k) ((unitFlag u (5 + k) s).inc (F.TMU_UEVCNT_cap_cnt u))

/-- Captures at one instant (R267, R273): each sees the link events issued toward its unit before the instant as if they
had arrived, and none that the instant itself issues. -/
def captureAll (chs : List (Nat × Nat)) (s : State) : State :=
  let as := arriveAt (chs.map Prod.fst) s
  each chs (fun (x : Nat × Nat) => latch (as.get (F.TMU_CNT_count x.1)) x.1 x.2) s

/-- Whether a channel captures an input of the part (R273, R276). -/
def captures (s : State) (u k : Nat) : Bool :=
  decide (s.get (F.TMU_CH_CFG_mode u k) = 2) && s.on (F.TMU_CH_CFG_en u k) && unitOwned s u
    && decide (s.get (F.TMU_CH_CFG_cap_in u k) < 35)

/-- Whether a rising or falling edge is one the setting selects: 0 rising, 1 falling, 2 and 3 both. -/
def edgeTaken (sel : Nat) (rising : Bool) : Bool := decide (2 ≤ sel) || (decide (sel = 0) == rising)

/-- The channels that take an edge of an input (R273): 0 to 31 GPIO, 32 PPS_IN, 33 second, 34 millisecond. -/
def channelsAt (s : State) (input : Nat) (rising : Bool) : List (Nat × Nat) :=
  (upTo 32).flatMap (fun u => ((upTo 4).filter (fun k => captures s u k && decide (s.get (F.TMU_CH_CFG_cap_in u k) = input)
    && (decide (33 ≤ input) || edgeTaken (s.get (F.TMU_CH_CFG_cap_edge u k)) rising))).map (fun k => (u, k)))

/-- An edge of an input that is no GPIO pin is captured. -/
def captureInput (input : Nat) (rising : Bool) (s : State) : State := captureAll (channelsAt s input rising) s

/-- Clock events of the units that count a source (R262), but those that RESET reached in the tick (R268). -/
def clockSource (src : Nat) (skip : List Nat) (s : State) : State :=
  each ((upTo 32).filter (fun u => decide (s.get (F.TMU_CTL_src u) = src) && !skip.contains u)) clockUnit s

/-- GPIO edges that the synchroniser shows clock the units that count them (R262, R263). -/
def clockEdges (edges : List (Nat × Bool)) (skip : List Nat) (s : State) : State :=
  each edges (fun (e : Nat × Bool) s => each ((upTo 32).filter (fun u => decide (s.get (F.TMU_CTL_src u) = 3)
    && decide (s.get (F.TMU_CTL_pin u) = e.1) && edgeTaken (s.get (F.TMU_CTL_edge u)) e.2 && !skip.contains u)) clockUnit s) s

/-- The pins' levels after a tick's sample (R263): a level that two samples show is seen, 2 ticks after it reached the
ball. -/
def seenLevels (s : State) : Nat :=
  let now := gpioLevels s
  maskOf ((upTo 32).filter (fun i => if bit now i = bit s.tmu.sampled i then bit now i else bit s.tmu.seen i))

/-- The edges that a tick's sample brings (R263). -/
def gpioEdges (s : State) : List (Nat × Bool) :=
  let l := seenLevels s
  ((upTo 32).filter (fun i => bit l i != bit s.tmu.seen i)).map (fun i => (i, bit l i))

/-- Level changes whose 2 ticks are over reach their pins (R275). -/
def outsReach (s : State) : State :=
  let aged := s.tmu.outs.map (fun m => { m with age := m.age + 1 })
  let s := { s with tmu := { s.tmu with outs := aged.filter (fun m => m.age < 2) } }
  each ((aged.filter (fun m => 2 ≤ m.age)).map OutMsg.unit).eraseDups driveOut s

/-- Compare values written since the last tick take effect (R270, R271): each is compared with the counter after the
tick's count; a count of the tick has done so for its unit. -/
def compareWritten (s : State) : State :=
  let due := s.tmu.written.filter (fun x => !s.tmu.counted.contains x.1)
  let s := { s with tmu := { s.tmu with written := [] } }
  each due (fun (x : Nat × Nat) s => s.when (matchesNow s x.1 x.2) (matchChannel x.1 x.2)) s

/-- The captures of a tick (R268, R273): they follow the counts, and see the link events issued before the tick only
(R267). -/
def tickCaptures (ms sec : Bool) (edges : List (Nat × Bool)) (s : State) : State :=
  let chs := edges.flatMap (fun e => channelsAt s e.1 e.2) ++ (if ms then channelsAt s 34 true else []) ++ (if sec then channelsAt s 33 true else [])
  let fresh := s.tmu.links.filter (fun m => m.age = 0)
  let s := captureAll chs { s with tmu := { s.tmu with links := s.tmu.links.filter (fun m => m.age ≠ 0) } }
  { s with tmu := { s.tmu with links := s.tmu.links.filter (fun m => m.age ≠ 0) ++ fresh ++ s.tmu.links.filter (fun m => m.age = 0) } }

/-- One tick of the timer units (R263, R267, R268, R275): the link events whose 3 ticks are over arrive, the units count, and
compares and captures act on the counts that result. -/
def tickUnits (ms sec : Bool) (s : State) : State :=
  let s := outsReach s
  let edges := gpioEdges s
  let aged := s.tmu.links.map (fun m => { m with age := m.age + 1 })
  let due := aged.filter (fun m => 3 ≤ m.age)
  let s := { s with tmu := { s.tmu with
    links := aged.filter (fun m => m.age < 3), counted := [], seen := seenLevels s, sampled := gpioLevels s } }
  let reset := (due.filter (fun m => m.action = 1)).map LinkMsg.dst
  let s := clockSource 0 reset (arriveGroup due s)
  let s := (s.when ms (clockSource 1 reset)).when sec (clockSource 2 reset)
  tickCaptures ms sec edges (compareWritten (clockEdges edges reset s))

/-! The tick of the time base, and time that passes to an instant. -/

/-- One tick of the time base and of the timer units (R241, R262), with the multiples of a millisecond and a second that its
counting reaches. -/
def timeTick (s : State) : State :=
  let old := s.time.ns
  let sum := s.time.ns * 2 ^ 32 + s.time.frac + s.get F.TMB_INC_HI_int * 2 ^ 32 + s.get F.TMB_INC_LO_frac
  let s := { s with time := { s.time with ns := sum / 2 ^ 32 % 2 ^ 64, frac := sum % 2 ^ 32 } }
  let reached (unit : Nat) : Bool := decide (old / unit < s.time.ns / unit)
  tickUnits (reached 1000000) (reached 1000000000) s

/-- Whether no timer unit acts while time passes: none counts ticks, milliseconds or seconds or captures them, and no link
event, level change, written compare value or pin edge is on its way. -/
def unitsQuiet (s : State) : Bool :=
  !s.domOn 1 || (s.tmu.links.isEmpty && s.tmu.outs.isEmpty && s.tmu.written.isEmpty
    && decide (s.tmu.seen = s.tmu.sampled) && decide (s.tmu.sampled = gpioLevels s)
    && (upTo 32).all (fun u => !(unitRuns s u && decide (s.get (F.TMU_CTL_src u) ≤ 2)))
    && (channelsAt s 33 true).isEmpty && (channelsAt s 34 true).isEmpty)

/-- Ticks until the time base has reached `t`. -/
def ticksTo (n t : Nat) (s : State) : State :=
  match n with
  | 0 => s
  | n + 1 => if s.time.ns < t then ticksTo n t (timeTick s) else s

/-- The ticks that the time base takes to `t` at its present rate. -/
def ticksLeft (s : State) (t : Nat) : Nat :=
  ((t - s.time.ns) * 2 ^ 32) / max 1 (s.get F.TMB_INC_HI_int * 2 ^ 32 + s.get F.TMB_INC_LO_frac) + 1

/-- Time has passed to an instant at least: an event that the time base brings about occurs when
the time base reaches its instant (notes/assumptions/7); timer units that count meanwhile do so tick by tick. -/
def State.reach (s : State) (t : Nat) : State :=
  let s := if unitsQuiet s then s else ticksTo (ticksLeft s t) t s
  if s.time.ns < t then { s with time := { s.time with ns := t, frac := 0 } } else s

/-- Record a TMU conflict (R275, R276). -/
def tmuConflict (owner cls idx : Nat) (s : State) : State :=
  (s.conflict F.TMU_CONFLICT_conflict F.TMU_STAT_conflict owner cls idx).inc F.TMU_EVCNT_conflict_cnt

/-- A write of TMU_OUT[u] (R275): an enable on a pin of another owner drives nothing and is a conflict. -/
def writeOut (u : Nat) (v : Word) (s : State) : State :=
  let drove := unitDrivesPps s
  let old := (upTo 32).filter (fun i => (unitLevel s i).isSome && decide (s.owner 1 i = 0x0300 + u))
  let s := writePlain (0x91020 + 0x80 * u) v s
  let s := if drove && !unitDrivesPps s then s.emit (.pps false) else s
  let s := each (old.filter (fun i => (unitLevel s i).isNone)) (fun i s => s.emit (.undriven i)) s
  if !s.on (F.TMU_OUT_en u) then s
  else
    match outPin s u with
    | some (c, i) => if s.owner c i = 0x0300 + u then driveOut u s else tmuConflict (s.owner c i) c i s
    | none => s

/-- A write to a register of an owned unit (R264, R271, R274); a compare value takes effect at the next tick. -/
def writeUnit (u sub : Nat) (v : Word) (s : State) : State :=
  let off := 0x91000 + 0x80 * u + sub
  if sub = 0 then
    let was := s.on (F.TMU_CTL_run u)
    let s := writePlain off v s
    if !was && s.on (F.TMU_CTL_run u) then startUnit u s else s
  else if sub = 8 ∨ sub = 12 then
    (if s.on (F.TMU_CTL_run u) then s.event F.TMU_STAT_cnt_refused F.TMU_EVCNT_cnt_refused_cnt else s.setReg off v)
  else if sub = 0x20 then writeOut u v s
  else if 0x40 ≤ sub ∧ sub % 16 = 0 then
    let k := (sub - 0x40) / 16
    let was := s.get (F.TMU_CH_CFG_mode u k)
    let s := writePlain off v s
    if s.get (F.TMU_CH_CFG_mode u k) = was then s
    else
      let s := (s.setReg (off + 4) 0#32).setReg (off + 8) 0#32
      { s with tmu := { s.tmu with written := s.tmu.written.filter (fun x => decide (x ≠ (u, k))) } }
  else if 0x40 ≤ sub ∧ sub % 16 = 4 then
    let k := (sub - 0x40) / 16
    if s.get (F.TMU_CH_CFG_mode u k) = 2 then s
    else
      { s.setReg off v with tmu := { s.tmu with written := s.tmu.written ++ [(u, k)] } }
  else writePlain off v s

/-- A write to a TMU register (R276): a unit that general use does not own takes no write. -/
def writeTmu (off : Nat) (v : Word) (s : State) : State :=
  if 0x91000 ≤ off ∧ off < 0x92000 then
    let u := (off - 0x91000) / 0x80
    if s.owner 4 u = 0x0300 then writeUnit u ((off - 0x91000) % 0x80) v s else tmuConflict (s.owner 4 u) 4 u s
  else writePlain off v s

/-- A read of a TMU register (R267, R273): a counter read sees the link events toward the unit, and the
read of a captured value clears new. -/
def readTmu (off : Nat) (s : State) : Word × State :=
  let u := (off - 0x91000) / 0x80
  let sub := (off - 0x91000) % 0x80
  if 0x91000 ≤ off ∧ off < 0x92000 then
    if sub = 12 then
      let s := arriveAt [u] s
      (s.reg off, s)
    else if 0x40 ≤ sub ∧ sub % 16 = 4 then
      let k := (sub - 0x40) / 16
      (s.reg off, s.setIf (decide (s.get (F.TMU_CH_CFG_mode u k) = 2)) (F.TMU_CH_ST_new u k) 0)
    else (s.reg off, s)
  else (s.reg off, s)

/-- A write to a register of unit `u` behind the fence (R372). -/
def unitWrite (initiator u sub : Nat) (v : Word) (s : State) : State :=
  let off := 0x91000 + 0x80 * u + sub
  gated ⟨initiator, off, true, v⟩ (writeTmu off v) s

/-- A read of a register of unit `u` behind the fence (R372). -/
def unitRead (initiator u sub : Nat) (s : State) : State :=
  let off := 0x91000 + 0x80 * u + sub
  gated ⟨initiator, off, false, 0#32⟩ (fun s => let (w, s) := readTmu off s; s.emit (.read w)) s

/-- TMU_RUN_WRITE (R264). -/
def execTmuRunWrite (initiator unit : Nat) (value : Word) (s : State) : Host.Outcome State Fault Refusal :=
  run (unitWrite initiator unit 0 value) s

/-- TMU_CNT_WRITE (R264): TMU_TOP where `top`, else TMU_CNT. -/
def execTmuCntWrite (initiator unit : Nat) (top : Bool) (value : Word) (s : State) : Host.Outcome State Fault Refusal :=
  run (unitWrite initiator unit (if top then 8 else 12) value) s

/-- TMU_CNT_READ (R267). -/
def execTmuCntRead (initiator unit : Nat) (s : State) : Host.Outcome State Fault Refusal :=
  run (unitRead initiator unit 12) s

/-- TMU_OVERFLOW (R261): the count at top of a unit that counts. -/
def execTmuOverflow (unit : Nat) (s : State) : Host.Outcome State Fault Refusal :=
  run (fun s => s.when (unitCounts s unit && hasClock s unit && decide (s.get (F.TMU_CNT_count unit) = s.get (F.TMU_TOP_top unit)))
    (wrapPresc unit)) s

/-- The value of a unit's counter after one more count (R261). -/
def afterCount (s : State) (u : Nat) : Nat :=
  if s.get (F.TMU_CNT_count u) = s.get (F.TMU_TOP_top u) then 0 else (s.get (F.TMU_CNT_count u) + 1) % 2 ^ 32

/-- TMU_COMPARE_MATCH (R270): the count of a unit with which it reaches the value of a compare channel. -/
def execTmuCompareMatch (unit channel : Nat) (s : State) : Host.Outcome State Fault Refusal :=
  run (fun s =>
    let v := s.get (F.TMU_CCV_value unit channel)
    s.when (unitCounts s unit && hasClock s unit && decide (s.get (F.TMU_CH_CFG_mode unit channel) = 1)
        && s.on (F.TMU_CH_CFG_en unit channel) && decide (v ≤ s.get (F.TMU_TOP_top unit)) && decide (afterCount s unit = v))
      (wrapPresc unit)) s

/-- TMU_CCV_WRITE (R271). -/
def execTmuCcvWrite (initiator unit channel : Nat) (value : Word) (s : State) : Host.Outcome State Fault Refusal :=
  run (unitWrite initiator unit (0x44 + 16 * channel) value) s

/-- TMU_CAPTURE (R273): the selected edge of a channel's input. -/
def execTmuCapture (unit channel : Nat) (s : State) : Host.Outcome State Fault Refusal :=
  run (fun s => s.when (captures s unit channel) (captureAll [(unit, channel)])) s

/-- TMU_CCV_READ (R273). -/
def execTmuCcvRead (initiator unit channel : Nat) (s : State) : Host.Outcome State Fault Refusal :=
  run (unitRead initiator unit (0x44 + 16 * channel)) s

/-- TMU_MODE_CHANGE (R274): a write of TMU_CH_CFG. -/
def execTmuModeChange (initiator unit channel : Nat) (value : Word) (s : State) : Host.Outcome State Fault Refusal :=
  run (unitWrite initiator unit (0x40 + 16 * channel) value) s

/-- TMU_LINK_EVENT (R266, R267): the oldest link event on its way arrives, one tick after its source event at least. -/
def execTmuLinkEvent (s : State) : Host.Outcome State Fault Refusal :=
  run (fun s =>
    let s := s.when (s.tmu.links.any (fun m => decide (m.age = 0)) && s.tmu.links.all (fun m => decide (m.age = 0))) timeTick
    match s.tmu.links with
    | [] => s
    | m :: rest => arriveLink m { s with tmu := { s.tmu with links := rest } }) s

/-- TMU_OUT_ENABLE (R275): a write of TMU_OUT. -/
def execTmuOutEnable (initiator unit : Nat) (value : Word) (s : State) : Host.Outcome State Fault Refusal :=
  run (unitWrite initiator unit 0x20 value) s

end Sys2Proof.Machine
end

