-- ==== Sys2Proof/Machine/Search.lean ====
section
/-!
DEFINITION. Search and spatial combining (R72 to R90): covariance and weights, posts, detections,
catch classes, and the lane arbiter's rounds.
-/

namespace Sys2Proof.Machine

/-! Covariance and blind weights (R73 to R75, R83, R454). -/

/-- Noise figure of an internal ladder in 0.1 dB, for windows centred below 1,500 MHz or above (R51,
R83); ladder 5 takes ladder 4's. -/
def ladderNf (low : Bool) (l : Nat) : Nat :=
  if l = 0 then (if low then 240 else 250) else if l = 1 then (if low then 120 else 130)
  else if l = 2 then (if low then 65 else 75) else if l = 3 then (if low then 42 else 52)
  else (if low then 35 else 45)

/-- Noise figure of a chain in dB (R83): the internal figure, or the cascade's with an external path. -/
def chainNf (s : State) (low : Bool) (n : Nat) : Rat :=
  let nf : Rat := (ladderNf low (s.get (F.CNP_CH_STATUS_ladder n)) : Rat) / 10
  if (s.chain n).extMode = 0 then nf
  else
    let g := if s.on (F.CNP_CH_STATUS_ext_on n) then signed 8 (s.get (F.CNP_CH_EXT_gain_on n)) else signed 8 (s.get (F.CNP_CH_EXT_gain_byp n))
    Config.tenLog (1 + (Config.tenPower (nf / 10) - 1) / Config.tenPower ((g : Rat) / 40))

/-- The mean of a list of rationals, 0 of none. -/
def meanRat (l : List Rat) : Rat := if l.isEmpty then 0 else l.foldl (· + ·) 0 / (l.length : Rat)

/-- The noise reference P_n of a bin, in mW (R83). -/
def noiseReference (s : State) (b : Nat) : Rat :=
  let w := binWindow s b
  let incl := s.get (F.SPC_WIN_INCL_incl w)
  let levels := (upTo 4).filterMap (fun g =>
    let e := s.qmap b g
    if bits incl (4 * g) 4 ≠ 0 ∧ !notFed s b g ∧ (e.state = 1 ∨ e.state = 2) then
      some (Config.tenPower (((e.level : Rat) / 4 - 200) / 10)) else none)
  if levels.isEmpty then
    let nf := meanRat ((onesOf incl 16).map (chainNf s (decide (s.get (F.CHZ_WIN_CENTRE_centre_khz w) < 1500000))))
    Config.tenPower ((nf - 174) / 10) * ((binWidth2 (s.get (F.CHZ_WIN_CFG_bin_code w)) * 500 : Nat) : Rat)
  else meanRat levels

/-- The covariance of a bin that has had no block yet: P_n times the unit matrix (R73). -/
def noiseCovariance (s : State) (b : Nat) : List Rat :=
  (upTo 512).map (fun k => if k % 2 = 0 ∧ (k / 2) / 16 = (k / 2) % 16 then noiseReference s b else 0)

/-- The covariance estimate of a bin: 16 by 16 complex elements, row by row (R73). -/
def covarianceOf (s : State) (b : Nat) : List Rat :=
  match tabFind s.search.covariance b with
  | some r => r
  | none => noiseCovariance s b

/-- Whether a stream of a bin is requesting or assigned now. -/
def binBusy (s : State) (bin : Nat) : Bool :=
  (binStreams s bin).any (fun i => decide (s.get (F.SRH_STREAM_STATUS_state i) = 2) || frozen s i)

/-- A block of 64 bin samples of a bin ends, whose sample covariance is given (R73): accumulated unless a stream of
the bin was requesting or assigned at any time of the block. -/
def execCovarianceBlock (bin : Nat) (block : List Rat) (s : State) : Host.Outcome State Fault Refusal :=
  run (fun s =>
    let busy := s.search.busyBins.contains bin || binBusy s bin
    let s : State := { s with search := { s.search with
      busyBins := s.search.busyBins.filter (fun b => b ≠ bin) ++ (if binBusy s bin then [bin] else []) } }
    if s.on (F.CHZ_BIN_valid bin) ∧ s.on (F.CHZ_WIN_CFG_filled (binWindow s bin)) ∧ busy = false then
      let beta := max 1 (s.get F.SPC_CFG_beta)
      let r := List.zipWith (fun x y => x + (y - x) / ((2 ^ beta : Nat) : Rat)) (covarianceOf s bin) block
      { s with search := { s.search with covariance := tabPut s.search.covariance bin r } }
    else s) s

/-- The committed look vector of beam `k` of a window, the uniform vector where it is all zero (R74). -/
def lookVector (s : State) (w k : Nat) : List Int :=
  let v := (upTo 16).flatMap (fun n => [signed 16 (s.get (F.SPC_LOOK_i w k n)), signed 16 (s.get (F.SPC_LOOK_q w k n))])
  if v.all (fun x => decide (x = 0)) then (upTo 32).map (fun i => if i % 2 = 0 then 1 else 0) else v

/-- The blind weight of a beam of a bin (R74), at unit norm over the included chains (R75). -/
def blindWeight (s : State) (bin beam : Nat) : List Rat :=
  let w := binWindow s bin
  let mask := s.get (F.SPC_WIN_INCL_incl w)
  let ratio : Rat := (binCentreHz s bin : Rat) / ((s.get (F.CHZ_WIN_CENTRE_centre_khz w) * 1000 : Nat) : Rat)
  let look := cxVector ((cxElements ((lookVector s w beam).map (fun (x : Int) => (x : Rat)))).map (phaseTimes ratio))
  let delta := noiseReference s bin * Config.tenPower ((s.get F.SPC_CFG_diag_load : Rat) / 40)
  restrictTo mask (minimumVariance (covarianceOf s bin) delta look mask)

/-- Every blind weight of a bin is computed again (R74): streams a lane holds take them at release
(R76). -/
def execBlindWeightRecompute (bin : Nat) (s : State) : Host.Outcome State Fault Refusal :=
  run (fun s =>
    if s.on (F.CHZ_BIN_valid bin) ∧ s.on (F.CHZ_WIN_CFG_filled (binWindow s bin)) then
      each (binStreams s bin) (fun i s =>
        let s := putBlind i (blindWeight s bin (s.get (F.SPC_STREAM_beam i))) s
        if frozen s i then s else applyWeights i s) s
    else s) s

/-- A write to a look element (R454): elements 0 to 14 wait, element 15 commits the vector. -/
def writeLook (off : Nat) (v : Word) (s : State) : State :=
  if (off / 4) % 16 = 15 then
    let first := off - 60
    let s := each (upTo 15) (fun n s =>
      match tabFind s.search.lookPending (first + 4 * n) with
      | some x => s.setReg (first + 4 * n) x
      | none => s) s
    let s := s.setReg off v
    { s with search := { s.search with lookPending := s.search.lookPending.filter (fun (o, _) => decide (o < first ∨ off < o)) } }
  else { s with search := { s.search with lookPending := tabPut s.search.lookPending off v } }

/-! Stored weights and posts (R77, R78, R86). -/

/-- Late-catch span in ns (R86): 0 acts as 1 ms, above 20 as 20 ms. -/
def spanNs (s : State) : Nat := clamp 1 20 (s.get F.SRH_LATE_CFG_span_ms) * 1000000

/-- Whether a beam of a bin is free for a post whose window is given (R78): no other post holds it over a span that
overlaps the window, and once the window opens no lane or waiting frame holds it.  A beam counts as frozen as the window
opens (notes/assumptions/157, DESIGN CHOICE). -/
def beamFree (s : State) (p : RxPost) (i : Nat) : Bool :=
  !(decide (p.opens ≤ s.now) && frozen s i)
  && s.search.posts.all (fun q => !decide (q.stream = some i) || decide (q.asn = p.asn ∧ q.cell = p.cell)
    || ((decide (q.closes < p.opens) && !(decide (p.opens ≤ s.now) && postWaits s q)) || decide (p.closes < q.opens)))

/-- Put a posted cell's stored weights on the first free beam of its bin (R77, R78); a post that finds
none has no stream, and is a weight clash. -/
def placePost (p : RxPost) (s : State) : RxPost × State :=
  if p.weights.all (fun b => decide (b = 0#8)) then (p, s)
  else
    match (binStreams s p.bin).find? (beamFree s p) with
    | some i => ({ p with stream := some i }, s)
    | none => ({ p with stream := none }, s.event F.SPC_STAT_weight_clash F.SPC_EVCNT_weight_clash_cnt)

/-- Show a post on its stream, as its window opens (R77); a stream a lane holds keeps its weights (R76). -/
def showPost (p : RxPost) (s : State) : State :=
  match p.stream with
  | some i => if frozen s i then s else applyWeights i ((s.set (F.SPC_STREAM_mrc i) 1).set (F.SPC_STREAM_lid i) p.lid)
  | none => s

/-- The window of a post opens (R77, R78): a post whose beam is taken by now falls to the next free one. -/
def openPost (p : RxPost) (s : State) : State :=
  let r := if p.stream.any (fun i => !beamFree s p i) then placePost p s else (p, s)
  let q := { r.1 with opened := true }
  let s := r.2
  showPost q { s with search := { s.search with posts := s.search.posts.map (fun x => if x = p then q else x) } }

/-- Post a receive cell to the combiner and the searchers (R77, R86). -/
def postCell (p : RxPost) (s : State) : State :=
  let p := { p with opened := decide (p.opens ≤ s.now) }
  let (p, s) := placePost p s
  let s := { s with search := { s.search with posts := s.search.posts ++ [p] } }
  if p.opened then showPost p s else s

/-- A stream that no lane holds takes the weights it has now (R76, R77): those of a post that applies, else
its blind weights; posts whose windows have closed leave it. -/
def endPost (i : Nat) (s : State) : State :=
  let s := { s with search := { s.search with posts := s.search.posts.map (fun p =>
    if p.stream = some i ∧ p.closes < s.now ∧ postWaits s p = false then { p with stream := none } else p) } }
  match postOn s i with
  | some p => showPost p s
  | none => applyWeights i ((s.set (F.SPC_STREAM_mrc i) 0).set (F.SPC_STREAM_lid i) 0)

/-- Bring the posts to the present: windows that have opened show their weights, those that have closed
take them off unless a lane holds the stream or a frame waits for one, and posts beyond their late-catch hold are
dropped. -/
def movePosts (s : State) : State :=
  let s := each (s.search.posts.filter (fun p => !p.opened && decide (p.opens ≤ s.now))) openPost s
  let s := each ((s.search.posts.filter (fun p => decide (p.closes < s.now) && !postWaits s p)).filterMap RxPost.stream)
    (fun i s => if frozen s i then s else endPost i s) s
  { s with search := { s.search with posts := s.search.posts.filter (fun p => decide (s.now ≤ p.closes + spanNs s) || p.stream.isSome) } }

/-! Searchers (R82 to R86, R95, R96, R381). -/

/-- Lane pools of the plan in force. -/
def State.pools (s : State) : List LaneRec :=
  match s.stand.inForce with
  | some p => p.lanes
  | none => []

/-- The wait for a delimiter that the loader sets for pools according to their format, in µs (R111). -/
def setWaits (ps : List LaneRec) (s : State) : State :=
  each ps (fun r s => s.set (F.LNE_POOL_CFG_sfd_wait_us r.pool) (if r.format = 0 then 5000 else if r.format = 1 then 500 else 8000)) s

/-- Whether some pool of the plan receives a format (R82). -/
def formatHasPool (s : State) (f : Nat) : Bool := s.pools.any (fun p => decide (p.format = f))

/-- The lowest-numbered pool for a format and mode (R87). -/
def poolFor (s : State) (f m : Nat) : Option Nat :=
  ((s.pools.filter (fun p => decide (p.format = f) && p.modeMask.testBit m)).map LaneRec.pool).min?

/-- Modes of a format (R95). -/
def modeCount (f : Nat) : Nat := if f = 0 then 7 else if f = 1 then 1 else if f = 2 then 1 else 0

/-- The smallest bin code whose width is at least a mode's minimum bin width (R95, R96). -/
def minBinCode (f m : Nat) : Nat :=
  if f = 1 then 8 else if f = 2 then 3
  else if m = 0 then 3 else if m = 1 then 4 else if m = 2 ∨ m = 3 ∨ m = 4 then 5 else 6

/-- One symbol of a mode in 1/256 ns (R95): a chip period for Understory mode's preamble symbol. -/
def symbolTime (f m : Nat) : Nat :=
  if f = 1 then 16000 * 256 else if f = 2 then 20000 * 256
  else if m = 0 then 20000 * 256 else if m = 1 ∨ m = 4 then 10000 * 256 else if m = 2 then 1706666
  else if m = 3 ∨ m = 6 then 5000 * 256 else 853333

/-- The formats the searchers of a window correlate for (R82). -/
def searched (s : State) (w f : Nat) : Bool := bit (tabGet s.search.fmtInForce w 0) f && formatHasPool s f

/-- Distance of two numbers. -/
def distance (a b : Nat) : Nat := if a ≤ b then b - a else a - b

/-- The post of a list whose expected arrival is nearest to an instant, the first of equals. -/
def nearestPost (t : Nat) (l : List RxPost) : Option RxPost :=
  l.foldl (fun best p =>
    match best with
    | none => some p
    | some q => if distance t p.expected < distance t q.expected then some p else some q) none

/-- The catch class of a stamp on a bin, its offset in ns, and the cell it refers to (R86). -/
def catchClass (s : State) (bin stamp : Nat) : Nat × Int × Option (Nat × Nat) :=
  let t := stamp / 256
  let held := s.search.posts.filter (fun p => decide (p.bin = bin))
  match nearestPost t (held.filter (fun p => decide (p.opens ≤ t ∧ t ≤ p.closes))) with
  | some p => (0, (t : Int) - p.expected, some (p.asn, p.cell))
  | none =>
    match nearestPost t (held.filter (fun p => p.dedicated && decide (p.opens ≤ t + spanNs s ∧ t ≤ p.closes + spanNs s))) with
    | some p => (1, (t : Int) - p.expected, some (p.asn, p.cell))
    | none => (2, 0, none)

/-- Working lanes of a pool. -/
def poolLanes (s : State) (p : Nat) : List Nat :=
  s.regs.filterMap (fun (o, w) =>
    if 0x1A2000 ≤ o ∧ o < 0x1A2880 ∧ bits w.toNat 30 2 = 1 ∧ bits w.toNat 24 4 = p then some ((o - 0x1A2000) / 4) else none)

/-- Whether some lane of a pool lies in an ON bank (R381). -/
def poolAwake (s : State) (p : Nat) : Bool := (poolLanes s p).any (fun n => s.domOn (19 + n / 136))

/-- Whether what another beam of the bin detected, of a stream, format, stamp and carrier offset, is the same frame as a
detection (R85).  The one symbol is that of the later detection's mode (notes/assumptions/115, DESIGN CHOICE); merge_tol 0
disables merging. -/
def sameSignal (s : State) (d : Detection) (stream format stamp : Nat) (cfo : Int) : Bool :=
  decide (s.get F.SRH_CFG_merge_tol ≠ 0) && decide (stream ≠ d.stream)
  && decide (s.get (F.SPC_STREAM_bin stream) = s.get (F.SPC_STREAM_bin d.stream))
  && decide (format = d.format) && decide (distance stamp d.stamp ≤ symbolTime d.format d.mode)
  && decide ((cfo - d.cfo).natAbs ≤ s.get F.SRH_CFG_merge_tol * 50)

/-- Whether a pending or granted request of another beam of the bin is the same frame as a detection (R85). -/
def sameFrame (s : State) (d : Detection) (r : LaneRequest) : Bool := sameSignal s d r.stream r.format r.stamp r.cfo

/-- The requests of other beams that are the same frame as a detection, pending and granted (R85). -/
def kinOf (s : State) (d : Detection) : List LaneRequest × List LaneRequest :=
  (s.search.requests.filter (sameFrame s d), (s.lanes.frames.map (fun x => x.2.req)).filter (sameFrame s d))

/-- The detections of other beams that no pool takes and that are the same frame as a detection (R85). -/
def orphans (s : State) (d : Detection) : List Detection :=
  (s.search.lastDetection.map Prod.snd).filter (fun e => (poolFor s e.format e.mode).isNone && sameSignal s d e.stream e.format e.stamp e.cfo)

/-- Whether a beam keeps a frame before another: the higher correlator SNR, of equal ones the lower stream ID
(notes/assumptions/115, DESIGN CHOICE). -/
def keeps (snr stream snr' stream' : Nat) : Bool := decide (snr' < snr ∨ (snr' = snr ∧ stream < stream'))

/-- Suppress a stream until the frame kept by another is released (R85); one that a lane holds for another frame
stays assigned. -/
def suppress (i kept : Nat) (s : State) : State :=
  let s := { s with search := { s.search with suppressed := tabPut s.search.suppressed i kept } }
  (s.setIf (!frozen s i) (F.SRH_STREAM_STATUS_state i) 4).inc F.SRH_MERGE_CNT_count

/-- Make a detection a lane request (R87, R381). -/
def request (d : Detection) (cc : Nat × Int × Option (Nat × Nat)) (p : Nat) (s : State) : State :=
  let awake := poolAwake s p
  let bin := s.get (F.SPC_STREAM_bin d.stream)
  let r : LaneRequest := ⟨d.stream, d.format, d.mode, d.snr, d.stamp, d.cfo, cc.1, cc.2.1, cc.2.2, p, !awake,
    cc.2.2.bind (fun (a, c) => (s.search.posts.find? (fun p => decide (p.asn = a ∧ p.cell = c))).map RxPost.cellUse)⟩
  let s := { s with search := { s.search with
    requests := s.search.requests ++ [r], suppressed := tabErase s.search.suppressed d.stream
    busyBins := if s.search.busyBins.contains bin then s.search.busyBins else s.search.busyBins ++ [bin] } }
  let s := s.set (F.SRH_STREAM_STATUS_state d.stream) 2
  if awake then s
  else
    match (poolLanes s p).head? with
    | some n => wakeSource 6 (17 + streamWindow s d.stream / 2) (n / 136) s
    | none => s

/-- Whether a searcher makes a detection (R82, R84, R95, R96). -/
def detectable (s : State) (d : Detection) : Bool :=
  let w := streamWindow s d.stream
  let st := s.get (F.SRH_STREAM_STATUS_state d.stream)
  s.on (F.SPC_STREAM_valid d.stream) && s.on (F.CHZ_WIN_CFG_filled w)
  && !s.canopy.drainWindows.contains w && decide (st = 1 ∨ st = 2 ∨ st = 4) && decide (d.format < 3) && searched s w d.format
  && decide (d.mode < modeCount d.format) && decide (minBinCode d.format d.mode ≤ s.get (F.CHZ_WIN_CFG_bin_code w))
  && decide (s.get (F.SRH_THR_thr d.format) ≤ d.snr) && decide (d.snr < 256)

/-- Streams that a stream has suppressed correlate again (R85). -/
def freeSuppressed (i : Nat) (s : State) : State :=
  let freed := (s.search.suppressed.filter (fun (_, k) => decide (k = i))).map Prod.fst
  let s := { s with search := { s.search with suppressed := s.search.suppressed.filter (fun (_, k) => decide (k ≠ i)) } }
  each freed (fun j s => s.set (F.SRH_STREAM_STATUS_state j) (searcherState s j)) s

/-- A detection that no stronger beam has (R85, R87): pending requests that are the same frame give way to it, and it
becomes a request.  A mode no pool takes leaves a recorded detection and no request (notes/assumptions/116, DESIGN
CHOICE): what it has merged correlates on at once, as no lane will release it. -/
def keepDetection (d : Detection) (cc : Nat × Int × Option (Nat × Nat)) (weaker : List LaneRequest) (s : State) : State :=
  let s := each weaker (fun r s =>
    let s : State := { s with search := { s.search with
      requests := s.search.requests.filter (fun x => decide (x ≠ r))
      suppressed := s.search.suppressed.map (fun (i, x) => (i, if x = r.stream then d.stream else x)) } }
    suppress r.stream d.stream s) s
  match poolFor s d.format d.mode with
  | some p => request d cc p s
  | none => freeSuppressed d.stream s

/-- Merge a detection with those of other beams (R85): it is suppressed for a lane's frame or a stronger request, it is
counted where a stronger beam has found the frame in a mode no pool takes, and else it keeps the frame. -/
def mergeDetection (d : Detection) (cc : Nat × Int × Option (Nat × Nat)) (s : State) : State :=
  let (pending, granted) := kinOf s d
  let lost := orphans s d
  match granted ++ pending.filter (fun r => keeps r.snr r.stream d.snr d.stream) with
  | r :: _ => suppress d.stream r.stream s
  | [] =>
    if lost.any (fun e => keeps e.snr e.stream d.snr d.stream) then s.inc F.SRH_MERGE_CNT_count
    else keepDetection d cc pending (each lost (fun _ s => s.inc F.SRH_MERGE_CNT_count) s)

/-- A searcher detects a preamble (R84 to R87).  A beam that already has a lane keeps the frame
(notes/assumptions/115, DESIGN CHOICE). -/
def execPreambleDetect (d : Detection) (s : State) : Host.Outcome State Fault Refusal :=
  run (fun s =>
    let s := movePosts (s.reach (d.stamp / 256))
    if detectable s d then
      let bin := s.get (F.SPC_STREAM_bin d.stream)
      let cc := catchClass s bin d.stamp
      let s := { s with canopy := { s.canopy with spoiltBins := if s.canopy.spoiltBins.contains bin then s.canopy.spoiltBins else s.canopy.spoiltBins ++ [bin] } }
      let s := ((s.set (F.SRH_STREAM_STATUS_in_cell d.stream) (b2n (cc.1 = 0))).set
        (F.SRH_STREAM_STATUS_last_snr d.stream) d.snr).set (F.SRH_STREAM_STATUS_format d.stream) d.format
      let s := s.set (F.SRH_STREAM_STATUS_det_cnt d.stream) (s.get (F.SRH_STREAM_STATUS_det_cnt d.stream) + 1)
      mergeDetection d cc { s with search := { s.search with lastDetection := tabPut s.search.lastDetection d.stream d } }
    else s) s

/-! The lane arbiter (R87 to R90). -/

/-- Whether a request comes before another in a round (R87). -/
def before (a b : LaneRequest) : Bool :=
  if (decide (a.catchClass = 0)) != (decide (b.catchClass = 0)) then decide (a.catchClass = 0)
  else if a.snr ≠ b.snr then decide (b.snr < a.snr)
  else decide (a.stream < b.stream)

/-- Put a request in its place of a round's order. -/
def insertRequest (r : LaneRequest) (l : List LaneRequest) : List LaneRequest :=
  match l with
  | [] => [r]
  | x :: rest => if before r x then r :: x :: rest else x :: insertRequest r rest

/-- The pending requests of a pool in the order of R87. -/
def roundOrder (s : State) (p : Nat) : List LaneRequest :=
  (s.search.requests.filter (fun r => decide (r.pool = p))).foldr insertRequest []

/-- Whether a lane takes no new frame: it is to leave its pool in a drain timeslot or has not yet left it
(R46), while it loads microcode (R118), or where no LANE image was valid at the boot (R335). -/
def laneHeld (s : State) (n : Nat) : Bool :=
  (decide (s.stand.phase = .drain) && s.stand.planned.any (fun x => decide (x.1 = n)))
  || s.stand.lateLanes.any (fun x => decide (x.1 = n)) || decide (s.now < tabGet s.lanes.loading n 0)
  || (bit (s.get F.HWD_STATUS_meas_final) 3 && (upTo 8).all (fun j => decide (s.get (F.HWD_MEAS_bytes 3 j) = 0)))

/-- Lanes of a pool that a request can be granted: none after a boot that found no microcode (R335). -/
def freeLanes (s : State) (p : Nat) : List Nat :=
  (poolLanes s p).filter (fun n => !s.lanes.noUcode && !s.on (F.SRH_LANE_MAP_busy n) && s.domOn (19 + n / 136) && !laneHeld s n)

/-- Take requests of a stream off the queue. -/
def dropRequest (r : LaneRequest) (s : State) : State :=
  { s with search := { s.search with requests := s.search.requests.filter (fun x => decide (x ≠ r)) } }

/-- Grant a lane to a request (R87, R94). -/
def grantLane (n : Nat) (r : LaneRequest) (s : State) : State :=
  let s := dropRequest r s
  let f : LaneFrame :=
    { req := r, position := s.get (F.SRH_LANE_MAP_position n), gen := s.get (F.SRH_LANE_MAP_gen n)
      cfg := s.reg (0x1E2100 + 0x10 * r.pool), eq := s.reg (0x1E2104 + 0x10 * r.pool), fsk := s.reg (0x1E2108 + 0x10 * r.pool)
      stored := s.on (F.SPC_STREAM_mrc r.stream), found := false, coded := false, sfdStamp := 0, phrKnown := false, phr := 0
      len := 0, whitened := false, crc16 := false, cells := [], noBuffer := false, eqReset := false, incl := s.get (F.SPC_WIN_INCL_incl (streamWindow s r.stream)) }
  let s := { s with lanes := { s.lanes with frames := tabPut s.lanes.frames n f } }
  let s := (s.set (F.SRH_LANE_MAP_busy n) 1).set (F.LNE_STATUS_state n) 1
  let s := (s.set (F.SRH_STREAM_STATUS_state r.stream) 3).set (F.SRH_STREAM_STATUS_lane r.stream) n
  if r.catchClass = 0 then s else s.inc F.SRH_LATE_CNT_count

/-- Count a refusal: lane exhaustion (R88). -/
def countExhaustion (r : LaneRequest) (s : State) : State :=
  let s := ((s.inc F.SRH_EXH_CNT_count).inc (F.SRH_POOL_EXH_CNT_count r.pool)).event F.SRH_STAT_exh F.SRH_EVCNT_exh_cnt
  if r.catchClass = 0 then s.event F.SRH_STAT_sched_exh F.SRH_EVCNT_sched_exh_cnt else s

/-- A lane releases its stream (R90): the stream takes its pending weights (R76), the streams it
suppressed correlate again (R85).  A request that is refused frees them too (notes/assumptions/115, DESIGN CHOICE). -/
def releaseStream (i : Nat) (s : State) : State :=
  let s := freeSuppressed i (s.set (F.SRH_STREAM_STATUS_state i) (searcherState s i))
  if frozen s i then s else endPost i s

/-- Whether a lane that is not pruned still runs the previous microcode (R118). -/
def switching (s : State) : Bool := s.lanes.oldUcode.any (fun x => !s.pruned 1 x)

/-- LNE_UCODE.switching follows; a LANE step whose lanes take longer than 10 s fails its check (R347). -/
def showSwitching (s : State) : State :=
  (s.when (s.on F.LNE_UCODE_switching && !switching s) (failLate [3] 10000000000)).set F.LNE_UCODE_switching (b2n (switching s))

/-- The lane loads the microcode last activated, if it runs an older one; the time this takes, up to 20 µs, in which it
is not granted, is left open (R118). -/
def loadUcode (n : Nat) (s : State) : State :=
  if s.lanes.oldUcode.contains n then
    let s := { s with lanes := { s.lanes with
      oldUcode := s.lanes.oldUcode.filter (fun x => x ≠ n), loading := tabPut s.lanes.loading n (s.now + s.open 32 % 20001) } }
    showSwitching (s.used.set (F.LNE_STATUS_ucode_new n) 1)
  else s

/-- A lane lets its frame go: cells that are not kept return to the receive allocation. -/
def releaseLane (n : Nat) (keep : Bool) (s : State) : State :=
  match tabFind s.lanes.frames n with
  | none => s
  | some f =>
    let s := if keep then s else freeCells 0 f.cells s
    let s := { s with lanes := { s.lanes with frames := tabErase s.lanes.frames n } }
    let s := (s.set (F.SRH_LANE_MAP_busy n) 0).set (F.LNE_STATUS_state n) 0
    loadUcode n (releaseStream f.req.stream s)

/-- Lanes of a pool that an IN_CELL request can take (R89), those of the lowest correlator SNR. -/
def victims (s : State) (p : Nat) : List Nat :=
  let c := s.lanes.frames.filter (fun (n, f) => decide (f.req.pool = p) && !f.found && decide (f.req.catchClass ≠ 0) && s.domOn (19 + n / 136) && !laneHeld s n)
  match (c.map (fun (_, f) => f.req.snr)).min? with
  | some m => (c.filter (fun (_, f) => decide (f.req.snr = m))).map Prod.fst
  | none => []

/-- Preempt a lane for an IN_CELL request (R89). -/
def preemptFor (r : LaneRequest) (n : Nat) (s : State) : State :=
  match tabFind s.lanes.frames n with
  | none => s
  | some f =>
    let s := (countExhaustion f.req s).event F.SRH_STAT_preempt F.SRH_EVCNT_preempt_cnt
    grantLane n r (releaseLane n false s)

/-- One request's turn in a round. -/
def serveRequest (r : LaneRequest) (s : State) : State :=
  if frozen s r.stream then s
  else
    match pick s (freeLanes s r.pool) with
    | some n => grantLane n r s.used
    | none =>
      if r.catchClass = 0 ∧ s.on F.SRH_CFG_preempt then
        match pick s (victims s r.pool) with
        | some n => preemptFor r n s.used
        | none => s
      else s

/-- A round of a pool's arbiter (R87, R89). -/
def execLaneArbiterRound (pool : Nat) (s : State) : Host.Outcome State Fault Refusal :=
  run (fun s =>
    let s := movePosts s
    each (roundOrder s pool) serveRequest s) s

/-- A request's hold time ends without a grant (R88); a request that waits for its bank is not refused
before the bank is ON (R381). -/
def execLaneRequestRefused (stream : Nat) (s : State) : Host.Outcome State Fault Refusal :=
  run (fun s =>
    match s.search.requests.find? (fun r => decide (r.stream = stream)) with
    | some r =>
      if r.bankWait ∧ !poolAwake s r.pool then s
      else
        let s := countExhaustion r (dropRequest r s)
        if frozen s stream then s else releaseStream stream s
    | none => s) s

end Sys2Proof.Machine
end

