-- ==== Sys2Proof/Machine/Regulatory.lean ====
section
/-!
DEFINITION. The regulatory profile (R143 to R157): its format and validity, the gate's checks and
accounts, OTP programming and the switch to a replacement.
-/

namespace Sys2Proof.Machine

/-! The profile's format (R144 to R146). -/

/-- The number of ranges of a profile. -/
def rangeCount (p : List Byte) : Nat := byteAt p 5

/-- A number of a range record: offset and width in bytes. -/
def rangeNat (p : List Byte) (r off n : Nat) : Nat := leAt p (0x20 + 32 * r + off) n

/-- The kind of a range: 1 allow, 2 deny. -/
def rangeKind (p : List Byte) (r : Nat) : Nat := rangeNat p r 0 1

/-- Lower edge of a range, kHz. -/
def rangeLo (p : List Byte) (r : Nat) : Nat := rangeNat p r 4 4

/-- Upper edge of a range, kHz. -/
def rangeHi (p : List Byte) (r : Nat) : Nat := rangeNat p r 8 4

/-- Duty window in s. -/
def dutyWindow (p : List Byte) (r : Nat) : Nat := rangeNat p r 16 2

/-- Duty limit in 0.01 %. -/
def dutyShare (p : List Byte) (r : Nat) : Nat := rangeNat p r 18 2

/-- Dwell window in 0.1 s. -/
def dwellWindow (p : List Byte) (r : Nat) : Nat := rangeNat p r 20 2

/-- Permitted time per dwell channel, ms. -/
def dwellMax (p : List Byte) (r : Nat) : Nat := rangeNat p r 22 2

/-- Width of a dwell channel, kHz. -/
def dwellWidth (p : List Byte) (r : Nat) : Nat := rangeNat p r 24 2

/-- The ranges in use. -/
def rangesOf (p : List Byte) : List Nat := upTo (min (rangeCount p) 12)

/-- Dwell channels of a range (R146). -/
def dwellCount (p : List Byte) (r : Nat) : Nat :=
  if dwellWidth p r = 0 then 0 else (rangeHi p r - rangeLo p r) / dwellWidth p r

/-- Index of a range's first dwell channel: channels are numbered contiguously in range order. -/
def dwellFirst (p : List Byte) (r : Nat) : Nat := ((upTo r).map (dwellCount p)).sum

/-- Whether one range record is well formed (R145, R146). -/
def rangeValid (p : List Byte) (r : Nat) : Bool :=
  let lo := rangeLo p r
  let hi := rangeHi p r
  let edges := decide (410000 ≤ lo ∧ lo < hi ∧ hi ≤ 2500000)
  let reserved := allZero (slice p (0x20 + 32 * r + 2) 2) && decide (rangeNat p r 15 1 = 0) && allZero (slice p (0x20 + 32 * r + 28) 4)
  let duty := decide (dutyWindow p r = 0 ∧ dutyShare p r = 0)
    || decide (1 ≤ dutyWindow p r ∧ dutyWindow p r ≤ 3600 ∧ 1 ≤ dutyShare p r ∧ dutyShare p r ≤ 10000)
  let none := decide (dwellWindow p r = 0 ∧ dwellMax p r = 0 ∧ dwellWidth p r = 0)
  let dwell := none || (decide (1 ≤ dwellWindow p r ∧ 1 ≤ dwellMax p r ∧ 25 ≤ dwellWidth p r ∧ dwellWidth p r ≤ 5000)
    && decide ((hi - lo) % dwellWidth p r = 0))
  let kind := decide (rangeKind p r = 1) || (decide (rangeKind p r = 2) && decide (rangeNat p r 1 1 = 0) &&
    allZero (slice p (0x20 + 32 * r + 12) 20))
  edges && reserved && duty && dwell && kind

/-- Whether two ranges overlap. -/
def rangesOverlap (p : List Byte) (a b : Nat) : Bool := decide (rangeLo p a < rangeHi p b ∧ rangeLo p b < rangeHi p a)

/-- Whether a profile is valid (R146). -/
def profileValid (p : List Byte) : Bool :=
  decide (p.length = 512) && decide (slice p 0 4 = [0x42#8, 0x58#8, 0x52#8, 0x50#8]) && decide (byteAt p 4 = 1)
  && decide (Config.shake256 (p.take 0x1E0) 32 = slice p 0x1E0 32)
  && allZero (slice p 12 4) && allZero (slice p 0x18 8) && allZero (slice p 0x1A0 64)
  && decide (1 ≤ rangeCount p ∧ rangeCount p ≤ 12)
  && allZero (slice p (0x20 + 32 * rangeCount p) (32 * (12 - rangeCount p)))
  && (rangesOf p).any (fun r => decide (rangeKind p r = 1)) && (rangesOf p).all (rangeValid p)
  && (rangesOf p).all (fun a => (rangesOf p).all (fun b =>
      decide (a = b) || decide (rangeKind p a ≠ 1) || decide (rangeKind p b ≠ 1) || !rangesOverlap p a b))
  && decide (((rangesOf p).map (dwellCount p)).sum ≤ 1024)

/-- The 32-byte digest of a profile, which its measurement register receives (R144, R147). -/
def profileDigest (p : List Byte) : List Byte := slice p 0x1E0 32

/-- Show a profile in the RGP registers (R147, RGP_PROFILE): source 0 none, 1 OTP, 2 and 3 the slots. -/
def showProfile (source : Nat) (p : List Byte) (s : State) : State :=
  let s := { s with rgp := { s.rgp with inForce := p } }
  let s := ((s.set F.RGP_PROFILE_fmt_ver (byteAt p 4)).set F.RGP_PROFILE_range_count (byteAt p 5)).set F.RGP_PROFILE_source source
  (s.set F.RGP_PROFILE_SEQ_profile_seq (leAt p 8 4)).set F.RGP_REGION_region_code (leAt p 6 2)

/-- The slot with the highest commit, if any (R147); a slot written without a commit has 0. -/
def bestSlot (s : State) : Option (Nat × ProfileSlot) :=
  (s.rgp.slots.filter (fun x => decide (x.2.commit ≠ 0))).foldl (fun best x =>
    match best with
    | none => some x
    | some y => if y.2.commit < x.2.commit then some x else some y) none

/-- Put the profile of R147 in force, as boot does. -/
def loadProfile (s : State) : State :=
  match bestSlot s with
  | some (k, p) => showProfile (2 + k) p.bytes s
  | none => if profileValid s.rgp.otp && !s.rgp.otpDead then showProfile 1 s.rgp.otp s else showProfile 0 [] s

/-! The gate (R148 to R153). Frequencies are in units of 0.5 Hz, times in units of 1/3 µs. -/

/-- Minimum bin width of a mode in kHz (R95). -/
def minWidth (f m : Nat) : Nat := binWidth2 (minBinCode f m) / 2

/-- A SUN-FSK mode's symbol in units of 1/3 µs (R95). -/
def fskSymbol (m : Nat) : Nat :=
  if m = 0 then 60 else if m = 1 ∨ m = 4 then 30 else if m = 2 then 20 else if m = 3 ∨ m = 6 then 15 else 10

/-- The duration of a PPDU in units of 1/3 µs (R100, R151; SUN-FSK and O-QPSK as IEEE 802.15.4-2020). -/
def ppduTime (d : TxDesc) : Nat :=
  let n := d.psdu.length
  if d.format = 1 then (d.preamble + 2 + n) * 96
  else if d.format = 2 then 3 * (160 * d.preamble + 2560 + 2560 + 1280 * n + 960)
  else
    let sym := fskSymbol d.mode
    let per := if d.mode = 4 ∨ d.mode = 6 then 2 else 1
    let data := 16 + 8 * n
    let coded := if d.coded then 2 * (data + 3 + (if n % 2 = 0 then 13 else 5)) else data
    (8 * d.preamble + 16) * sym + ceilDiv coded per * sym

/-- A frame's frequency word: the channel word with its tilt, limited to 60 ppm (R133). -/
def tiltedWord (d : TxDesc) : Nat :=
  ((d.chanFw : Int) + roundDivInt ((d.chanFw : Int) * clampInt (-6000) 6000 d.tilt) 100000000).toNat

/-- The allow range that contains a frame's whole occupied band, touched by no deny range (R148, R149). -/
def frameRange (p : List Byte) (d : TxDesc) : Option Nat :=
  let c := 3 * tiltedWord d
  let h := minWidth d.format d.mode * 1000
  if (rangesOf p).any (fun r => decide (rangeKind p r = 2 ∧ rangeLo p r * 2000 ≤ c + h ∧ c ≤ rangeHi p r * 2000 + h)) then none
  else (rangesOf p).find? (fun r => decide (rangeKind p r = 1 ∧ rangeLo p r * 2000 + h ≤ c ∧ c + h ≤ rangeHi p r * 2000))

/-- The range a frame's occupied band lies in, whatever a deny range says (RGP_LAST_REFUSE.range). -/
def framePlace (p : List Byte) (d : TxDesc) : Nat :=
  let c := 3 * tiltedWord d
  let h := minWidth d.format d.mode * 1000
  ((rangesOf p).find? (fun r => decide (rangeKind p r = 1 ∧ rangeLo p r * 2000 + h ≤ c ∧ c + h ≤ rangeHi p r * 2000))).getD 15

/-- Declared gain of a limb in 0.25 dB (R144). -/
def extGain (p : List Byte) (l : Nat) : Int := 2 * signed 8 (byteAt p (0x10 + l))

/-- The complex weight of a gang member before scaling (R135), times 127. -/
def memberWeight (s : State) (d : TxDesc) (l : Nat) : Int × Int :=
  let c := s.get (F.TXL_ANT_rx_chain l)
  let a := signed 8 (byteAt d.weights (2 * c))
  let b := signed 8 (byteAt d.weights (2 * c + 1))
  let ki := signed 8 (s.get (F.TXL_ANT_corr_i l))
  let kq := signed 8 (s.get (F.TXL_ANT_corr_q l))
  (a * ki + b * kq, a * kq - b * ki)

/-- The gang group of a limb, where it transmits as one. -/
def gangOf (s : State) (l : Nat) : Option Nat := if s.on (F.TXL_GANG_active (l / 4)) then some (l / 4) else none

/-- The surviving members of a gang group. -/
def gangMembers (s : State) (g : Nat) : List Nat := (onesOf (s.get (F.TXL_GANG_members g)) 4).map (4 * g + ·)

/-- The members of a gang that a frame's weights make radiate: none where it carries none or every one is 0 (R135). -/
def weighted (s : State) (d : TxDesc) (g : Nat) : List Nat :=
  if d.weights.isEmpty then [] else (gangMembers s g).filter (fun l => decide (memberWeight s d l ≠ (0, 0)))

/-- The limbs that radiate a frame: the members its weights name, else the leader alone, whichever limb that is by now
(R135, R136). -/
def radiating (s : State) (d : TxDesc) : List Nat :=
  match gangOf s d.limb with
  | none => [d.limb]
  | some g => if (weighted s d g).isEmpty then [s.get (F.TXL_GANG_leader g)] else weighted s d g

/-- Drive level in effect: below −40 dBm acts as −40 dBm (R138). -/
def driveOf (d : TxDesc) : Int := max (-160) d.power

/-- The power of a member's weight, the square of its modulus, and the largest in the gang. -/
def memberSize (s : State) (d : TxDesc) (l : Nat) : Rat :=
  let (i, q) := memberWeight s d l
  ((i * i + q * q : Int) : Rat)
def topSize (s : State) (d : TxDesc) : Rat := ((radiating s d).map (memberSize s d)).foldl max 0

/-- The drive level of a limb that radiates a frame, in dBm (R135, R138): below −40 dBm acts as −40 dBm. -/
def memberDrive (s : State) (d : TxDesc) (l : Nat) : Rat :=
  let p : Rat := (driveOf d : Rat) / 4
  if (radiating s d).length = 1 ∨ memberSize s d l = topSize s d then p
  else max (-40) (p + Config.tenLog (memberSize s d l / topSize s d))

/-- The complex weight a limb radiates a frame with: scaled so that the largest is 1 (R135). -/
def scaledWeight (s : State) (d : TxDesc) (l : Nat) : Rat × Rat :=
  if (gangOf s d.limb).all (fun g => (weighted s d g).isEmpty) then (1, 0)
  else (((memberWeight s d l).1 : Rat) / Config.squareRoot (topSize s d), ((memberWeight s d l).2 : Rat) / Config.squareRoot (topSize s d))

/-- The radiated power of a frame in dBm (R150). -/
def radiatedPower (s : State) (p : List Byte) (d : TxDesc) : Rat :=
  match radiating s d with
  | [l] => memberDrive s d l + (extGain p l : Rat) / 4
  | ms => 2 * Config.tenLog ((ms.map (fun l => Config.tenPower ((memberDrive s d l + (extGain p l : Rat) / 4) / 20))).sum)

/-- Length of an account's bucket in ns. -/
def dutyBucket (p : List Byte) (r : Nat) : Nat := dutyWindow p r * 62500000

/-- Length of a dwell account's bucket in ns. -/
def dwellBucket (p : List Byte) (r : Nat) : Nat := dwellWindow p r * 6250000

/-- The sum of the present bucket and the 16 before it (R151). -/
def accountSum (acc : Tab Nat) (b : Nat) : Nat :=
  ((acc.filter (fun (k, _) => decide (k ≤ b ∧ b ≤ k + 16))).map Prod.snd).sum

/-- The used time U of a range's duty account (R151). -/
def dutyUsed (s : State) (r : Nat) : Nat :=
  if dutyWindow s.rgp.inForce r = 0 then 0
  else accountSum (tabGet s.rgp.duty r []) (s.now / dutyBucket s.rgp.inForce r)

/-- The duty limit of a range in units of 1/3 µs. -/
def dutyLimit (p : List Byte) (r : Nat) : Nat := 300 * dutyShare p r * dutyWindow p r

/-- The used time of dwell channel `k` of range `r` (R152). -/
def dwellUsed (s : State) (r k : Nat) : Nat :=
  if dwellWindow s.rgp.inForce r = 0 then 0
  else accountSum (tabGet s.rgp.dwell (dwellFirst s.rgp.inForce r + k) []) (s.now / dwellBucket s.rgp.inForce r)

/-- A frame's airtime (R151). -/
def airtime (d : TxDesc) : Nat := ppduTime d + 18

/-- The dwell channel of a frame in its range (R152). -/
def dwellChannel (p : List Byte) (r : Nat) (d : TxDesc) : Nat :=
  (3 * tiltedWord d - rangeLo p r * 2000) / (dwellWidth p r * 2000)

/-- A limit that is given and exceeded: 0 is no limit (R145). -/
def exceeds (limit : Int) (x : Rat) : Bool := decide (limit ≠ 0) && decide ((limit : Rat) < x)

/-- The first check of R148 that a frame fails, none where it passes. -/
def refusalCause (s : State) (d : TxDesc) : Option Nat :=
  let p := s.rgp.inForce
  if p.isEmpty then some 0
  else if s.get F.BRK_LC_state = 5 then some 1
  else
    match frameRange p d with
    | none => some 2
    | some r =>
      if !(rangeNat p r 1 1).testBit d.format then some 3
      else if exceeds (signed 8 (rangeNat p r 14 1)) (driveOf d : Int) then some 4
      else if exceeds (signed 16 (rangeNat p r 12 2)) (4 * radiatedPower s p d) then some 5
      else if rangeNat p r 26 2 ≠ 0 ∧ 3000 * rangeNat p r 26 2 < airtime d then some 6
      else if dutyWindow p r ≠ 0 ∧ dutyLimit p r < dutyUsed s r + airtime d then some 7
      else if dwellWindow p r ≠ 0 ∧ 3000 * dwellMax p r < dwellUsed s r (dwellChannel p r d) + airtime d then some 8
      else none

/-- Charge an account's present bucket. -/
def chargeAccount (acc : Tab Nat) (b a : Nat) : Tab Nat := tabMod acc b 0 (· + a)

/-- Note a duty account that reaches the warning share of its limit (RGP_WARN), once per crossing. -/
def warnDuty (r : Nat) (s : State) : State :=
  let pct := s.get F.RGP_WARN_pct
  let lim := dutyLimit s.rgp.inForce r
  let passed := decide (pct ≠ 0 ∧ pct ≤ 100 ∧ lim ≠ 0 ∧ pct * lim ≤ 100 * dutyUsed s r)
  if passed && !s.rgp.warned.contains r then
    let s := { s with rgp := { s.rgp with warned := s.rgp.warned ++ [r] } }
    s.event F.RGP_STAT_duty_warn F.RGP_EVCNT_duty_warn_cnt
  else if passed then s
  else { s with rgp := { s.rgp with warned := s.rgp.warned.filter (fun x => x ≠ r) } }

/-- Charge a passing frame in its duty and dwell accounts (R151, R152). -/
def chargeFrame (d : TxDesc) (s : State) : State :=
  let p := s.rgp.inForce
  match frameRange p d with
  | none => s
  | some r =>
    let s := if dutyWindow p r = 0 then s else
      { s with rgp := { s.rgp with duty := tabMod s.rgp.duty r [] (fun a => chargeAccount a (s.now / dutyBucket p r) (airtime d)) } }
    let put (a : Tab Nat) : Tab Nat := chargeAccount a (s.now / dwellBucket p r) (airtime d)
    let s := if dwellWindow p r = 0 then s else
      { s with rgp := { s.rgp with dwell := tabMod s.rgp.dwell (dwellFirst p r + dwellChannel p r d) [] put } }
    warnDuty r s

/-- Record a refusal (R148). -/
def recordRefusal (d : TxDesc) (cause : Nat) (s : State) : State :=
  let s := ((s.setReg 0x240020 0#32).set F.RGP_LAST_REFUSE_cause cause).set F.RGP_LAST_REFUSE_range (framePlace s.rgp.inForce d)
  let s := (s.set F.RGP_LAST_REFUSE_limb d.limb).set F.RGP_LAST_REFUSE_lid d.lid
  (s.inc (F.RGP_REFUSE_CNT_count cause)).event F.RGP_STAT_refused F.RGP_EVCNT_refuse_cnt

/-- The gate's verdict on a frame at its ramp (R148): passed and charged, or refused and recorded. -/
def gateFrame (d : TxDesc) (s : State) : Bool × State :=
  match refusalCause s d with
  | some c => (false, recordRefusal d c s)
  | none => (true, chargeFrame d s)

/-- Whether an account holds a charge at a bucket: in one that a window still reaches, or, after a step back, in one that is
to come. -/
def accountHolds (acc : Tab Nat) (b : Nat) : Bool := acc.any (fun (k, c) => decide (c ≠ 0 ∧ b ≤ k + 16))

/-- Whether any account holds a charge (R154). -/
def chargesHeld (s : State) : Bool :=
  let p := s.rgp.inForce
  (rangesOf p).any (fun r =>
    (decide (dutyWindow p r ≠ 0) && accountHolds (tabGet s.rgp.duty r []) (s.now / dutyBucket p r))
    || (decide (dwellWindow p r ≠ 0) && (upTo (dwellCount p r)).any (fun k =>
        accountHolds (tabGet s.rgp.dwell (dwellFirst p r + k) []) (s.now / dwellBucket p r))))

/-- The accounts after a power state of PD_SEC that keeps nothing: empty, unless one holds a charge, for no charge is lost
to a power state (R154). -/
def accountsKept (s : State) : RgpState := if chargesHeld s then s.rgp else { s.rgp with duty := [], dwell := [], warned := [] }

/-- Drop the buckets of an account that no window reaches any more. -/
def pruneAccount (acc : Tab Nat) (b : Nat) : Tab Nat := acc.filter (fun (k, _) => decide (b ≤ k + 16))

/-- The next bucket of a range's duty account, or of its dwell accounts, begins (R151, R152). -/
def execDutyBucketAdvance (range : Nat) (dwell : Bool) (s : State) : Host.Outcome State Fault Refusal :=
  run (fun s =>
    let p := s.rgp.inForce
    let len := if dwell then dwellBucket p range else dutyBucket p range
    if len = 0 then s
    else
      let s := s.reach ((s.now / len + 1) * len)
      let b := s.now / len
      if dwell then
        let ks := (upTo (dwellCount p range)).map (dwellFirst p range + ·)
        { s with rgp := { s.rgp with dwell := s.rgp.dwell.map (fun (k, a) => if ks.contains k then (k, pruneAccount a b) else (k, a)) } }
      else warnDuty range { s with rgp := { s.rgp with duty := s.rgp.duty.map (fun (r, a) => if r = range then (r, pruneAccount a b) else (r, a)) } }) s

/-! Programming and replacement (R155 to R157). -/

/-- A write of RGP_OTP_CTL.go (R156): the staged profile is checked and programmed; `vpp` says whether VPP_OTP is
present, `readback` whether the programmed bytes read back equal. -/
def programProfile (vpp readback : Bool) (s : State) : State :=
  if s.get F.BRK_LC_state ≤ 1 then
    let a := s.pair F.RGP_OTP_ADDR_LO_addr F.RGP_OTP_ADDR_HI_addr / 16 * 16
    let p := s.dramRead a 512
    if s.rgp.otp.isEmpty ∧ vpp = true ∧ s.dramOk a 512 ∧ profileValid p then
      let s := { s with rgp := { s.rgp with otp := p, otpDead := !readback } }
      if readback then (loadProfile s).set F.RGP_STAT_otp_done 1 else s.set F.RGP_STAT_otp_fail 1
    else s.set F.RGP_STAT_otp_fail 1
  else s

/-- An account that starts full (R157): shares of its limit in the present bucket and up to 16 before it, as many as
the time base has had, whose sum is the limit. -/
def fullBuckets (limit b i left : Nat) : Tab Nat :=
  match i with
  | 0 => [(b, left)]
  | i + 1 =>
    let x := min left (Config.fullAccount limit (i + 1))
    tabPut (fullBuckets limit b i (left - x)) (b - (i + 1)) x

/-- Whether a new range keeps an old one's duty account (R157). -/
def sameDuty (p q : List Byte) (r t : Nat) : Bool :=
  decide (rangeKind p r = rangeKind q t ∧ rangeLo p r = rangeLo q t ∧ rangeHi p r = rangeHi q t ∧ dutyWindow p r = dutyWindow q t)

/-- Whether the dwell fields match as well. -/
def sameDwell (p q : List Byte) (r t : Nat) : Bool :=
  sameDuty p q r t && decide (dwellWindow p r = dwellWindow q t ∧ dwellMax p r = dwellMax q t ∧ dwellWidth p r = dwellWidth q t)

/-- The duty account of a range of the new profile (R157). -/
def switchedDuty (s : State) (old new : List Byte) (r : Nat) : Tab Nat :=
  match (rangesOf old).find? (sameDuty new old r) with
  | some t => tabGet s.rgp.duty t []
  | none => if dutyWindow new r = 0 then [] else fullBuckets (dutyLimit new r) (s.now / dutyBucket new r) (min 16 (s.now / dutyBucket new r)) (dutyLimit new r)

/-- The dwell accounts of a range of the new profile (R157). -/
def switchedDwell (s : State) (old new : List Byte) (r : Nat) : Tab (Tab Nat) :=
  match (rangesOf old).find? (sameDwell new old r) with
  | some t => (upTo (dwellCount new r)).map (fun k => (dwellFirst new r + k, tabGet s.rgp.dwell (dwellFirst old t + k) []))
  | none => (upTo (dwellCount new r)).map (fun k =>
      (dwellFirst new r + k, fullBuckets (3000 * dwellMax new r) (s.now / dwellBucket new r) (min 16 (s.now / dwellBucket new r)) (3000 * dwellMax new r)))

/-- The committed replacement enters force (R157), once the keys are rewrapped. -/
def switchProfile (s : State) : State :=
  match s.rgp.pending with
  | some k =>
    if s.rgp.rewrapped then
      match tabFind s.rgp.slots k with
      | some x =>
        let old := s.rgp.inForce
        let duty := (rangesOf x.bytes).map (fun r => (r, switchedDuty s old x.bytes r))
        let dwell := (rangesOf x.bytes).flatMap (switchedDwell s old x.bytes)
        let warned := (rangesOf x.bytes).filter (fun r => ((rangesOf old).find? (sameDuty x.bytes old r)).any s.rgp.warned.contains)
        let s := { s with rgp := { s.rgp with pending := none, rewrapped := false, duty := duty, dwell := dwell, warned := warned } }
        let s := ((showProfile (2 + k) x.bytes s).set F.RGP_PROFILE_pending 0).set F.RGP_STAT_switched 1
        each (rangesOf x.bytes) warnDuty s
      | none => s
    else s
  | none => s

/-- The alternate MRAM slot, where a replacement profile goes (R157). -/
def profilePosition (s : State) : Nat := match bestSlot s with | some (0, _) => 1 | _ => 0

/-- Write a replacement profile to a slot, without a commit as yet. -/
def writeProfile (k : Nat) (p : List Byte) (s : State) : State := { s with rgp := { s.rgp with slots := tabPut s.rgp.slots k ⟨0, p⟩ } }

/-- A replacement profile is committed and awaits its switch (R157). -/
def commitProfile (k : Nat) (s : State) : State :=
  let c := match bestSlot s with | some (_, x) => x.commit + 1 | none => 1
  let s := { s with rgp := { s.rgp with
    slots := s.rgp.slots.map (fun (x : Nat × ProfileSlot) => if x.1 = k then (k, ⟨c, x.2.bytes⟩) else x), pending := some k, rewrapped := false } }
  s.set F.RGP_PROFILE_pending 1

/-- A profile message's own conditions (R157): valid, and a sequence above the one in force. -/
def profileAcceptable (s : State) (p : List Byte) : Bool :=
  profileValid p && decide (leAt s.rgp.inForce 8 4 < leAt p 8 4 ∨ s.rgp.inForce.isEmpty)

/-! Holds, and forced domains whose hold ends (R370, R371). -/

/-- The key of a cell's hold. -/
def holdKey (asn cell : Nat) : Nat := asn * 2 ^ 19 + cell

/-- The windows whose slices lie in PD_CHZ0 or PD_CHZ1. -/
def chzWindows (d : Nat) : List Nat := if d = 17 then [0, 1] else [2, 3]

/-- What of the receive front stops when a domain leaves ON (R50, R68, R371). -/
def frontLeaves (d : Nat) (s : State) : State :=
  if 11 ≤ d ∧ d ≤ 14 then refreshFront s
  else if d = 17 ∨ d = 18 then each (chzWindows d) unfill s
  else s

/-- The entry of a domain to OFF (0) or RET begins. -/
def beginEntry (d target : Nat) (s : State) : State := s.setDom d ⟨if target = 0 then .toOff else .toRet, false⟩

/-- The state below ON that a force pins a domain at: PD_SEC not OFF while an account holds a charge (R154). -/
def forcedState (s : State) (d f : Nat) : Nat := if f = 1 then b2n (decide (d = 2) && chargesHeld s) else 1

/-- A domain that was ON for a hold alone returns to its forced state when no hold stands any more (R370). -/
def returnForced (d : Nat) (s : State) : State :=
  let f := s.get (F.PWR_DOM_CFG_force d)
  if (f = 1 ∨ f = 2) ∧ s.domOn d = true ∧ held s d = false then frontLeaves d (beginEntry d (forcedState s d f) s) else s

/-- The hold of a cell ends (R371). -/
def releaseHold (cell : Nat × Nat) (s : State) : State :=
  { s with power := { s.power with cellHolds := s.power.cellHolds.filter (fun h => decide (h.key ≠ holdKey cell.1 cell.2)) } }

/-- The domains that the hold of a cell keeps ON. -/
def holdDomains (s : State) (cell : Nat × Nat) : List Nat :=
  (s.power.cellHolds.filter (fun h => decide (h.key = holdKey cell.1 cell.2))).flatMap CellHold.doms

/-- Release the hold of a cell (R371): forced domains that no other hold keeps ON return to their forced state (R370). -/
def dropHold (cell : Option (Nat × Nat)) (s : State) : State :=
  match cell with
  | some c => each ((upTo 27).filter (holdDomains s c).contains) returnForced (releaseHold c s)
  | none => s

end Sys2Proof.Machine
end

