-- ==== Sys2Proof/Machine/Limbs.lean ====
section
/-!
DEFINITION. Transmit limbs (R119 to R142): the synthesiser and its calibration store, the queue, the
frame on air, ganging, PA control and coexistence.
-/

namespace Sys2Proof.Machine

/-! State of a limb. -/

/-- A limb's state beyond its registers. -/
def State.limb (s : State) (l : Nat) : LimbState := tabGet s.txl.limbs l {}

/-- The octets in a limb's frame buffer, PHR and PSDU of up to two frames of at most 2,304 octets: the frame on air and
those at the head of the queue, whose octets cross as places free (R119). -/
def bufferOf (x : LimbState) : List (List Byte) :=
  ((x.air.toList.map OnAir.desc ++ x.queue).take 2).map (fun d => (buffered d).take 2304)

/-- Replace a limb's state; the queue length shows in TXL_STATUS, and the frame buffer follows (R119). -/
def State.setLimb (s : State) (l : Nat) (x : LimbState) : State :=
  ({ s with txl := { s.txl with limbs := tabPut s.txl.limbs l { x with buffer := bufferOf x } } }).set (F.TXL_STATUS_queued l) x.queue.length

/-- The limb state code of TXL_STATUS: 0 OFF, 1 STANDBY, 2 SETTLING, 3 CALIBRATING, 4 READY, 5 TX_RAMP,
6 TX, 7 TX_TAIL, 8 FENCED. -/
def limbCode (s : State) (l : Nat) : Nat := s.get (F.TXL_STATUS_state l)

/-- Set a limb's state; the followers of an active gang report the leader's (R134). -/
def setCode (l c : Nat) (s : State) : State :=
  match gangOf s l with
  | some g => if s.get (F.TXL_GANG_leader g) = l then each (gangMembers s g) (fun m s => s.set (F.TXL_STATUS_state m) c) s
      else s.set (F.TXL_STATUS_state l) c
  | none => s.set (F.TXL_STATUS_state l) c

/-- Whether a limb follows another in an active gang: its own synthesiser is off (R134). -/
def follows (s : State) (l : Nat) : Bool := (gangOf s l).any (fun g => decide (s.get (F.TXL_GANG_leader g) ≠ l))

/-! Channels and the calibration store (R120, R124 to R126). -/

/-- A word's frequency in units of 100 kHz, rounded to nearest. -/
def chan100k (fw : Nat) : Nat := roundDiv (3 * fw) 200000

/-- The word of a channel in units of 100 kHz. -/
def wordOf100k (c : Nat) : Nat := roundDiv (c * 200000) 3

/-- Whether a word lies in 410 to 2,500 MHz (R120). -/
def wordInRange (fw : Nat) : Bool := decide (273333334 ≤ fw ∧ fw ≤ 1666666666)

/-- The valid entries of a limb's store: index and high word. -/
def calEntries (s : State) (l : Nat) : List (Nat × Word) :=
  s.regs.filterMap (fun (o, w) =>
    if 0x208000 + 0x1000 * l ≤ o ∧ o < 0x209000 + 0x1000 * l ∧ o % 8 = 4 ∧ w.toNat.testBit 31 then
      some ((o - (0x208000 + 0x1000 * l)) / 8, w) else none)

/-- The limb's temperature. -/
def limbTemp (s : State) (l : Nat) : Int := signed 8 (s.get (F.TXL_STATUS_temp_c l))

/-- How far an entry's temperature lies from the limb's. -/
def entryDrift (s : State) (l : Nat) (w : Word) : Nat := (limbTemp s l - signed 8 (wordField w 8 8)).natAbs

/-- The entry that serves a channel now (R125). -/
def servingEntry (s : State) (l chan : Nat) : Option Nat :=
  ((calEntries s l).find? (fun (_, w) => decide (wordField w 16 15 = chan ∧ entryDrift s l w ≤ 15))).map Prod.fst

/-- Count the valid entries in TXL_STATUS. -/
def countEntries (l : Nat) (s : State) : State := s.set (F.TXL_STATUS_cal_entries l) (calEntries s l).length

/-- Note an entry's use, for the replacement of the least recently used (R126). -/
def touchEntry (l e : Nat) (s : State) : State :=
  let x := s.limb l
  s.setLimb l { x with recent := x.recent.filter (fun i => i ≠ e) ++ [e] }

/-- The entry a channel's calibration is written to (R126): its own, an invalid one, else the least
recently used. -/
def entryFor (s : State) (l chan : Nat) : Nat :=
  let all := calEntries s l
  match all.find? (fun (_, w) => decide (wordField w 16 15 = chan)) with
  | some (e, _) => e
  | none =>
    if 512 ≤ all.length then (s.limb l).recent.headD 0
    else nextCell (all.map Prod.fst) 512 (s.open 9) 512

/-- Output divider of a channel in 100 kHz: 2, 4 or 8 (R120). -/
def dividerOf (chan : Nat) : Nat := if 16000 ≤ chan then 2 else if 8000 ≤ chan then 4 else 8

/-- Write a calibration entry (R124, R126).  Its divider and VCO band are those of the entry's channel in 100 kHz, which
every word served by the entry shares (DESIGN CHOICE, notes/assumptions/158). -/
def writeEntry (l chan cap gain : Nat) (s : State) : State :=
  let e := entryFor s l chan
  let d := dividerOf chan
  let band := ((chan * d - 32000) / 2000) % 16
  let hi := 2 ^ 31 + (chan % 2 ^ 15) * 2 ^ 16 + unsigned 8 (limbTemp s l) * 2 ^ 8 + band * 16 + (cap % 1024) / 64
  let lo := (cap % 64) * 2 ^ 26 + (gain % 256) * 2 ^ 18 + (if d = 2 then 0 else if d = 4 then 1 else 2) * 2 ^ 16
  let s := (s.used.set (F.TXL_CAL_ENTRY_LO_entry_lo l e) lo).set (F.TXL_CAL_ENTRY_HI_entry_hi l e) hi
  countEntries l (touchEntry l e s)

/-- Clear the valid bits of the entries of a limb that pass a test. -/
def clearEntries (l : Nat) (p : Nat → Bool) (s : State) : State :=
  let hit := (calEntries s l).filter (fun (_, w) => p (wordField w 16 15))
  countEntries l (each hit (fun (e, w) s => s.setReg (0x208000 + 0x1000 * l + 8 * e + 4) (wordSet w 31 1 0)) s)

/-! Coexistence (R139, R140). -/

/-- The coexistence set in use that a frame belongs to: the lowest-numbered enabled window whose span
holds its channel, where its set gates transmission. -/
def coexSet (s : State) (d : TxDesc) : Option Nat :=
  match (windowsOn s).find? (fun w => decide ((3 * d.chanFw : Nat) ≤ (s.get (F.CHZ_WIN_CENTRE_centre_khz w) * 2000 + s.get (F.CHZ_WIN_WIDTH_width_khz w) * 1000))
      && decide (s.get (F.CHZ_WIN_CENTRE_centre_khz w) * 2000 ≤ 3 * d.chanFw + s.get (F.CHZ_WIN_WIDTH_width_khz w) * 1000)) with
  | some w => if s.on (F.TXL_CX_CTL_active w) then some w else none
  | none => none

/-- The requests that frames hold on a set (R140). -/
def coexHolds (s : State) (w : Nat) : List CxHold := (upTo 8).flatMap (fun l => (s.limb l).cx.filter (fun h => decide (h.set = w)))

/-- Show a set's wires as the frames that hold it say (R140): CX_REQ is the OR of them, CX_PRI of those that ask for it. -/
def driveCoex (w : Nat) (before : List CxHold) (s : State) : State :=
  let after := coexHolds s w
  let s := if before.isEmpty = after.isEmpty then s else s.emit (.cxReq w (!after.isEmpty))
  let pri := after.any CxHold.pri
  if before.any CxHold.pri = pri then s else s.emit (.cxPri w pri)

/-- Replace the requests a limb's frames hold. -/
def setCoex (l w : Nat) (hs : List CxHold) (s : State) : State :=
  let before := coexHolds s w
  driveCoex w before ((s.setLimb l { s.limb l with cx := hs }).set (F.TXL_STATUS_cx_req l) (b2n (!hs.isEmpty)))

/-- A frame of a limb lets its coexistence request go (R140). -/
def releaseCoex (l launch : Nat) (s : State) : State :=
  match (s.limb l).cx.find? (fun h => decide (h.launch = launch)) with
  | none => s
  | some h => setCoex l h.set ((s.limb l).cx.filter (fun k => decide (k.launch ≠ launch))) s

/-! PA control (R121, R137). -/

/-- The code of a limb's PA_BIAS DAC (R121, R137). -/
def paBias (s : State) (l : Nat) : Nat := s.get (if s.on (F.TXL_STATUS_pa_en l) then F.TXL_PA_bias_on l else F.TXL_PA_bias_off l)

/-- A PA pin and its flag; PA_BIAS steps with it (R137). -/
def drivePa (l : Nat) (high : Bool) (s : State) : State :=
  if s.on (F.TXL_STATUS_pa_en l) = high then s
  else
    let s := (s.set (F.TXL_STATUS_pa_en l) (b2n high)).emit (.paEn l high)
    s.emit (.paBias l (paBias s l))

/-- The lead of a limb's PA_EN before the ramp and its lag after the tail, in ns (R137). -/
def paLead (s : State) (l : Nat) : Nat := 250 * s.get (F.TXL_PA_en_lead l)
def paLag (s : State) (l : Nat) : Nat := 250 * s.get (F.TXL_PA_en_lag l)

/-- The limbs whose drivers a limb's synthesiser serves: of a gang its members (R134). -/
def driven (s : State) (l : Nat) : List Nat :=
  match gangOf s l with
  | some g => gangMembers s g
  | none => [l]

/-- Whether a limb's lag after the tail of the last frame sent still runs for a member's PA_EN (R137). -/
def lagRuns (s : State) (l m : Nat) : Bool := (s.limb l).tailEnd.any (fun t => decide (s.now < t + paLag s m))

/-- A synthesiser no longer reports lock: PA_EN and PA_BIAS of the limbs it serves return to off (R121), but that after a
tail each still has its lag (R137; DEDUCED, notes/assumptions/159). -/
def unlock (l : Nat) (s : State) : State :=
  let s := s.set (F.TXL_STATUS_locked l) 0
  each (driven s l) (fun m s => if lagRuns s l m then s else drivePa m false s) s

/-- Show whether requested calibrations remain queued: one that is under way counts until it has ended (R127). -/
def showPending (l : Nat) (s : State) : State :=
  s.set (F.TXL_CAL_REQ_pending l) (b2n (!(s.limb l).requests.isEmpty || (s.limb l).bg.any BgCal.requested))

/-! Completions and tuning. -/

/-- Complete a descriptor that stood on limb `l` (R141): the completion waits for the engine, and the counters of the limb
that was addressed and the flags follow its status. -/
def complete (l : Nat) (d : TxDesc) (status members late actual : Nat) (s : State) : State :=
  let s := { s with txl := { s.txl with done := s.txl.done ++ [⟨d, status, members, late, actual⟩] } }
  let s := releaseCoex l d.launch (dropHold d.cell s)
  if status = 0 then s.inc (F.TXL_SENT_CNT_count d.limb)
  else
    let s := s.inc (F.TXL_MISS_CNT_count d.limb)
    if status = 1 then s.event F.TXL_STAT_late_lock F.TXL_EVCNT_late_lock_cnt
    else if status = 2 ∨ status = 10 then s.set F.TXL_STAT_late_data 1
    else if status = 3 then s.event F.TXL_STAT_cx_denied F.TXL_EVCNT_cx_cnt
    else if status = 4 then s.event F.TXL_STAT_cx_abort F.TXL_EVCNT_cx_cnt
    else s

/-- Tune a limb to a word of a channel (R122): SETTLING with a valid entry, else CALIBRATING. -/
def tune (l fw chan : Nat) (s : State) : State :=
  let s := unlock l (s.set (F.TXL_FREQ_fw l) fw)
  let s := s.setLimb l { s.limb l with chan := chan }
  match servingEntry s l chan with
  | some e => setCode l 2 (touchEntry l e s)
  | none => setCode l 3 s

/-- Ramp start of a frame in ns (R122): 4 µs before its launch. -/
def rampStart (d : TxDesc) : Nat := d.launch / 256 - 4000

/-- TXL_LATE_MAX in ns: above 100 µs acts as 100. -/
def lateMax (s : State) : Nat := min 100 (s.get F.TXL_LATE_MAX_late_us) * 1000

/-- The lock deadline of a frame (R130). -/
def lockDeadline (s : State) (d : TxDesc) : Nat := rampStart d + lateMax s

/-- Give up a background calibration (R129): it is queued again. -/
def abandonBg (l : Nat) (s : State) : State :=
  match (s.limb l).bg with
  | none => s
  | some b =>
    let x := s.limb l
    let s := s.setLimb l { x with bg := none, chan := b.prevChan, requests := if b.requested then x.requests ++ [b.chan] else x.requests }
    let s := (s.set (F.TXL_FREQ_fw l) b.fw).set (F.TXL_STATUS_locked l) (b2n b.wasReady)
    setCode l (if b.wasReady then 4 else 1) (showPending l s)

/-- Power a limb off (R122): its queued frames find no power (R132), and PD_SEC may have been held ON for it (R370). -/
def limbOff (l : Nat) (s : State) : State :=
  let q := (s.limb l).queue
  let s := s.setLimb l { s.limb l with queue := [], offPending := false, waking := false, bg := none, owed := [] }
  let s := each q (fun d s => complete l d 11 0 0 0 s) s
  returnForced 2 (setCode l 0 (unlock l s))

/-- Take the return state of a frame that has ended or was not sent (R123). -/
def takeReturn (l : Nat) (d : TxDesc) (s : State) : State :=
  let st := limbCode s l
  if st = 0 ∨ st = 8 ∨ (s.limb l).waking then s
  else if d.ret = 1 then setCode l 1 (unlock l s)
  else if d.ret = 2 ∧ d.nextFw ≠ 0 then tune l d.nextFw (chan100k d.nextFw) s
  else s

/-- Whether a refused frame's turn to set the limb's state has come: no frame ahead of it waits (R132). -/
def owedDue (x : LimbState) (d : TxDesc) : Bool := x.queue.all (fun e => decide (d.launch < e.launch))

/-- The refused frames of a limb whose turn has come give it their return states, once no frame is on air and no
acquisition for a frame is under way; a background calibration ends for it (R129, R132). -/
def payOwed (l : Nat) (s : State) : State :=
  let due := (s.limb l).owed.filter (owedDue (s.limb l))
  if due.isEmpty || (s.limb l).air.isSome || follows s l then s
  else
    let s := abandonBg l s
    let st := limbCode s l
    if st ≠ 1 ∧ st ≠ 2 ∧ st ≠ 4 then s
    else
      each due (takeReturn l) (s.setLimb l { s.limb l with owed := (s.limb l).owed.filter (fun d => !owedDue (s.limb l) d) })

/-- Bring a limb to the channel of its head frame, as far as its state allows (R128, R129); a power-off that waits takes effect
first (R122), and then the return states of frames refused ahead of it (R132). -/
def prepareHead (l : Nat) (s0 : State) : State :=
  let s := payOwed l s0
  if (s.limb l).offPending ∧ (s.limb l).air.isNone ∧ (limbCode s l = 1 ∨ limbCode s l = 4) then limbOff l s
  else
  match (s.limb l).queue with
  | [] => s
  | d :: _ =>
    if (s.limb l).air.isSome || (s.limb l).waking then s
    else
      let s := abandonBg l s
      let st := limbCode s l
      let fw := tiltedWord d
      if (st = 1 ∨ st = 4) ∧ !(decide (st = 4) && decide (s.get (F.TXL_FREQ_fw l) = fw)) then
        if (servingEntry s l (chan100k d.chanFw)).isSome ∨ s.now + 180000 ≤ lockDeadline s d then
          tune l fw (chan100k d.chanFw) s
        else s
      else s

/-- The head frame is not sent (R130, R132): it completes and the limb takes its return state. -/
def failHead (l status : Nat) (s : State) : State :=
  match (s.limb l).queue with
  | [] => s
  | d :: rest =>
    let s := s.setLimb l { s.limb l with queue := rest }
    prepareHead l (takeReturn l d (complete l d status 0 0 0 s))

/-- Take back the descriptors that pass a test and are not on air: their holds and requests end, and a frame that was
taken for one stays the head of its queue, a Pollen frame as well. -/
def withdraw (p : TxDesc → Bool) (s : State) : State :=
  let waiting (l : Nat) : List TxDesc := (s.limb l).queue.filter p
  let gone := s.txl.crossing.filter p ++ (upTo 8).flatMap waiting
  let heads := (gone.filter (fun d => decide (d.tag % 8 < 2))).map (fun d => d.tag / 8)
  let free (x : Nat × List VqFrame) : Nat × List VqFrame :=
    match x.2 with
    | f :: rest => if heads.contains x.1 then (x.1, { f with taken := false } :: rest) else x
    | [] => x
  let s := { s with txl := { s.txl with crossing := s.txl.crossing.filter (fun d => !p d) } }
  let s := if heads.isEmpty then s else
    let s := syncShapers s
    { s with traffic := { s.traffic with vqs := s.traffic.vqs.map free } }
  let s := if gone.any (fun d => decide (d.tag % 8 = 5 ∨ d.tag % 8 = 6)) then { s with grf := { s.grf with pollenTaken := false } } else s
  let s := each gone (fun d s => dropHold d.cell s) s
  each ((upTo 8).filter (fun l => !(waiting l).isEmpty)) (fun l s0 =>
    let s := each (waiting l) (fun d s => releaseCoex l d.launch s) s0
    prepareHead l (s.setLimb l { s.limb l with queue := (s.limb l).queue.filter (fun d => !p d) })) s

/-! Arrival of descriptors (R129, R132, R134). -/

/-- Limits of R141 on a frame's preamble and PSDU, its frequency and its drive (R120, R132). -/
def frameInRange (d : TxDesc) : Bool :=
  let n := d.psdu.length
  let pre := if d.format = 0 then decide (4 ≤ d.preamble ∧ d.preamble ≤ 1024) else if d.format = 1 then decide (4 ≤ d.preamble ∧ d.preamble ≤ 256)
    else decide (32 ≤ d.preamble ∧ d.preamble ≤ 1024)
  let len := if d.format = 0 then decide (n ≤ 2047) else if d.format = 1 then decide (n ≤ 127) else decide (5 ≤ n ∧ n ≤ 64)
  wordInRange (tiltedWord d) && decide (d.power ≤ 24) && pre && len && decide ((if d.crc16 then 3 else 5) ≤ n)

/-- The end of a frame's tail in ns, launched at an instant in 1/256 ns. -/
def tailOf (d : TxDesc) (launch : Nat) : Nat := launch / 256 + ceilDiv (ppduTime d * 1000) 3 + 2000

/-- The frame ahead of a launch in a limb's queue, or on air, with its launch (R132). -/
def frameAhead (s : State) (l launch : Nat) : Option (TxDesc × Nat) :=
  match ((s.limb l).queue.filter (fun d => decide (d.launch ≤ launch))).getLast? with
  | some d => some (d, d.launch)
  | none => (s.limb l).air.map (fun a => (a.desc, a.actual))

/-- Settling a frame's channel needs after the frame ahead of it, in ns (R123, R132): none where the limb stays READY on
its word. -/
def settleAfter (s : State) (l : Nat) (ahead d : TxDesc) : Nat :=
  if ahead.ret ≠ 1 ∧ !(decide (ahead.ret = 2) && decide (ahead.nextFw ≠ 0)) ∧ tiltedWord ahead = tiltedWord d then 0
  else if (servingEntry s l (chan100k d.chanFw)).isSome then 12000 else 180000

/-- Whether a frame's ramp would start before the limb is ready for it after the frame ahead (R132). -/
def overlaps (s : State) (l : Nat) (ahead : TxDesc × Nat) (d : TxDesc) : Bool :=
  decide (rampStart d < tailOf ahead.1 ahead.2 + settleAfter s l ahead.1 d)

/-- The status with which a limb turns a descriptor away on arrival, if it does (R132, R134, R142). -/
def arrivalStatus (s : State) (d : TxDesc) : Option Nat :=
  let l := d.limb
  if limbCode s l = 8 then some 7
  else if !s.on (F.TXL_CTL_power l) then some 11
  else if follows s l then some 8
  else if !frameInRange d then some 9
  else if rampStart d < s.now then some 2
  else
    match frameAhead s l d.launch with
    | some a => if overlaps s l a d then some 10 else none
    | none => none

/-- A refused frame's return state waits for its turn (R123, R132): a limb that is OFF, FENCED, waking or a follower has
none to take. -/
def owe (l : Nat) (d : TxDesc) (s : State) : State :=
  let st := limbCode s l
  if st = 0 ∨ st = 8 ∨ (s.limb l).waking ∨ follows s l ∨ !(decide (d.ret = 1) || (decide (d.ret = 2) && decide (d.nextFw ≠ 0))) then s
  else s.setLimb l { s.limb l with owed := (s.limb l).owed ++ [d] }

/-- A queue split behind a frame: the frames that overlap it, in order, and the rest (R132). -/
def overlapping (s : State) (l : Nat) (ahead : TxDesc × Nat) (q : List TxDesc) : List TxDesc × List TxDesc :=
  match q with
  | [] => ([], [])
  | e :: rest =>
    if overlaps s l ahead e then (e :: (overlapping s l ahead rest).1, (overlapping s l ahead rest).2) else ([], e :: rest)

/-- Judge the frames behind one against the end of its tail: those that overlap are not sent, and their return states wait
for their turn (R132). -/
def judgeBehind (l : Nat) (ahead : TxDesc × Nat) (before behind : List TxDesc) (s : State) : State :=
  let (out, kept) := overlapping s l ahead behind
  let s := s.setLimb l { s.limb l with queue := before ++ kept }
  each out (fun e s => owe l e (complete l e 10 0 0 0 s)) s

/-- Put a descriptor into a limb's queue in launch order (R132); those behind it that now overlap are not sent. -/
def enqueue (l : Nat) (d : TxDesc) (s : State) : State :=
  let q := (s.limb l).queue
  judgeBehind l (d, d.launch) (q.filter (fun e => decide (e.launch ≤ d.launch)) ++ [d]) (q.filter (fun e => decide (d.launch < e.launch))) s

/-- A descriptor reaches its limb (R128, R129, R132). -/
def execTxDescriptorArrival (limb : Nat) (s : State) : Host.Outcome State Fault Refusal :=
  run (fun s =>
    match s.txl.crossing.find? (fun d => decide (d.limb = limb)) with
    | none => s
    | some d0 =>
      let d := { d0 with arrival := limbCode s limb }
      let take (s : State) : State := { s with txl := { s.txl with crossing := s.txl.crossing.erase d0 } }
      let s1 := s.setIf (decide (6000 < d.tilt ∨ d.tilt < -6000)) F.TXL_STAT_tilt_clamp 1
      if 4 ≤ (s.limb limb).queue.length then s
      else
        match arrivalStatus s d with
        | some c => prepareHead limb (owe limb d (complete limb d c 0 0 0 (take s1)))
        | none => prepareHead limb (enqueue limb d (take s1))) s

/-! Synthesiser events (R122, R127, R129, R131). -/

/-- Whether three of the instants lie within 10 s. -/
def threeWithin (l : List Nat) (t : Nat) : Bool := decide (3 ≤ (l.filter (fun x => decide (t ≤ x + 10000000000))).length)

/-- A write to TXL_PA: PA_BIAS follows the code in use (R137). -/
def writeTxlPa (l : Nat) (v : Word) (s : State) : State :=
  let old := paBias s l
  let s := s.setReg (0x20100C + 0x100 * l) v
  if paBias s l = old then s else s.emit (.paBias l (paBias s l))

/-- A limb's queue completes PRUNED (R136, R142). -/
def pruneQueue (l : Nat) (s : State) : State :=
  let q := (s.limb l).queue
  each q (fun d s => complete l d 7 0 0 0 s) (s.setLimb l { s.limb l with queue := [] })

/-- A limb is pruned (R136, R142): of a gang's leader the queue waits for the next leader, and of its last member
every queue that waits completes. -/
def pruneLimb (l cause : Nat) (s : State) : State :=
  let g := gangOf s l
  let leads := g.any (fun g => decide (s.get (F.TXL_GANG_leader g) = l))
  let s := drivePa l false s
  let air := (s.limb l).air
  let s := showPending l (s.setLimb l { s.limb l with air := none, bg := none, owed := [] })
  let s := match air with
    | some a => complete l a.desc 7 a.members 0 (if a.launched then a.actual else 0) s
    | none => s
  let s := match g with
    | some g => s.set (F.TXL_GANG_members g) (clrBit (s.get (F.TXL_GANG_members g)) (l % 4))
    | none => s
  let left := match g with | some g => gangMembers s g | none => []
  let s := if leads && !left.isEmpty then { s with txl := { s.txl with takeover := s.txl.takeover ++ [l / 4] } }
    else pruneQueue l (s.setLimb l { s.limb l with waking := false })
  let s := match g with
    | some g =>
      if left.isEmpty then
        let s := pruneQueue (s.get (F.TXL_GANG_leader g)) { s with txl := { s.txl with takeover := s.txl.takeover.filter (fun x => x ≠ g) } }
        s.set (F.TXL_GANG_active g) 0
      else s
    | none => s
  recordPrune 3 l cause [] ((s.set (F.TXL_STATUS_state l) 8).set (F.TXL_STATUS_locked l) 0)

/-- The next member of a gang becomes leader (R136): it keeps the group's queue. -/
def execGangLeaderTakeover (group : Nat) (s : State) : Host.Outcome State Fault Refusal :=
  run (fun s =>
    if s.txl.takeover.contains group then
      let s := { s with txl := { s.txl with takeover := s.txl.takeover.filter (fun x => x ≠ group) } }
      match (gangMembers s group).head? with
      | some m =>
        let old := s.get (F.TXL_GANG_leader group)
        let q := (s.limb old).queue
        let cx := (s.limb old).cx
        let s := (s.setLimb old { s.limb old with queue := [], cx := [] }).set (F.TXL_STATUS_cx_req old) 0
        let s := (s.set (F.TXL_GANG_leader group) m).setLimb m { s.limb m with queue := q, cx := cx }
        let s := s.set (F.TXL_STATUS_cx_req m) (b2n (!cx.isEmpty))
        prepareHead m (setCode m 1 s)
      | none => s
    else s) s

/-- A limb has come from OFF to STANDBY (R122). -/
def execLimbStandbyReached (limb : Nat) (s : State) : Host.Outcome State Fault Refusal :=
  runIn (15 + limb / 4) (fun s =>
    if (s.limb limb).waking then prepareHead limb (s.setLimb limb { s.limb limb with waking := false }) else s) s

/-- The synthesiser locks (R121, R122, R127). -/
def execSynthLock (limb : Nat) (s : State) : Host.Outcome State Fault Refusal :=
  runIn (15 + limb / 4) (fun s =>
    if limbCode s limb = 2 ∧ !follows s limb then
      match (s.limb limb).bg with
      | some b =>
        let s := s.setLimb limb { s.limb limb with bg := none, chan := b.prevChan }
        let s := showPending limb (s.set (F.TXL_FREQ_fw limb) b.fw)
        if b.wasReady then prepareHead limb (setCode limb 2 s) else prepareHead limb (setCode limb 1 s)
      | none =>
        prepareHead limb (setCode limb 4 (s.set (F.TXL_STATUS_locked limb) 1))
    else s) s

/-- A full acquisition finds its settings (R122, R126): the entry is written. -/
def execCalibrationDone (limb capCode loopGain : Nat) (s : State) : Host.Outcome State Fault Refusal :=
  runIn (15 + limb / 4) (fun s =>
    if limbCode s limb = 3 ∧ !follows s limb then
      let x := s.limb limb
      setCode limb 2 (writeEntry limb (match x.bg with | some b => b.chan | none => x.chan) capCode loopGain s)
    else s) s

/-- An acquisition fails (R131): three on one limb within 10 s are a fault of the limb. -/
def execAcquisitionFail (limb : Nat) (s : State) : Host.Outcome State Fault Refusal :=
  runIn (15 + limb / 4) (fun s =>
    if (limbCode s limb = 2 ∨ limbCode s limb = 3) ∧ !follows s limb then
      let s := s.event F.TXL_STAT_cal_fail F.TXL_EVCNT_cal_fail_cnt
      let x := s.limb limb
      let s := s.setLimb limb { x with acqFails := x.acqFails ++ [s.now] }
      if threeWithin (s.limb limb).acqFails s.now then pruneLimb limb 6 s
      else
        let s := if x.bg.isSome then abandonBg limb s else setCode limb 1 s
        if (s.limb limb).offPending then prepareHead limb s else s
    else s) s

/-- A limb idles in READY for idle_us (R122). -/
def execLimbIdleTimeout (limb : Nat) (s : State) : Host.Outcome State Fault Refusal :=
  runIn (15 + limb / 4) (fun s =>
    if limbCode s limb = 4 ∧ !follows s limb ∧ (s.limb limb).queue.isEmpty ∧ s.get (F.TXL_CTL_idle_us limb) ≠ 0 then
      setCode limb 1 (unlock limb s)
    else s) s

/-- Channels a limb could recalibrate in the background (R127): those requested, and entries whose
temperature difference has reached margin_c. -/
def bgCandidates (s : State) (l : Nat) : List (Nat × Bool) :=
  let m := max 1 (s.get F.TXL_CAL_CFG_margin_c)
  (s.limb l).requests.map (fun c => (c, true))
    ++ ((calEntries s l).filter (fun (_, w) => decide (m ≤ entryDrift s l w))).map (fun (_, w) => (wordField w 16 15, false))

/-- A background calibration starts (R127). -/
def execBgCalStart (limb : Nat) (s : State) : Host.Outcome State Fault Refusal :=
  runIn (15 + limb / 4) (fun s =>
    let x := s.limb limb
    let st := limbCode s limb
    if s.on (F.TXL_CTL_bg_cal limb) ∧ (st = 1 ∨ st = 4) ∧ !follows s limb ∧ !x.waking ∧ x.queue.isEmpty ∧ x.air.isNone then
      match pick s (bgCandidates s limb) with
      | some (c, asked) =>
        let s := s.used.setLimb limb { x with
          bg := some ⟨c, decide (st = 4), s.get (F.TXL_FREQ_fw limb), x.chan, asked⟩
          requests := if asked then x.requests.erase c else x.requests }
        setCode limb 3 ((unlock limb s).set (F.TXL_FREQ_fw limb) (wordOf100k c))
      | none => s
    else s) s

/-- A limb's temperature sensor is read. -/
def execLimbTempRead (limb : Nat) (temp : Int) (s : State) : Host.Outcome State Fault Refusal :=
  runIn (15 + limb / 4) (fun s => if limb < 8 then s.set (F.TXL_STATUS_temp_c limb) (unsigned 8 temp) else s) s

/-! A frame on air (R130, R131, R137, R140, R148). -/

/-- Whether a limb stands READY on its head frame's word. -/
def readyFor (s : State) (l : Nat) (d : TxDesc) : Bool :=
  decide (limbCode s l = 4) && decide (s.get (F.TXL_FREQ_fw l) = tiltedWord d) && s.on (F.TXL_STATUS_locked l)

/-- The request step of the first queued frame that has not made it, in a set in use (R140). -/
def execCxRequest (limb : Nat) (s : State) : Host.Outcome State Fault Refusal :=
  run (fun s =>
    let x := s.limb limb
    match x.queue.find? (fun d => (coexSet s d).isSome && !x.cx.any (fun h => decide (h.launch = d.launch))) with
    | none => s
    | some d =>
      match coexSet s d with
      | none => s
      | some w =>
        let s := s.reach (d.launch / 256 - max 5 (s.get F.TXL_CX_CFG_lead_us) * 1000)
        setCoex limb w (x.cx ++ [⟨d.launch, w, d.cxPri⟩]) s) s

/-- The limb whose queue a limb radiates from: of a gang its leader (R134). -/
def leaderOf (s : State) (l : Nat) : Nat :=
  match gangOf s l with
  | some g => s.get (F.TXL_GANG_leader g)
  | none => l

/-- A limb's PA_EN rises its own en_lead ahead of the ramp of a frame it radiates, or at a later lock (R137). -/
def execPaEnRise (limb : Nat) (s : State) : Host.Outcome State Fault Refusal :=
  runIn (15 + limb / 4) (fun s =>
    let lead := leaderOf s limb
    match (s.limb lead).queue, (s.limb lead).air with
    | _, some a => if limbCode s lead = 5 ∧ limbCode s limb ≠ 8 ∧ a.members.testBit limb then drivePa limb true s else s
    | d :: _, none =>
      if readyFor s lead d && (radiating s d).contains limb then drivePa limb true (s.reach (rampStart d - paLead s limb)) else s
    | [], none => s) s

/-- Whether a limb's PA_EN stays high for the next frame it radiates (R137): its synthesiser stands READY on the frame's word,
and the gap from the tail to its ramp is shorter than en_lead + en_lag. -/
def paBridges (s : State) (l : Nat) : Bool :=
  let lead := leaderOf s l
  match (s.limb lead).queue, (s.limb lead).tailEnd with
  | d :: _, some t => readyFor s lead d && (radiating s d).contains l && decide (rampStart d < t + paLead s l + paLag s l)
  | _, _ => false

/-- A limb's PA_EN falls its own en_lag after a tail, or at an abort (R137). -/
def execPaEnFall (limb : Nat) (s : State) : Host.Outcome State Fault Refusal :=
  runIn (15 + limb / 4) (fun s =>
    let lead := leaderOf s limb
    let st := limbCode s lead
    let sent := (s.limb lead).air.any (fun a => decide (a.status = 0))
    if st = 5 ∨ st = 6 ∨ (st = 7 ∧ sent) ∨ paBridges s limb then s
    else
      drivePa limb false (match (s.limb lead).tailEnd with
        | some t => if (s.limb lead).air.isNone && s.on (F.TXL_STATUS_pa_en limb) then s.reach (t + paLag s limb) else s
        | none => s)) s

/-- Whether a frame's ramp is the next of all limbs (R153): the earlier ramp start first, ties in ascending limb number;
a ramp that lock has delayed starts now. -/
def rampTurn (s : State) (l : Nat) (d : TxDesc) : Bool :=
  (upTo 8).all (fun m =>
    match (s.limb m).queue with
    | e :: _ =>
      let t := max s.now (rampStart d)
      let u := max s.now (rampStart e)
      decide (m = l) || (s.limb m).air.isSome || !readyFor s m e || decide (t < u ∨ (t = u ∧ l < m))
    | [] => true)

/-- The DAC samples come every 1,041 2/3 units of 1/256 ns, at a phase the manual does not give: the sample nearest an
instant, and the first at or after one, lie at a place left open within half a period and within one (R10, R130, R132). -/
def nearestSample (s : State) (t : Nat) : Nat := t + s.open 16 % 1041 - 520
def nextSample (s : State) (t : Nat) : Nat := t + s.open 16 % 1042

/-- Ramp start of the head frame (R130, R132, R140, R148): the frame buffer, the grant and the gate are
checked; `held` says that the frame's octets are in the buffer, `granted` that CX_GNT samples high.  The frames behind are
judged again against the end of its actual tail (R132). -/
def execTxRampStart (limb : Nat) (held granted : Bool) (s : State) : Host.Outcome State Fault Refusal :=
  runIn (15 + limb / 4) (fun s =>
    match (s.limb limb).queue with
    | [] => s
    | d :: rest =>
      if (s.limb limb).air.isSome || !readyFor s limb d || !rampTurn s limb d then s
      else
        let s := s.reach (rampStart d)
        if lockDeadline s d < s.now then failHead limb 1 s
        else if !held then failHead limb 2 s
        else if (coexSet s d).isSome ∧ !granted then failHead limb 3 (each (radiating s d) (fun m s => drivePa m false s) s)
        else
          let (ok, s) := gateFrame d s
          if !ok then failHead limb 6 s
          else
            let actual := if s.now ≤ rampStart d then nearestSample s d.launch else nextSample s ((s.now + 4000) * 256)
            let s := s.used.setLimb limb { s.limb limb with
              queue := rest, air := some ⟨d, s.now, actual, maskOf (radiating s d), false, 0⟩ }
            setCode limb 5 (judgeBehind limb (d, actual) [] rest s)) s

/-- The lock deadline of the head frame passes without lock (R130). -/
def execLockDeadline (limb : Nat) (s : State) : Host.Outcome State Fault Refusal :=
  runIn (15 + limb / 4) (fun s =>
    match (s.limb limb).queue with
    | [] => s
    | d :: _ =>
      if (s.limb limb).air.isSome || readyFor s limb d then s
      else failHead limb 1 (s.reach (lockDeadline s d))) s

/-- The windows near a transmission (R69): within tx_excl MHz of their span. -/
def windowsNear (s : State) (fw : Nat) : List Nat :=
  let x := s.get F.CHZ_QMAP_CFG_tx_excl * 2000000
  (windowsOn s).filter (fun w =>
    let c := s.get (F.CHZ_WIN_CENTRE_centre_khz w) * 2000
    let h := s.get (F.CHZ_WIN_WIDTH_width_khz w) * 1000
    decide (3 * fw ≤ c + h + x) && decide (c ≤ 3 * fw + h + x))

/-- The launch instant (R10, R122, R138). -/
def execTxLaunch (limb : Nat) (s : State) : Host.Outcome State Fault Refusal :=
  runIn (15 + limb / 4) (fun s =>
    match (s.limb limb).air with
    | some a =>
      if limbCode s limb = 5 then
        let s := s.reach (a.actual / 256)
        let s := s.setLimb limb { s.limb limb with air := some { a with launched := true } }
        let s := { s with canopy := { s.canopy with spoiltWindows := s.canopy.spoiltWindows ++ windowsNear s (tiltedWord a.desc) } }
        let d := a.desc
        each (onesOf a.members 8) (fun m s => s.emit (.air m (memberDrive s d m) (scaledWeight s d m) (ppdu d))) (setCode limb 6 s)
      else s
    | none => s) s

/-- The last sample of a frame (R122). -/
def execTxFrameEnd (limb : Nat) (s : State) : Host.Outcome State Fault Refusal :=
  runIn (15 + limb / 4) (fun s =>
    match (s.limb limb).air with
    | some a =>
      if limbCode s limb = 6 then setCode limb 7 (s.reach (a.actual / 256 + ppduTime a.desc * 1000 / 3)) else s
    | none => s) s

/-- End a frame on air early: the driver mutes and the tail follows. -/
def abortFrame (l status : Nat) (s : State) : State :=
  match (s.limb l).air with
  | some a => setCode l 7 (s.setLimb l { s.limb l with air := some { a with status := status } })
  | none => s

/-- Lock is lost on air (R131). -/
def execTxLockLost (limb : Nat) (s : State) : Host.Outcome State Fault Refusal :=
  runIn (15 + limb / 4) (fun s =>
    if (limbCode s limb = 5 ∨ limbCode s limb = 6) ∧ !follows s limb then
      let s := abortFrame limb 5 (s.set (F.TXL_STATUS_locked limb) 0)
      let s := s.event F.TXL_STAT_lock_lost F.TXL_EVCNT_lock_lost_cnt
      let s := clearEntries limb (fun c => decide (c = (s.limb limb).chan)) s
      ringWrite s 0x12 3 limb (15 + limb / 4) 0 (leBytes 4 (s.get (F.TXL_FREQ_fw limb))) false
    else s) s

/-- A grant falls (R140): frames of the set on air end, or go on and are counted. -/
def execCxGntFall (set_ : Nat) (s : State) : Host.Outcome State Fault Refusal :=
  run (fun s =>
    let hit := (upTo 8).filter (fun l => (limbCode s l = 5 ∨ limbCode s l = 6) ∧
      (s.limb l).air.any (fun a => decide (coexSet s a.desc = some set_)))
    each hit (fun l s => if s.on F.TXL_CX_CFG_abort then abortFrame l 4 s else s.inc F.TXL_EVCNT_cx_cnt) s) s

/-- The tail ends (R123, R131): the frame completes and the limb takes its return state. -/
def execTxTailEnd (limb : Nat) (s : State) : Host.Outcome State Fault Refusal :=
  runIn (15 + limb / 4) (fun s =>
    match (s.limb limb).air with
    | some a =>
      if limbCode s limb = 7 then
        let s := if a.status = 0 then s.reach (a.actual / 256 + ppduTime a.desc * 1000 / 3 + 2000) else s
        let s := s.setLimb limb { s.limb limb with
          air := none, tailEnd := if a.status = 0 then some s.now else none }
        let s := complete limb a.desc a.status a.members (if a.status = 0 then (a.actual - a.desc.launch) / 256 else 0)
          (if a.launched then a.actual else 0) s
        let s := setCode limb (if s.on (F.TXL_STATUS_locked limb) then 4 else 1) s
        if a.status = 5 then
          let s := s.setLimb limb { s.limb limb with lockLost := (s.limb limb).lockLost ++ [s.now] }
          if threeWithin (s.limb limb).lockLost s.now then pruneLimb limb 6 s
          else if (s.limb limb).offPending then limbOff limb s
          else prepareHead limb (setCode limb 3 s)
        else if (s.limb limb).offPending then limbOff limb s
        else prepareHead limb (takeReturn limb a.desc s)
      else s
    | none => s) s

/-! Register writes (R122, R126, R127, R134, R139). -/

/-- A write to TXL_CTL: power, bg_cal, idle_us and cal_flush; a follower's power has its effect when its gang ends (R134). -/
def writeTxlCtl (l : Nat) (w : Word) (s : State) : State :=
  let s := ((s.set (F.TXL_CTL_idle_us l) (wordField w 16 16)).set (F.TXL_CTL_bg_cal l) (wordField w 2 1)).set (F.TXL_CTL_power l) (wordField w 0 1)
  let s := if w.toNat.testBit 3 then clearEntries l (fun _ => true) s else s
  let st := limbCode s l
  if follows s l then s
  else if w.toNat.testBit 0 then
    let s := s.setLimb l { s.limb l with offPending := false }
    if st = 0 then setCode l 1 (s.setLimb l { s.limb l with waking := true }) else s
  else if st = 1 ∨ st = 4 then limbOff l s
  else if st = 0 ∨ st = 8 then s
  else s.setLimb l { s.limb l with offPending := true }

/-- A write to TXL_CAL_REQ (R127). -/
def writeCalReq (l : Nat) (w : Word) (s : State) : State :=
  let c := wordField w 0 15
  let s := s.set (F.TXL_CAL_REQ_chan_100k l) c
  if w.toNat.testBit 31 ∧ 4100 ≤ c ∧ c ≤ 25000 then
    let x := s.limb l
    showPending l (s.setLimb l { x with requests := if x.requests.contains c then x.requests else x.requests ++ [c] })
  else s

/-- A write to TXL_GANG (R134): a change of en applies only while all four limbs are OFF or in STANDBY
with empty queues. -/
def writeGang (g : Nat) (w : Word) (s : State) : State :=
  let en := wordField w 0 1
  if en = s.get (F.TXL_GANG_en g) then s
  else
    let ls := (upTo 4).map (4 * g + ·)
    if ls.all (fun l => decide (limbCode s l ≤ 1) && (s.limb l).queue.isEmpty) then
      if en = 1 then
        let ms := (upTo 4).filter (fun k => !s.pruned 3 (4 * g + k))
        let s := (((s.set (F.TXL_GANG_en g) 1).set (F.TXL_GANG_members g) (maskOf ms)).set (F.TXL_GANG_leader g) (4 * g + ms.headD 0)).set
          (F.TXL_GANG_active g) (b2n (!ms.isEmpty))
        setCode (4 * g + ms.headD 0) (limbCode s (4 * g + ms.headD 0)) s
      else
        let s := each (ls.filter (follows s)) (fun l s => s.set (F.TXL_STATUS_state l) (s.get (F.TXL_CTL_power l))) s
        s.setReg (0x200040 + 4 * g) 0#32
    else s.set F.TXL_STAT_gang_refused 1

/-- The first of a list of resources of a class that an owner does not own. -/
def contested (s : State) (cls owner : Nat) (l : List Nat) : Option Nat := l.find? (fun i => decide (s.owner cls i ≠ owner))

/-- A write to TXL_CX_CTL (R139): the set is active only where it owns its three pins. -/
def writeCxCtl (w : Nat) (v : Word) (s : State) : State :=
  let s := s.set (F.TXL_CX_CTL_en w) (wordField v 0 1)
  if wordField v 0 1 = 0 then s.set (F.TXL_CX_CTL_active w) 0
  else
    match contested s 3 (0x0400 + w) [3 * w, 3 * w + 1, 3 * w + 2] with
    | none => s.set (F.TXL_CX_CTL_active w) 1
    | some i =>
      (s.set (F.TXL_CX_CTL_active w) 0).conflict ⟨0x200030, 0, 32⟩ F.TXL_STAT_conflict (s.owner 3 i) 3 i

end Sys2Proof.Machine
end

