-- ==== Sys2Proof/Machine/Slots.lean ====
section
/-!
DEFINITION. Timeslots and the ASN (R158).
-/

namespace Sys2Proof.Machine

/-- The timeslot length in ns (R158): below 2,000 µs acts as 2,000, above 50,000 as 50,000. -/
def tsNs (s : State) : Nat := clamp 2000 50000 (s.get F.SSE_TS_CFG_ts_us) * 1000

/-- The instant SSE_T0. -/
def slotT0 (s : State) : Nat := s.pair F.SSE_T0_LO_value F.SSE_T0_HI_value

/-- SSE_ASN0. -/
def slotAsn0 (s : State) : Nat := s.pair F.SSE_ASN0_LO_value F.SSE_ASN0_HI_value

/-- The start of timeslot `n` (R158). -/
def slotStart (s : State) (n : Nat) : Nat := slotT0 s + n * tsNs s - slotAsn0 s * tsNs s

/-- The timeslot that contains an instant (R158), 0 before the first. -/
def asnOf (s : State) (t : Nat) : Nat := (t + slotAsn0 s * tsNs s - slotT0 s) / tsNs s % 2 ^ 40

/-- The current ASN (SSE_ASN). -/
def State.asn (s : State) : Nat := s.pair F.SSE_ASN_LO_asn F.SSE_ASN_HI_asn

/-- Set the current ASN. -/
def State.setAsn (s : State) (n : Nat) : State := s.setPair F.SSE_ASN_LO_asn F.SSE_ASN_HI_asn (n % 2 ^ 40)

/-- A write to SSE_TS_CFG, SSE_T0 or SSE_ASN0 (R158): ignored while run is 1; the ASN then follows the
new definition. -/
def writeSlotTiming (off : Nat) (w : Word) (s : State) : State :=
  if s.on F.SSE_CTL_run then s
  else
    let s := s.setReg off (if off = 0x280004 then w &&& 0xFFFF#32 else if off = 0x28002C then w &&& 0xFF#32 else w)
    s.setAsn (asnOf s s.now)

end Sys2Proof.Machine
end

