-- ==== Sys2Proof/Machine/LeafTable.lean ====
section
/-!
DEFINITION. The Leaf Table and the leaf event ring (R186, R187, R195 to R197), the Learning Table
(R198 to R208), the schedule store (R163), and the poisoned words of their memories (R390).
-/

namespace Sys2Proof.Machine

/-! Leaf Table. -/

/-- Word `w` of the entry of a LID (R196). -/
def leafWord (s : State) (lid w : Nat) : Nat := (tabGet s.tables.leaf (lid * 48 + w) 0#32).toNat

/-- Words of a table whose unlisted words are 0. -/
def putWord (t : Tab Word) (k : Nat) (v : Nat) : Tab Word :=
  if v % 2 ^ 32 = 0 then tabErase t k else tabPut t k (BitVec.ofNat 32 v)

/-- The 64-bit words of which both halves are among the written words. -/
def wholeWords (ws : List Nat) : List Nat := (ws.filter (fun w => w % 2 = 0 && ws.contains (w + 1))).map (· / 2)

/-- Whether a leaf's state receives scheduled downlink (R175): JOINING, ACTIVE or SILENT. -/
def schedulable (s : State) (lid : Nat) : Bool :=
  let st := bits (leafWord s lid 0) 0 3
  decide (1 ≤ st ∧ st ≤ 3)

/-- The wait of a virtual queue's head stops and goes on with its neighbour's state (R240). -/
def pauseWait (lid : Nat) (was : Bool) (s : State) : State :=
  let t := s.traffic
  match tabFind t.vqSince lid with
  | none => s
  | some a =>
    if was && !schedulable s lid then { s with traffic := { t with vqPause := tabPut t.vqPause lid s.now } }
    else if !was && schedulable s lid then
      let since := a + (s.now - tabGet t.vqPause lid s.now)
      { s with traffic := { t with vqSince := tabPut t.vqSince lid since, vqPause := tabErase t.vqPause lid } }
    else s

/-- Write words of one row of the Leaf Table, as one atomic update (R197). -/
def writeLeaf (lid : Nat) (ws : List (Nat × Nat)) (s : State) : State :=
  let was := schedulable s lid
  let s := pauseWait lid was { s with tables := { s.tables with
    leaf := ws.foldl (fun t (w, v) => putWord t (lid * 48 + w) v) s.tables.leaf } }
  (wholeWords (ws.map Prod.fst)).foldl (fun s u => s.heal 0 (lid * 24 + u)) s

/-- The 64-bit words of a row that hold word 0 or a word firmware writes (R196). -/
def firmwareUnits : List Nat := [0, 1, 2, 8, 9, 14, 15, 16, 17, 18, 19, 20, 21, 22]

/-- Whether word 0 or a firmware word of a row is poisoned (R390). -/
def leafLost (s : State) (lid : Nat) : Bool := firmwareUnits.any (fun u => s.poison 0 (lid * 24 + u) 1)

/-- Whether a word of a row that the engine alone writes is poisoned (R390). -/
def leafBlurred (s : State) (lid : Nat) : Bool :=
  [3, 4, 5, 6, 7, 10, 11, 12, 13].any (fun u => s.poison 0 (lid * 24 + u) 1)

/-- The state of a leaf as the engine and Bough take it (R187, R390): 0 EMPTY, 1 JOINING, 2 ACTIVE,
3 SILENT, 4 DRIFTED, 5 LOST, 6 ADOPTED_OUT. -/
def leafState (s : State) (lid : Nat) : Nat := if leafLost s lid then 0 else bits (leafWord s lid 0) 0 3

/-- The entries in a state, LID 0 included (LFT_STATE_CNT): a row that is not listed is EMPTY. -/
def stateCount (s : State) (st : Nat) : Nat :=
  let n := (s.tables.leaf.filter (fun (k, w) => k % 48 = 0 && decide (bits w.toNat 0 3 = st))).length
  if st = 0 then
    131072 - (s.tables.leaf.filter (fun (k, w) => k % 48 = 0 && decide (bits w.toNat 0 3 ≠ 0))).length
  else n

/-- Set of a leaf. -/
def leafSet (s : State) (lid : Nat) : Nat := bits (leafWord s lid 1) 0 12

/-- Consecutive-miss count of a leaf (R185). -/
def leafMisses (s : State) (lid : Nat) : Nat := bits (leafWord s lid 29) 0 8

/-- Set a leaf's consecutive-miss count. -/
def setMisses (lid n : Nat) (s : State) : State :=
  writeLeaf lid [(29, leafWord s lid 29 - leafMisses s lid + min n 255)] s

/-- Show whether the leaf event ring holds unread records (SSE_STAT.leaf_event). -/
def showLeafEvents (s : State) : State :=
  s.set F.SSE_STAT_leaf_event (b2n (s.get F.SSE_LEV_HEAD_index ≠ s.get F.SSE_LEV_TAIL_index))

/-- Write a record to the leaf event ring; a full ring discards it (R187). -/
def leafEvent (lid old new cause : Nat) (s : State) : State :=
  let h := s.get F.SSE_LEV_HEAD_index
  if (h + 1) % 1024 = s.get F.SSE_LEV_TAIL_index then s.event F.SSE_STAT_lev_ovf F.SSE_EVCNT1_lev_ovf_cnt
  else
    let r := s.asn % 2 ^ 32 * 2 ^ 32 + cause * 2 ^ 23 + new * 2 ^ 20 + old * 2 ^ 17 + lid
    let s := { s with tables := { s.tables with events := tabPut s.tables.events h r } }
    showLeafEvents (s.set F.SSE_LEV_HEAD_index ((h + 1) % 1024))

/-- Bursts to a leaf that is no longer DRIFTED stop: it waits for none, and frames of one that are not on air are taken back
(R189). -/
def stopBursts (lid : Nat) (s : State) : State :=
  if leafState s lid = 4 then s
  else
    withdraw (fun d => decide (d.tag = 4 + 8 * lid))
      { s with sse := { s.sse with resync := s.sse.resync.filter (fun r => decide (r.lid ≠ lid)) } }

/-- The engine moves a leaf to another state (R186, R187, R196): drift_since is the second of entry to
DRIFTED and 0 in other states; a return to ACTIVE sets the miss count to 0, and the end of DRIFTED ends its bursts (R189). -/
def moveLeaf (lid new cause : Nat) (s : State) : State :=
  let w := leafWord s lid 0
  let old := bits w 0 3
  if old = new then s
  else
    let s := writeLeaf lid [(0, w - old + new), (19, if new = 4 then s.now / 1000000000 else 0)] s
    let s := s.when (decide (new = 2)) (setMisses lid 0)
    let s := s.when (decide (old = 4)) (stopBursts lid)
    leafEvent lid old new cause s

/-- The leaves of a set that have an entry. -/
def leavesOfSet (s : State) (set : Nat) : List Nat :=
  (s.tables.leaf.filterMap (fun (k, w) =>
    if k % 48 = 0 ∧ bits w.toNat 0 3 ≠ 0 ∧ k / 48 ≠ 0 ∧ leafState s (k / 48) ≠ 0 ∧ leafSet s (k / 48) = set
    then some (k / 48) else none))

/-- Whether a set is served here (R213): valid, owned by this router, not on standby. -/
def setServed (s : State) (set : Nat) : Bool :=
  s.on (F.BGH_SET1_valid set) && !s.on (F.BGH_SET1_standby set)
    && decide (s.get (F.BGH_SET1_owner set) = s.get F.GRV_CFG_router_id)

/-- The engine brings the leaves of a set in line with its entry (R186, R213): those of a set that is
no longer served go to ADOPTED_OUT, and what is posted to them and not on air is taken back; those of one served again return to ACTIVE. -/
def followSet (wasServed : Bool) (set : Nat) (s : State) : State :=
  let served := setServed s set
  if wasServed = served then s
  else if served then
    (leavesOfSet s set).foldl (fun s l => if leafState s l = 6 then moveLeaf l 2 4 s else s) s
  else
    let ls := leavesOfSet s set
    withdraw (fun d => decide (d.lid ≠ 0) && ls.contains d.lid) (ls.foldl (fun s l => moveLeaf l 6 4 s) s)

/-- Word `h` (0 low, 1 high) of a cell. -/
def cellWord (s : State) (c h : Nat) : Nat := (tabGet s.tables.cells (2 * c + h) 0#32).toNat

/-- Write words of a cell. -/
def writeCell (c : Nat) (ws : List (Nat × Nat)) (s : State) : State :=
  let s := { s with tables := { s.tables with
    cells := ws.foldl (fun t (w, v) => putWord t (2 * c + w) v) s.tables.cells } }
  if ws.length = 2 then s.heal 2 c else s

/-! Learning Table. -/

/-- Entry `n`. -/
def learnEntry (s : State) (n : Nat) : LearnEntry := tabGet s.tables.learn n {}

/-- Valid bit, type, class, hit, age, static, target kind and target of an entry (R199). -/
def LearnEntry.valid (e : LearnEntry) : Bool := bit e.ctl 31
def LearnEntry.type (e : LearnEntry) : Nat := bits e.ctl 29 2
def LearnEntry.leafClass (e : LearnEntry) : Bool := bit e.ctl 28
def LearnEntry.hit (e : LearnEntry) : Bool := bit e.ctl 27
def LearnEntry.age (e : LearnEntry) : Nat := bits e.ctl 25 2
def LearnEntry.static (e : LearnEntry) : Bool := bit e.ctl 24
def LearnEntry.toPort (e : LearnEntry) : Bool := bit e.ctl 23
def LearnEntry.target (e : LearnEntry) : Nat := bits e.ctl 0 23

/-- The 32 bytes of an entry. -/
def learnBytes (e : LearnEntry) : List Byte :=
  leBytes 4 e.ctl ++ leBytes 8 e.key ++ leBytes 2 e.setId ++ leBytes 2 e.home ++ leBytes 4 e.hits ++
  leBytes 4 e.fwTag ++ leBytes 8 0

/-- An entry image. -/
def learnImage (l : List Byte) : LearnEntry :=
  ⟨leAt l 0 4, leAt l 4 8, leAt l 12 2, leAt l 14 2, leAt l 16 4, leAt l 20 4⟩

/-- The valid entry at an index, as readers see it: a poisoned entry is invalid (R390). -/
def liveEntry (s : State) (n : Nat) : Option LearnEntry :=
  let e := learnEntry s n
  if e.valid && !s.poison 1 (4 * n) 4 then some e else none

/-- The valid entries, and those of the stash (LRN_FILL): a poisoned one is invalid (R199, R390). -/
def learnUsed (s : State) : Nat := (s.tables.learn.filter (fun (n, _) => (liveEntry s n).isSome)).length
def stashUsed (s : State) : Nat := (s.tables.learn.filter (fun (n, _) => decide (261120 ≤ n) && (liveEntry s n).isSome)).length

/-- Write an entry (R199). -/
def putLearn (n : Nat) (e : LearnEntry) (s : State) : State :=
  let none : LearnEntry := {}
  let s := { s with tables := { s.tables with
    learn := if e = none then tabErase s.tables.learn n else tabPut s.tables.learn n e } }
  [0, 1, 2, 3].foldl (fun s k => s.heal 1 (4 * n + k)) s

/-- The home bucket of a key under a seed (R200). -/
def homeBucket (key seed : Nat) : Nat :=
  let x := key ^^^ seed
  let x := x ^^^ (x >>> 31)
  let x := x * 0xBF58476D1CE4E5B9 % 2 ^ 64
  let x := x ^^^ (x >>> 27)
  ((x >>> 32) * 65280) >>> 32

/-- The home bucket of a key under LRN_SEED. -/
def bucketOf (s : State) (key : Nat) : Nat := homeBucket key (s.pair F.LRN_SEED_LO_seed F.LRN_SEED_HI_seed)

/-- The indices where a key may stand, in search order: the ways of its bucket, then the stash entries
in use (R202). -/
def searchOrder (s : State) (key : Nat) : List Nat :=
  (upTo 4).map (4 * bucketOf s key + ·) ++ (s.tables.learn.map Prod.fst).filter (fun n => decide (261120 ≤ n))

/-- The entry that matches a type and a key (R202). -/
def findEntry (s : State) (type key : Nat) : Option (Nat × LearnEntry) :=
  (searchOrder s key).findSome? (fun n =>
    match liveEntry s n with
    | some e => if e.type = type ∧ e.key = key then some (n, e) else none
    | none => none)

/-- The control word with hit and age given. -/
def withHitAge (ctl : Nat) (hit : Bool) (age : Nat) : Nat :=
  putBit ctl 27 hit - bits ctl 25 2 * 2 ^ 25 + age * 2 ^ 25

/-- A lookup (R202): on a match hit is set, age cleared and hits incremented.  A lookup that the fence
of PD_MEM1 turns away misses (R373). -/
def lookup (type key : Nat) (s : State) : Option LearnEntry × State :=
  let (ok, s) := hwAccess 8 6 (0x2800000 + 128 * bucketOf s key) false s
  match if ok then findEntry s type key else none with
  | some (n, e) =>
    let e := { e with ctl := withHitAge e.ctl true 0, hits := min (e.hits + 1) 0xFFFFFFFF }
    (some e, putLearn n e s)
  | none => (none, s)

/-- One visit of the ager (R203): a poisoned entry is cleared (R390). -/
def ageEntry (n : Nat) (s : State) : State :=
  let e := learnEntry s n
  if s.poison 1 (4 * n) 4 then putLearn n {} s
  else if !e.valid || e.static then s
  else if e.hit then putLearn n { e with ctl := withHitAge e.ctl false e.age } s
  else if e.age < 3 then putLearn n { e with ctl := withHitAge e.ctl false (e.age + 1) } s
  else if s.on (F.LRN_CLASS_CFG_age_remove (b2n e.leafClass)) then
    (putLearn n { e with ctl := clrBit e.ctl 31 } s).inc F.LRN_AGED_CNT_count
  else s

/-- The result of an insertion (R205, R207): the entry's index, and what happened. -/
inductive Insertion where
  | placed (n : Nat)
  | replaced (n : Nat)
  | evicted (n : Nat) (victim : LearnEntry)
  | noRoom
  deriving DecidableEq, Repr

/-- The router's own extended address, which entry 0 holds (R195, R196). -/
def routerEui (s : State) : Nat := leafWord s 0 2 + leafWord s 0 3 * 2 ^ 32

/-- The address the router sends under: its short one where entry 0 has one. -/
def routerShort (s : State) : Option Nat := if bit (leafWord s 0 0) 4 then some (bits (leafWord s 0 1) 16 16) else none

/-- One step of the generator x^16 + x^14 + x^13 + x^11 + 1 (R207). -/
def lfsrStep (r : Nat) : Nat :=
  (r * 2 + ((r >>> 15) ^^^ (r >>> 13) ^^^ (r >>> 12) ^^^ (r >>> 10)) % 2) % 2 ^ 16

/-- A random choice among candidates (R207). -/
def choose (xs : List Nat) (s : State) : Option Nat × State :=
  match xs with
  | [] => (none, s)
  | [x] => (some x, s)
  | xs =>
    let (seed, s) : Nat × State := match s.tables.lfsr with | some r => (r, s) | none => (s.open 16, s.used)
    let r := lfsrStep seed
    (xs[(Config.lfsrChoice r xs.length) % xs.length]?, { s with tables := { s.tables with lfsr := some r } })

/-- How old a candidate is (R207): the highest age first, then hit 0 before hit 1. -/
def oldness (e : LearnEntry) : Nat := 2 * e.age + b2n (!e.hit)

/-- The victim of an eviction (R207): among the home bucket's valid entries that are not static, else
among the stash's. -/
def victim (key : Nat) (s : State) : Option Nat × State :=
  let ok (n : Nat) : Bool := match liveEntry s n with | some e => !e.static | none => false
  let home := ((upTo 4).map (4 * bucketOf s key + ·)).filter ok
  let cands := if home.isEmpty then ((s.tables.learn.map Prod.fst).filter (fun n => decide (261120 ≤ n))).filter ok else home
  if s.on (F.LRN_CLASS_CFG_evict_random 1) then choose cands s
  else
    let best := cands.foldl (fun m n => max m (oldness (learnEntry s n))) 0
    choose (cands.filter (fun n => decide (oldness (learnEntry s n) = best))) s

/-- The lowest free place for a new entry (R205). -/
def freePlace (s : State) (key : Nat) : Option Nat :=
  let free (n : Nat) : Bool := (liveEntry s n).isNone
  match ((upTo 4).map (4 * bucketOf s key + ·)).find? free with
  | some n => some n
  | none => if stashUsed s < 1024 then (firstBelow 1024 (fun i => free (261120 + i))).map (261120 + ·) else none

/-- Insert an entry (R205, R207): in place where the key is known, with hits, hit and age kept; else in a
free place; else, for a LEAF entry, in a victim's. -/
def insert (e : LearnEntry) (s : State) : Insertion × State :=
  let fresh := { e with ctl := withHitAge (setBit e.ctl 31) false 0, home := bucketOf s e.key, hits := 0 }
  match findEntry s e.type e.key with
  | some (n, old) =>
    (.replaced n, putLearn n { old with ctl := withHitAge (setBit e.ctl 31) old.hit old.age, setId := e.setId, fwTag := e.fwTag } s)
  | none =>
    match freePlace s e.key with
    | some n => (.placed n, putLearn n fresh s)
    | none =>
      if !e.leafClass then (.noRoom, s)
      else
        let (v, s) := victim e.key s
        match v with
        | none => (.noRoom, s)
        | some n =>
          let old := learnEntry s n
          let s := putLearn n fresh s
          let s := (s.inc F.LRN_EVICT_CNT_count).set F.LRN_STAT_evict 1
          let s := (s.set (F.LRN_EVICT_LAST_value 0) old.ctl).set (F.LRN_EVICT_LAST_value 1) (old.key % 2 ^ 32)
          let s := (s.set (F.LRN_EVICT_LAST_value 2) (old.key / 2 ^ 32)).set (F.LRN_EVICT_LAST_value 3) n
          (.evicted n old, s)

/-- Note the timeslot in which a set's epoch changes (R180). -/
def noteEpoch (set epoch : Nat) (s : State) : State :=
  if s.get (F.BGH_SET0_epoch set) = epoch then s
  else { s with grove := { s.grove with epochAt := tabPut s.grove.epochAt set s.asn } }

/-- A write to a word of LRN_SEED (R208): applied only while the table is empty. -/
def writeSeed (off : Nat) (v : Word) (s : State) : State :=
  if learnUsed s = 0 then s.setReg off v else s.set F.LRN_STAT_seed_refused 1

/-- A write to word +4 or word +0 of a grove set entry (R213): word +4 is held pending, and the write
of word +0 commits both. -/
def writeSet (off : Nat) (v : Word) (s : State) : State :=
  let set := (off - 0x368000) / 8
  if off % 8 = 4 then { s with grove := { s.grove with staged := tabPut s.grove.staged set v } }
  else
    let was := setServed s set
    let s := (noteEpoch set v.toNat s).setReg off v
    let s := match tabFind s.grove.staged set with
      | some w => s.setReg (off + 4) (w &&& 0xC000003F#32)
      | none => s
    followSet was set { s with grove := { s.grove with staged := tabErase s.grove.staged set } }

end Sys2Proof.Machine
end

