-- ==== Sys2Proof/Machine/Heartwood.lean ====
section
/-!
DEFINITION. Heartwood: key slots, measurement digests, leaf-key blobs, the key cache, generations and the
command channels' shared steps (R278 to R303).
-/

namespace Sys2Proof.Machine

/-! Keys as shares (R288). -/

/-- Two byte strings combined by XOR. -/
def xorBytes (a b : List Byte) : List Byte := List.zipWith (· ^^^ ·) a b

/-- The key two shares make. -/
def Shares.key (x : Shares) : List Byte := xorBytes x.a x.b

/-- A key as shares under a mask. -/
def share (mask key : List Byte) : Shares := ⟨mask, xorBytes mask key⟩

/-- `n` bytes of the DRBG. -/
def State.random (s : State) (n : Nat) : List Byte := leBytes n (Config.freeValue s.free (8 * n)).toNat

/-- The mask of a new pair of shares (R288): a fresh one, or the last one drawn while the DRBG gives no output (R302,
DESIGN CHOICE, notes/assumptions/168). -/
def State.newMask (s : State) (n : Nat) : List Byte := if s.on F.HWD_DRBG_healthy then s.random n else fit n s.hwd.mask

/-- A new mask has been taken. -/
def maskTaken (s : State) : State :=
  if s.on F.HWD_DRBG_healthy then { s.used with hwd := { s.hwd with mask := s.random 32 } } else s

/-- A fresh mask in both shares leaves the key (R288). -/
def Shares.remask (x : Shares) (mask : List Byte) : Shares := ⟨xorBytes x.a mask, xorBytes x.b mask⟩

/-- The key of a slot, none where it holds none. -/
def slotKey (s : State) (i : Nat) : Option (List Byte) := (tabFind s.hwd.keys i).map Shares.key

/-- Hold a key in a slot with its attributes (R285). -/
def fillSlot (i : Nat) (key : List Byte) (usage requester lifetime source expiry : Nat) (s : State) : State :=
  let s := maskTaken { s with hwd := { s.hwd with
    keys := tabPut s.hwd.keys i (share (s.newMask key.length) key), lost := s.hwd.lost.filter (fun k => decide (k ≠ i)) } }
  let s := ((s.set (F.HWD_SLOT_ATTR_valid i) 1).set (F.HWD_SLOT_ATTR_usage i) usage).set (F.HWD_SLOT_ATTR_requester i) requester
  ((s.set (F.HWD_SLOT_ATTR_lifetime i) lifetime).set (F.HWD_SLOT_ATTR_source i) source).set (F.HWD_SLOT_EXP_expiry i) expiry

/-- Clear a slot. -/
def clearSlot (i : Nat) (s : State) : State :=
  let s : State := { s with hwd := { s.hwd with keys := tabErase s.hwd.keys i, lost := s.hwd.lost.filter (fun k => decide (k ≠ i)) } }
  (s.setReg (0x401000 + 8 * i) 0#32).setReg (0x401004 + 8 * i) 0#32

/-- Every slot is zeroised (R303, R325, R327): BOOT slots are derived and PERSISTENT ones restored at their next use. -/
def zeroiseSlots (s : State) : State :=
  let held := s.hwd.keys.map Prod.fst
  let s := each held clearSlot s
  { s with hwd := { s.hwd with lost := s.hwd.lost ++ held } }

/-- Time-base seconds. -/
def State.seconds (s : State) : Nat := s.now / 1000000000

/-! Command statuses (R300, R310). -/

def stOk : Nat := 0x00
def stBadArg : Nat := 0x01
def stNoSlot : Nat := 0x02
def stUsage : Nat := 0x03
def stRequester : Nat := 0x04
def stExpired : Nat := 0x05
def stLocked : Nat := 0x06
def stNoBlobArea : Nat := 0x07
def stBlobBad : Nat := 0x08
def stBufErr : Nat := 0x09
def stEntropy : Nat := 0x0A
def stBusy : Nat := 0x0B
def stAborted : Nat := 0x0C
def stNoRoot : Nat := 0x0D
def stNotMeasured : Nat := 0x0E
def stPartial : Nat := 0x0F

/-- The check of a slot before a use (R286): usage bit, and the command channel, none for the part's own
use. -/
def slotCheck (s : State) (i usage : Nat) (chan : Option Nat) : Option Nat :=
  let req := s.get (F.HWD_SLOT_ATTR_requester i)
  let exp := s.get (F.HWD_SLOT_EXP_expiry i)
  if !s.on (F.HWD_SLOT_ATTR_valid i) || (slotKey s i).isNone then some stNoSlot
  else if !bit (s.get (F.HWD_SLOT_ATTR_usage i)) usage then some stUsage
  else if (match chan with | some c => !bit req c | none => false) then some stRequester
  else if exp ≠ 0 ∧ exp < s.seconds then some stExpired
  else none

/-! Measurements (R281 to R283). -/

/-- Measurement register `i`. -/
def measurement (s : State) (i : Nat) : List Byte := bytesOfWords ((upTo 8).map (fun j => s.get (F.HWD_MEAS_bytes i j)))

/-- Eight registers from 32 bytes. -/
def setWords (fld : Nat → Fld) (l : List Byte) (s : State) : State :=
  each (upTo 8) (fun j s => s.set (fld j) (leAt l (4 * j) 4)) s

/-- Whether all five measurement registers are final. -/
def measured (s : State) : Bool := decide (s.get F.HWD_STATUS_meas_final = 31)

/-- The digest chain over five measurements (R282). -/
def chainDigest (h : List Byte) (i : Nat) (ms : List (List Byte)) : List Byte :=
  match ms with
  | [] => h
  | m :: rest => chainDigest (Config.shake256 (h ++ [BitVec.ofNat 8 i] ++ m) 32) (i + 1) rest

/-- The measurement digest (R282). -/
def digestOf (ms : List (List Byte)) : List Byte := chainDigest (List.replicate 32 0#8) 0 ms

/-- D of the measurement registers, and D′ with one of them replaced (R283). -/
def digestNow (s : State) : List Byte := digestOf ((upTo 5).map (measurement s))
def digestWith (s : State) (i : Nat) (m : List Byte) : List Byte :=
  digestOf ((upTo 5).map (fun k => if k = i then m else measurement s k))

/-- HWD_DIGEST in bytes. -/
def digestReg (s : State) : List Byte := bytesOfWords ((upTo 8).map (fun j => s.get (F.HWD_DIGEST_bytes j)))

/-- Write a measurement register, which then is final, and the digest that follows (R281, R282). -/
def setMeasurement (i : Nat) (m : List Byte) (s : State) : State :=
  let s := setWords (F.HWD_MEAS_bytes i) m s
  let s := s.set F.HWD_STATUS_meas_final (setBit (s.get F.HWD_STATUS_meas_final) i)
  if measured s then setWords F.HWD_DIGEST_bytes (digestNow s) s else s

/-- A key derived under a label (R280). -/
def derive256 (key input : List Byte) (label : String) : List Byte := Config.kmac256 key input (ascii label) 32

/-- Bytes of OTP; an unprogrammed byte reads 0. -/
def otpRead (s : State) (a n : Nat) : List Byte := (upTo n).map (fun i => tabGet s.nv.otp (a + i) 0#8)

/-- Where the record of a root lies, by HWD_STATUS.root (R279). -/
def rootAddr (r : Nat) : Nat := 0x0C40 + 0x40 * (r - 1)

/-- The root its record opens to (R279): none where it is unprogrammed or its KWP check fails. -/
def openRoot (s : State) (r : Nat) : Option (List Byte) :=
  if allZero (otpRead s (rootAddr r) 64) then none
  else Config.kwpUnwrap (derive256 s.nv.dus [] "BX7160 ROOTWRAP") (otpRead s (rootAddr r) 40)

/-- The selected root's index, and its key. -/
def rootIndex (s : State) : Nat := s.get F.HWD_STATUS_root
def rootKey (s : State) : List Byte := (slotKey s 1).getD ((openRoot s (rootIndex s)).getD [])

/-- The storage KEK for a digest (R280). -/
def storageKek (s : State) (d : List Byte) : List Byte :=
  derive256 (rootKey s) (d ++ leBytes 1 (rootIndex s)) "BX7160 LEAFKEK"

/-! The key-update journal (R317). -/

/-- A check sum that does not stand: of what a write that was cut left. -/
def tornCrc (s : State) (c : Nat) : Nat := (c + 1 + s.open 32 % (2 ^ 32 - 1)) % 2 ^ 32

/-- Bytes 0x00 to 0x3B of a commit record, and whether its CRC stands. -/
def KuRecord.bytes (r : KuRecord) : List Byte :=
  leBytes 4 r.seq ++ leBytes 1 r.kind ++ leBytes 1 r.target ++ leBytes 1 r.position ++ leBytes 1 0 ++ leBytes 8 r.counter
  ++ fit 16 r.attributes ++ fit 16 r.material ++ leBytes 12 0
def KuRecord.valid (r : KuRecord) : Bool := decide (r.crc = crc32 r.bytes)

/-- The valid records of the journal. -/
def validRecords (s : State) : List KuRecord := (s.nv.journal.map Prod.snd).filter KuRecord.valid

/-- The first 16 bytes of the digest of material. -/
def materialDigest (l : List Byte) : List Byte := (Config.shake256 l 32).take 16

/-- What a record's latest commit is looked up by: SLOT_SET and SLOT_CLEAR share a slot's target. -/
def KuRecord.sameTarget (r q : KuRecord) : Bool :=
  decide (r.target = q.target) && (decide (r.kind = q.kind) || decide (r.kind ≤ 2 ∧ q.kind ≤ 2))

/-- The highest valid sequence in the journal plus 1, and whether a record is the latest for its target. -/
def journalSeq (s : State) : Nat := ((validRecords s).map (fun x => x.seq + 1)).foldl max 0
def isLatest (s : State) (r : KuRecord) : Bool := (validRecords s).all (fun x => !x.sameTarget r || decide (x.seq ≤ r.seq))

/-- Put a record at a place of the ring under a sequence: its CRC, or what a cut write leaves of it. -/
def putRecord (q : Nat) (whole : Bool) (r : KuRecord) (s : State) : State :=
  let x : KuRecord := { r with seq := q }
  let c := crc32 x.bytes
  { s with nv := { s.nv with journal := tabPut s.nv.journal (q % 256) { x with crc := if whole then c else tornCrc s c } } }

/-- Write a record at the head of the journal ring; a valid record there that is still the latest for its target
takes the head first, with a new sequence (R317). -/
def commit (whole : Bool) (r : KuRecord) (fuel : Nat) (s : State) : State :=
  let q := journalSeq s
  match fuel with
  | 0 => putRecord q whole r s
  | fuel + 1 =>
    match tabFind s.nv.journal (q % 256) with
    | some x => if x.valid && isLatest s x && !x.sameTarget r then commit whole r fuel (putRecord q true x s) else putRecord q whole r s
    | none => putRecord q whole r s

/-- The key-update counter in force. -/
def kuCounter (s : State) : Nat := s.pair F.HWD_KU_COUNTER_LO_counter F.HWD_KU_COUNTER_HI_counter

/-! Generations (R296). -/

/-- State of a generation: 0 EMPTY, 1 NEXT, 2 ACTIVE, 3 FALLBACK. -/
def genState (s : State) (g : Nat) : Nat := if g = 0 then s.get F.HWD_GEN_gen0 else s.get F.HWD_GEN_gen1

/-- Set the states of both generations, in the registers and in MRAM, with its journal record (R296, R317). -/
def setGens (g0 g1 : Nat) (s : State) : State :=
  let s := (s.set F.HWD_GEN_gen0 g0).set F.HWD_GEN_gen1 g1
  let s := s.set F.HWD_GEN_current (if g1 = 2 then 1 else 0)
  commit true ⟨0, 0x80, 0, 0, kuCounter s, [], [], 0⟩ 256 { s with nv := { s.nv with genStates := (g0, g1) } }

/-- The ACTIVE generation. -/
def activeGen (s : State) : Option Nat := firstBelow 2 (fun g => decide (genState s g = 2))

/-- Where a slot position of a generation's area stands in the slot store (R287). -/
def slotPlace (g slot pos : Nat) : Nat := (64 * g + slot) * 2 + pos

/-- Whether a commit names material that the slot store keeps: a SLOT_SET of a PERSISTENT slot. -/
def KuRecord.stored (r : KuRecord) : Bool := decide (r.kind = 1) && decide (byteAt r.attributes 3 = 1)

/-- Whether the material of a commit is accepted (R317): its digest matches what the ACTIVE generation's area holds. -/
def accepted (s : State) (r : KuRecord) : Bool :=
  !r.stored || (match activeGen s with
    | some g => (tabFind s.nv.slotStore (slotPlace g r.target r.position)).any (fun w => decide (materialDigest w = r.material))
    | none => false)

/-- The commit of a slot that stands (R317): the latest whose material is accepted. -/
def slotCommit (s : State) (slot : Nat) : Option KuRecord :=
  (validRecords s).foldl (fun best r =>
    if (r.kind = 1 ∨ r.kind = 2) ∧ r.target = slot ∧ accepted s r = true then
      (match best with | some b => if b.seq < r.seq then some r else best | none => some r)
    else best) none

/-- The operator slots. -/
def operatorSlots : List Nat := (upTo 48).map (16 + ·)

/-- A generation is about to become ACTIVE: the commits of the slots name the material of its area from now on
(DESIGN CHOICE, notes/assumptions/169). -/
def recommit (g : Nat) (s : State) : State :=
  if activeGen s = some g then s
  else
    each (operatorSlots.filterMap (slotCommit s)) (fun r s =>
      if r.stored then
        match tabFind s.nv.slotStore (slotPlace g r.target r.position) with
        | some w => commit true { r with material := materialDigest w } 256 s
        | none => s
      else s) s

/-- The second generation, NEXT or FALLBACK. -/
def secondGen (s : State) : Option Nat := firstBelow 2 (fun g => decide (genState s g = 1 ∨ genState s g = 3))

/-- Put the states of the present generations: `g` takes `a`, the other `b`. -/
def moveGens (g a b : Nat) (s : State) : State := if g = 0 then setGens a b s else setGens b a s

/-! Use of slots (R284 to R286). -/

/-- The key an internal slot derives, with its usage (R280, R284): none without a root, for an EMPTY generation, before the
measurements are final, or in a reserved slot. -/
def derivation (s : State) (i : Nat) : Option (List Byte × Nat) :=
  let r := leBytes 1 (rootIndex s)
  if rootIndex s = 0 then none
  else if i = 1 then (openRoot s (rootIndex s)).map (fun k => (k, 2 ^ 8))
  else if i = 2 ∨ i = 3 then
    (if genState s (i - 2) = 0 then none else some (storageKek s (tabGet s.nv.genDigests (i - 2) []), 2 ^ 9))
  else if i = 4 then (if measured s then some (derive256 (rootKey s) (digestReg s ++ r) "BX7160 RREXPORT", 2 ^ 10) else none)
  else if 5 ≤ i ∧ i ≤ 7 then some (derive256 (rootKey s) (r ++ leBytes 1 (i - 5)) "BX7160 IDENT", 2 ^ 11)
  else if i = 8 ∨ i = 9 then some (derive256 (rootKey s) (r ++ leBytes 1 (i - 8)) "BX7160 MLKEM", 2 ^ 12)
  else if i = 10 then some (derive256 (rootKey s) r "BX7160 DBGVER", 2 ^ 13)
  else none

/-- Derive an internal slot (R284). -/
def deriveSlot (i : Nat) (s : State) : State :=
  match derivation s i with
  | some (k, u) => fillSlot i k u 0 0 0 0 s
  | none => s

/-- Count a bad blob (R292). -/
def badBlob (s : State) : State := (s.inc F.HWD_BLOB_BAD_CNT_count).event F.HWD_STAT_blob_bad F.HWD_EVCNT_blob_bad_cnt

/-- Derive an internal slot again that was zeroised (R303). -/
def rederive (i : Nat) (s : State) : State := if s.hwd.lost.contains i then deriveSlot i s else s

/-- The check of a slot, and its key: a failed check is counted (R286). -/
def checkSlot (i usage : Nat) (chan : Option Nat) (s : State) : (Nat × List Byte) × State :=
  match slotCheck s i usage chan with
  | some st => ((st, []), (s.inc F.HWD_USAGE_ERR_CNT_count).event F.HWD_STAT_usage_err F.HWD_EVCNT_usage_err_cnt)
  | none => ((stOk, (slotKey s i).getD []), s)

/-- The storage KEK of a generation for the part's own use. -/
def useKek (g : Nat) (s : State) : Option (List Byte) × State :=
  let (r, s) := checkSlot (2 + g) 9 none (rederive (2 + g) (rederive 1 s))
  (if r.1 = stOk then some r.2 else none, s)

/-- Restore a PERSISTENT operator slot from the ACTIVE generation's area (R287). -/
def restoreSlot (i : Nat) (s : State) : State :=
  match activeGen s, slotCommit s i with
  | some g, some r =>
    if r.stored then
      let (kek, s) := useKek g s
      match kek.bind (fun kek => (tabFind s.nv.slotStore (slotPlace g i r.position)).bind (Config.kwpUnwrap kek)) with
      | some k => fillSlot i k (leAt r.attributes 1 2) (byteAt r.attributes 0 % 4) 1 2 (min (leAt r.attributes 7 8) 0xFFFFFFFF) s
      | none => badBlob s
    else s
  | _, _ => s

/-- A slot that was zeroised comes back at its next use (R303, R325): a BOOT slot that nothing derives is gone. -/
def revive (i : Nat) (s : State) : State :=
  if s.hwd.lost.contains i then
    let s := if i < 16 then deriveSlot i (rederive 1 s) else restoreSlot i s
    { s with hwd := { s.hwd with lost := s.hwd.lost.filter (fun k => decide (k ≠ i)) } }
  else s

/-- Use a slot: its key, or the status of the failed check, which is counted (R286). -/
def useSlot (i usage : Nat) (chan : Option Nat) (s : State) : (Nat × List Byte) × State := checkSlot i usage chan (revive i s)

/-! Changes of the measurements (R296). -/

/-- The export key follows D (R280). -/
def followDigest (s : State) : State := s.when (decide (rootIndex s ≠ 0)) (fun s => deriveSlot 4 (rederive 1 s))

/-- A change is prepared (R283, R296): the free generation becomes NEXT under the KEK of D′, and the sweep
starts. -/
def prepareGen (d : List Byte) (s : State) : State :=
  let g := 1 - (activeGen s).getD 0
  let s := setWords F.HWD_DIGEST_NEXT_bytes d s
  let s := fillSlot (2 + g) (storageKek s d) (2 ^ 9) 0 0 0 0 s
  let s := moveGens g 1 (genState s (1 - g)) s
  let s := (s.set F.HWD_GEN_sweep 1).set F.HWD_SWEEP_POS_lid 1
  { s with hwd := { s.hwd with prepared := true }, nv := { s.nv with genDigests := tabPut s.nv.genDigests g d } }

/-- The published D′ is withdrawn. -/
def clearNext (s : State) : State :=
  let s := setWords F.HWD_DIGEST_NEXT_bytes [] s
  { s with hwd := { s.hwd with prepared := false } }

/-- Every key-cache entry is invalidated. -/
def flushCache (s : State) : State := { s with hwd := { s.hwd with cache := [] } }.set F.HWD_CACHE_USED_entries 0

/-- Activation (R281, R296): NEXT becomes ACTIVE and ACTIVE becomes FALLBACK, and the measurement takes its
new value. -/
def activateGen (i : Nat) (m : List Byte) (s : State) : State :=
  match firstBelow 2 (fun g => decide (genState s g = 1)) with
  | some g => followDigest (clearNext (setMeasurement i m (moveGens g 2 3 (recommit g s))))
  | none => followDigest (clearNext (setMeasurement i m s))

/-- Clear the KEK slot of a generation that becomes EMPTY. -/
def dropGen (g : Nat) (s : State) : State := clearSlot (2 + g) (moveGens g 0 (genState s (1 - g)) s)

/-- Commit (R296): FALLBACK becomes EMPTY. -/
def commitGen (s : State) : State :=
  let s := s.set F.HWD_GEN_sweep 0
  match firstBelow 2 (fun g => decide (genState s g = 3)) with
  | some g => dropGen g s
  | none => s

/-- Rollback (R281, R296): FALLBACK becomes ACTIVE and the other EMPTY, and the measurement returns. -/
def rollbackGen (i : Nat) (m : List Byte) (s : State) : State :=
  let s := s.set F.HWD_GEN_sweep 0
  match firstBelow 2 (fun g => decide (genState s g = 3)) with
  | some g => followDigest (setMeasurement i m (clearSlot (2 + (1 - g)) (moveGens g 2 0 (recommit g s))))
  | none => followDigest (setMeasurement i m s)

/-- A change is abandoned before activation (R296): NEXT becomes EMPTY. -/
def abandonGen (s : State) : State :=
  let s := clearNext (s.set F.HWD_GEN_sweep 0)
  match firstBelow 2 (fun g => decide (genState s g = 1)) with
  | some g => dropGen g s
  | none => s

/-! Blobs (R290 to R292). -/

/-- Where the blob of a LID lies in a generation's area (R291). -/
def blobAddr (s : State) (g lid : Nat) : Nat :=
  s.pair (F.HWD_BLOB_BASE_LO_addr g) (F.HWD_BLOB_BASE_HI_addr g) / 2 ^ 23 * 2 ^ 23 + 64 * lid

/-- The clear header of a blob (R290): flags, key index, LID or grove address, serial. -/
def blobHeader (flags keyIndex lid serial : Nat) : List Byte :=
  leBytes 1 1 ++ leBytes 1 flags ++ leBytes 1 keyIndex ++ leBytes 1 16 ++ leBytes 4 lid ++ leBytes 4 serial ++ leBytes 4 0

/-- A blob: the header and the header with the key wrapped under a key (R290). -/
def blobBytes (kek header key : List Byte) : List Byte :=
  header ++ fit 40 (Config.kwpWrap kek (header ++ key)) ++ leBytes 8 0

/-- A KWP engine in service (R301). -/
def kwpAlive (s : State) : Bool := decide (s.get F.HWD_ENGINE_kwp ≠ 0)

/-- The key a blob holds for a LID under the KEK of its generation: none where a check of R292 fails. -/
def openBlob (s : State) (kek : List Byte) (g lid : Nat) (l : List Byte) : Option (List Byte) :=
  let flags := byteAt l 1
  if byteAt l 0 = 1 ∧ bit flags 1 = true ∧ bit flags 3 = false ∧ byteAt l 3 = 16 ∧ flags % 2 = g ∧ leAt l 4 4 = lid
      ∧ byteAt l 2 = bits (leafWord s lid 17) 8 8 then
    match Config.kwpUnwrap kek (slice l 16 40) with
    | some p => if p.take 16 = l.take 16 ∧ p.length = 32 then some (p.drop 16) else none
    | none => none
  else none

/-- Read and open the ACTIVE generation's blob of a LID (R292, R422). -/
def readBlob (ue : List Nat) (lid : Nat) (s : State) : Option (List Byte) × State :=
  match activeGen s with
  | none => (none, badBlob s)
  | some g =>
    let (kek, s) := useKek g s
    match kek with
    | none => (none, s)
    | some kek =>
      let (l, s) := dramFetch ue 6 (blobAddr s g lid) 64 s
      match l with
      | none => (none, badBlob s)
      | some l =>
        match openBlob s kek g lid l with
        | some k => (some k, s)
        | none => (none, badBlob s)

/-- The generations a leaf command writes (R298). -/
def writtenGens (s : State) : List Nat := (upTo 2).filter (fun g => decide (genState s g ≠ 0))

/-- Drop a LID's cache entry (R295). -/
def dropCached (lid : Nat) (s : State) : State :=
  let set := lid % 4096
  let es := tabGet s.hwd.cache set []
  let left := es.filter (fun e => e.lid ≠ lid)
  if left.length = es.length then s
  else
    let s := { s with hwd := { s.hwd with cache := if left.isEmpty then tabErase s.hwd.cache set else tabPut s.hwd.cache set left } }
    s.set F.HWD_CACHE_USED_entries (s.get F.HWD_CACHE_USED_entries - (es.length - left.length))

/-- Write a leaf's blobs in every generation in use, and invalidate its cache entry (R295, R298). The
derived flag marks a key of LEAF_DERIVE. -/
def writeBlobs (lid keyIndex : Nat) (derived : Bool) (key : List Byte) (s : State) : State :=
  let serial := s.get F.HWD_BLOB_SERIAL_serial
  let s := each (writtenGens s) (fun g s =>
    let h := blobHeader (g + 2 + 4 * b2n derived) keyIndex lid serial
    let (kek, s) := useKek g s
    match kek with
    | some kek => (dramStore 6 (blobAddr s g lid) (blobBytes kek h key) s).2
    | none => s) s
  dropCached lid (s.set F.HWD_BLOB_SERIAL_serial (serial + 1))

/-- Write a leaf's blobs not in use (R290, R295). -/
def clearBlobs (lid : Nat) (s : State) : State :=
  dropCached lid (each (writtenGens s) (fun g s => (dramStore 6 (blobAddr s g lid) (List.replicate 64 0#8) s).2) s)

/-! The key cache (R293). -/

/-- The cached entry of a LID. -/
def cached (s : State) (lid : Nat) : Option CacheEntry := (tabGet s.hwd.cache (lid % 4096) []).find? (fun e => e.lid = lid)

/-- Put an entry first in its set, the least recently used way giving place. -/
def putCached (e : CacheEntry) (s : State) : State :=
  let set := e.lid % 4096
  let es := tabGet s.hwd.cache set []
  let new := (e :: es.filter (fun x => x.lid ≠ e.lid)).take 4
  let s := { s with hwd := { s.hwd with cache := tabPut s.hwd.cache set new } }
  s.set F.HWD_CACHE_USED_entries (s.get F.HWD_CACHE_USED_entries + new.length - es.length)

/-- A miss (R293): the blob is fetched, checked, unwrapped and cached; a Heartwood that is locked or has
no KWP engine gives no key (R301, R303). -/
def missFill (ue : List Nat) (lid : Nat) (s : State) : Option (List Byte) × State :=
  let s := s.inc F.HWD_CACHE_MISS_CNT_count
  if s.on F.HWD_STATUS_locked || !kwpAlive s || !s.on F.HWD_BLOB_CFG_en then (none, s)
  else
    let (k, s) := readBlob ue lid s
    match k with
    | some k => (some k, maskTaken (putCached ⟨lid, bits (leafWord s lid 17) 8 8, share (s.newMask 16) k⟩ s))
    | none => (none, s)

/-- The key of a leaf (R293): a frame whose fetch KEY_CACHE_MISS has made takes what it brought.  A fetch that PD_SEC fences gives
none, and one that finds it in RET under autowake waits for it (R373). -/
def leafKey (lid : Nat) (s : State) : Option (List Byte) × State :=
  let (open_, s) := hwAccess 2 6 0 false s
  if !open_ || s.on F.HWD_STATUS_locked then (none, s)
  else if s.hwd.served.contains lid then
    ((cached s lid).map (fun e => e.key.key), { s with hwd := { s.hwd with served := s.hwd.served.filter (fun x => decide (x ≠ lid)) } })
  else
    match cached s lid with
    | some e => (some e.key.key, putCached e (s.inc F.HWD_CACHE_HIT_CNT_count))
    | none => missFill [] lid s

/-- KEY_CACHE_MISS (R293): the fetch of a leaf's key, with the DRAM addresses that read uncorrectable: one asked for ahead
(R294), or the miss of the leaf's next frame, which then finds what this fetch brought. -/
def execKeyCacheMiss (lid : Nat) (ue : List Nat) (s : State) : Host.Outcome State Fault Refusal :=
  run (fun s =>
    let ahead := s.hwd.prefetch.contains lid
    let s := { s with hwd := { s.hwd with prefetch := s.hwd.prefetch.filter (fun x => x ≠ lid) } }
    s.when (cached s lid).isNone (fun s =>
      let s := (missFill ue lid s).2
      if ahead then s else { s with hwd := { s.hwd with served := s.hwd.served.filter (fun x => decide (x ≠ lid)) ++ [lid] } })) s

/-! Commands. -/

/-- The buffer of a channel. -/
def cmdBuf (s : State) (c : Nat) : Nat := s.pair (F.HWD_CMD_BUF_LO_addr c) (F.HWD_CMD_BUF_HI_addr c) / 16 * 16

/-- What an operation did: status, items (of a command with a count), what goes to the buffer. -/
structure OpResult where
  status : Nat
  items : Nat := 0
  out : Option (Nat × List Byte) := none
  deriving DecidableEq, Repr

/-- Carry out an operation on a fetched input, or end with BUF_ERR (R300); `ue` lists DRAM addresses that read
uncorrectable. -/
def withInput (ue : List Nat) (c n : Nat) (f : List Byte → State → OpResult × State) (s : State) : OpResult × State :=
  let (l, s) := dramFetch ue 6 (cmdBuf s c) n s
  match l with
  | some l => f l s
  | none => ({ status := stBufErr }, s)

/-- Carry out an operation with slots that the part itself uses, or end with the status of the first check that fails
(R286). -/
def withOwn (slots : List Nat) (usage : Nat) (f : State → OpResult × State) (s : State) : OpResult × State :=
  match slots with
  | [] => f s
  | i :: rest =>
    let (r, s) := useSlot i usage none s
    if r.1 = stOk then withOwn rest usage f s else ({ status := r.1 }, s)

/-- Carry out an operation with a slot's key, or end with the status of its check. -/
def withSlot (c slot usage : Nat) (f : List Byte → State → OpResult × State) (s : State) : OpResult × State :=
  let (r, s) := useSlot slot usage (some c) s
  if r.1 = stOk then f r.2 s else ({ status := r.1 }, s)

/-- Why a key operation cannot run now: LOCKED or NO_ROOT (R278, R303). -/
def keyBar (s : State) : Option Nat :=
  if s.on F.HWD_STATUS_locked then some stLocked else if rootIndex s = 0 then some stNoRoot else none

/-- Why a leaf command cannot run now: no KWP engine either (R301), or no blob area (R300). -/
def leafBar (s : State) : Option Nat :=
  match keyBar s with
  | some st => some st
  | none => if !kwpAlive s then some stAborted else if s.on F.HWD_BLOB_CFG_en then none else some stNoBlobArea

/-- LEAF_IMPORT (R300). -/
def opImport (ue : List Nat) (c slot : Nat) (s : State) : OpResult × State :=
  let lid := s.get (F.HWD_CMD_ARG_lid c)
  if lid = 0 then ({ status := stBadArg }, s)
  else withSlot c slot 1 (fun key s => withInput ue c 24 (fun l s =>
    match Config.kwpUnwrap key l with
    | some k => if k.length = 16 then ({ status := stOk }, writeBlobs lid (s.get (F.HWD_CMD_ARG_key_index c)) false k s)
        else ({ status := stBlobBad }, s)
    | none => ({ status := stBlobBad }, s)) s) s

/-- LEAF_DERIVE (R280, R300). -/
def opDerive (c slot : Nat) (s : State) : OpResult × State :=
  let lid := s.get (F.HWD_CMD_ARG_lid c)
  if lid = 0 then ({ status := stBadArg }, s)
  else withSlot c slot 2 (fun key s =>
    let eui := beBytes 8 (leafWord s lid 2 + leafWord s lid 3 * 2 ^ 32)
    ({ status := stOk },
      writeBlobs lid (s.get (F.HWD_CMD_ARG_key_index c)) true ((derive256 key eui "BX7160 LEAF").take 16) s)) s

/-- LEAF_DROP (R295, R300). -/
def opDrop (c : Nat) (s : State) : OpResult × State :=
  let lid := s.get (F.HWD_CMD_ARG_lid c)
  if lid = 0 then ({ status := stBadArg }, s) else ({ status := stOk }, clearBlobs lid s)

/-- RANDOM (R300, R302). -/
def opRandom (c : Nat) (s : State) : OpResult × State :=
  let n := s.get (F.HWD_CMD_CNT_count c)
  if n = 0 ∨ 4096 < n then ({ status := stBadArg }, s)
  else if !s.on F.HWD_DRBG_healthy then ({ status := stEntropy }, s)
  else ({ status := stOk, items := n, out := some (cmdBuf s c, s.random n) }, s.used)

/-- The replica blobs of `n` LIDs from `lid` under a replica key, up to the first bad blob (R300). -/
def wrapReplicas (ue : List Nat) (kek : List Byte) (lid n : Nat) (s : State) : List (List Byte) × State :=
  match n with
  | 0 => ([], s)
  | n + 1 =>
    let (k, s) := readBlob ue lid s
    match k with
    | none => ([], s)
    | some k =>
      let h := blobHeader 10 (bits (leafWord s lid 17) 8 8) (s.get F.GRV_CFG_router_id * 2 ^ 17 + lid) (s.get F.HWD_BLOB_SERIAL_serial)
      let (rest, s) := wrapReplicas ue kek (lid + 1) n s
      (blobBytes kek h k :: rest, s)

/-- REPLICA_WRAP (R300). -/
def opReplicaWrap (ue : List Nat) (c slot : Nat) (s : State) : OpResult × State :=
  let lid := s.get (F.HWD_CMD_ARG_lid c)
  let n := s.get (F.HWD_CMD_CNT_count c)
  if lid = 0 ∨ n = 0 ∨ 131072 < lid + n then ({ status := stBadArg }, s)
  else withSlot c slot 3 (fun key s => withInput ue c 32 (fun d s =>
    let (bs, s) := wrapReplicas ue (derive256 key d "BX7160 REPLICA") lid n s
    ({ status := if bs.length = n then stOk else if bs.isEmpty then stBlobBad else stPartial, items := bs.length,
       out := some (cmdBuf s c + 32, bs.flatten) }, s)) s) s

/-- Import replicas in order, up to the first that fails (R300). -/
def importReplicas (kek : List Byte) (bs : List (List Byte)) (s : State) : Nat × State :=
  match bs with
  | [] => (0, s)
  | l :: rest =>
    let lid := leAt l 4 4 % 2 ^ 17
    match Config.kwpUnwrap kek (slice l 16 40) with
    | some p =>
      if p.take 16 = l.take 16 ∧ p.length = 32 ∧ bit (byteAt l 1) 3 = true ∧ lid ≠ 0 then
        let (n, s) := importReplicas kek rest (writeBlobs lid (byteAt l 2) false (p.drop 16) s)
        (n + 1, s)
      else (0, badBlob s)
    | none => (0, badBlob s)

/-- Cut bytes into pieces of `k`. -/
def pieces (k n : Nat) (l : List Byte) : List (List Byte) := (upTo n).map (fun i => slice l (k * i) k)

/-- REPLICA_IMPORT (R300). -/
def opReplicaImport (ue : List Nat) (c slot : Nat) (s : State) : OpResult × State :=
  let n := s.get (F.HWD_CMD_CNT_count c)
  if n = 0 then ({ status := stBadArg }, s)
  else withSlot c slot 3 (fun key s => withInput ue c (64 * n) (fun l s =>
    let (k, s) := importReplicas (derive256 key (digestReg s) "BX7160 REPLICA") (pieces 64 n l) s
    ({ status := if k = n then stOk else if k = 0 then stBlobBad else stPartial, items := k }, s)) s) s

/-! Re-masking, entropy and the generation sweep. -/

/-- Shares under a fresh mask of the DRBG, and the entries of a set each under its own (R288, R289). -/
def remaskSlot (i : Nat) (s : State) : State :=
  match tabFind s.hwd.keys i with
  | some k => { s.used with hwd := { s.hwd with keys := tabPut s.hwd.keys i (k.remask (s.random k.a.length)), mask := s.random 32 } }
  | none => s
def remaskEntries (es : List CacheEntry) (s : State) : List CacheEntry × State :=
  match es with
  | [] => ([], s)
  | e :: rest =>
    let (l, t) := remaskEntries rest s.used
    ({ e with key := e.key.remask (s.random e.key.a.length) } :: l, t)
def remaskSet (set : Nat) (s : State) : State :=
  let (l, t) := remaskEntries (tabGet s.hwd.cache set []) s
  { t with hwd := { t.hwd with cache := tabPut t.hwd.cache set l } }

/-- Every slot and every cache entry takes a fresh mask (R288, R289). -/
def remaskAll (s : State) : State :=
  let s := each (s.hwd.keys.map Prod.fst) remaskSlot s
  each (s.hwd.cache.map Prod.fst) remaskSet s

/-- Count a late re-mask period (R289, R302). -/
def remaskLate (s : State) : State := s.event F.HWD_STAT_remask_late F.HWD_EVCNT_remask_late_cnt

/-- REMASK_TICK (R288, R289): `late` says that the cache sweep of the period has not ended. -/
def execRemaskTick (late : Bool) (s : State) : Host.Outcome State Fault Refusal :=
  run (fun s =>
    if !s.domOn 2 then s
    else if !s.on F.HWD_DRBG_healthy then remaskLate s
    else (remaskAll s).when late remaskLate) s

/-- ENTROPY_FAIL (R302). -/
def execEntropyFail (s : State) : Host.Outcome State Fault Refusal :=
  run (fun s => failCheck [1, 4] ((s.set F.HWD_STAT_entropy_fail 1).set F.HWD_DRBG_healthy 0)) s

/-- ENTROPY_RETEST (R302): the source's retest, and whether 1,024 samples pass. -/
def execEntropyRetest (passes : Bool) (s : State) : Host.Outcome State Fault Refusal :=
  run (fun s => s.when passes (fun s => s.set F.HWD_DRBG_healthy 1)) s

/-- Rewrap the live positions of the slot store from one generation's area to another's under their KEKs (R287, R297). -/
def rewrapSlots (g g' : Nat) (kek kek' : List Byte) (s : State) : State :=
  each (operatorSlots.filterMap (slotCommit s)) (fun r s =>
    if r.stored then
      match tabFind s.nv.slotStore (slotPlace g r.target r.position) with
      | some w =>
        match Config.kwpUnwrap kek w with
        | some k => { s with nv := { s.nv with
            slotStore := tabPut s.nv.slotStore (slotPlace g' r.target r.position) (fit 40 (Config.kwpWrap kek' k)) } }
        | none => badBlob s
      | none => s
    else s) s

/-- The sweep's visit to a LID (R297), under the KEKs of the two generations. -/
def sweepLid (ue : List Nat) (g g' : Nat) (kek kek' : List Byte) (lid : Nat) (s : State) : State :=
  let (l, s) := dramFetch ue 6 (blobAddr s g lid) 64 s
  let put (b : List Byte) (s : State) : State := (dramStore 6 (blobAddr s g' lid) b s).2
  match l with
  | none => put (List.replicate 64 0#8) (badBlob (s.set F.HWD_SWEEP_LAST_BAD_lid lid))
  | some l =>
    if !bit (byteAt l 1) 1 then put (List.replicate 64 0#8) s
    else
      match openBlob s kek g lid l with
      | some k =>
        let h := blobHeader (byteAt l 1 / 2 * 2 + g') (byteAt l 2) lid (leAt l 8 4)
        put (blobBytes kek' h k) s
      | none => put (List.replicate 64 0#8) (badBlob (s.set F.HWD_SWEEP_LAST_BAD_lid lid))

/-- A sweep that an alarm aborted starts again from LID 1 when the planner resumes it (R303). -/
def resumeSweep (s : State) : State :=
  if s.get F.HWD_GEN_sweep = 3 then (s.set F.HWD_GEN_sweep 1).set F.HWD_SWEEP_POS_lid 1 else s

/-- Whether Bark or Seed has stopped the security cores (R326, R337). -/
def State.secHalted (s : State) : Bool := s.bark.hold || decide (s.get F.GRF_BOOT_halt ≠ 0)

/-- A visit of a sweep that runs: the next LID, and after the last one the slot store. -/
def sweepNext (ue : List Nat) (g g' : Nat) (kek kek' : List Byte) (s : State) : State :=
  let lid := s.get F.HWD_SWEEP_POS_lid
  let s := (if s.on F.HWD_BLOB_CFG_en then sweepLid ue g g' kek kek' lid s else s).set F.HWD_SWEEP_POS_lid (lid + 1)
  if lid + 1 = 131072 then
    let s := ((rewrapSlots g g' kek kek' s).set F.HWD_GEN_sweep 2).set F.HWD_STAT_sweep_done 1
    if s.rgp.pending.isSome then { s with rgp := { s.rgp with rewrapped := true } } else s
  else s

/-- One visit of the sweep. -/
def visitSweep (ue : List Nat) (s : State) : State :=
  match activeGen s, firstBelow 2 (fun g => decide (genState s g = 1)) with
  | some g, some g' =>
    if !s.sweeping then s
    else if !kwpAlive s || s.on F.HWD_STATUS_locked then s.set F.HWD_GEN_sweep 3
    else
      let (kek, s) := useKek g s
      let (kek', s) := useKek g' s
      match kek, kek' with
      | some kek, some kek' => sweepNext ue g g' kek kek' s
      | _, _ => s.set F.HWD_GEN_sweep 3
  | _, _ => s

/-- SWEEP_VISIT (R297); `ue` lists DRAM addresses that read uncorrectable.  With no KWP engine (R301), while Heartwood is
locked (R303) or without a KEK the sweep aborts; it stands still while the security cores are halted. -/
def execSweepVisit (ue : List Nat) (s : State) : Host.Outcome State Fault Refusal :=
  run (fun s =>
    if s.secHalted then s
    else
      let s := visitSweep ue (resumeSweep s)
      s.when (!s.sweeping) (returnForced 2)) s

end Sys2Proof.Machine
end

