-- ==== Sys2Proof/Machine/Lowpan.lean ====
section
/-!
DEFINITION. Header compression (R222): the forms of RFC 6282 that Bough compresses and decompresses, and the
pieces of an IPv6 packet it reads (R217 to R220).
-/

namespace Sys2Proof.Machine

/-- A 64-bit number as eight octets, the first octet highest. -/
def octets8 (x : Nat) : List Byte := beBytes 8 x

/-- The IID of an extended address: the universal/local bit inverted (R201). -/
def iidOfEui (eui : Nat) : Nat := eui ^^^ 0x0200000000000000

/-- The IID of a short address (R201). -/
def iidOfShort (a : Nat) : Nat := 0x000000FFFE000000 + a % 65536

/-- A context of BGH_CTX: its prefix, and whether it may be used in decompression and compression. -/
structure LowpanCtx where
  prefix_ : Nat
  valid : Bool
  compress : Bool
  deriving DecidableEq, Repr

/-! IPv6 packets. -/

/-- Whether bytes begin with a whole IPv6 packet. -/
def isIpv6 (l : List Byte) : Bool := decide (byteAt l 0 / 16 = 6 ∧ 40 ≤ l.length ∧ 40 + beAt l 4 2 ≤ l.length)

/-- The packet without what follows it. -/
def ipv6Of (l : List Byte) : List Byte := l.take (40 + beAt l 4 2)

/-- Source and destination addresses. -/
def ipSrc (p : List Byte) : List Byte := slice p 8 16
def ipDst (p : List Byte) : List Byte := slice p 24 16

/-- Prefix and IID of an address. -/
def addrPrefix (a : List Byte) : Nat := beNat (a.take 8)
def addrIid (a : List Byte) : Nat := beNat (a.drop 8)

/-- A packet with one field replaced. -/
def patch (p : List Byte) (off : Nat) (l : List Byte) : List Byte := p.take off ++ l ++ p.drop (off + l.length)

/-- Where the headers after hop-by-hop options begin, and the number of the header there (R218). -/
def afterHopByHop (p : List Byte) : Nat × Nat :=
  if byteAt p 6 = 0 then (40 + 8 * (byteAt p 41 + 1), byteAt p 40) else (40, byteAt p 6)

/-- Extension headers other than hop-by-hop. -/
def extHeaders : List Nat := [43, 44, 50, 51, 60, 135, 139, 140, 253, 254]

/-- Whether a packet carries an extension header that Bough does not route (R218). -/
def hasExtHeader (p : List Byte) : Bool :=
  let n := (afterHopByHop p).2
  extHeaders.contains n || (decide (byteAt p 6 = 0) && decide (n = 0))

/-- A packet with the source route of R218: the new destination, then hops 1 on and the last address, in full
where `full`. -/
def withRoute (p : List Byte) (first : List Byte) (middle : List Nat) (last : List Byte) (full : Bool) : List Byte :=
  let (at_, nh) := afterHopByHop p
  let n := middle.length + 1
  let body := middle.flatMap octets8 ++ last
  let h := leBytes 1 nh ++ leBytes 1 (if full then n + 1 else n) ++ [0x03#8] ++ leBytes 1 n
    ++ [if full then 0x80#8 else 0x88#8] ++ [0#8, 0#8, 0#8] ++ body
  let q := patch p (if byteAt p 6 = 0 then 40 else 6) [43#8]
  let q := patch (patch q 24 first) 4 (beBytes 2 (beAt p 4 2 + h.length))
  q.take at_ ++ h ++ q.drop at_

/-- UDP payload and its ports, where a packet is UDP with no extension header. -/
def udpOf (p : List Byte) : Option (Nat × Nat × List Byte) :=
  if byteAt p 6 = 17 ∧ 8 ≤ beAt p 44 2 ∧ beAt p 44 2 = beAt p 4 2 then some (beAt p 40 2, beAt p 42 2, p.drop 48) else none

/-! Decompression. -/

/-- Inline bytes of a form, and the rest. -/
def inline_ (n : Nat) (l : List Byte) : Option (List Byte × List Byte) :=
  if l.length < n then none else some (l.take n, l.drop n)

/-- Traffic class and flow label by TF. -/
def readTf (tf : Nat) (l : List Byte) : Option (Nat × Nat × List Byte) :=
  match inline_ (if tf = 0 then 4 else if tf = 1 then 3 else if tf = 2 then 1 else 0) l with
  | none => none
  | some (b, l) =>
    let e := byteAt b 0 / 64
    if tf = 0 then some (byteAt b 0 % 64 * 4 + e, beAt b 1 3 % 2 ^ 20, l)
    else if tf = 1 then some (e, beAt b 0 3 % 2 ^ 20, l)
    else if tf = 2 then some (byteAt b 0 % 64 * 4 + e, 0, l)
    else some (0, 0, l)

/-- An address of a mode under a prefix: 8 octets, 2 octets, or derived from the MAC address. -/
def readIid (mode prefix_ mac : Nat) (l : List Byte) : Option (List Byte × List Byte) :=
  match inline_ (if mode = 1 then 8 else if mode = 2 then 2 else 0) l with
  | none => none
  | some (b, l) =>
    let iid := if mode = 1 then beNat b else if mode = 2 then iidOfShort (beNat b) else mac
    some (octets8 prefix_ ++ octets8 iid, l)

/-- The prefix of a context that may be used. -/
def ctxPrefix (ctx : List LowpanCtx) (k : Nat) : Option Nat :=
  match ctx[k]? with
  | some c => if c.valid then some c.prefix_ else none
  | none => none

/-- A unicast address: stateful or not, its mode, context and MAC-derived IID; `unspec` says that the
stateful mode 0 is the unspecified address. -/
def readAddr (ctx : List LowpanCtx) (stateful : Bool) (mode k mac : Nat) (unspec : Bool) (l : List Byte) :
    Option (List Byte × List Byte) :=
  if !stateful then (if mode = 0 then inline_ 16 l else readIid mode 0xFE80000000000000 mac l)
  else if mode = 0 then (if unspec then some (List.replicate 16 0#8, l) else none)
  else match ctxPrefix ctx k with
    | some p => readIid mode p mac l
    | none => none

/-- A multicast address by DAM, with DAC 0. -/
def readGroup (mode : Nat) (l : List Byte) : Option (List Byte × List Byte) :=
  match inline_ (if mode = 0 then 16 else if mode = 1 then 6 else if mode = 2 then 4 else 1) l with
  | none => none
  | some (b, l) =>
    if mode = 0 then some (b, l)
    else if mode = 1 then some ([0xFF#8] ++ b.take 1 ++ List.replicate 9 0#8 ++ b.drop 1, l)
    else if mode = 2 then some ([0xFF#8] ++ b.take 1 ++ List.replicate 11 0#8 ++ b.drop 1, l)
    else some ([0xFF#8, 0x02#8] ++ List.replicate 13 0#8 ++ b, l)

/-- A hop-by-hop header's options padded to a multiple of 8 octets (RFC 6282). -/
def padOptions (d : List Byte) : List Byte :=
  let n := (8 - (d.length + 2) % 8) % 8
  if n = 0 then d else if n = 1 then d ++ [0#8] else d ++ [1#8] ++ leBytes 1 (n - 2) ++ List.replicate (n - 2) 0#8

/-- The headers that follow under NHC: the number of the first and the bytes from it on; none for a form of
R222's right column or a chain of more than `fuel` headers. -/
def readNhc (fuel : Nat) (l : List Byte) : Option (Nat × List Byte) :=
  match fuel with
  | 0 => none
  | fuel + 1 =>
    let b := byteAt l 0
    if l.isEmpty then none
    else if b / 8 = 0x1E then
      if b / 4 % 2 = 1 then none
      else
        let pp := b % 4
        let n := if pp = 0 then 4 else if pp = 3 then 1 else 3
        match inline_ (n + 2) (l.drop 1) with
        | none => none
        | some (h, rest) =>
          let src := if pp = 0 ∨ pp = 1 then beAt h 0 2 else if pp = 2 then 0xF000 + byteAt h 0 else 0xF0B0 + byteAt h 0 / 16
          let dst := if pp = 0 then beAt h 2 2 else if pp = 1 then 0xF000 + byteAt h 2 else if pp = 2 then beAt h 1 2 else 0xF0B0 + byteAt h 0 % 16
          some (17, beBytes 2 src ++ beBytes 2 dst ++ beBytes 2 (8 + rest.length) ++ slice h n 2 ++ rest)
    else if b / 16 = 0xE ∧ b / 2 % 8 ≤ 1 then
      let num := if b / 2 % 8 = 0 then 0 else 43
      let nhc := b % 2 = 1
      match inline_ (if nhc then 1 else 2) (l.drop 1) with
      | none => none
      | some (h, rest) =>
        let len := byteAt h (if nhc then 0 else 1)
        match inline_ len rest with
        | none => none
        | some (d, rest) =>
          let d := if num = 0 then padOptions d else d
          if (d.length + 2) % 8 ≠ 0 then none
          else
            match if nhc then readNhc fuel rest else some (byteAt h 0, rest) with
            | none => none
            | some (next, rest) => some (num, leBytes 1 next ++ leBytes 1 ((d.length + 2) / 8 - 1) ++ d ++ rest)
    else none

/-- An IPHC packet decompressed: none for a form of R222's right column or a packet cut short. -/
def readIphc (ctx : List LowpanCtx) (srcMac dstMac : Nat) (l : List Byte) : Option (List Byte) := do
  let (h, l) ← inline_ 2 l
  let b0 := byteAt h 0
  let b1 := byteAt h 1
  let (cid, l) ← inline_ (if b1 / 128 = 1 then 1 else 0) l
  let (tc, fl, l) ← readTf (b0 / 8 % 4) l
  let nhc := b0 / 4 % 2 = 1
  let (nh, l) ← inline_ (if nhc then 0 else 1) l
  let (hl, l) ← inline_ (if b0 % 4 = 0 then 1 else 0) l
  let hops := if b0 % 4 = 0 then byteAt hl 0 else if b0 % 4 = 1 then 1 else if b0 % 4 = 2 then 64 else 255
  let (src, l) ← readAddr ctx (decide (b1 / 64 % 2 = 1)) (b1 / 16 % 4) (byteAt cid 0 / 16) srcMac true l
  let (dst, l) ← if b1 / 8 % 2 = 1 then (if b1 / 4 % 2 = 1 then none else readGroup (b1 % 4) l)
    else readAddr ctx (decide (b1 / 4 % 2 = 1)) (b1 % 4) (byteAt cid 0 % 16) dstMac false l
  let (next, body) ← if nhc then readNhc 3 l else some (byteAt nh 0, l)
  pure (beBytes 4 (6 * 2 ^ 28 + tc * 2 ^ 20 + fl) ++ beBytes 2 body.length ++ leBytes 1 next ++ leBytes 1 hops ++ src ++ dst ++ body)

/-- An uplink payload as an IPv6 packet, or the reason it goes to firmware: 1 IPHC_FORM, 2 LOWPAN_OTHER
(R221, R222). -/
def decompress (ctx : List LowpanCtx) (srcMac dstMac : Nat) (l : List Byte) : Except Nat (List Byte) :=
  if byteAt l 0 / 32 = 3 then
    match readIphc ctx srcMac dstMac l with
    | some p => .ok p
    | none => .error 1
  else if byteAt l 0 = 0x41 ∧ isIpv6 (l.drop 1) then .ok (ipv6Of (l.drop 1))
  else .error 2

/-! Compression. -/

/-- The first context of BGH_CTX that may compress a prefix. -/
def compressCtx (ctx : List LowpanCtx) (p : Nat) : Option Nat :=
  (ctx.zipIdx.find? (fun (c, _) => c.compress && decide (c.prefix_ = p))).map Prod.snd

/-- The shortest form of an IID: mode and inline octets. -/
def putIid (iid mac : Nat) : Nat × List Byte :=
  if iid = mac then (3, []) else if iid / 65536 = 0x000000FFFE00 then (2, beBytes 2 iid) else (1, octets8 iid)

/-- The form of a unicast address: stateful bit, mode, context, inline octets. -/
def putAddr (ctx : List LowpanCtx) (mac : Nat) (unspec : Bool) (a : List Byte) : Nat × Nat × Nat × List Byte :=
  if unspec ∧ a.all (fun b => decide (b = 0#8)) then (1, 0, 0, [])
  else if addrPrefix a = 0xFE80000000000000 then (0, (putIid (addrIid a) mac).1, 0, (putIid (addrIid a) mac).2)
  else match compressCtx ctx (addrPrefix a) with
    | some k => (1, (putIid (addrIid a) mac).1, k, (putIid (addrIid a) mac).2)
    | none => (0, 0, 0, a)

/-- The form of a multicast address: mode and inline octets. -/
def putGroup (a : List Byte) : Nat × List Byte :=
  let z (i n : Nat) : Bool := (slice a i n).all (fun b => decide (b = 0#8))
  if byteAt a 1 = 2 ∧ z 2 13 then (3, a.drop 15)
  else if z 2 11 then (2, slice a 1 1 ++ a.drop 13)
  else if z 2 9 then (1, slice a 1 1 ++ a.drop 11)
  else (0, a)

/-- The UDP ports' shortest form: its code and octets. -/
def putPorts (src dst : Nat) : Nat × List Byte :=
  if src / 16 = 0xF0B ∧ dst / 16 = 0xF0B then (3, leBytes 1 (src % 16 * 16 + dst % 16))
  else if dst / 256 = 0xF0 then (1, beBytes 2 src ++ leBytes 1 dst)
  else if src / 256 = 0xF0 then (2, leBytes 1 src ++ beBytes 2 dst)
  else (0, beBytes 2 src ++ beBytes 2 dst)

/-- The headers from number `nh` on under NHC, where a form of R222 holds them. -/
def putNhc (fuel nh : Nat) (l : List Byte) : Option (List Byte) :=
  match fuel with
  | 0 => none
  | fuel + 1 =>
    if nh = 17 ∧ 8 ≤ l.length ∧ beAt l 4 2 = l.length then
      let (pp, ports) := putPorts (beAt l 0 2) (beAt l 2 2)
      some (leBytes 1 (0xF0 + pp) ++ ports ++ slice l 6 2 ++ l.drop 8)
    else if nh = 0 ∨ nh = 43 then
      let n := 8 * (byteAt l 1 + 1)
      if l.length < n ∨ 257 < n then none
      else
        let eid := if nh = 0 then 0 else 1
        match putNhc fuel (byteAt l 0) (l.drop n) with
        | some rest => some (leBytes 1 (0xE1 + 2 * eid) ++ leBytes 1 (n - 2) ++ slice l 2 (n - 2) ++ rest)
        | none => some (leBytes 1 (0xE0 + 2 * eid) ++ l.take 1 ++ leBytes 1 (n - 2) ++ slice l 2 (n - 2) ++ l.drop n)
    else none

/-- An IPv6 packet in its smallest form (R222). -/
def compress (ctx : List LowpanCtx) (srcMac dstMac : Nat) (p : List Byte) : List Byte :=
  let w := beAt p 0 4
  let tc := w / 2 ^ 20 % 256
  let fl := w % 2 ^ 20
  let e := tc % 4
  let (tf, tfb) := if tc = 0 ∧ fl = 0 then (3, []) else if fl = 0 then (2, leBytes 1 (e * 64 + tc / 4))
    else if tc / 4 = 0 then (1, beBytes 3 (e * 2 ^ 22 + fl)) else (0, leBytes 1 (e * 64 + tc / 4) ++ beBytes 3 fl)
  let hl := byteAt p 7
  let (hf, hb) := if hl = 1 then (1, []) else if hl = 64 then (2, []) else if hl = 255 then (3, []) else (0, leBytes 1 hl)
  let (sac, sam, sci, sb) := putAddr ctx srcMac true (ipSrc p)
  let group := byteAt (ipDst p) 0 = 255
  let (dac, dam, dci, db) := if group then (0, (putGroup (ipDst p)).1, 0, (putGroup (ipDst p)).2) else putAddr ctx dstMac false (ipDst p)
  let cid := decide (sci ≠ 0 ∨ dci ≠ 0)
  let (nhc, nhb, body) := match putNhc 3 (byteAt p 6) (p.drop 40) with
    | some b => (1, ([] : List Byte), b)
    | none => (0, slice p 6 1, p.drop 40)
  leBytes 1 (0x60 + tf * 8 + nhc * 4 + hf)
    ++ leBytes 1 (b2n cid * 128 + sac * 64 + sam * 16 + b2n group * 8 + dac * 4 + dam)
    ++ (if cid then leBytes 1 (sci * 16 + dci) else []) ++ tfb ++ nhb ++ hb ++ sb ++ db ++ body

end Sys2Proof.Machine
end

