-- ==== Sys2Proof/Machine/TimeBase.lean ====
section
/-!
DEFINITION. The time base (R241 to R250, R455), its pins (R251 to R253) and its transmit timestamp ring
(R259, R260).
-/

namespace Sys2Proof.Machine

/-- Correction states (TMB_STATE.state). -/
def acquire : Nat := 0
def track : Nat := 1
def holdover : Nat := 2

/-- Whether the holdover mode guards: REFUSE_JUMP or BOTH, mode 3 as BOTH (R249). -/
def modeGuards (s : State) : Bool := decide (s.get F.TMB_HOLD_mode ≠ 0)

/-- Enter HOLDOVER for a cause (R245): no entry where it already holds. -/
def enterHoldover (cause : Nat) (s : State) : State :=
  if s.get F.TMB_STATE_state = holdover then s
  else
    let s := ((s.set F.TMB_STATE_state holdover).set F.TMB_STATE_guarded 0).set F.TMB_STATE_hold_cause cause
    { s.event F.TMB_STAT_holdover F.TMB_EVCNT_holdover_cnt with time := { s.time with unfollowed := true } }

/-- Leave for TRACK. -/
def enterTrack (s : State) : State := (s.set F.TMB_STATE_state track).set F.TMB_STATE_guarded 0

/-- The rest and pulse level of PPS_OUT reaches the pin, where the time base owns it (R252). -/
def drivePps (s : State) : State :=
  if s.owner 2 0 = 0x0200 then s.emit (.pps (s.time.ppsOn != s.on F.TMB_PPS_CFG_pol)) else s

/-- PPS_OUT as its owner drives it, and low where nothing does (R252). -/
def ppsPin (s : State) : State :=
  if s.owner 2 0 = 0x0200 then drivePps s
  else if unitDrivesPps s then driveOut (s.owner 2 0 - 0x0300) s
  else s.emit (.pps false)

/-- TMB_PPS_OFS, held to ±10,000,000 ns (R252). -/
def ppsOffset (s : State) : Int := clampInt (-10000000) 10000000 (signed 32 (s.get F.TMB_PPS_OFS_ofs))

/-- Pulse length in ns (R252). -/
def ppsWidth (s : State) : Nat := clamp 1 999 (s.get F.TMB_PPS_CFG_width_ms) * 1000000

/-- Whether the time base drives pulses: enabled and owner of the pin (R252). -/
def ppsDrives (s : State) : Bool := s.on F.TMB_PPS_CFG_out_en && decide (s.owner 2 0 = 0x0200)

/-- The pulse begins at a rising instant. -/
def ppsRises (at_ : Int) (s : State) : State :=
  drivePps { s with time := { s.time with ppsOn := true, ppsRise := at_ } }

/-- The pulse ends. -/
def ppsEnds (s : State) : State := drivePps { s with time := { s.time with ppsOn := false } }

/-- A pulse whose end has passed, or whose start a step has gone back behind, ends (R252). -/
def ppsCheck (s : State) : State :=
  s.when (s.time.ppsOn && (decide ((s.now : Int) < s.time.ppsRise) || decide (s.time.ppsRise + ppsWidth s ≤ s.now))) ppsEnds

/-- The cells of timeslots that a step skips are not executed (R159): what the engine had posted for them is gone, and
their frames keep their place. -/
def skipCells (first past : Nat) (s : State) : State :=
  let hit (a : Nat) : Bool := decide (first ≤ a ∧ a < past)
  let gone := s.search.posts.filter (fun p => hit p.asn)
  let s := { s with
    search := { s.search with posts := s.search.posts.filter (fun p => !hit p.asn) }
    sse := { s.sse with expects := s.sse.expects.filter (fun x => !hit x.1), parents := s.sse.parents.filter (fun x => !hit x.1) } }
  let s := each gone (fun p s => dropHold (some (p.asn, p.cell)) s) s
  let s := each (gone.filterMap RxPost.stream) (fun i s => if frozen s i then s else endPost i s) s
  withdraw (fun d => d.cell.any (fun c => hit c.1)) s

/-- The time base is moved by a step in ns (R246): timeslots follow (R159), the pulse that the step ends or goes back
behind is over (R252), and the instants from which elapsed time is counted move with it (R250, R251). -/
def stepTime (d : Int) (s : State) : State :=
  let before := max s.asn (asnOf s s.now)
  let s := { s with time := { s.time with
    ns := ((s.time.ns + d) % 2 ^ 64).toNat, ppsLast := s.time.ppsLast + d, otaLast := s.time.otaLast.map (fun (c, t) => (c, t + d)) } }
  let after := asnOf s s.now
  let s := if before < after then skipCells (before + 1) (after + 1) ((s.setAsn after).add F.SSE_EVCNT1_ts_skip_cnt (after - before)) else s
  ppsCheck s

/-- A guarded acquisition refuses a step or offset above TMB_JUMP_LIMIT (R246, R249). -/
def tooFar (s : State) (d : Int) : Bool := decide (s.get F.TMB_JUMP_LIMIT_limit_ns < d.natAbs)

/-- Refuse a jump. -/
def refuseJump (s : State) : State := s.event F.TMB_STAT_jump_refused F.TMB_EVCNT_jump_refused_cnt

/-- Apply a step in ACQUIRE, or refuse it (R246). -/
def acquireStep (d : Int) (s : State) : State :=
  if s.get F.TMB_STATE_state ≠ acquire then s.event F.TMB_STAT_step_refused F.TMB_EVCNT_step_refused_cnt
  else if s.on F.TMB_STATE_guarded && tooFar s d then refuseJump s
  else enterTrack ((stepTime d s).set F.TMB_STAT_step_done 1)

/-- rearm, with or without force (R245). -/
def rearm (force : Bool) (s : State) : State :=
  let guarded := !force && modeGuards s && s.time.unfollowed
  let s := (s.set F.TMB_STATE_state acquire).set F.TMB_STATE_guarded (b2n guarded)
  if guarded then s else { s with time := { s.time with unfollowed := false } }

/-- A write of TMB_CTL (R455): its bits act in the order rearm, track, hold_enter, hold_exit, step_go. -/
def writeTmbCtl (v : Word) (s : State) : State :=
  let b (i : Nat) : Bool := v.toNat.testBit i
  let s := s.when (b 1) (rearm (b 5))
  let s := s.when (b 2) (fun s => s.when (decide (s.get F.TMB_STATE_state = acquire)) enterTrack)
  let s := s.when (b 3) (enterHoldover 1)
  let s := s.when (b 4) (fun s => s.when (decide (s.get F.TMB_STATE_state = holdover)) enterTrack)
  s.when (b 0) (fun s => acquireStep (signed 64 (s.pair F.TMB_STEP_LO_step F.TMB_STEP_HI_step)) s)

/-- A write of TMB_INC_HI (R242): held pending. -/
def writeIncHi (v : Word) (s : State) : State := { s with time := { s.time with pendingHi := some (wordField v 0 8) } }

/-- Whether an increment is in range and the holdover mode allows it (R242, R249). -/
def incAccepted (s : State) (inc : Nat) : Bool :=
  decide (0x208500000 ≤ inc ∧ inc ≤ 0x2095AAAAA) &&
    !(decide (s.get F.TMB_STATE_state = holdover) && decide (s.get F.TMB_HOLD_mode ≠ 1))

/-- Set the increment in force. -/
def setInc (inc : Nat) (s : State) : State := (s.set F.TMB_INC_LO_frac (inc % 2 ^ 32)).set F.TMB_INC_HI_int (inc / 2 ^ 32)

/-- A write of TMB_INC_LO (R242): it commits the pair, or is refused with the pending HI discarded. -/
def writeIncLo (v : Word) (s : State) : State :=
  let inc := s.time.pendingHi.getD (s.get F.TMB_INC_HI_int) * 2 ^ 32 + v.toNat
  let s := { s with time := { s.time with pendingHi := none } }
  if incAccepted s inc then setInc inc s else s.set F.TMB_STAT_inc_refused 1

/-- A rational rounded to the nearest integer. -/
def roundRat (q : Rat) : Int := (q + 1 / 2).floor

/-- The servo's action on an offset in TRACK (R250): the first offset of a candidate has no earlier one,
so its interval is left open. -/
def servo (cand : Nat) (e : Int) (s : State) : State :=
  let (dt, s) : Nat × State := match s.time.otaLast.lookup cand with
    | some t => if t < s.now then (((s.now : Int) - t).toNat, s) else (s.open 32 + 1, s.used)
    | none => (s.open 32 + 1, s.used)
  let rate : Rat := (e : Rat) * 1000000000 / (dt : Rat)
  let f := s.time.otaFreq + rate / ((2 ^ s.get F.TMB_OTA_CFG_ki : Nat) : Rat)
  let r := f + rate / ((2 ^ s.get F.TMB_OTA_CFG_kp : Nat) : Rat)
  let r := if r < -100000 then -100000 else if 100000 < r then 100000 else r
  let inc := roundRat ((0x208D55555 : Rat) * (1 + r / 1000000000))
  let s := { s with time := { s.time with otaFreq := f } }
  setInc inc.toNat (s.set F.TMB_OTA_FREQ_f (unsigned 32 (satSigned 32 (roundRat f))))

/-- An over-air offset from the active time parent (R250): `c` is the beacon's catch offset in ns. -/
def otaOffset (cand : Nat) (c : Int) (s : State) : State :=
  if s.get F.TMB_REF_src ≠ 2 then s
  else
    let e := (s.get F.TMB_OTA_CFG_prop_ns : Int) - c
    let s := s.set F.TMB_OTA_LAST_e (unsigned 32 (satSigned 32 e))
    let st := s.get F.TMB_STATE_state
    let cause := s.get F.TMB_STATE_hold_cause
    let s :=
      if st = acquire then
        (if s.on F.TMB_STATE_guarded then acquireStep e s
        else
          let s := acquireStep e s
          { s.set F.TMB_OTA_FREQ_f 0 with time := { s.time with otaFreq := 0 } })
      else if st = track then servo cand e s
      else if cause ≠ 2 ∧ cause ≠ 3 then s
      else if modeGuards s && tooFar s e then refuseJump s
      else servo cand e (enterTrack s)
    { s with time := { s.time with otaLast := (cand, (s.now : Int)) :: s.time.otaLast.filter (fun x => x.1 ≠ cand) } }

/-- A write of TMB_PPS_CFG (R251, R252): enabling the output without owning the pin is a conflict. -/
def writePpsCfg (v : Word) (s : State) : State :=
  let wasIn := s.on F.TMB_PPS_CFG_in_en
  let s := writePlain 0x80050 v s
  let s := if !wasIn && s.on F.TMB_PPS_CFG_in_en then { s with time := { s.time with ppsLast := s.now } } else s
  let s := if s.on F.TMB_PPS_CFG_out_en && decide (s.owner 2 0 ≠ 0x0200) then
      s.conflict F.TMB_CONFLICT_conflict F.TMB_STAT_conflict (s.owner 2 0) 2 0 else s
  let s := if s.on F.TMB_PPS_CFG_out_en then s else { s with time := { s.time with ppsOn := false } }
  drivePps s

/-- SYNCE_OUT carries the divided receive clock of its port, or is held low (R253). -/
def synceTo (active : Bool) (s : State) : State :=
  (s.set F.TMB_SYNCE_active (b2n active)).emit (.synce (s.get F.TMB_SYNCE_port) (max 1 (s.get F.TMB_SYNCE_div)) active)

/-- Whether the time base drives SYNCE_OUT: enabled and owner of the pin (R253). -/
def synceDrives (s : State) : Bool := s.on F.TMB_SYNCE_en && decide (s.owner 2 1 = 0x0201)

/-- A write of TMB_SYNCE (R253): a source port that is down or unlocked leaves the output low. -/
def writeSynce (v : Word) (s : State) : State :=
  let s := writePlain 0x80064 v s
  if !s.on F.TMB_SYNCE_en then synceTo false s
  else if s.owner 2 1 ≠ 0x0201 then
    (synceTo false s).conflict F.TMB_CONFLICT_conflict F.TMB_STAT_conflict (s.owner 2 1) 2 1
  else
    let p := s.get F.TMB_SYNCE_port
    if s.on (F.ETH_STATUS_link_up p) && s.on (F.ETH_STATUS_rx_clk_lock p) then synceTo true s
    else (synceTo false s).set F.TMB_STAT_synce_lost 1

/-- The source port of SYNCE_OUT loses its link or its receive clock (R253, R406). -/
def synceLoses (p : Nat) (s : State) : State :=
  if synceDrives s && decide (s.get F.TMB_SYNCE_port = p) then (synceTo false s).set F.TMB_STAT_synce_lost 1 else s

/-- A write to a TMB register. -/
def writeTmb (off : Nat) (v : Word) (s : State) : State :=
  if off = 0x8000C then writeTmbCtl v s
  else if off = 0x80020 then writeIncLo v s
  else if off = 0x80024 then writeIncHi v s
  else if off = 0x80050 then writePpsCfg v s
  else if off = 0x80064 then writeSynce v s
  else if (off = 0x80070 ∨ off = 0x80074) ∧ s.on F.TMB_TS_CFG_en then s
  else if off = 0x80078 ∧ s.on F.TMB_TS_CFG_en then s.set F.TMB_TS_CFG_en (wordField v 31 1)
  else writePlain off v s

/-- A write of a TMB register behind the fence (R372). -/
def tmbWrite (initiator off : Nat) (v : Word) (s : State) : State :=
  gated ⟨initiator, off, true, v⟩ (writeTmb off v) s

/-- TMB_INC_HI_WRITE (R242). -/
def execTmbIncHiWrite (initiator : Nat) (value : Word) (s : State) : Host.Outcome State Fault Refusal :=
  run (tmbWrite initiator 0x80024 value) s

/-- TMB_INC_COMMIT (R242): a write of TMB_INC_LO. -/
def execTmbIncCommit (initiator : Nat) (value : Word) (s : State) : Host.Outcome State Fault Refusal :=
  run (tmbWrite initiator 0x80020 value) s

/-- TMB_STEP (R246). -/
def execTmbStep (initiator : Nat) (s : State) : Host.Outcome State Fault Refusal :=
  run (tmbWrite initiator 0x8000C 0x01#32) s

/-- TMB_REARM (R245). -/
def execTmbRearm (initiator : Nat) (force : Bool) (s : State) : Host.Outcome State Fault Refusal :=
  run (tmbWrite initiator 0x8000C (if force then 0x22#32 else 0x02#32)) s

/-- TMB_TRACK (R245). -/
def execTmbTrack (initiator : Nat) (s : State) : Host.Outcome State Fault Refusal :=
  run (tmbWrite initiator 0x8000C 0x04#32) s

/-- TMB_HOLD_ENTER (R248). -/
def execTmbHoldEnter (initiator : Nat) (s : State) : Host.Outcome State Fault Refusal :=
  run (tmbWrite initiator 0x8000C 0x08#32) s

/-- TMB_HOLD_EXIT (R245). -/
def execTmbHoldExit (initiator : Nat) (s : State) : Host.Outcome State Fault Refusal :=
  run (tmbWrite initiator 0x8000C 0x10#32) s

/-- An edge of PPS_IN reaches the timer channels that capture it and the time base's capture (R251, R273). -/
def ppsInEdge (s : State) : State :=
  let s := captureInput 32 true s
  if !s.on F.TMB_PPS_CFG_in_en then s
  else
    let s := s.setIf (s.on F.TMB_PPS_CAP_ST_new || s.time.ppsGap) F.TMB_PPS_CAP_ST_ovr 1
    let s := s.setPair F.TMB_PPS_CAP_LO_ns F.TMB_PPS_CAP_HI_ns s.now
    let s := (s.set F.TMB_PPS_CAP_ST_new 1).set F.TMB_PPS_CAP_ST_seq (s.get F.TMB_PPS_CAP_ST_seq + 1)
    { s with time := { s.time with ppsLast := s.now, ppsGap := false } }

/-- PPS_IN_EDGE (R251). -/
def execPpsInEdge (s : State) : Host.Outcome State Fault Refusal := run ppsInEdge s

/-- PPS_IN_LOST (R251): 1.5 s without an edge. -/
def execPpsInLost (s : State) : Host.Outcome State Fault Refusal :=
  run (fun s => s.when (s.on F.TMB_PPS_CFG_in_en) (fun s =>
    let s := (s.reach (s.time.ppsLast + 1500000000).toNat).set F.TMB_STAT_pps_lost 1
    let s := { s with time := { s.time with ppsLast := s.time.ppsLast + 1500000000 } }
    s.when (decide (s.get F.TMB_REF_src = 1)) (enterHoldover 4))) s

/-- The read of TMB_PPS_CAP_LO clears NEW (R251). -/
def readPpsCap (s : State) : Word × State := (s.reg 0x80058, s.set F.TMB_PPS_CAP_ST_new 0)

/-- PPS_CAP_READ (R251). -/
def execPpsCapRead (initiator : Nat) (s : State) : Host.Outcome State Fault Refusal :=
  run (gated ⟨initiator, 0x80058, false, 0#32⟩ (fun s => let (w, s) := readPpsCap s; s.emit (.read w))) s

/-- The next rising instant of PPS_OUT that the time base has not passed: not the one at which it rose just now. -/
def nextRise (s : State) : Int :=
  let n := ((s.now : Int) - ppsOffset s + 999999999) / 1000000000
  let t := n * 1000000000 + ppsOffset s
  if t = s.time.ppsRise ∧ t = s.now then t + 1000000000 else t

/-- PPS_OUT_RISE (R252). -/
def execPpsOutRise (s : State) : Host.Outcome State Fault Refusal :=
  run (fun s => s.when (ppsDrives s) (fun s => let t := nextRise s; ppsRises t (s.reach t.toNat))) s

/-- PPS_OUT_END (R252). -/
def execPpsOutEnd (s : State) : Host.Outcome State Fault Refusal :=
  run (fun s => s.when s.time.ppsOn (fun s => ppsEnds (s.reach (s.time.ppsRise + ppsWidth s).toNat))) s

/-- SYNCE_RESUME (R253): 1 ms after the source port's receive clock locks. -/
def execSynceResume (s : State) : Host.Outcome State Fault Refusal :=
  run (fun s =>
    let p := s.get F.TMB_SYNCE_port
    s.when (synceDrives s && s.on (F.ETH_STATUS_link_up p)) (fun s => synceTo true (s.set (F.ETH_STATUS_rx_clk_lock p) 1))) s

/-- One tick of the time base (R241), with the boundaries its counting reaches (R247, R252, R262). -/
def tickTime (s : State) : State :=
  let old := s.time.ns
  let s := timeTick s
  let t := ((s.now : Int) - ppsOffset s) / 1000000000 * 1000000000 + ppsOffset s
  let s := s.when (ppsDrives s && decide ((old : Int) < t)) (ppsRises t)
  ppsCheck s

/-! Transmit timestamps (R259, R260). -/

/-- A transmit timestamp descriptor. -/
structure TxStamp where
  oneStep : Bool
  udp : Bool
  port : Nat
  msg : Nat
  seqId : Nat
  domain : Nat
  tag : Nat
  stamp : Nat
  deriving DecidableEq, Repr

/-- Lose a timestamp descriptor (R260). -/
def loseStamp (s : State) : State :=
  let s := (s.inc F.TMB_TS_LOST_CNT_count).event F.TMB_STAT_ts_gap F.TMB_EVCNT_ts_gap_cnt
  { s with time := { s.time with tsGap := true } }

/-- Write a timestamp descriptor to the ring, or lose it on a full one (R259, R260). -/
def pushStamp (x : TxStamp) (s : State) : State :=
  let n := 2 ^ clamp 4 12 (s.get F.TMB_TS_CFG_log2_size)
  let h := s.get F.TMB_TS_HEAD_index % n
  if !s.on F.TMB_TS_CFG_en then s
  else if (h + 1) % n = s.get F.TMB_TS_TAIL_index % n then loseStamp s
  else
    let flags := b2n x.oneStep + 2 * b2n x.udp + 4 * b2n s.time.tsGap
    let d := leBytes 1 1 ++ leBytes 1 flags ++ leBytes 1 x.port ++ leBytes 1 x.msg ++ leBytes 2 x.seqId ++
      leBytes 1 x.domain ++ leBytes 1 0 ++ leBytes 4 x.tag ++ leBytes 4 0 ++ leBytes 8 x.stamp ++ leBytes 8 0
    let a := s.pair F.TMB_TS_BASE_LO_addr F.TMB_TS_BASE_HI_addr / 32 * 32 + 32 * h
    let (_, s) := dramStore 6 a d s
    let s := { s.set F.TMB_TS_HEAD_index ((h + 1) % n) with time := { s.time with tsGap := false } }
    ringVector 34 0x08 s

end Sys2Proof.Machine
end

