-- ==== Sys2Proof/Machine/Ports.lean ====
section
/-!
DEFINITION. Frames on their way through Bough and into the queues: Ethernet port queues and flooding (R216,
R232, R408), virtual queues and spill (R228 to R230), and the exception path (R221).
-/

namespace Sys2Proof.Machine

/-- A frame on its way: where it came in (0 to 3 an Ethernet port, 4 the host, 5 the mesh), its VLAN and
priority, the stamp of its arrival, the tag of a host descriptor, whether it is metered yellow, the cells it
holds with the allocation they are charged to, the desc_seq of a mesh frame, and whether the relay sends it. -/
structure Passage where
  ingress : Nat
  vlan : Nat
  pcp : Nat
  dei : Nat
  stamp : Nat
  tag : Nat
  yellow : Bool
  alloc : Nat
  cells : List Nat
  seq : Nat
  relay : Bool := false
  tagged : Option Bool := none
  transparent : Bool := false
  deriving DecidableEq, Repr

/-- What becomes of a frame, for the status of a host descriptor (R234): 0 OK, 1 NO_CELL, 2 BAD_DESC,
4 VQ_FULL. -/
abbrev Fate := Nat × State

/-- Drop a frame with a cause (R226). -/
def dropFrame (c : Passage) (cause : Nat) (s : State) : State := countDrop cause (freeCells c.alloc c.cells s)

/-- Whether a yellow frame may not enter an allocation (R239). -/
def yellowBar (s : State) (k : Nat) : Bool :=
  let lim := s.get (F.TRF_POOL_LIM_limit k)
  let bound := if lim = 0 then s.get F.TRF_CELLS_cells else lim
  decide (min 100 (s.get F.TRF_CFG_yellow_pct) * bound ≤ s.get (F.TRF_POOL_USED_used k) * 100)

/-- Pass a frame to firmware through the exception path (R221); `addr` is the grove leaf address, 0 where
it is not known. -/
def exception (reason addr : Nat) (c : Passage) (frame : List Byte) (s : State) : Fate :=
  let h := leBytes 1 reason ++ leBytes 1 c.ingress ++ leBytes 2 c.vlan ++ leBytes 4 addr ++ leBytes 4 c.seq ++ leBytes 4 0
  let s := (s.inc (F.BGH_EXC_CNT_count reason)).set F.BGH_STAT_exc 1
  if c.yellow && yellowBar s 5 then (0, dropFrame c 3 s)
  else (0, toHost (s.get F.BGH_CFG_exc_q) 2 c.alloc (h ++ frame) c.stamp c.cells s)

/-! Ethernet ports. -/

/-- Whether a port carries a VLAN (R407, R408). -/
def carries (s : State) (p v : Nat) : Bool := bit (s.get (F.ETH_VLAN_MEMB_memb p (v / 32))) (v % 32)

/-- Whether a frame leaves a port untagged (R408): one of the port's own VLAN does, and so does an uplink frame that Bough framed
without a tag (R219; DEDUCED, notes/assumptions/133). -/
def leavesUntagged (s : State) (p v : Nat) (tagged : Option Bool) : Bool :=
  decide (tagged = some false ∨ v = s.get (F.ETH_CFG_def_vlan p))

/-- The length of a frame on the wire, FCS included. -/
def wireLength (s : State) (p v : Nat) (tagged : Option Bool) (n : Nat) : Nat :=
  n + 4 + (if leavesUntagged s p v tagged then 0 else 4)

/-- Longest frame of a port (ETH_MAXFRAME). -/
def maxFrame (s : State) (p : Nat) : Nat := clamp 64 9728 (s.get (F.ETH_MAXFRAME_bytes p))

/-- The queue of a priority (R232). -/
def pcpQueue (s : State) (pcp : Nat) : Nat := bits (s.get F.TRF_PCP_MAP_map) (3 * pcp) 3

/-- The priority a frame has at a port: 8 stands for the port's default (R232). -/
def pcpAt (s : State) (p pcp : Nat) : Nat := if pcp = 8 then s.get (F.ETH_CFG_def_pcp p) else pcp

/-- Why a port takes no frame (R232, R239, R408): the fate, and the cause of the drop that is counted. -/
def portBars (p : Nat) (c : Passage) (n : Nat) (s : State) : Option (Nat × Option Nat) :=
  if !s.on (F.ETH_STATUS_link_up p) then some (0, some 7)
  else if c.ingress = 4 ∧ maxFrame s p < wireLength s p c.vlan c.tagged n then some (2, none)
  else if c.yellow && yellowBar s 4 then some (0, some 3)
  else none

/-- Count a drop that has a cause. -/
def countCause (cause : Option Nat) (s : State) : State := match cause with | some k => countDrop k s | none => s

/-- Put a frame in a queue of a port (R226, R232, R239, R408). -/
def toPort (p q : Nat) (c : Passage) (frame : List Byte) (s : State) : Fate :=
  match portBars p c frame.length s with
  | some (fate, cause) => (fate, countCause cause (freeCells c.alloc c.cells s))
  | none =>
    match moveCharge c.alloc 4 c.cells.length s with
    | none => (1, dropFrame c 0 s)
    | some s =>
      let s := syncShapers s
      let k := 8 * p + q
      let old := tabGet s.traffic.ports k []
      let f : PortFrame := ⟨frame, c.vlan, pcpAt s p c.pcp, c.dei, c.ingress, c.stamp, c.tag, c.relay, c.cells, c.tagged, c.transparent⟩
      let s := { s with traffic := { s.traffic with ports := tabPut s.traffic.ports k (old ++ [f]) } }
      (0, if old.isEmpty then { s with traffic := { s.traffic with portSince := tabPut s.traffic.portSince k s.now } } else s)

/-- The first fate that is not OK. -/
def worse (a b : Nat) : Nat := if a = 0 then b else a

/-- Send copies of a frame to several ports: each copy but the last takes its own cells. -/
def toPorts (ps : List Nat) (q : Option Nat) (c : Passage) (frame : List Byte) (s : State) : Fate :=
  match ps with
  | [] => (0, freeCells c.alloc c.cells s)
  | [p] => toPort p (q.getD (pcpQueue s (pcpAt s p c.pcp))) c frame s
  | p :: rest =>
    let (a, s) := match portBars p c frame.length s with
      | some (fate, cause) => (fate, countCause cause s)
      | none =>
        match allocCells 4 frame.length s with
        | (none, s) => (1, countDrop 0 s)
        | (some x, s) =>
          toPort p (q.getD (pcpQueue s (pcpAt s p c.pcp))) { c with alloc := 4, cells := x, yellow := false } frame s
    let (b, s) := toPorts rest q c frame s
    (worse a b, s)

/-- Flood a frame to the other ports that carry its VLAN (R216, R408). -/
def flood (q : Option Nat) (c : Passage) (frame : List Byte) (s : State) : Fate :=
  toPorts ((upTo 4).filter (fun p => decide (p ≠ c.ingress) && carries s p c.vlan)) q c frame s

/-- The key of a MAC address and a VLAN (R199). -/
def macKey (mac vlan : Nat) : Nat := mac % 2 ^ 48 + vlan % 4096 * 2 ^ 48

/-- A frame with its tag, as a host queue shows it. -/
def withTag (c : Passage) (frame : List Byte) : List Byte :=
  frame.take 12 ++ [0x81#8, 0#8] ++ beBytes 2 (c.pcp % 8 * 2 ^ 13 + c.dei * 2 ^ 12 + c.vlan) ++ frame.drop 12

/-- Bridge a frame by its destination (R216): a queue of its own for uplink frames, else by priority.  A frame
that learning found no room for floods instead of going to a port (R207); one whose destination stands behind its own ingress
port has no forwarding that could become a flood, and is dropped as always (DESIGN CHOICE, notes/assumptions/162). -/
def bridge (force : Bool) (q : Option Nat) (c : Passage) (frame : List Byte) (s : State) : Fate :=
  let (hit, s) := lookup 1 (macKey (beAt frame 0 6) c.vlan) s
  let port := match hit with | some e => if e.toPort then some (e.target % 8) else none | none => none
  match port with
  | some t =>
    if t = c.ingress then (0, freeCells c.alloc c.cells s)
    else if t = 4 then
      if c.yellow && yellowBar s 5 then (0, dropFrame c 3 s)
      else (0, toHost (s.open 3) 0 c.alloc (withTag c frame) c.stamp c.cells s.used)
    else if force then flood q c frame s
    else toPort t (q.getD (pcpQueue s (pcpAt s t c.pcp))) c frame s
  | none => flood q c frame ((s.inc F.BGH_MISS_FLOOD_CNT_count).set F.BGH_STAT_miss_flood 1)

/-- Drop everything queued to a port (R232). -/
def dropPort (p : Nat) (s : State) : State :=
  let s := syncShapers s
  each (upTo 8) (fun q s =>
    let k := 8 * p + q
    let fs := tabGet s.traffic.ports k []
    let s := { s with traffic := { s.traffic with ports := tabErase s.traffic.ports k, portSince := tabErase s.traffic.portSince k } }
    each fs (fun f s => countDrop 7 (freeCells 4 f.cells s)) s) s

/-! Virtual queues. -/

/-- The virtual queue of a neighbour. -/
def vqueue (s : State) (lid : Nat) : List VqFrame := tabGet s.traffic.vqs lid []

/-- Replace a virtual queue; a queue whose head changes begins its waits anew (R178, R240). -/
def putVq (lid : Nat) (q : List VqFrame) (newHead : Bool) (s : State) : State :=
  let s := syncShapers s
  let t := s.traffic
  if q.isEmpty then
    let t := { t with vqs := tabErase t.vqs lid, vqSince := tabErase t.vqSince lid, vqPause := tabErase t.vqPause lid,
                      fetchDue := tabErase t.fetchDue lid, fetchWait := tabErase t.fetchWait lid }
    { s with traffic := t, sse := { s.sse with waitFrom := tabErase s.sse.waitFrom lid } }
  else
    let t := { t with vqs := tabPut t.vqs lid q }
    if newHead then
      let pause := if schedulable s lid then tabErase t.vqPause lid else tabPut t.vqPause lid s.now
      let t := { t with vqSince := tabPut t.vqSince lid s.now, vqPause := pause }
      { s with traffic := t, sse := { s.sse with waitFrom := tabPut s.sse.waitFrom lid s.now } }
    else { s with traffic := t }

/-- Address of a spill slot (R229). -/
def spillAddr (s : State) (k : Nat) : Nat := s.pair F.TRF_SPILL_BASE_LO_addr F.TRF_SPILL_BASE_HI_addr / 4096 * 4096 + 2560 * k

/-- Set the spill slots in use. -/
def setSpill (l : List Nat) (s : State) : State :=
  ({ s with traffic := { s.traffic with slots := l } }).set F.TRF_SPILL_USED_used l.length

/-- A free spill slot: which of them is left open. -/
def freeSlot (s : State) : Option Nat :=
  let n := s.get F.TRF_SPILL_SIZE_slots
  if n ≤ s.traffic.slots.length then none else some (nextCell s.traffic.slots n (s.open 24) (s.traffic.slots.length + 1))

/-- Frames of a queue held on chip. -/
def onChip (q : List VqFrame) : Nat := (q.filter (fun f => f.spilled.isNone)).length

/-- Spill a frame to DRAM (R229).  R234 has no status for a host frame that finds no slot: it completes as NO_CELL (DESIGN
CHOICE, notes/assumptions/165). -/
def spillFrame (lid : Nat) (f : VqFrame) (c : Passage) (s : State) : Fate :=
  match freeSlot s with
  | none => (1, dropFrame c 2 s)
  | some k =>
    let (_, s) := dramStore 6 (spillAddr s k) (f.payload.take 2560) s.used
    let s := setSpill (s.traffic.slots ++ [k]) (freeCells c.alloc c.cells s)
    (0, putVq lid (vqueue s lid ++ [{ f with spilled := some k, cells := [] }]) false s)

/-- Whether a 6LoWPAN payload goes to a multicast address: such a frame is a broadcast one (R176), PRESUMED, entry
129. -/
def isBroadcast (payload : List Byte) : Bool :=
  if byteAt payload 0 = 0x41 then decide (byteAt payload 25 = 0xFF)
  else decide (byteAt payload 0 / 32 = 3) && (byteAt payload 1).testBit 3

/-- Queue a frame to a neighbour's virtual queue (R226, R228, R229, R239). -/
def toVq (lid cls : Nat) (c : Passage) (payload : List Byte) (s : State) : Fate :=
  let q := vqueue s lid
  let f : VqFrame :=
    ⟨payload, cls, c.ingress, leBytes 2 c.vlan ++ leBytes 8 c.stamp, none, c.cells, 0, false, isBroadcast payload⟩
  if max 1 (s.get F.TRF_VQ_CFG_max_frames) ≤ q.length then (4, dropFrame c 1 s)
  else if c.yellow && yellowBar s 3 then (0, dropFrame c 3 s)
  else if q.isEmpty then
    match moveCharge c.alloc 3 c.cells.length s with
    | some s => (0, putVq lid [f] true s)
    | none => (1, dropFrame c 0 s)
  else if max 1 (s.get F.TRF_VQ_CFG_onchip) ≤ onChip q then spillFrame lid f c s
  else
    match moveCharge c.alloc 3 c.cells.length s with
    | some s => (0, putVq lid (q ++ [f]) false s)
    | none => spillFrame lid f c s

/-- What becomes of the fetch of a queue (R230): it waits for a DOWNLINK cell, with the addresses that read uncorrectable, or it
has ended, and one fewer is due where one was made. -/
def setFetch (lid : Nat) (wait : Option (List Nat)) (made : Bool) (s : State) : State :=
  let t := s.traffic
  let n := tabGet t.fetchDue lid 0 - b2n made
  { s with traffic := { t with
    fetchWait := match wait with | some ue => tabPut t.fetchWait lid ue | none => tabErase t.fetchWait lid
    fetchDue := if n = 0 then tabErase t.fetchDue lid else tabPut t.fetchDue lid n } }

/-- Fetch the oldest spilled frame of a queue back on chip (R230) for a frame that has left it, the head in any case (R229); one
that reads uncorrectable is dropped and the next is fetched, and one that finds no cell waits for it. -/
def fetchSpilled (fuel lid : Nat) (ue : List Nat) (s : State) : State :=
  match fuel with
  | 0 => setFetch lid none true s
  | fuel + 1 =>
    let q := vqueue s lid
    match q.zipIdx.find? (fun (f, _) => f.spilled.isSome) with
    | none => setFetch lid none true s
    | some (f, i) =>
      let k := f.spilled.getD 0
      if i ≠ 0 ∧ tabGet s.traffic.fetchDue lid 0 = 0 then setFetch lid none false s
      else
        match allocCells 3 f.payload.length s with
        | (none, _) => setFetch lid (some ue) false s
        | (some x, s1) =>
          let (data, s) := dramFetch ue 6 (spillAddr s1 k) (min 2560 f.payload.length) s1
          let s := setSpill (s.traffic.slots.filter (fun n => n ≠ k)) s
          match data with
          | some l => setFetch lid none true (putVq lid (listSet q i { f with payload := l, spilled := none, cells := x }) false s)
          | none => fetchSpilled fuel lid ue (countDrop 6 (freeCells 3 x (putVq lid (q.eraseIdx i) (decide (i = 0)) s)))

/-- DOWNLINK cells have been released: the fetches that wait for one are tried again (R230). -/
def retryFetches (s : State) : State :=
  each s.traffic.fetchWait (fun x s => fetchSpilled (vqueue s x.1).length x.1 x.2 s) s

/-- Take the head frame off a virtual queue, and release its cells unless they go on with it (R228); a fetch is due to what it
leaves spilled (R230). -/
def popVq (lid : Nat) (release : Bool) (s : State) : State :=
  match vqueue s lid with
  | [] => s
  | f :: rest =>
    let s := putVq lid rest true s
    let s := s.when (rest.any (fun g => g.spilled.isSome)) (fun s =>
      { s with traffic := { s.traffic with fetchDue := tabMod s.traffic.fetchDue lid 0 (· + 1) } })
    if release then retryFetches (freeCells 3 f.cells s) else s

/-- Return the head frame of a virtual queue to firmware undelivered (R221, R228). -/
def undelivered (lid : Nat) (s : State) : State :=
  match vqueue s lid with
  | [] => s
  | f :: _ =>
    let c : Passage := ⟨f.ingress, leAt f.header 0 2, 0, 0, leAt f.header 2 8, 0, false, 3, f.cells, 0, false, none, false⟩
    retryFetches (exception 0x0F (s.get F.GRV_CFG_router_id * 2 ^ 17 + lid) c f.payload (popVq lid false s)).2

/-- SPILL_FETCH (R230): a frame has left a virtual queue; `ue` lists DRAM addresses that read uncorrectable. -/
def execSpillFetch (lid : Nat) (ue : List Nat) (s : State) : Host.Outcome State Fault Refusal :=
  run (fun s => fetchSpilled (vqueue s lid).length lid ue s) s

end Sys2Proof.Machine
end

