-- ==== Sys2Proof/Machine/Grove.lean ====
section
/-!
DEFINITION. Grove federation (R351 to R363): messages and their tags, versions, heartbeats, ownership of sets
and adoption.
-/

namespace Sys2Proof.Machine

/-! Sending. -/

/-- BGH_MAC. -/
def routerMac (s : State) : Nat := s.get F.BGH_MAC_LO_mac + s.get F.BGH_MAC_HI_mac * 2 ^ 32

/-- This router's ID (R351). -/
def routerId (s : State) : Nat := s.get F.GRV_CFG_router_id

/-- An address held in four registers, bytes in network order. -/
def addrOf (s : State) (f : Nat → Fld) : List Byte := (upTo 4).flatMap (fun j => leBytes 4 (s.get (f j)))

/-- Own address, and a peer's. -/
def ownAddr (s : State) : List Byte := addrOf s F.GRV_SRC_ADDR_addr
def peerAddr (s : State) (r : Nat) : List Byte := addrOf s (F.GRV_PEER_ADDR_addr r)

/-- The one's-complement checksum of bytes taken as 16-bit words. -/
def onesSum (l : List Byte) : Nat :=
  match l with
  | a :: b :: rest => (a.toNat * 256 + b.toNat + onesSum rest)
  | [a] => a.toNat * 256
  | [] => 0

/-- A sum folded to 16 bits. -/
def fold16 (x : Nat) : Nat := if x = 0 then 0 else (x - 1) % 65535 + 1

/-- A UDP datagram with its checksum over the IPv6 pseudo-header. -/
def udpDatagram (src dst : List Byte) (sp dp : Nat) (payload : List Byte) : List Byte :=
  let n := 8 + payload.length
  let h := beBytes 2 sp ++ beBytes 2 dp ++ beBytes 2 n
  let sum := fold16 (onesSum (src ++ dst ++ beBytes 4 n ++ beBytes 4 17 ++ h ++ [0#8, 0#8] ++ payload))
  let c := if sum = 65535 then 65535 else 65535 - sum
  h ++ beBytes 2 c ++ payload

/-- A UDP datagram to a peer in an untagged Ethernet frame (R351).  Traffic class, flow label and hop limit are left open. -/
def peerFrame (s : State) (r : Nat) (payload : List Byte) : List Byte :=
  let port := s.get F.GRV_PORT_port
  let u := udpDatagram (ownAddr s) (peerAddr s r) port port payload
  let ip := beBytes 4 (6 * 2 ^ 28 + s.open 36 / 256) ++ beBytes 2 u.length ++ [17#8] ++ leBytes 1 (s.open 36) ++ ownAddr s ++ peerAddr s r ++ u
  beBytes 6 (s.get (F.GRV_PEER_MAC_LO_mac_lo r) + s.get (F.GRV_PEER_CFG_mac_hi r) * 2 ^ 32) ++ beBytes 6 (routerMac s)
    ++ [0x86#8, 0xDD#8] ++ ip

/-- Send a datagram of the part's own to a peer by port queue 0 (R351). -/
def sendToPeer (r : Nat) (relay : Bool) (payload : List Byte) (s : State) : State :=
  let frame := peerFrame s r payload
  let s := s.used
  let tci := s.open 4
  let (cells, s) := allocCells 4 frame.length s.used
  match cells with
  | none => countDrop 0 s
  | some x => (bridge false (some 0) ⟨5, s.get (F.GRV_PEER_CFG_vlan r), tci % 8, tci / 8, 0, 0, false, 4, x, 0, relay, none, false⟩ frame s).2

/-- The tag key (R351): the key of a valid slot of usage GROVE that has not expired; a locked Heartwood gives none (R303). -/
def groveKey (s : State) : Option (List Byte) :=
  let i := s.get F.GRV_CFG_slot
  if s.on F.HWD_STATUS_locked then none else if (slotCheck s i 3 none).isNone then slotKey s i else none

/-- Use the tag key (R286): a failed check of its slot is counted. -/
def useGroveKey (s : State) : Option (List Byte) × State :=
  if s.on F.HWD_STATUS_locked then (none, s)
  else
    let s := (useSlot (s.get F.GRV_CFG_slot) 3 none s).2
    (groveKey s, s)

/-- The tag of a message (R351). -/
def groveTag (key msg : List Byte) : List Byte := Config.kmac256 key msg (ascii "BX7160 GROVEMSG") 16

/-- The highest version this router offers. -/
def ownVersion (s : State) : Nat := if s.get F.GRV_CFG_ver_max = 1 then 1 else 2

/-- Send a grove message to a peer: nothing while GRV_CFG.en is 0 or without a usable slot (R351). -/
def sendMessage (r type : Nat) (body : List Byte) (s : State) : State :=
  let (key, s) := if s.on F.GRV_CFG_en then useGroveKey s else (none, s)
  match key with
  | none => s
  | some key =>
    let ver := if type ≤ 2 then ownVersion s else s.get (F.GRV_PEER_STATUS_ver r)
    let m := leBytes 1 type ++ leBytes 1 ver ++ [0#8] ++ leBytes 1 (routerId s) ++ leBytes 4 (s.get F.GRV_GROVE_ID_grove_id)
      ++ leBytes 4 s.nv.boots ++ leBytes 4 s.grove.txSeq ++ leBytes 2 body.length ++ [0#8, 0#8] ++ body
    let s := { s with grove := { s.grove with txSeq := (s.grove.txSeq + 1) % 2 ^ 32 } }
    sendToPeer r (decide (0x40 ≤ type)) (m ++ groveTag key m) s

/-- State of a peer: 0 DOWN, 1 UP, 2 DEAD, 3 INCOMPATIBLE. -/
def peerState (s : State) (r : Nat) : Nat := s.get (F.GRV_PEER_STATUS_state r)

/-- What the part knows of a peer beyond its registers. -/
def State.peer (s : State) (r : Nat) : PeerState := tabGet s.grove.peers r {}
def State.setPeer (s : State) (r : Nat) (p : PeerState) : State := { s with grove := { s.grove with peers := tabPut s.grove.peers r p } }

/-- The enabled peers in a state. -/
def peersIn (s : State) (st : Nat) : List Nat :=
  (upTo 64).filter (fun r => s.on (F.GRV_PEER_CFG_en r) && decide (peerState s r = st))

/-- The sets BGH_SET shows owned by a router, in order of set ID; this router's own only while it serves
them. -/
def setsOf (s : State) (r : Nat) : List Nat :=
  s.regs.filterMap (fun (o, w) =>
    if 0x368004 ≤ o ∧ o < 0x370000 ∧ o % 8 = 4 ∧ w.toNat.testBit 31 ∧ w.toNat % 64 = r
      ∧ ¬(r = routerId s ∧ w.toNat.testBit 30) then some ((o - 0x368004) / 8) else none)

/-- The OWN entry of a set (R353). -/
def ownEntry (s : State) (set : Nat) : List Byte := leBytes 2 set ++ [0#8, 0#8] ++ leBytes 4 (s.get (F.BGH_SET0_epoch set))

/-- own_sum over the sets of a router (R353). -/
def ownSum (s : State) (r : Nat) : List Byte := (Config.shake256 ((setsOf s r).flatMap (ownEntry s)) 32).take 8

/-- Send OWN for the sets this router owns (R353, R354). -/
def sendOwn (r : Nat) (s : State) : State :=
  let sets := setsOf s (routerId s)
  sendMessage r 4 (leBytes 2 sets.length ++ [0#8, 0#8] ++ sets.flatMap (ownEntry s)) s

/-- Send HELLO (R354). -/
def sendHello (r : Nat) (s : State) : State :=
  let s := s.setPeer r { s.peer r with helloAt := some s.now }
  sendMessage r 1 ([1#8] ++ leBytes 1 (ownVersion s) ++ [0#8, 0#8]) s

/-! Ownership (R359). -/

/-- Apply an OWN entry of a sender (R359). -/
def applyOwn (sender : Nat) (e : List Byte) (s : State) : State :=
  let set := leAt e 0 2 % 4096
  let released := bit (byteAt e 2) 0
  let epoch := leAt e 4 4
  let valid := s.on (F.BGH_SET1_valid set)
  let owner := s.get (F.BGH_SET1_owner set)
  let cur := s.get (F.BGH_SET0_epoch set)
  if cur < epoch ∨ valid = false ∨ (epoch = cur ∧ owner ≠ sender ∧ sender < owner) ∨ (released = true ∧ epoch = cur ∧ owner = sender) then
    let mine := valid && decide (owner = routerId s)
    let was := setServed s set
    let s := (noteEpoch set epoch s).set (F.BGH_SET0_epoch set) epoch
    let s := (s.set (F.BGH_SET1_valid set) (b2n (!released))).set (F.BGH_SET1_owner set) sender
    let s := s.set (F.BGH_SET1_standby set) (b2n mine)
    let s := if mine then s.event F.GRV_STAT_standby F.GRV_EVCNT_standby_cnt else s
    followSet was set (s.set F.GRV_STAT_own_rx 1)
  else s

/-! Death and adoption (R357, R362). -/

/-- Mark an adoption due. -/
def adoptDue (r : Nat) (s : State) : State :=
  let f := if r < 32 then F.GRV_ADOPT_DUE_LO_due else F.GRV_ADOPT_DUE_HI_due
  (s.set f (setBit (s.get f) (r % 32))).set F.GRV_STAT_adopt_due 1

/-- A peer is declared DEAD. -/
def peerDead (r : Nat) (s : State) : State :=
  let s := (s.set (F.GRV_PEER_STATUS_state r) 2).event F.GRV_STAT_peer_dead F.GRV_EVCNT_dead_cnt
  let s := ringNote 0x40 (leBytes 1 r) false s
  let rank := s.get (F.GRV_PEER_CFG_spare_rank r)
  if rank = 1 then adoptDue r s
  else if rank = 2 then
    let sets := (setsOf s r).map (fun n => (n, s.get (F.BGH_SET0_epoch n)))
    { s with grove := { s.grove with rank2 := s.grove.rank2 ++ [(r, s.now + s.get F.GRV_RANK2_MS_delay * 1000000, sets)] } }
  else s

/-- RANK2_ADOPT_TIMER (R362): the delay after a death ends. -/
def execRank2AdoptTimer (peer : Nat) (s : State) : Host.Outcome State Fault Refusal :=
  run (fun s =>
    match s.grove.rank2.find? (fun (r, _, _) => decide (r = peer)) with
    | none => s
    | some (r, t, sets) =>
      let s := s.reach t
      let s := { s with grove := { s.grove with rank2 := s.grove.rank2.eraseP (fun (q, _, _) => decide (q = peer)) } }
      if sets.any (fun (n, e) => decide (s.get (F.BGH_SET0_epoch n) ≤ e)) then adoptDue r s else s) s

/-! Heartbeats (R356, R357). -/

/-- The body of a HEARTBEAT (R353): a version 1 one has an ASN of 0 (R355). -/
def heartbeatBody (s : State) (r : Nat) : List Byte :=
  let me := routerId s
  let flags := s.get F.SSE_AP_active + 2 * b2n (s.on F.GRF_STATUS_phase) + 4 * b2n (decide (s.get F.TMB_STATE_state = 2))
  leBytes 5 (if s.get (F.GRV_PEER_STATUS_ver r) = 1 then 0 else s.asn) ++ leBytes 1 flags ++ leBytes 2 (tsNs s / 1000)
    ++ ownSum s me ++ leBytes 2 (setsOf s me).length ++ List.replicate 6 0#8

/-- The miss limit. -/
def missLimit (s : State) : Nat := max 3 (s.get F.GRV_HB_CFG_misses)

/-- A heartbeat period of a peer ends (R357). -/
def endPeriod (r : Nat) (s : State) : State :=
  let p := s.peer r
  let s := s.setPeer r { p with beat := false }
  if p.beat then s
  else
    let s := s.inc (F.GRV_PEER_STATUS_misses r)
    if missLimit s ≤ s.get (F.GRV_PEER_STATUS_misses r) then peerDead r s else s

/-- Whether heartbeats run (R356). -/
def beats (s : State) : Bool := s.on F.GRV_CFG_en && s.on F.GRV_HB_CFG_hb_en && s.grove.unit.isSome

/-- Whether the heartbeat's unit has marked its period, or is at its top with the next count (R356). -/
def atMark (s : State) : Bool :=
  s.grove.marked || s.grove.unit.any (fun u => unitCounts s u && decide (s.get (F.TMU_CNT_count u) = s.get (F.TMU_TOP_top u)))

/-- The mark is taken: a unit at its top overflows with it. -/
def takeMark (s : State) : State :=
  let s := match s.grove.unit with
    | some u => s.when (!s.grove.marked) (wrapPresc u)
    | none => s
  { s with grove := { s.grove with marked := false } }

/-- HEARTBEAT_MARK (R351, R356, R357): the unit that the heartbeat owns and programs marks a period. -/
def execHeartbeatMark (s : State) : Host.Outcome State Fault Refusal :=
  run (fun s =>
    if beats s && atMark s then
      let s := takeMark s
      let s := each (peersIn s 1) endPeriod s
      let (key, s) := useGroveKey s
      if key.isNone then s.event F.GRV_STAT_tag_fail F.GRV_EVCNT_tag_fail_cnt
      else each (peersIn s 1) (fun r s => (sendMessage r 3 (heartbeatBody s r) s).inc F.GRV_HB_TX_CNT_count) s
    else s) s

/-- HELLO_TIMER (R354): the second of contact attempts. -/
def execHelloTimer (s : State) : Host.Outcome State Fault Refusal :=
  run (fun s =>
    if s.on F.GRV_CFG_en then
      let late := (peersIn s 3).filter (fun r => match (s.peer r).helloAt with
        | some t => decide (t + 10000000000 ≤ s.now)
        | none => true)
      each (peersIn s 0 ++ peersIn s 2 ++ late) sendHello s
    else s) s

/-- The heartbeat leaves its unit, which stops. -/
def stopBeat (s : State) : State :=
  let s := match s.grove.unit with
    | some u => s.set (F.TMU_CTL_run u) 0
    | none => s
  { s with grove := { s.grove with unit := none, marked := false } }

/-- The heartbeat programs its unit (R356): it counts milliseconds and overflows every period (notes/assumptions/155). -/
def programBeat (u : Nat) (s : State) : State :=
  let s : State := { s with grove := { s.grove with unit := some u } }
  let s := ((s.setReg (0x91004 + 0x80 * u) 0#32).set (F.TMU_TOP_top u) (clamp 10 500 (s.get F.GRV_HB_CFG_period_ms) - 1)).set (F.TMU_CNT_count u) 0
  startUnit u (setPresc u 0 0 (s.setReg (0x91000 + 0x80 * u) 0x14#32))

/-- A write of GRV_HB_CFG (R356). -/
def writeHbCfg (v : Word) (s : State) : State :=
  let s := stopBeat (s.setReg 0x46000C (v &&& 0x800FFFFF#32))
  if wordField v 31 1 = 0 then s
  else
    match firstBelow 32 (fun u => decide (s.owner 4 u = 0x0500)) with
    | some u => programBeat u s
    | none => s.conflict F.GRV_CONFLICT_conflict F.GRV_STAT_conflict (s.owner 4 0) 4 0

/-- HB_ENABLE (R356). -/
def execHbEnable (initiator : Nat) (value : Word) (s : State) : Host.Outcome State Fault Refusal :=
  run (gated ⟨initiator, 0x46000C, true, value⟩ (writeHbCfg value)) s

/-! Receiving (R352, R353). -/

/-- Drop a received message. -/
def dropMessage (c : Passage) (s : State) : State := (freeCells c.alloc c.cells s).inc F.GRV_DROP_CNT_count

/-- Put a received message in the grove queue (R353). -/
def toGroveQueue (c : Passage) (frame : List Byte) (s : State) : State :=
  if c.yellow && yellowBar s 5 then dropFrame c 3 s else toHost (s.get F.GRV_CFG_q) 0 c.alloc frame c.stamp c.cells s

/-- Whether a message is newer than the last accepted from its peer (R352). -/
def newer (p : PeerState) (boot seq : Nat) : Bool :=
  match p.last with
  | none => true
  | some (b, q) => decide (b < boot) || (decide (b = boot) && decide (q < seq))

/-- Whether a message names this grove and comes from the address of an enabled peer (R352). -/
def addressed (s : State) (src m : List Byte) : Bool :=
  let r := byteAt m 3
  s.on F.GRV_CFG_en && decide (36 ≤ m.length) && decide (leAt m 16 2 + 36 ≤ m.length)
    && decide (leAt m 4 4 = s.get F.GRV_GROVE_ID_grove_id) && decide (r < 64) && s.on (F.GRV_PEER_CFG_en r)
    && decide (peerAddr s r = src)

/-- Whether a message is newer than the last accepted one (R352), a peer that is DEAD being heard only at contact (R357). -/
def timely (s : State) (m : List Byte) : Bool :=
  let r := byteAt m 3
  newer (s.peer r) (leAt m 8 4) (leAt m 12 4) && (decide (byteAt m 0 ≤ 2) || decide (peerState s r ≠ 2))

/-- Whether the checks of R352 other than the tag hold. -/
def heard (s : State) (src m : List Byte) : Bool := addressed s src m && timely s m

/-- HELLO: the answer chooses the highest version both offer; from a peer already UP it restarts the
negotiation (R354). -/
def onHello (r : Nat) (body : List Byte) (s : State) : State :=
  let v := min (ownVersion s) (byteAt body 1)
  let chosen := if max 1 (byteAt body 0) ≤ v then v else 0
  let s := sendMessage r 2 (leBytes 1 chosen ++ [0#8, 0#8, 0#8]) s
  if peerState s r = 1 then sendHello r s else s

/-- HELLO_ACK (R354). -/
def onHelloAck (r : Nat) (body : List Byte) (s : State) : State :=
  let v := byteAt body 0
  if v = 0 then (s.set (F.GRV_PEER_STATUS_state r) 3).set F.GRV_STAT_incompatible 1
  else
    let up := decide (peerState s r = 1)
    let s := (s.set (F.GRV_PEER_STATUS_state r) 1).set (F.GRV_PEER_STATUS_ver r) v
    let s := (s.set (F.GRV_PEER_STATUS_misses r) 0).set F.GRV_STAT_contact 1
    sendOwn r (if up then s else s.setPeer r { s.peer r with beat := false })

/-- The grid check of R363. -/
def gridCheck (r : Nat) (body : List Byte) (s : State) : State :=
  let mine := asnOf s s.now
  let theirs := leAt body 0 5
  if mine ≤ theirs + 1 ∧ theirs ≤ mine + 1 ∧ leAt body 6 2 = tsNs s / 1000 then s.set (F.GRV_PEER_STATUS_grid_mismatch r) 0
  else (s.set (F.GRV_PEER_STATUS_grid_mismatch r) 1).event F.GRV_STAT_grid F.GRV_EVCNT_grid_cnt

/-- HEARTBEAT (R353, R357, R363). -/
def onHeartbeat (r ver : Nat) (body : List Byte) (s : State) : State :=
  let s := s.inc F.GRV_HB_RX_CNT_count
  let s := (s.setPeer r { s.peer r with beat := true }).set (F.GRV_PEER_STATUS_misses r) 0
  let s := if ver = 2 then gridCheck r body s else s
  if ownSum s r = slice body 8 8 then s else sendMessage r 5 [] s

/-- Check a received message (R352): whether it is accepted; an accepted one's pair is recorded, one that is
not is dropped and counted, with a tag failure shown whatever its pair. -/
def checkMessage (c : Passage) (src m : List Byte) (s : State) : Bool × State :=
  if !addressed s src m then (false, dropMessage c s)
  else
    let n := 20 + leAt m 16 2
    let r := byteAt m 3
    let (key, s) := useGroveKey s
    if key.any (fun key => decide (groveTag key (m.take n) = slice m n 16)) then
      if !timely s m then (false, dropMessage c s)
      else
      let s := s.setPeer r { s.peer r with last := some (leAt m 8 4, leAt m 12 4) }
      (true, (s.set (F.GRV_PEER_STATUS_boot_lo r) (leAt m 8 4 % 256)).set (F.GRV_PEER_SEQ_seq r) (leAt m 12 4))
    else (false, dropMessage c (s.event F.GRV_STAT_tag_fail F.GRV_EVCNT_tag_fail_cnt))

/-- What an accepted message does (R353); types that only version 2 has are not exchanged with a version 1
peer (R355). -/
def acceptMessage (c : Passage) (frame m : List Byte) (s : State) : State :=
  let r := byteAt m 3
  let t := byteAt m 0
  let body := slice m 20 (leAt m 16 2)
  let done (s : State) : State := freeCells c.alloc c.cells s
  if t = 1 then onHello r body (done s)
  else if t = 2 then onHelloAck r body (done s)
  else if t = 3 then onHeartbeat r (byteAt m 1) body (done s)
  else if t = 4 then
    toGroveQueue c frame (each (upTo (min (leAt body 0 2) ((body.length - 4) / 8))) (fun i s => applyOwn r (slice body (4 + 8 * i) 8) s) s)
  else if t = 5 ∨ (6 ≤ t ∧ t ≤ 8 ∧ s.get (F.GRV_PEER_STATUS_ver r) ≠ 1) then toGroveQueue c frame s
  else dropMessage c s

end Sys2Proof.Machine
end

