-- ==== Sys2Proof/Machine/Signatures.lean ====
section
/-!
DEFINITION. Signing, Witness statements, key updates and ring-record exports (R304 to R319), and the
command channels of Heartwood (R300, R310).
-/

namespace Sys2Proof.Machine

def stRate : Nat := 0x10
def stBadSig : Nat := 0x11
def stStale : Nat := 0x12
def stWrongDevice : Nat := 0x13
def stWrongState : Nat := 0x14
def stBadFormat : Nat := 0x15
def stUnwrapFail : Nat := 0x16
def stIndexExhausted : Nat := 0x17

/-! OTP and the keys it holds (R279, R305, R306). -/

/-- Program OTP: a bit can only be programmed, never cleared (R329). -/
def otpWrite (a : Nat) (l : List Byte) (s : State) : State :=
  { s with nv := { s.nv with otp := memWrite s.nv.otp a (List.zipWith (· ||| ·) (otpRead s a l.length) l) } }

/-- Where position `k` of the operator key lies (R305). -/
def opKeyAddr (k : Nat) : Nat := 0x0D00 + 0x60 * k

/-- The programmed positions of the operator key. -/
def opKeyPositions (s : State) : List Nat := (upTo 4).filter (fun k => !allZero (otpRead s (opKeyAddr k) 68))

/-- Whether a commit stands for the key in a position (R317, R318): a key is used from its commit, and until then the old one is
in force. -/
def opKeyCommitted (s : State) (k : Nat) : Bool :=
  (validRecords s).any (fun r =>
    if k = 0 then decide (r.kind = 3) else decide (r.kind = 6) && decide (r.material = materialDigest (otpRead s (opKeyAddr k) 68)))

/-- The position of the operator key in force (R305): the highest programmed one that is committed. -/
def opKeyActive (s : State) : Option Nat := ((opKeyPositions s).filter (opKeyCommitted s)).max?

/-- The operator key in force. -/
def operatorKey (s : State) : Option (List Byte) := (opKeyActive s).map (fun k => otpRead s (opKeyAddr k) 68)

/-- The position a rotation programs (R305, R318): one that holds the same key without a commit, else the next unprogrammed
one. -/
def rotatePosition (s : State) (key : List Byte) : Option Nat :=
  match (opKeyPositions s).find? (fun k => decide (otpRead s (opKeyAddr k) 68 = key) && !opKeyCommitted s k) with
  | some k => some k
  | none => firstBelow 4 (fun k => (opKeyPositions s).all (fun j => decide (j < k)))

/-- Show the operator key's positions (HWD_OPKEY). -/
def showOpKeys (s : State) : State :=
  (s.set F.HWD_OPKEY_programmed (maskOf (opKeyPositions s))).set F.HWD_OPKEY_active ((opKeyActive s).getD 0)

/-- The identity seeds and the ML-KEM seeds held in KS_5 to KS_9 (R284). -/
def identitySeeds (s : State) : List Byte := [5, 6, 7].flatMap (fun i => (slotKey s i).getD [])
def mlkemSeeds (s : State) : List Byte := [8, 9].flatMap (fun i => (slotKey s i).getD [])

/-- The check of an identity public key under the root (R306). -/
def idTag (s : State) (key : List Byte) : List Byte := derive256 (rootKey s) key "BX7160 IDPUB"

/-- The identity public key (R306): the one kept for the root, where its check stands, else the one computed from the seeds. -/
def identityKey (s : State) : List Byte :=
  match tabFind s.nv.idPub (rootIndex s) with
  | some (k, t) => if t = idTag s k then k else Config.publicKey 0 (identitySeeds s)
  | none => Config.publicKey 0 (identitySeeds s)

/-- HWD_DEVICE_ID in bytes. -/
def deviceId (s : State) : List Byte := bytesOfWords ((upTo 8).map (fun j => s.get (F.HWD_DEVICE_ID_bytes j)))

/-! The signing index (R307 to R309). -/

/-- Show the index and its boundary. -/
def setIndex (next resv : Nat) (s : State) : State :=
  let s := (s.set F.HWD_XMSS_NEXT_LO_idx (next % 2 ^ 32)).set F.HWD_XMSS_NEXT_HI_idx (next / 2 ^ 32 % 256)
  let s := (s.set F.HWD_XMSS_RESV_LO_boundary (resv % 2 ^ 32)).set F.HWD_XMSS_RESV_HI_boundary (resv / 2 ^ 32 % 256)
  { s with hwd := { s.hwd with nextIdx := next, resvIdx := resv } }

/-- Bytes +0 to +11 of a reservation record, and whether its CRC stands (R308). -/
def ResvRecord.bytes (r : ResvRecord) : List Byte := leBytes 8 r.boundary ++ leBytes 4 r.seq
def ResvRecord.valid (r : ResvRecord) : Bool := decide (r.crc = crc32 r.bytes)

/-- The valid reservation records of a root. -/
def reservations (s : State) (root : Nat) : List ResvRecord :=
  ((upTo 8).filterMap (fun p => tabFind s.nv.resv (8 * root + p))).filter ResvRecord.valid

/-- The highest valid reservation sequence of a root, plus 1. -/
def resvSeq (s : State) (root : Nat) : Nat := ((reservations s root).map (fun r => r.seq + 1)).foldl max 0

/-- Write a reservation record in the next position of the root (R308); `torn` leaves one whose CRC fails. -/
def writeReservation (torn : Bool) (boundary : Nat) (s : State) : State :=
  let r := rootIndex s
  let q := resvSeq s r
  let c := crc32 (leBytes 8 boundary ++ leBytes 4 q)
  { s with nv := { s.nv with resv := tabPut s.nv.resv (8 * r + q % 8) ⟨boundary, q, if torn then tornCrc s c else c⟩ } }

/-- Take an index for a signature (R307 to R309): a token, then the index, which is consumed, and where it
lies at or above the boundary the reservation record of its block of 64, whose read-back fails when `torn`. -/
def takeIndex (torn : Bool) (s : State) : Except Nat Nat × State :=
  if s.get F.HWD_SIGN_CFG_tokens = 0 then (.error stRate, s.event F.HWD_SIG_STAT_sign_rate F.HWD_SIG_EVCNT_rate_cnt)
  else if 2 ^ 40 ≤ s.hwd.nextIdx then (.error stIndexExhausted, s)
  else
    let idx := s.hwd.nextIdx
    let s := s.set F.HWD_SIGN_CFG_tokens (s.get F.HWD_SIGN_CFG_tokens - 1)
    let s := setIndex (idx + 1) s.hwd.resvIdx s
    if idx < s.hwd.resvIdx then (.ok idx, s)
    else
      let b := idx / 64 * 64 + 64
      let s := writeReservation torn b s
      if torn then (.error stAborted, s.used.event F.HWD_SIG_STAT_resv_fail F.HWD_SIG_EVCNT_resv_fail_cnt)
      else (.ok idx, setIndex (idx + 1) b s)

/-- The identity signature of a message. -/
def signature (s : State) (idx : Nat) (msg : List Byte) : List Byte := fit 9893 (Config.xmssMtSign (identitySeeds s) idx msg)

/-- The part's grove router ID, 0xFF outside a grove (R311). -/
def statementRouter (s : State) : Nat := if s.on F.GRV_CFG_en then s.get F.GRV_CFG_router_id else 0xFF

/-- A Witness statement (R311). -/
def statement (s : State) (idx : Nat) (nonce : List Byte) : List Byte :=
  let flags := s.get F.HWD_STATUS_locked + 2 * b2n s.hwd.prepared + 4 * b2n s.hwd.noGenSeen
  [0x42#8, 0x58#8, 0x57#8, 0x53#8, 0x01#8] ++ leBytes 1 (s.get F.BRK_LC_state) ++ leBytes 1 (rootIndex s) ++ leBytes 1 flags ++
  leBytes 2 0x7160 ++ leBytes 1 (s.get F.GLB_ID_stepping) ++ leBytes 1 (statementRouter s) ++ leBytes 4 0 ++
  deviceId s ++ (upTo 5).flatMap (measurement s) ++ digestReg s ++
  (if s.hwd.prepared then bytesOfWords ((upTo 8).map (fun j => s.get (F.HWD_DIGEST_NEXT_bytes j))) else List.replicate 32 0#8) ++
  leBytes 8 (kuCounter s) ++ leBytes 4 (s.get F.STP_PLAN_SEQ_plan_seq) ++ leBytes 4 (s.get F.RGP_PROFILE_SEQ_profile_seq) ++
  leBytes 8 idx ++ leBytes 8 s.now ++ leBytes 1 ((s.reg 0x80030).toNat % 256) ++ leBytes 3 0 ++ leBytes 4 s.nv.boots ++
  leBytes 4 s.nv.tampers ++ leBytes 4 0 ++ fit 32 nonce

/-- WITNESS (R312). -/
def opWitness (ue : List Nat) (c : Nat) (torn : Bool) (s : State) : OpResult × State :=
  withInput ue c 32 (fun nonce => withOwn [5, 6, 7] 11 (fun s =>
    let (i, s) := takeIndex torn s
    match i with
    | .error st => ({ status := st }, s)
    | .ok idx =>
      let m := statement s idx nonce
      ({ status := stOk, out := some (cmdBuf s c, m ++ signature s idx m) }, s))) s

/-- PUBKEYS (R310). -/
def opPubkeys (c : Nat) (s : State) : OpResult × State :=
  withOwn [8, 9] 12 (fun s =>
    let out := fit 68 (identityKey s) ++ fit 1568 (Config.publicKey 1 (mlkemSeeds s)) ++ deviceId s
    ({ status := stOk, out := some (cmdBuf s c, out) }, s)) s

/-! Ring-record exports (R319, R400). -/

/-- The CRC-32 of a flush, over its header and its events (R399, R97); where the fields lie in the 64 bytes of the header is left
open. -/
def RrFlush.sum (f : RrFlush) : Nat :=
  crc32 (fit 64 (Config.flushHeader f.magic [f.version, f.flushSeq, f.head, f.f, f.newest, f.bootCount, f.time])
    ++ (upTo 4096).flatMap (fun k => match tabFind f.events k with | some e => eventBytes e | none => List.replicate 32 0#8))

/-- Whether a flush is valid (R399). -/
def RrFlush.valid (f : RrFlush) : Bool :=
  decide (f.magic = [0x42#8, 0x58#8, 0x52#8, 0x46#8]) && decide (f.version = 1) && decide (f.crc = f.sum)

/-- The newest flush in MRAM, if one is valid (R399). -/
def newestFlush (s : State) : Option RrFlush :=
  (s.ring.flushes.map Prod.snd).foldl (fun best f =>
    if f.valid then (match best with | some b => if b.flushSeq < f.flushSeq then some f else best | none => some f) else best) none

/-- The events the source of RRC_CTL.src shows, with the ring index of the next one (R400). -/
def sourceEvents (s : State) : Tab RrEvent × Nat :=
  if s.on F.RRC_CTL_src then (match newestFlush s with | some f => (f.events, f.head) | none => ([], 0))
  else (s.ring.events, s.get F.RRC_HEAD_index)

/-- The newest `n` events of a source, oldest first, with the ring index of the first. -/
def newestEvents (s : State) (n : Nat) : List RrEvent × Nat :=
  let (es, head) := sourceEvents s
  let k := min n es.length
  let first := (head + 4096 - k) % 4096
  ((upTo k).filterMap (fun i => tabFind es ((first + i) % 4096)), first)

/-- The header of an export (R319). -/
def exportHeader (s : State) (nonce : List Byte) (es : List RrEvent) (first : Nat) : List Byte :=
  [0x42#8, 0x58#8, 0x52#8, 0x58#8, 0x01#8] ++ leBytes 1 (s.get F.RRC_FREEZE_frozen + 2 * s.get F.RRC_CTL_src) ++
  leBytes 2 es.length ++ leBytes 2 (if es.isEmpty then 0 else first) ++ leBytes 2 0 ++ leBytes 4 s.nv.boots ++ leBytes 8 s.now ++
  leBytes 8 0 ++ deviceId s ++ fit 32 nonce ++ Config.shake256 (es.flatMap eventBytes) 32

/-- The tag of an export under KS_4. -/
def exportTag (s : State) (l : List Byte) : List Byte := Config.kmac256 ((slotKey s 4).getD []) l (ascii "BX7160 RRTAG") 32

/-- RR_EXPORT (R319): count 0 means 4,096. -/
def opExport (ue : List Nat) (c : Nat) (torn : Bool) (s : State) : OpResult × State :=
  withInput ue c 32 (fun nonce s =>
    let n := s.get (F.HWD_CMD_CNT_count c)
    if 4096 < n then ({ status := stBadArg }, s)
    else withOwn [5, 6, 7] 11 (withOwn [4] 10 (fun s =>
      let (i, s) := takeIndex torn s
      match i with
      | .error st => ({ status := st }, s)
      | .ok idx =>
        let (es, first) := newestEvents s (if n = 0 then 4096 else n)
        let h := exportHeader s nonce es first
        let tag := exportTag s (h ++ es.flatMap eventBytes)
        ({ status := stOk, items := es.length,
           out := some (cmdBuf s c, h ++ es.flatMap eventBytes ++ tag ++ signature s idx (h ++ tag)) }, s))) s) s

/-- RR_VERIFY (R310). -/
def opVerify (ue : List Nat) (c : Nat) (s : State) : OpResult × State :=
  withInput ue c 128 (fun h s =>
    let n := leAt h 6 2
    withInput ue c (160 + 32 * n) (fun l => withOwn [4] 10 (fun s =>
      ({ status := if l.drop (128 + 32 * n) = exportTag s (l.take (128 + 32 * n)) then stOk else stBadSig }, s))) s) s

/-! Key updates (R313 to R318). -/

/-- A kind of R315: signer, lifecycle states, whether it carries secrets, body length. -/
structure KuKind where
  signer : Nat
  states : List Nat
  kem : Bool
  body : Nat
  deriving DecidableEq, Repr

/-- The kinds of R315. -/
def kuKind (k : Nat) : Option KuKind :=
  if k = 1 then some ⟨1, [2, 3], true, 56⟩ else if k = 2 then some ⟨1, [2, 3], false, 8⟩
  else if k = 3 then some ⟨0, [1], true, 112⟩ else if k = 4 then some ⟨1, [2, 3, 4], false, 512⟩
  else if k = 5 then some ⟨1, [2, 3, 4], false, 8⟩ else if k = 6 then some ⟨1, [2, 3], false, 72⟩
  else if k = 7 then some ⟨1, [2, 3], false, 72⟩ else none

/-- Length of a signature by signer. -/
def sigLen (signer : Nat) : Nat := if signer = 0 then 9893 else 2820

/-- Whether a header is well formed (R316, check 1), with its kind's row. -/
def kuFormat (h : List Byte) : Option KuKind :=
  match kuKind (byteAt h 5) with
  | none => none
  | some k =>
    if h.take 5 = [0x42#8, 0x58#8, 0x4B#8, 0x55#8, 0x01#8] ∧ byteAt h 7 = 0 ∧ leAt h 0x3C 4 = 0
        ∧ leAt h 0x38 2 = (if k.kem then 1568 else 0) ∧ leAt h 0x3A 2 = k.body
        ∧ 64 + leAt h 0x38 2 + k.body + sigLen (byteAt h 6) ≤ 16384
    then some k else none

/-- Whether the reserved bytes of a body are 0 (R315; R316, check 1), DEDUCED, entry 132. -/
def kuReserved (kind : Nat) (body : List Byte) : Bool :=
  if kind = 1 then allZero (slice body 5 3) else if kind = 2 then allZero (body.drop 1) else if kind = 3 then allZero (body.drop 108)
  else if kind = 5 then allZero body else if kind = 6 ∨ kind = 7 then allZero (body.drop 68) else true

/-- The OPERATOR record that wraps a root (R279). -/
def rootRecord (s : State) (root : List Byte) : List Byte :=
  fit 64 (fit 40 (Config.kwpWrap (derive256 s.nv.dus [] "BX7160 ROOTWRAP") root))

/-- Whether OTP takes the material of a ROOT_INSTALL (R316, check 3): each place unprogrammed or equal to it. -/
def rootFits (s : State) (body : List Byte) (secret : Option (List Byte)) : Bool :=
  (allZero (otpRead s 0x0D00 68) || decide (otpRead s 0x0D00 68 = slice body 40 68))
  && (allZero (otpRead s 0x0C80 64) || secret.any (fun x => decide (otpRead s 0x0C80 64 = rootRecord s x)))

/-- The state conditions of a kind (R316, check 3). -/
def kuState (s : State) (kind : Nat) (k : KuKind) (signer : Nat) (body : List Byte) (secret : Option (List Byte)) : Option Nat :=
  if signer ≠ k.signer ∨ !k.states.contains (s.get F.BRK_LC_state) then some stWrongState
  else if (kind = 1 ∨ kind = 2) ∧ (byteAt body 0 < 16 ∨ 63 < byteAt body 0) then some stWrongState
  else if kind = 4 ∧ (s.rgp.pending.isSome ∨ (secondGen s).isSome ∨ s.grf.seed2Waiting) then some stBusy
  else if kind = 3 ∧ rootFits s body secret = false then some stWrongState
  else if kind = 6 ∧ rotatePosition s (slice body 0 68) = none then some stWrongState
  else none

/-- Whether the signature of a message stands (R304). -/
def kuSigned (s : State) (signer : Nat) (msg sig : List Byte) : Bool :=
  if signer = 0 then Config.xmssMtVerify Config.vendorKey msg sig
  else match operatorKey s with
    | some k => Config.xmssVerify k msg sig
    | none => false

/-- The transport key of a message (R314). -/
def transportKey (s : State) (h ct : List Byte) : List Byte :=
  Config.kmac256 (Config.mlkemDecap (mlkemSeeds s) ct) h (ascii "BX7160 KUTRANSPORT") 32

/-- The secret of a body under the transport key: none where its KWP check fails. -/
def kuSecret (s : State) (kind : Nat) (h ct body : List Byte) : Option (List Byte) :=
  if kind = 1 then Config.kwpUnwrap (transportKey s h ct) (slice body 16 40)
  else if kind = 3 then Config.kwpUnwrap (transportKey s h ct) (slice body 0 40)
  else some []

/-- Whether content is acceptable (R316, check 8). -/
def kuContent (s : State) (kind : Nat) (body : List Byte) : Option Nat :=
  if kind = 1 ∧ 15 < leAt body 2 2 then some stBadArg
  else if kind = 4 ∧ !profileAcceptable s body then some stBadArg
  else none

/-- The checks of R316 after the format, in order: the first that fails. -/
def kuChecks (s : State) (h ct body sig msg : List Byte) (k : KuKind) : Except Nat (List Byte) :=
  let kind := byteAt h 5
  if slice h 8 32 ≠ deviceId s then .error stWrongDevice
  else
    let secret := kuSecret s kind h ct body
    match kuState s kind k (byteAt h 6) body secret with
    | some st => .error st
    | none =>
      if leAt h 0x28 8 ≤ kuCounter s then .error stStale
      else if leAt h 0x30 8 ≠ 0 ∧ leAt h 0x30 8 < s.seconds then .error stExpired
      else if !kuSigned s (byteAt h 6) msg sig then .error stBadSig
      else
        match secret with
        | none => .error stUnwrapFail
        | some secret =>
          match kuContent s kind body with
          | some st => .error st
          | none => .ok secret

/-- The position a new commit of a slot names: the alternate of its live one. -/
def slotPosition (s : State) (slot : Nat) : Nat :=
  match slotCommit s slot with
  | some r => if r.kind = 1 then 1 - r.position else 0
  | none => 0

/-- Write a slot's key to a position in the areas of the generations in use (R287, R298). -/
def storeSlot (slot pos : Nat) (key : List Byte) (s : State) : State :=
  each (writtenGens s) (fun g s =>
    let (kek, s) := useKek g s
    match kek with
    | some kek => { s with nv := { s.nv with
        slotStore := tabPut s.nv.slotStore (slotPlace g slot pos) (fit 40 (Config.kwpWrap kek key)) } }
    | none => s) s

/-- The tag that KS_10 puts on a debug record (R304); the manual names no label (DESIGN CHOICE, notes/assumptions/170). -/
def debugTag (key l : List Byte) : List Byte := Config.kmac256 key l Config.debugLabel 32

/-- The debug record in force, with its tag (R304, R317): that of the latest commit whose material matches. -/
def debugRecord (s : State) : Option (List Byte × List Byte) :=
  ((validRecords s).foldl (fun best r =>
    match tabFind s.nv.debugKey r.position with
    | some x =>
      if r.kind = 7 ∧ r.material = materialDigest x.1 then
        (match best with | some (b : KuRecord × List Byte × List Byte) => if b.1.seq < r.seq then some (r, x) else best | none => some (r, x))
      else best
    | none => best) none).map Prod.snd

/-- The alternate position of the debug record. -/
def debugPosition (s : State) : Nat :=
  match debugRecord s, tabFind s.nv.debugKey 0 with
  | some x, some y => if x = y then 1 else 0
  | _, _ => 0

/-- The commit of an accepted message (R317, R318): its record and, once its CRC is whole, the counter. -/
def kuCommit (whole : Bool) (kind target pos counter : Nat) (attrs material : List Byte) (s : State) : State :=
  let s := commit whole ⟨0, kind, target, pos, counter, attrs, materialDigest material, 0⟩ 256 s
  if whole then s.setPair F.HWD_KU_COUNTER_LO_counter F.HWD_KU_COUNTER_HI_counter counter else s.used

/-- Whether a message has material of its own (R317): the key of a PERSISTENT slot, a root, a profile or a verification key. -/
def kuHasMaterial (kind : Nat) (body : List Byte) : Bool :=
  (decide (kind = 1) && decide (byteAt body 4 = 1)) || [3, 4, 6, 7].contains kind

/-- The position a message's commit names, and its target. -/
def kuPosition (s : State) (kind : Nat) (body : List Byte) : Nat :=
  if kind = 1 then slotPosition s (byteAt body 0) else if kind = 4 then profilePosition s else if kind = 7 then debugPosition s else 0
def kuTarget (kind : Nat) (body : List Byte) : Nat := if kind ≤ 2 then byteAt body 0 else 0

/-- Write a message's material to its alternate position (R318). -/
def kuMaterial (kind pos : Nat) (body secret : List Byte) (s : State) : State :=
  if !kuHasMaterial kind body then s
  else if kind = 1 then storeSlot (byteAt body 0) pos secret s
  else if kind = 3 then otpWrite 0x0D00 (slice body 40 68) (otpWrite 0x0C80 (rootRecord s secret) s)
  else if kind = 4 then writeProfile pos body s
  else if kind = 6 then (match rotatePosition s (slice body 0 68) with
    | some k => otpWrite (opKeyAddr k) (slice body 0 68) s
    | none => s)
  else
    let (r, s) := useSlot 10 13 none s
    { s with nv := { s.nv with debugKey := tabPut s.nv.debugKey pos (slice body 0 68, debugTag r.2 (slice body 0 68)) } }

/-- The material as it was written, which the commit's digest covers. -/
def kuWritten (s : State) (kind pos : Nat) (body secret : List Byte) : List Byte :=
  if !kuHasMaterial kind body then []
  else if kind = 1 then tabGet s.nv.slotStore (slotPlace ((activeGen s).getD 0) (byteAt body 0) pos) []
  else if kind = 3 then rootRecord s secret
  else if kind = 4 then body
  else slice body 0 68

/-- Commit a message (R317). -/
def kuRecord (whole : Bool) (kind pos : Nat) (h body secret : List Byte) (s : State) : State :=
  let attrs := if kind = 1 then slice body 1 4 ++ leBytes 3 0 ++ slice body 8 8 ++ leBytes 1 0 else []
  kuCommit whole kind (kuTarget kind body) pos (leAt h 0x28 8) attrs (kuWritten s kind pos body secret) s

/-- A committed message takes effect (R318). -/
def kuTake (kind pos : Nat) (body secret : List Byte) (s : State) : State :=
  if kind = 1 then
    fillSlot (byteAt body 0) secret (leAt body 2 2) (byteAt body 1 % 4) (b2n (decide (byteAt body 4 = 1))) 1 (min (leAt body 8 8) 0xFFFFFFFF) s
  else if kind = 2 then clearSlot (byteAt body 0) s
  else if kind = 3 ∨ kind = 6 then showOpKeys s
  else if kind = 4 then prepareGen (digestWith s 2 (profileDigest body)) (commitProfile pos s)
  else if kind = 5 then
    let s := s.set F.HWD_STATUS_locked 0
    { s.set F.BRK_STATUS_erase_lock 0 with nv := { s.nv with locked := false } }
  else s

/-- Apply an accepted message (R318): its material, its commit, its effect. -/
def kuApply (kind : Nat) (h body secret : List Byte) (s : State) : State :=
  let pos := kuPosition s kind body
  kuTake kind pos body secret (kuRecord true kind pos h body secret (kuMaterial kind pos body secret s))

/-- Record a message's fate in HWD_KU_LAST. -/
def kuLast (kind status target : Nat) (s : State) : State :=
  ((s.set F.HWD_KU_LAST_kind kind).set F.HWD_KU_LAST_status status).set F.HWD_KU_LAST_target target

/-- Refuse a message (R316). -/
def kuRefuse (h body : List Byte) (st : Nat) (s : State) : OpResult × State :=
  let kind := byteAt h 5
  ({ status := st }, kuLast kind st (if kind = 1 ∨ kind = 2 then byteAt body 0 % 64 else 0)
    (s.event F.HWD_SIG_STAT_ku_refused F.HWD_SIG_EVCNT_ku_refused_cnt))

/-- KEY_UPDATE (R316, R318): a locked Heartwood takes none but UNLOCK (R303). -/
def opKeyUpdate (ue : List Nat) (c : Nat) (s : State) : OpResult × State :=
  withInput ue c 64 (fun h s =>
    if s.on F.HWD_STATUS_locked && decide (byteAt h 5 ≠ 5) then ({ status := stLocked }, s)
    else
      match kuFormat h with
      | none => kuRefuse h [] stBadFormat s
      | some k =>
        let kem := leAt h 0x38 2
        let n := 64 + kem + k.body + sigLen (byteAt h 6)
        withInput ue c n (fun l s =>
          let body := slice l (64 + kem) k.body
          let m := l.take (64 + kem + k.body)
          if !kuReserved (byteAt h 5) body then kuRefuse h body stBadFormat s
          else withOwn (if k.kem then [8, 9] else []) 12 (fun s =>
            match kuChecks s h (slice l 64 kem) body (l.drop (64 + kem + k.body)) m k with
            | .error st => kuRefuse h body st s
            | .ok secret =>
              let s := (kuApply (byteAt h 5) h body secret s).set F.HWD_SIG_STAT_ku_done 1
              ({ status := stOk }, kuLast (byteAt h 5) stOk (if byteAt h 5 ≤ 2 then byteAt body 0 % 64 else 0) s)) s) s) s

/-- The message in a channel's buffer, where its checks pass: its header, its body and its secret. -/
def kuMessage (c : Nat) (s : State) : Option (List Byte × List Byte × List Byte) :=
  let h := s.dramRead (cmdBuf s c) 64
  match kuFormat h with
  | none => none
  | some k =>
    let kem := leAt h 0x38 2
    let l := s.dramRead (cmdBuf s c) (64 + kem + k.body + sigLen (byteAt h 6))
    let body := slice l (64 + kem) k.body
    if !kuReserved (byteAt h 5) body then none
    else
      match kuChecks s h (slice l 64 kem) body (l.drop (64 + kem + k.body)) (l.take (64 + kem + k.body)) k with
      | .ok secret => some (h, body, secret)
      | .error _ => none

/-- A key update of a channel is cut (R318): in its checks, after its material or some of it, in its commit, or after its commit is
left open.  A reset (`boot`) leaves to the next boot to discard the material or to apply the commit, which sets ku_recovered;
a Bark abort finds a committed update applied. -/
def cutKeyUpdate (boot : Bool) (c : Nat) (s : State) : State :=
  let s := revive 9 (revive 8 s)
  match kuMessage c s with
  | none => s
  | some (h, body, secret) =>
    let kind := byteAt h 5
    let pos := kuPosition s kind body
    let cut := s.open 2
    let half := bit (s.open 3) 2
    let s := s.used
    let left (s : State) : State := { s with nv := { s.nv with kuOpen := s.nv.kuOpen || kuHasMaterial kind body } }
    if cut = 0 then s
    else if cut = 1 then
      left (if kind = 3 ∧ half = true then otpWrite 0x0C80 (rootRecord s secret) s else kuMaterial kind pos body secret s)
    else if cut = 2 then left (kuRecord false kind pos h body secret (kuMaterial kind pos body secret s))
    else
      let s := kuApply kind h body secret s
      { s with nv := { s.nv with kuOpen := s.nv.kuOpen || boot } }

/-! The command channels (R300). -/

/-- Whether an operation needs a measurement-bound key (R282). -/
def needsMeasured (op : Nat) : Bool := [1, 2, 6, 7, 0x10, 0x12, 0x13, 0x14].contains op

/-- Carry out an operation (R300, R310). -/
def perform (ue : List Nat) (c op slot : Nat) (torn : Bool) (s : State) : OpResult × State :=
  let bar := if op = 0x10 then (if rootIndex s = 0 then some stNoRoot else none)
    else if op = 4 ∨ op = 5 then none
    else if op = 0x11 then (if rootIndex s = 0 then some stNoRoot else none)
    else if op ≤ 3 ∨ op = 6 ∨ op = 7 then leafBar s
    else keyBar s
  match bar with
  | some st => ({ status := st }, s)
  | none =>
    if op = 1 then opImport ue c slot s
    else if op = 2 then opDerive c slot s
    else if op = 3 then opDrop c s
    else if op = 4 then ({ status := stOk }, flushCache s)
    else if op = 5 then opRandom c s
    else if op = 6 then opReplicaWrap ue c slot s
    else if op = 7 then opReplicaImport ue c slot s
    else if op = 0x10 then opKeyUpdate ue c s
    else if op = 0x11 then opPubkeys c s
    else if op = 0x12 then opWitness ue c torn s
    else if op = 0x13 then opExport ue c torn s
    else if op = 0x14 then opVerify ue c s
    else ({ status := stBadArg }, s)

/-- Whether an operation code is one of R300 or R310. -/
def knownOp (op : Nat) : Bool := decide (1 ≤ op ∧ op ≤ 7) || decide (0x10 ≤ op ∧ op ≤ 0x14)

/-- Whether an operation signs (R310). -/
def signs (op : Nat) : Bool := decide (op = 0x12 ∨ op = 0x13)

/-- Whether an operation acts as it completes, so that an abort before that leaves nothing of it (R303, R318,
notes/assumptions/45). -/
def actsAtEnd (op : Nat) : Bool := [1, 2, 3, 7, 0x10].contains op

/-- The place in line of the other channel's signing, if it has one (R310). -/
def otherSigning (s : State) (c : Nat) : Option HwdRun := (tabFind s.hwd.runs (1 - c)).filter (fun r => signs r.op)

/-- Begin a command (R282, R300, R310, R391): it waits while the security cores restart or are halted, the measurements it needs are
not final, or it signs behind a signing of the other channel; one that writes acts as it completes; a key update beside another
completes with BUSY. -/
def beginCmd (ue : List Nat) (c op slot : Nat) (torn : Bool) (s : State) : State :=
  let place := match otherSigning s c with | some r => r.place + 1 | none => 0
  let put (r : HwdRun) (s : State) : State := { s with hwd := { s.hwd with runs := tabPut s.hwd.runs c r } }
  if s.pruned 0x0B 0 then put ⟨op, slot, torn, false, stAborted, 0, none, s.now, 0, []⟩ s
  else if !knownOp op then put ⟨op, slot, torn, false, stBadArg, 0, none, s.now, 0, []⟩ s
  else if op = 0x10 ∧ ((tabFind s.hwd.runs (1 - c)).map HwdRun.op) = some 0x10 then put ⟨op, slot, torn, false, stBusy, 0, none, s.now, 0, []⟩ s
  else if s.secHalted || s.prune.secRestarting || actsAtEnd op || (needsMeasured op && !measured s) || (signs op && (otherSigning s c).isSome) then
    put ⟨op, slot, torn, true, 0, 0, none, s.now, place, ue⟩ s
  else
    let (r, s) := perform ue c op slot torn s
    put ⟨op, slot, torn, false, r.status, r.items, r.out, s.now, place, []⟩ s

/-- A write of HWD_CMD[c] (R300): a go while the channel is busy is ignored and the result reads BUSY. -/
def writeHwdCmd (ue : List Nat) (c : Nat) (v : Word) (torn : Bool) (s : State) : State :=
  if s.on (F.HWD_CMD_busy c) then (if wordField v 31 1 = 1 then s.set (F.HWD_CMD_RESULT_status c) stBusy else s)
  else
    let s := (s.set (F.HWD_CMD_slot c) (wordField v 16 6)).set (F.HWD_CMD_op c) (wordField v 0 8)
    if wordField v 31 1 = 0 then s
    else beginCmd ue c (wordField v 0 8) (wordField v 16 6) torn ((s.set (F.HWD_CMD_busy c) 1).set (F.HWD_CMD_RESULT_done c) 0)

/-- A command's result is written (R300); PD_SEC may have been held ON for it (R368, R370). -/
def finishCmd (c status items : Nat) (s : State) : State :=
  let s := (((s.set (F.HWD_CMD_RESULT_done c) 1).set (F.HWD_CMD_RESULT_status c) status).set (F.HWD_CMD_RESULT_items c) (min items 8191))
  let s := ((s.set (F.HWD_CMD_busy c) 0).inc (F.HWD_CMD_DONE_CNT_count c)).set F.HWD_STAT_cmd_done 1
  returnForced 2 { s with hwd := { s.hwd with runs := tabErase s.hwd.runs c } }

/-- Release a command's output and its result: a buffer out of reach ends it with BUF_ERR. -/
def releaseCmd (c : Nat) (r : OpResult) (s : State) : State :=
  match r.out with
  | none => finishCmd c r.status r.items s
  | some (a, l) =>
    let (ok, s) := dramStore 6 a l s
    finishCmd c (if ok then r.status else stBufErr) (if ok then r.items else 0) s

/-- HWD_CMD_COMPLETE (R282, R300): the command of a channel completes; one that still waits for the measurements
completes with NOT_MEASURED, 10 s after its go; while the security cores restart (R391) or are halted (R326, R337) none
completes, and a signing waits for those before it (R310). -/
def execHwdCmdComplete (channel : Nat) (ue : List Nat) (s : State) : Host.Outcome State Fault Refusal :=
  run (fun s =>
    match tabFind s.hwd.runs channel with
    | none => s
    | some r =>
      if s.prune.secRestarting || s.secHalted then s
      else if !r.waiting then releaseCmd channel ⟨r.status, r.items, r.out⟩ s
      else if needsMeasured r.op && !measured s then finishCmd channel stNotMeasured 0 (s.reach (r.since + 10000000000))
      else if signs r.op && (otherSigning s channel).any (fun o => !o.waiting || decide (o.place < r.place)) then s
      else
        let (x, s) := perform (r.ue ++ ue) channel r.op r.slot r.torn s
        releaseCmd channel x s) s

/-- An alarm ends the commands in progress with ABORTED, their results never released (R303); a key update that has committed
stands (R318). -/
def abortCmds (s : State) : State :=
  let s := match s.hwd.runs.find? (fun x => decide (x.2.op = 0x10) && x.2.waiting) with
    | some (c, _) => cutKeyUpdate false c s
    | none => s
  { s with hwd := { s.hwd with runs := s.hwd.runs.map (fun (c, r) => (c, { r with waiting := false, status := stAborted, items := 0, out := none })) } }

/-- A go on a channel behind the fence (R300, R372): the word of HWD_CMD with its operation and slot. -/
def startCmd (ue : List Nat) (initiator channel op slot : Nat) (torn : Bool) (s : State) : State :=
  let v := BitVec.ofNat 32 (2 ^ 31 + slot % 64 * 2 ^ 16 + op)
  gated ⟨initiator, 0x400100 + 0x40 * channel, true, v⟩ (writeHwdCmd ue channel v torn) s

/-- LEAF_IMPORT (R300). -/
def execLeafImport (initiator channel slot : Nat) (ue : List Nat) (s : State) : Host.Outcome State Fault Refusal :=
  run (startCmd ue initiator channel 0x01 slot false) s

/-- LEAF_DERIVE (R300). -/
def execLeafDerive (initiator channel slot : Nat) (s : State) : Host.Outcome State Fault Refusal :=
  run (startCmd [] initiator channel 0x02 slot false) s

/-- LEAF_DROP (R300). -/
def execLeafDrop (initiator channel : Nat) (s : State) : Host.Outcome State Fault Refusal :=
  run (startCmd [] initiator channel 0x03 0 false) s

/-- CACHE_FLUSH (R300). -/
def execCacheFlush (initiator channel : Nat) (s : State) : Host.Outcome State Fault Refusal :=
  run (startCmd [] initiator channel 0x04 0 false) s

/-- RANDOM (R300). -/
def execRandom (initiator channel : Nat) (s : State) : Host.Outcome State Fault Refusal :=
  run (startCmd [] initiator channel 0x05 0 false) s

/-- REPLICA_WRAP (R300). -/
def execReplicaWrap (initiator channel slot : Nat) (ue : List Nat) (s : State) : Host.Outcome State Fault Refusal :=
  run (startCmd ue initiator channel 0x06 slot false) s

/-- REPLICA_IMPORT (R300). -/
def execReplicaImport (initiator channel slot : Nat) (ue : List Nat) (s : State) : Host.Outcome State Fault Refusal :=
  run (startCmd ue initiator channel 0x07 slot false) s

/-- KEY_UPDATE (R316). -/
def execKeyUpdate (initiator channel : Nat) (s : State) : Host.Outcome State Fault Refusal :=
  run (startCmd [] initiator channel 0x10 0 false) s

/-- PUBKEYS (R310). -/
def execPubkeys (initiator channel : Nat) (s : State) : Host.Outcome State Fault Refusal :=
  run (startCmd [] initiator channel 0x11 0 false) s

/-- WITNESS (R312): `torn` says that a reservation record it writes fails its read-back. -/
def execWitness (initiator channel : Nat) (torn : Bool) (ue : List Nat) (s : State) : Host.Outcome State Fault Refusal :=
  run (startCmd ue initiator channel 0x12 0 torn) s

/-- RR_EXPORT (R319). -/
def execRrExport (initiator channel : Nat) (torn : Bool) (ue : List Nat) (s : State) : Host.Outcome State Fault Refusal :=
  run (startCmd ue initiator channel 0x13 0 torn) s

/-- RR_VERIFY (R310). -/
def execRrVerify (initiator channel : Nat) (ue : List Nat) (s : State) : Host.Outcome State Fault Refusal :=
  run (startCmd ue initiator channel 0x14 0 false) s

/-- How long one token takes at HWD_SIGN_CFG.rate, in ns (R309): 0 acts as 1 and more than 100 as 100. -/
def tokenPeriod (s : State) : Nat := 1000000000 / max 1 (min 100 (s.get F.HWD_SIGN_CFG_rate))

/-- SIGN_TOKEN_REFILL (R309): the bucket gains what has come due at its rate, the next token at least. -/
def execSignTokenRefill (s : State) : Host.Outcome State Fault Refusal :=
  run (fun s =>
    let p := tokenPeriod s
    let s := s.reach (min (s.hwd.refilled + p) (s.now + p))
    let n := max 1 ((s.now - s.hwd.refilled) / p)
    let from_ := if s.hwd.refilled + n * p ≤ s.now then s.hwd.refilled + n * p else s.now
    { s.set F.HWD_SIGN_CFG_tokens (min 64 (s.get F.HWD_SIGN_CFG_tokens + n)) with hwd := { s.hwd with refilled := from_ } }) s

end Sys2Proof.Machine
end

