-- ==== Sys2Proof/Machine/Relay.lean ====
section
/-!
DEFINITION. Grafts on their way to staging (R338 to R344): manifests, the piece tree, chain relay and
Pollen v1.
-/

namespace Sys2Proof.Machine

/-! Manifests (R338). -/

def manType (m : List Byte) : Nat := byteAt m 5
def manFull (m : List Byte) : Bool := bit (byteAt m 6) 0
def manPart (m : List Byte) : Nat := leAt m 8 2
def manId (m : List Byte) : Nat := leAt m 0x0C 4
def manSecurity (m : List Byte) : Nat := leAt m 0x14 4
def manTargetLen (m : List Byte) : Nat := leAt m 0x18 4
def manDeltaLen (m : List Byte) : Nat := leAt m 0x1C 4
def manSource (m : List Byte) : List Byte := slice m 0x20 32
def manTarget (m : List Byte) : List Byte := slice m 0x40 32
def manRoot (m : List Byte) : List Byte := slice m 0x60 32

/-- Bytes under the vendor signature, and the length of a manifest. -/
def manSigned (m : List Byte) : Nat := 0x80 + 8 * byteAt m 7
def manLength (m : List Byte) : Nat := manSigned m + 9893 + 2820

/-- The declarations of a manifest (R345): kind, interface, major, minor. -/
def manDecls (m : List Byte) : List (Nat × Nat × Nat × Nat) :=
  (upTo (byteAt m 7)).map (fun i => (byteAt m (0x80 + 8 * i), byteAt m (0x81 + 8 * i), byteAt m (0x82 + 8 * i), byteAt m (0x83 + 8 * i)))

/-- Whether a manifest is well formed and signed (R338): the operator's countersignature counts while an
operator key is in force. -/
def manifestGood (s : State) (m : List Byte) : Bool :=
  let n := manSigned m
  decide (m.take 5 = [0x42#8, 0x58#8, 0x47#8, 0x4D#8, 0x01#8]) && decide (1 ≤ manType m ∧ manType m ≤ 5)
    && decide (byteAt m 6 ≤ 1 ∧ byteAt m 7 ≤ 32 ∧ byteAt m 0x0B = 0) && decide (m.length = manLength m)
    && decide (manTargetLen m ≤ 2 ^ 26)
    && Config.xmssMtVerify Config.vendorKey (m.take n) (slice m n 9893)
    && (match operatorKey s with
        | some k => Config.xmssVerify k (m.take (n + 9893)) (slice m (n + 9893) 2820)
        | none => true)

/-- Pieces of a delta (R339), and the length of one. -/
def pieceCount (m : List Byte) : Nat := ceilDiv (manDeltaLen m) 4096
def pieceLen (m : List Byte) (i : Nat) : Nat := min 4096 (manDeltaLen m - 4096 * i)

/-! The piece tree (R339). -/

def leafHash (i : Nat) (piece : List Byte) : List Byte := Config.shake256 ([0#8] ++ leBytes 4 i ++ piece) 32
def nodeHash (l r : List Byte) : List Byte := Config.shake256 ([1#8] ++ l ++ r) 32

/-- Where a path leads from leaf or node `i` of a level of `n`: none where it is too short or too long. -/
def climb (fuel i n : Nat) (h : List Byte) (path : List (List Byte)) : Option (List Byte) :=
  match fuel with
  | 0 => none
  | fuel + 1 =>
    if n ≤ 1 then (if path.isEmpty then some h else none)
    else if i % 2 = 0 ∧ i + 1 = n then climb fuel (i / 2) ((n + 1) / 2) h path
    else
      match path with
      | [] => none
      | p :: rest => climb fuel (i / 2) ((n + 1) / 2) (if i % 2 = 0 then nodeHash h p else nodeHash p h) rest

/-- The level above one. -/
def nextLevel (l : List (List Byte)) : List (List Byte) :=
  match l with
  | a :: b :: rest => nodeHash a b :: nextLevel rest
  | l => l

/-- The root of the tree over leaf hashes. -/
def treeRoot (fuel : Nat) (l : List (List Byte)) : List Byte :=
  match fuel with
  | 0 => []
  | fuel + 1 => match l with | [x] => x | l => treeRoot fuel (nextLevel l)

/-- The path of leaf `i` over leaf hashes. -/
def treePath (fuel i : Nat) (l : List (List Byte)) : List (List Byte) :=
  match fuel with
  | 0 => []
  | fuel + 1 =>
    if l.length ≤ 1 then []
    else
      let sib := if i % 2 = 0 then i + 1 else i - 1
      (match l[sib]? with | some h => [h] | none => []) ++ treePath fuel (i / 2) (nextLevel l)

/-- Whether a piece's path leads to the root (R339). -/
def pieceGood (m : List Byte) (i : Nat) (piece : List Byte) (path : List (List Byte)) : Bool :=
  decide (i < pieceCount m) && decide (piece.length = pieceLen m i)
    && decide (climb 32 i (pieceCount m) (leafHash i piece) path = some (manRoot m))

/-! Staging (R343). -/

/-- A graft in staging. -/
def graft (s : State) (id : Nat) : Graft := tabGet s.nv.grafts id {}

/-- Replace a graft. -/
def putGraft (id : Nat) (g : Graft) (s : State) : State := { s with nv := { s.nv with grafts := tabPut s.nv.grafts id g } }

/-- Drop a graft. -/
def dropGraft (id : Nat) (s : State) : State := { s with nv := { s.nv with grafts := tabErase s.nv.grafts id } }

/-- Bytes of staging: the DRAM area, or the slices Graft staging owns. -/
def stagingSize (s : State) : Nat :=
  if s.on F.GRF_RELAY_CFG_stage then 256 * (graftCells s).length else s.get F.GRF_STAGE_SIZE_bytes

/-- What staging holds of a graft is written where GRF_RELAY_CFG.stage selects (R343): to the DRAM area, at a place in it that the
manual leaves open, where it is reached; the slices of the packet buffer have no window that shows them. -/
def stageBytes (id k : Nat) (l : List Byte) (s : State) : State :=
  if s.on F.GRF_RELAY_CFG_stage || decide (s.get F.GRF_STAGE_SIZE_bytes < l.length) then s
  else
    let base := s.pair F.GRF_STAGE_BASE_LO_addr F.GRF_STAGE_BASE_HI_addr / 4096 * 4096
    (dramStore 6 (base + Config.stagePlace id k % max 1 (s.get F.GRF_STAGE_SIZE_bytes + 1 - l.length)) l s).2

/-- Whether staging in slices has none of them, which leaves the relay disabled (R343). -/
def stagingContested (s : State) : Bool := s.on F.GRF_RELAY_CFG_stage && (graftCells s).isEmpty

/-- Record a graft's result (GRF_RESULT). -/
def grfResult (code type : Nat) (s : State) : State := (s.set F.GRF_RESULT_code code).set F.GRF_RESULT_type type

/-- A piece or a leaf hash fails (R342). -/
def pieceBad (s : State) : State := (s.inc F.GRF_PIECE_BAD_CNT_count).event F.GRF_STAT_piece_bad F.GRF_EVCNT_piece_bad_cnt

/-- Show the transfer most recently advanced. -/
def showProgress (id held : Nat) (s : State) : State := (s.set F.GRF_GRAFT_ID_graft_id id).set F.GRF_PROGRESS_held held

/-- Whether every piece of a graft is held. -/
def allHeld (g : Graft) : Bool := !g.manifest.isEmpty && decide (g.pieces.length = pieceCount g.manifest)

/-- Bytes of staging that the other grafts take. -/
def stagingUsed (s : State) (id : Nat) : Nat :=
  ((s.nv.grafts.filter (fun x => decide (x.1 ≠ id))).map (fun (_, g) => max g.objLen (g.manifest.length + manDeltaLen g.manifest))).sum

/-- A manifest is whole: it is taken, or refused with BAD_MANIFEST or STAGE_FULL (R338, R343). -/
def takeManifest (id : Nat) (m : List Byte) (s : State) : Bool × State :=
  if !manifestGood s m || decide (manId m ≠ id) then (false, grfResult 9 (manType m % 8) (dropGraft id s))
  else if stagingSize s < stagingUsed s id + m.length + manDeltaLen m then (false, grfResult 11 (manType m) (dropGraft id s))
  else (true, putGraft id { graft s id with manifest := m, chunks := [] } s)

/-! Chain relay (R342). -/

/-- A relay message's body. -/
def relayBody (type pathLen id index : Nat) (dataLen : Nat) (rest : List Byte) : List Byte :=
  leBytes 1 type ++ [2#8, 0#8] ++ leBytes 1 pathLen ++ leBytes 4 id ++ leBytes 4 index ++ leBytes 4 dataLen ++ rest

/-- Whether a relay message can be sent to a router: it is an UP peer of version 2 (R355), and there is a key. -/
def relayReach (s : State) (r : Nat) : Bool :=
  s.on F.GRV_CFG_en && s.on (F.GRV_PEER_CFG_en r) && decide (peerState s r = 1 ∧ s.get (F.GRV_PEER_STATUS_ver r) ≠ 1) && (groveKey s).isSome

/-- Send a relay message to a router. -/
def sendRelay (r type pathLen id index dataLen : Nat) (rest : List Byte) (s : State) : State :=
  if relayReach s r then sendMessage r type (relayBody type pathLen id index dataLen rest) s else s

/-- The downstream routers of GRF_RELAY_PEER. -/
def relayPeers (s : State) : List Nat :=
  (upTo 4).filterMap (fun j => if s.on (F.GRF_RELAY_PEER_en j) then some (s.get (F.GRF_RELAY_PEER_router j)) else none)

/-- The routers messages are accepted from. -/
def relayUp (s : State) (r : Nat) : Bool := if r < 32 then bit (s.get F.GRF_RELAY_UP_up_mask_lo) r else bit (s.get F.GRF_RELAY_UP_HI_up_mask_hi) (r - 32)

/-- Send a held piece with its path. -/
def sendPiece (r id i : Nat) (s : State) : State :=
  let g := graft s id
  match tabFind g.pieces i with
  | some p =>
    let path := tabGet g.paths i []
    sendRelay r 0x41 (path.length / 32) id i p.length (path ++ p) s
  | none => s

/-- Send a verified manifest's chunks. -/
def sendManifest (r id : Nat) (s : State) : State :=
  let m := (graft s id).manifest
  each (upTo (ceilDiv m.length 4096)) (fun k s =>
    let d := slice m (4096 * k) 4096
    sendRelay r 0x40 0 id k d.length d s) s

/-- MAN_CHUNK (R342): a chunk is stored; the manifest is verified once whole, and then goes downstream. -/
def onManChunk (r id k : Nat) (data : List Byte) (s : State) : State :=
  let g := graft s id
  if !g.manifest.isEmpty || decide (4 ≤ k) then s
  else
    let chunks := tabPut g.chunks k data
    let m := ((upTo 4).map (fun i => tabGet chunks i [])).flatten
    let s := stageBytes id (2 ^ 32 + k) data (showProgress id g.pieces.length (putGraft id { g with chunks := chunks, progress := s.now, from_ := r } s))
    if 0x80 ≤ m.length ∧ m.length = manLength m then
      let (ok, s) := takeManifest id m s
      if ok then each (relayPeers s) (fun q s => sendManifest q id s) s else s
    else s

/-- Store a verified piece and forward it downstream (R342). -/
def storePiece (r id i : Nat) (piece path : List Byte) (s : State) : State :=
  let g := graft s id
  let g := { g with pieces := tabPut g.pieces i piece, paths := tabPut g.paths i path, progress := s.now, from_ := r }
  let s := stageBytes id i piece (showProgress id g.pieces.length (putGraft id g s))
  let s := each ((relayPeers s).filter (relayReach s)) (fun q s => (sendPiece q id i s).inc F.GRF_RELAYED_CNT_count) s
  if allHeld g then sendRelay r 0x43 0 id 0 0 [] s else s

/-- PIECE (R342): a piece already held is ignored, one that fails its path is discarded. -/
def onPiece (r id i pathLen dataLen : Nat) (rest : List Byte) (s : State) : State :=
  let g := graft s id
  if g.manifest.isEmpty || (tabFind g.pieces i).isSome then s
  else
    let path := rest.take (32 * pathLen)
    let piece := slice rest (32 * pathLen) dataLen
    if pieceGood g.manifest i piece (pieces 32 pathLen path) then storePiece r id i piece path s else pieceBad s

/-- WANT (R342): the pieces asked for are sent from staging. -/
def onWant (r id first : Nat) (bitmap : List Byte) (s : State) : State :=
  each ((upTo (8 * bitmap.length)).filter (fun j => bit (byteAt bitmap (j / 8)) (j % 8))) (fun j s => sendPiece r id (first + j) s) s

/-- A Graft message of the grove port arrives, already accepted under R352 (R342).  A WANT is also taken from
the downstream routers. -/
def relayMessage (m : List Byte) (s : State) : State :=
  let r := byteAt m 3
  let b := slice m 20 (leAt m 16 2)
  let id := leAt b 4 4
  let index := leAt b 8 4
  let n := leAt b 12 4
  let rest := b.drop 16
  let t := byteAt m 0
  if !s.on F.GRF_CTL_relay_en || stagingContested s then s
  else if byteAt b 0 ≠ t ∨ byteAt b 1 ≠ 2 ∨ b.length < 16 then s
  else if !(relayUp s r || (decide (t = 0x42) && (relayPeers s).contains r)) then s
  else if t = 0x40 then (if n ≤ 4096 then onManChunk r id index (rest.take n) s else s)
  else if t = 0x41 then onPiece r id index (byteAt b 3) n rest s
  else if t = 0x42 then onWant r id index (rest.take n) s
  else { s with grf := { s.grf with doneBy := tabPut s.grf.doneBy r index } }

/-- A message of the grove port other than DATA arrives: its source address, its bytes above UDP and its
frame (R342, R352, R353). -/
def receiveMessage (c : Passage) (frame src m : List Byte) (s : State) : State :=
  let (ok, s) := checkMessage c src m s
  if !ok then s
  else if 0x40 ≤ byteAt m 0 ∧ byteAt m 0 ≤ 0x43 ∧ s.get (F.GRV_PEER_STATUS_ver (byteAt m 3)) ≠ 1 then relayMessage m (freeCells c.alloc c.cells s)
  else acceptMessage c frame m s

/-- RELAY_WANT_TIMER (R342): no new piece for want_ms, so the missing ones are asked for upstream. -/
def execRelayWantTimer (graft_ : Nat) (s : State) : Host.Outcome State Fault Refusal :=
  run (fun s =>
    let g := graft s graft_
    let n := pieceCount g.manifest
    let missing := (upTo n).filter (fun i => (tabFind g.pieces i).isNone)
    match missing.head? with
    | none => s
    | some first =>
      if s.on F.GRF_CTL_relay_en && !stagingContested s then
        let ms := if s.get F.GRF_RELAY_CFG_want_ms = 0 then 10 else s.get F.GRF_RELAY_CFG_want_ms
        let s := s.reach (g.progress + ms * 1000000)
        let len := ceilDiv (n - first) 8
        let map := (upTo len).map (fun b => BitVec.ofNat 8 (maskOf ((upTo 8).filter (fun j => missing.contains (first + 8 * b + j)))))
        let s := putGraft graft_ { g with progress := s.now } s
        each ((upTo 64).filter (relayUp s)) (fun r s => sendRelay r 0x42 0 graft_ first len map s) s
      else s) s

/-! Pollen v1 (R344). -/

/-- Queue a Pollen frame for a cell. -/
def pollenSend (l : List Byte) (s : State) : State := { s with grf := { s.grf with pollenOut := s.grf.pollenOut ++ [l] } }

/-- The bytes of an object from `off`, `n` of them, where all the Pollen pieces they lie in are held. -/
def objectBytes (g : Graft) (off n : Nat) : Option (List Byte) :=
  let ks := (upTo ((off + n + 95) / 96 - off / 96)).map (off / 96 + ·)
  if ks.all (fun k => (tabFind g.small k).isSome) then
    some (slice ((ks.map (fun k => tabGet g.small k [])).flatten) (off % 96) n)
  else none

/-- The leaf hashes of an object, where its manifest is verified and they are held. -/
def objectLeaves (g : Graft) : Option (List (List Byte)) :=
  let n := pieceCount g.manifest
  (objectBytes g g.manifest.length (32 * n)).map (pieces 32 n)

/-- Clear the Pollen pieces that hold bytes of a range, to be asked for again. -/
def clearSmall (off n : Nat) (g : Graft) : Graft :=
  { g with small := g.small.filter (fun (k, _) => decide (96 * (k + 1) ≤ off ∨ off + n ≤ 96 * k)) }

/-- The manifest of an object is verified once its bytes are held. -/
def pollenManifest (id : Nat) (s : State) : State :=
  let g := graft s id
  if !g.manifest.isEmpty then s
  else
    match objectBytes g 0 0x80 with
    | none => s
    | some h =>
      match objectBytes g 0 (manLength h) with
      | none => s
      | some m => (takeManifest id m s).2

/-- The leaf hashes are checked against the root; hashes that fail are cleared. -/
def pollenLeaves (id : Nat) (s : State) : State :=
  let g := graft s id
  if g.manifest.isEmpty then s
  else
    match objectLeaves g with
    | some l =>
      if treeRoot 32 l = manRoot g.manifest ∨ l.isEmpty then s
      else pieceBad (putGraft id (clearSmall g.manifest.length (32 * pieceCount g.manifest) g) s)
    | none => s

/-- Delta pieces whose bytes are all held are verified against their leaf hashes. -/
def pollenDelta (id : Nat) (is : List Nat) (s : State) : State :=
  each is (fun i s =>
    let g := graft s id
    match objectLeaves g with
    | none => s
    | some leaves =>
      let at_ := g.manifest.length + 32 * leaves.length + 4096 * i
      match if (tabFind g.pieces i).isSome then none else objectBytes g at_ (pieceLen g.manifest i) with
      | none => s
      | some p =>
        if leaves[i]? = some (leafHash i p) then
          putGraft id { g with pieces := tabPut g.pieces i p, paths := tabPut g.paths i (treePath 32 i leaves).flatten, progress := s.now } s
        else pieceBad (putGraft id (clearSmall at_ (pieceLen g.manifest i) g) s)) s

/-- Delta pieces that a Pollen piece's bytes may complete. -/
def piecesAt (g : Graft) (k : Nat) : List Nat :=
  match g.manifest with
  | [] => []
  | m =>
    let at_ := m.length + 32 * pieceCount m
    if 96 * (k + 1) ≤ at_ then upTo (pieceCount m)
    else [(96 * k - at_) / 4096, (96 * k + 95 - at_) / 4096].filter (fun i => decide (i < pieceCount m))

/-- Ask for up to 512 Pollen pieces of an object that are missing, from the first of them on. -/
def wantPollen (id : Nat) (s : State) : State :=
  let g := graft s id
  let total := ceilDiv g.objLen 96
  match firstBelow total (fun k => (tabFind g.small k).isNone) with
  | none => s
  | some f =>
    let n := min 512 (total - f)
    pollenSend ([0xF7#8, 0x02#8] ++ leBytes 4 id ++ leBytes 4 f ++ leBytes 2 n
      ++ (upTo (ceilDiv n 8)).map (fun b => BitVec.ofNat 8 (maskOf ((upTo 8).filter (fun j =>
          decide (8 * b + j < n) && (tabFind g.small (f + 8 * b + j)).isNone))))) s

/-- A Pollen PIECE: stored once, if its check holds; a window of 512 pieces that is full asks for the next, and pieces that a
check clears are asked for again. -/
def onPollenPiece (l : List Byte) (s : State) : State :=
  let id := leAt l 2 4
  let k := leAt l 6 4
  let n := byteAt l 10
  let d := slice l 11 n
  let g := graft s id
  if n = 0 ∨ n ≠ min 96 (g.objLen - 96 * k) ∨ l.length < 13 + n ∨ leAt l (11 + n) 2 ≠ crc16 d ∨ (tabFind g.small k).isSome then s
  else
    let g := { g with small := tabPut g.small k d, progress := s.now }
    let s := stageBytes id (2 ^ 33 + k) d ((putGraft id g s).inc F.GRF_POLLEN_CNT_count)
    let s := pollenLeaves id (pollenManifest id (showProgress id g.small.length s))
    let s := pollenDelta id (piecesAt (graft s id) k) s
    let w := (upTo 512).map (512 * (k / 512) + ·)
    if decide ((graft s id).small.length < g.small.length)
        || w.all (fun j => decide (g.objLen ≤ 96 * j) || (tabFind g.small j).isSome) then wantPollen id s
    else s

/-- The Pollen piece of an object: held, or cut from a graft that is whole. -/
def pollenPiece (g : Graft) (k : Nat) : Option (List Byte) :=
  match tabFind g.small k with
  | some d => some d
  | none =>
    if allHeld g then
      let n := pieceCount g.manifest
      let leaves := (upTo n).flatMap (fun i => leafHash i (tabGet g.pieces i []))
      let o := g.manifest ++ leaves ++ ((upTo n).map (fun i => tabGet g.pieces i [])).flatten
      if 96 * k < o.length then some (slice o (96 * k) 96) else none
    else none

/-- A Pollen WANT is answered with the pieces held. -/
def onPollenWant (l : List Byte) (s : State) : State :=
  let id := leAt l 2 4
  let first := leAt l 6 4
  let n := min 512 (leAt l 10 2)
  each ((upTo n).filter (fun j => bit (byteAt l (12 + j / 8)) (j % 8))) (fun j s =>
    match pollenPiece (graft s id) (first + j) with
    | some d => pollenSend ([0xF7#8, 0x01#8] ++ leBytes 4 id ++ leBytes 4 (first + j) ++ leBytes 1 d.length ++ d ++ leBytes 2 (crc16 d)) s
    | none => s) s

/-- A Pollen ANNOUNCE: an object not yet held is asked for. -/
def onPollenAnnounce (l : List Byte) (s : State) : State :=
  let id := leAt l 2 4
  let len := leAt l 6 4
  let g := graft s id
  if g.objLen ≠ 0 ∨ allHeld g = true then s
  else if stagingSize s < stagingUsed s id + len then grfResult 11 0 s
  else
    let s := showProgress id 0 (putGraft id { g with objLen := len, progress := s.now } s)
    wantPollen id s

/-- Transfers under way resume from their bitmaps (R344): what is missing is asked for. -/
def resumePollen (s : State) : State := each ((s.nv.grafts.filter (fun x => decide (x.2.objLen ≠ 0))).map Prod.fst) wantPollen s

/-- A Pollen message, from its dispatch octet on, in the payload of a secured data frame (R344). -/
def pollenMessage (l : List Byte) (s : State) : State :=
  if !s.on F.GRF_CTL_pollen_en then s
  else if byteAt l 1 = 1 then onPollenPiece l s
  else if byteAt l 1 = 2 then onPollenWant l s
  else if byteAt l 1 = 3 ∧ l.length = 24 then onPollenAnnounce l s
  else s

end Sys2Proof.Machine
end

