-- ==== Sys2Proof/Machine/Bough.lean ====
section
/-!
DEFINITION. Bough: frames from the Ethernet ports, the host and the mesh (R206, R214 to R222, R407, R409), PTP at
the ports (R254 to R259), the port scheduler (R232, R240), host rings (R233, R234), and the writes that configure
traffic (R227, R237, R239).
-/

namespace Sys2Proof.Machine

/-- A signed field. -/
def State.getInt (s : State) (f : Fld) : Int := signed f.width (s.get f)

/-! Downlink (R217, R218, R220, R222). -/

/-- The contexts of BGH_CTX. -/
def contexts (s : State) : List LowpanCtx :=
  (upTo 16).map (fun k => ⟨s.pair (F.BGH_CTX0_prefix_lo k) (F.BGH_CTX1_prefix_hi k), s.on (F.BGH_CTX2_valid k), s.on (F.BGH_CTX2_compress k)⟩)

/-- The mesh prefix. -/
def meshPrefix (s : State) : Nat := s.pair F.BGH_PREFIX_LO_prefix F.BGH_PREFIX_HI_prefix

/-- The IID a neighbour's frames are compressed against: from its short address where it has one, else from its
extended address (R201). -/
def leafMacIid (s : State) (lid : Nat) : Nat :=
  if bit (leafWord s lid 0) 4 then iidOfShort (bits (leafWord s lid 1) 16 16)
  else iidOfEui (leafWord s lid 2 + leafWord s lid 3 * 2 ^ 32)

/-- The router's own IIDs on the mesh: entry 0's, that of its extended address, and that of its short one (R195, R201). -/
def routerIids (s : State) : List Nat :=
  [leafWord s 0 4 + leafWord s 0 5 * 2 ^ 32, iidOfEui (routerEui s)] ++ (routerShort s).toList.map iidOfShort

/-- hop[i] of a leaf's route record. -/
def leafHop (s : State) (lid i : Nat) : Nat := leafWord s lid (30 + 2 * i) + leafWord s lid (31 + 2 * i) * 2 ^ 32

/-- The route of R218 applied to a packet for a leaf with `n` hops. -/
def routed (s : State) (lid n : Nat) (p : List Byte) : List Byte :=
  if n = 0 then p
  else
    let full := decide (addrPrefix (ipDst p) ≠ meshPrefix s)
    let last := if full then ipDst p else octets8 (leafWord s lid 4 + leafWord s lid 5 * 2 ^ 32)
    withRoute p (octets8 (meshPrefix s) ++ octets8 (leafHop s lid 0)) ((upTo (n - 1)).map (fun i => leafHop s lid (i + 1))) last full

/-- The largest PSDU a neighbour takes (R222): where its entry gives none the format's maximum counts, and the
manual does not say which format. -/
def largestPsdu (s : State) (lid : Nat) : Nat :=
  let m := bits (leafWord s lid 17) 16 16
  if m = 0 then (pick s [2047, 127, 64]).getD 2047 else m

/-- Steps 2 to 6 of R217: a packet to a leaf of this router. -/
def toLeaf (addr : Nat) (c : Passage) (orig p : List Byte) (s : State) : Fate :=
  let lid := addr % 2 ^ 17
  let next := bits (leafWord s lid 28) 0 17
  let hops := bits (leafWord s lid 28) 17 4
  let via := if hops = 0 then lid else next
  if leafState s lid = 0 then exception 0x06 addr c orig s
  else if byteAt p 7 ≤ 1 then exception 0x0B addr c orig s
  else if 8 < hops ∨ lid = 0 ∨ via = 0 ∨ leafState s via = 0 then exception 0x0C addr c orig s
  else if hasExtHeader p then exception 0x0E addr c orig s
  else
    let q := routed s lid hops (patch p 7 (leBytes 1 (byteAt p 7 - 1)))
    let out := compress (contexts s) (leafMacIid s 0) (leafMacIid s via) q
    let m := largestPsdu s via
    if m < out.length + s.get F.BGH_CFG_mac_ovh then exception 0x03 addr c orig s.used
    else toVq via (bits (leafWord s lid 17) 0 6) c out s.used

/-- A packet for a leaf of another router goes to it as a grove data frame (R214, R217), to a version 1 peer one of version 1
(R355) of the same layout (DESIGN CHOICE, notes/assumptions/172). -/
def toOwner (set addr : Nat) (c : Passage) (p : List Byte) (s : State) : Fate :=
  if c.yellow && yellowBar s 4 then (0, dropFrame c 3 s)
  else
    let v : Nat := if s.get (F.GRV_PEER_STATUS_ver (s.get (F.BGH_SET1_owner set))) = 1 then 1 else 2
    let h := [0x10#8] ++ leBytes 1 v ++ leBytes 2 set ++ leBytes 4 (s.get (F.BGH_SET0_epoch set)) ++ leBytes 4 addr
    (0, sendToPeer (s.get (F.BGH_SET1_owner set)) false (h ++ p) (freeCells c.alloc c.cells s))

/-- A downlink packet for a LEAF target (R217): `orig` is the frame that firmware gets. -/
def downlink (e : LearnEntry) (c : Passage) (orig p : List Byte) (s : State) : Fate :=
  let addr := e.target
  let set := e.setId % 4096
  if !s.on F.BGH_CFG_grove_en || setServed s set then toLeaf addr c orig p s
  else if !s.on (F.BGH_SET1_valid set) then exception 0x07 addr c orig s
  else if s.on (F.BGH_SET1_standby set) then exception 0x08 addr c orig s
  else toOwner set addr c p s

/-- A received grove data frame (R214, R215): the bytes above UDP. -/
def groveData (c : Passage) (orig m : List Byte) (s : State) : Fate :=
  let set := leAt m 2 2 % 4096
  let epoch := leAt m 4 4
  let addr := leAt m 8 4 % 2 ^ 23
  let p := m.drop 12
  let cur := s.get (F.BGH_SET0_epoch set)
  if byteAt m 1 ≠ 2 then exception 0x0A addr c orig s
  else if !isIpv6 p then exception 0x05 addr c orig s
  else if !s.on F.BGH_CFG_grove_en then toLeaf addr c orig (ipv6Of p) s
  else if !s.on (F.BGH_SET1_valid set) then exception 0x07 addr c orig s
  else if epoch < cur then
    (0, ((freeCells c.alloc c.cells s).inc F.BGH_EPOCH_DROP_CNT_count).event F.BGH_STAT_epoch_stale F.BGH_EVCNT_epoch_stale_cnt)
  else if cur < epoch then
    let s := s.event F.BGH_STAT_epoch_ahead F.BGH_EVCNT_epoch_ahead_cnt
    let was := setServed s set
    let s := s.setIf (decide (s.get (F.BGH_SET1_owner set) = routerId s)) (F.BGH_SET1_standby set) 1
    exception 0x08 addr c orig (followSet was set s)
  else if setServed s set then toLeaf addr c orig (ipv6Of p) s
  else exception 0x09 addr c orig s

/-! Frames from the ports and the host (R216). -/

/-- A frame sent to BGH_MAC (R216). -/
def toRouter (c : Passage) (frame : List Byte) (s : State) : Fate :=
  let l := frame.drop 14
  if beAt frame 12 2 ≠ 0x86DD ∨ isIpv6 l = false then exception 0x05 0 c frame s
  else
    let p := ipv6Of l
    let grove := match udpOf p with
      | some (_, dp, m) => if ipDst p = ownAddr s ∧ dp = s.get F.GRV_PORT_port then some m else none
      | none => none
    match grove with
    | some m => if byteAt m 0 = 0x10 then groveData c frame m s else (0, receiveMessage c frame (ipSrc p) m s)
    | none =>
      if addrPrefix (ipDst p) = meshPrefix s then
        let (hit, s) := lookup 0 (addrIid (ipDst p)) s
        match hit with
        | some e => if e.leafClass && !e.toPort then downlink e c frame p s else exception 0x04 0 c frame s
        | none => exception 0x04 0 c frame s
      else exception 0x05 0 c frame s

/-- Forward an untagged frame by its destination (R207, R216). -/
def forward (force : Bool) (c : Passage) (frame : List Byte) (s : State) : Fate :=
  let dst := beAt frame 0 6
  if bit dst 40 then
    let s := if beAt frame 12 2 = 0x86DD then
        let (x, s) := allocCells c.alloc frame.length s
        match x with
        | some cells => (exception 0x05 0 { c with cells := cells } frame s).2
        | none => countDrop 0 s
      else s
    flood none c frame s
  else if dst = routerMac s then toRouter c frame s
  else bridge force none c frame s

/-- Hardware learning (R206, R207): whether the frame's backhaul forwarding becomes a flood. -/
def learn (port src vlan : Nat) (s : State) : Bool × State :=
  if !s.on (F.LRN_CLASS_CFG_learn_en 0) || bit src 40 then (false, s)
  else
    let key := macKey src vlan
    let (ok, s) := hwAccess 8 6 (0x2800000 + 128 * bucketOf s key) true s
    if !ok then (false, s)
    else
      match findEntry s 1 key with
      | some (n, e) =>
        if e.static || !e.toPort then (false, s)
        else
          let seen := { e with ctl := withHitAge e.ctl true 0, hits := min (e.hits + 1) 0xFFFFFFFF }
          if e.target % 8 = port then (false, putLearn n seen s)
          else (false, ((putLearn n { seen with ctl := seen.ctl - e.target + port } s).inc F.LRN_MOVE_CNT_count).set F.LRN_STAT_move 1)
      | none =>
        let (r, s) := insert { ctl := 2 ^ 29 + 2 ^ 23 + port, key := key } s
        if r = .noRoom then (true, (s.inc F.LRN_FLOOD_CNT_count).set F.LRN_STAT_flood 1) else (false, s)

/-- A meter's colour for a frame of `n` bytes (R238): 0 green, 1 yellow, 2 red. -/
def meterColour (m n : Nat) (dei : Bool) (s : State) : Nat × State :=
  let x := tabGet s.traffic.meters m {}
  let cir := s.get (F.TRF_METER0_cir m)
  let cbs := s.get (F.TRF_METER2_cbs m)
  let tc := min (cbs * 8000000) (x.tc + cir * (s.now - x.last))
  let tp := min (max (s.get (F.TRF_METER3_pbs m)) cbs * 8000000) (x.tp + max (s.get (F.TRF_METER1_pir m)) cir * (s.now - x.last))
  let b := n * 8000000
  let k := if tp < b then 2 else if (s.on (F.TRF_METER4_color_aware m) && dei) || decide (tc < b) then 1 else 0
  let x : MeterState := ⟨if k = 0 then tc - b else tc, if k = 2 then tp else tp - b, s.now⟩
  let s := { s with traffic := { s.traffic with meters := tabPut s.traffic.meters m x } }
  (k, s.inc (if k = 0 then F.TRF_METER5_green_cnt m else if k = 1 then F.TRF_METER6_yellow_cnt m else F.TRF_METER7_red_cnt m))

/-- A PTP message in an untagged frame (R254): where it begins, whether it is UDP, its messageType. -/
structure PtpMsg where
  at_ : Nat
  udp : Bool
  type : Nat
  deriving DecidableEq, Repr

/-- Recognise a PTP message (R254). -/
def ptpOf (frame : List Byte) : Option PtpMsg :=
  if beAt frame 12 2 = 0x88F7 then some ⟨14, false, byteAt frame 14 % 16⟩
  else if beAt frame 12 2 = 0x86DD ∧ isIpv6 (frame.drop 14) then
    match udpOf (ipv6Of (frame.drop 14)) with
    | some (_, dp, _) =>
      let type := byteAt frame 62 % 16
      if (dp = 319 ∧ type < 4) ∨ (dp = 320 ∧ 4 ≤ type) then some ⟨62, true, type⟩ else none
    | none => none
  else none

/-- Whether a port's wake pattern matches an untagged frame (R409). -/
def wakeMatch (s : State) (p : Nat) (frame : List Byte) : Bool :=
  s.on (F.ETH_WAKE_CFG_en p) && decide (beAt frame 0 6 = routerMac s) &&
    (upTo 4).all (fun i =>
      let m := s.get (F.ETH_WAKE_MASK_mask p i)
      decide (leAt frame (14 + 4 * i) 4 &&& m = s.get (F.ETH_WAKE_PAT_pat p i) &&& m))

/-- Metering, learning and forwarding of a frame that a port has taken in (R216, R238, R239). -/
def meterAndForward (c : Passage) (n : Nat) (frame : List Byte) (s : State) : State :=
  let (k, s) := if s.on (F.TRF_VLAN_METER_en c.vlan) then meterColour (s.get (F.TRF_VLAN_METER_meter c.vlan)) n (decide (c.dei = 1)) s else (0, s)
  let red := decide (k = 2) && !s.on (F.TRF_METER4_red_action (s.get (F.TRF_VLAN_METER_meter c.vlan)))
  if red then dropFrame c 4 s
  else
    let (force, s) := learn c.ingress (beAt frame 6 6) c.vlan s
    (forward force { c with yellow := decide (k ≠ 0) } frame s).2

/-- Drop a frame on ingress (R407). -/
def ingressDrop (p : Nat) (s : State) : State := (s.inc (F.ETH_RX_DROP_CNT_count p)).set (F.ETH_STAT_rx_drop p) 1

/-- Whether a port receives. -/
def portUp (s : State) (p : Nat) : Bool := s.on (F.ETH_STATUS_link_up p) && s.domOn 25 && !s.pruned 7 p

/-- A frame arrives on a port, without its FCS (R407); `stamp` is in 1/256 ns at the balls (R255).  What a pruned port still sends
into the part is discarded at its fence (R387). -/
def ethFrame (port : Nat) (l : List Byte) (fcsOk : Bool) (stamp : Nat) (s : State) : State :=
  if s.pruned 7 port then fenceDrop s
  else if !portUp s port || decide (l.length < 14) then s
  else
    let s := (s.reach (stamp / 256)).inc (F.ETH_RX_FRAMES_count port)
    let tagged := decide (beAt l 12 2 = 0x8100 ∧ 18 ≤ l.length)
    let tci := if tagged then beAt l 14 2 else 0
    let frame := if tagged then l.take 12 ++ l.drop 16 else l
    let vlan := if tci % 4096 = 0 then s.get (F.ETH_CFG_def_vlan port) else tci % 4096
    let pcp := if tagged then tci / 2 ^ 13 else s.get (F.ETH_CFG_def_pcp port)
    let stamp := (stamp + s.getInt (F.TMB_PTP_ADJ_rx_adj port) * 256).toNat
    if !fcsOk then (s.inc (F.ETH_FCS_ERR_CNT_count port)).event (F.ETH_STAT_fcs_err port) (F.ETH_EVCNT_fcs_cnt port)
    else if maxFrame s port < l.length + 4 then s.inc (F.ETH_OVERSIZE_CNT_count port)
    else if !carries s port vlan then ingressDrop port s
    else
      let s := if wakeMatch s port frame then wakeSource 2 25 port (s.set (F.ETH_STAT_wake port) 1) else s
      let (cells, s) := allocCells 1 frame.length s
      match cells with
      | none => countDrop 0 s
      | some x =>
        let c : Passage := ⟨port, vlan, pcp, tci / 4096 % 2, stamp, 0, false, 1, x, 0, false, none, decide (s.get (F.TMB_PTP_PORT_mode port) = 1)⟩
        if (ptpOf frame).isSome && decide (s.get (F.TMB_PTP_PORT_mode port) = 0) then toHost (s.get F.TMB_PTP_CFG_q) 0 1 l stamp x s
        else meterAndForward c (l.length + 4) frame s

/-- ETH_FRAME_RX (R407). -/
def execEthFrameRx (port : Nat) (frame : List Byte) (fcsOk : Bool) (stamp : Nat) (s : State) : Host.Outcome State Fault Refusal :=
  run (ethFrame port frame fcsOk stamp) s

/-! Grove protocol messages, each by a frame of a port. -/

/-- The type of the grove message a frame carries, tagged or not (R351). -/
def groveType (s : State) (l : List Byte) : Option Nat :=
  let frame := if beAt l 12 2 = 0x8100 then l.take 12 ++ l.drop 16 else l
  if beAt frame 0 6 = routerMac s ∧ beAt frame 12 2 = 0x86DD ∧ isIpv6 (frame.drop 14) then
    match udpOf (ipv6Of (frame.drop 14)) with
    | some (_, dp, m) => if ipDst (frame.drop 14) = ownAddr s ∧ dp = s.get F.GRV_PORT_port then some (byteAt m 0) else none
    | none => none
  else none

/-- A frame that carries a grove message of a type arrives. -/
def groveFrame (type port : Nat) (l : List Byte) (stamp : Nat) (s : State) : State :=
  s.when (decide (groveType s l = some type)) (ethFrame port l true stamp)

/-- HELLO (R354). -/
def execHello (port : Nat) (frame : List Byte) (stamp : Nat) (s : State) : Host.Outcome State Fault Refusal := run (groveFrame 0x01 port frame stamp) s
/-- HELLO_ACK (R354). -/
def execHelloAck (port : Nat) (frame : List Byte) (stamp : Nat) (s : State) : Host.Outcome State Fault Refusal := run (groveFrame 0x02 port frame stamp) s
/-- HEARTBEAT (R356, R357). -/
def execHeartbeat (port : Nat) (frame : List Byte) (stamp : Nat) (s : State) : Host.Outcome State Fault Refusal := run (groveFrame 0x03 port frame stamp) s
/-- OWN (R359). -/
def execOwn (port : Nat) (frame : List Byte) (stamp : Nat) (s : State) : Host.Outcome State Fault Refusal := run (groveFrame 0x04 port frame stamp) s
/-- OWN_REQ (R353). -/
def execOwnReq (port : Nat) (frame : List Byte) (stamp : Nat) (s : State) : Host.Outcome State Fault Refusal := run (groveFrame 0x05 port frame stamp) s
/-- DIGEST (R353). -/
def execDigest (port : Nat) (frame : List Byte) (stamp : Nat) (s : State) : Host.Outcome State Fault Refusal := run (groveFrame 0x06 port frame stamp) s
/-- SHADOW (R353). -/
def execShadow (port : Nat) (frame : List Byte) (stamp : Nat) (s : State) : Host.Outcome State Fault Refusal := run (groveFrame 0x07 port frame stamp) s
/-- SHADOW_KEY (R353). -/
def execShadowKey (port : Nat) (frame : List Byte) (stamp : Nat) (s : State) : Host.Outcome State Fault Refusal := run (groveFrame 0x08 port frame stamp) s
/-- MAN_CHUNK (R342). -/
def execManChunk (port : Nat) (frame : List Byte) (stamp : Nat) (s : State) : Host.Outcome State Fault Refusal := run (groveFrame 0x40 port frame stamp) s
/-- PIECE (R342). -/
def execPiece (port : Nat) (frame : List Byte) (stamp : Nat) (s : State) : Host.Outcome State Fault Refusal := run (groveFrame 0x41 port frame stamp) s
/-- WANT (R342). -/
def execWant (port : Nat) (frame : List Byte) (stamp : Nat) (s : State) : Host.Outcome State Fault Refusal := run (groveFrame 0x42 port frame stamp) s
/-- DONE (R342). -/
def execDone (port : Nat) (frame : List Byte) (stamp : Nat) (s : State) : Host.Outcome State Fault Refusal := run (groveFrame 0x43 port frame stamp) s

/-! Uplink (R219). -/

/-- One of the router's own addresses, a link-local or a multicast one. -/
def localAddr (s : State) (a : List Byte) : Bool :=
  decide (byteAt a 0 = 0xFF) || decide (beAt a 0 2 / 64 = 0x3FA) || decide (a = ownAddr s)
    || (routerIids s).any (fun i => decide (a = octets8 (meshPrefix s) ++ octets8 i))

/-- Steps 3 to 5 of R219 for a decompressed packet: `q` is the port queue of the source's class, `addr` its grove
leaf address. -/
def uplink (q addr : Nat) (c : Passage) (orig p : List Byte) (s : State) : Fate :=
  let (hit, s) := if addrPrefix (ipDst p) = meshPrefix s then lookup 0 (addrIid (ipDst p)) s else (none, s)
  match hit.bind (fun e => if e.leafClass && !e.toPort then some e else none) with
  | some e => downlink e c orig p s
  | none =>
    if localAddr s (ipDst p) then exception 0x05 addr c orig s
    else if byteAt p 7 ≤ 1 then exception 0x0B addr c orig s
    else
      let frame := beBytes 6 (s.get F.BGH_UPLINK_LO_mac + s.get F.BGH_UPLINK_HI_mac * 2 ^ 32) ++ beBytes 6 (routerMac s)
        ++ [0x86#8, 0xDD#8] ++ patch p 7 (leBytes 1 (byteAt p 7 - 1))
      let tci := s.open 4
      bridge false (some q) { c with vlan := s.get F.BGH_UPLINK_HI_vlan, pcp := tci % 8, dei := tci / 8
                                     tagged := some (s.on F.BGH_UPLINK_HI_tagged) } frame s.used

/-! The port scheduler (R232, R240) and PTP on egress (R255 to R259). -/

/-- The trailer that keeps the one's-complement sum of a UDP payload (R257). -/
def withTrailer (old new : List Byte) : List Byte :=
  let n := old.length - 2
  let t := (onesSum old % 65535 + 65535 - onesSum (new.take n) % 65535) % 65535
  let t := if n % 2 = 0 then t else t % 256 * 256 + t / 256
  new.take n ++ beBytes 2 t

/-- Change a PTP message in a frame: the trailer of a UDP one is rewritten, and one without a trailer is sent
unchanged (R257).  The flag says whether it was changed. -/
def changePtp (m : PtpMsg) (frame : List Byte) (f : List Byte → List Byte) (s : State) : Bool × List Byte × State :=
  if !m.udp then (true, f frame, s)
  else
    let n := beAt frame 58 2 - 8
    let old := slice frame 62 n
    if n < beAt frame 64 2 + 2 then (false, frame, (s.inc F.TMB_NO_TRAILER_CNT_count).set F.TMB_STAT_no_trailer 1)
    else (true, frame.take 62 ++ withTrailer old (slice (f frame) 62 n) ++ frame.drop (62 + n), s)

/-- Add 1/256 ns to correctionField (R256). -/
def correct (m : PtpMsg) (d : Int) (frame : List Byte) : List Byte :=
  patch frame (m.at_ + 8) (beBytes 8 (unsigned 64 ((beAt frame (m.at_ + 8) 8 : Nat) + d * 256)))

/-- The transmit stamp as originTimestamp, with its fraction in correctionField (R258). -/
def stampOrigin (m : PtpMsg) (t : Nat) (frame : List Byte) : List Byte :=
  let ns := t / 256
  correct m (t % 256 : Nat) (patch frame (m.at_ + 34) (beBytes 6 (ns / 1000000000) ++ beBytes 4 (ns % 1000000000)))

/-- PTP on egress of a port at a stamp (R256, R258, R259). -/
def ptpEgress (port t : Nat) (f : PortFrame) (s : State) : List Byte × State :=
  match ptpOf f.frame with
  | none => (f.frame, s)
  | some m =>
    if 4 ≤ m.type then (f.frame, s)
    else if f.transparent = true ∧ s.get (F.TMB_PTP_PORT_mode port) = 1 then
      let (_, l, s) := changePtp m f.frame (correct m ((t : Int) - f.stamp)) s
      (l, s)
    else if f.ingress = 4 ∧ s.get (F.TMB_PTP_PORT_mode port) = 0 then
      let one := decide (m.type = 0) && s.on (F.TMB_PTP_PORT_one_step port)
      let (done, l, s) := if one then changePtp m f.frame (stampOrigin m t) s else (false, f.frame, s)
      (l, pushStamp ⟨done, m.udp, port, m.type, beAt f.frame (m.at_ + 30) 2, byteAt f.frame (m.at_ + 4), f.tag, t⟩ s)
    else (f.frame, s)

/-- The relay's rate limit on a port (R342): its bucket brought up to the present, 64 KiB deep. -/
def relayTokens (s : State) (p : Nat) : MeterState :=
  let x := tabGet s.grf.tokens p ⟨65536 * 8000000, 0, 0⟩
  { x with tc := min (65536 * 8000000) (x.tc + lineRate s p * clamp 1 50 (s.get F.GRF_RELAY_CFG_pct) * (s.now - x.last) / 100), last := s.now }

/-- Whether the head frame of a port queue may be sent now. -/
def portReady (s : State) (p q : Nat) : Bool :=
  match tabGet s.traffic.ports (8 * p + q) [] with
  | [] => false
  | f :: _ => eligible s (64 + 8 * p + q) && (!f.relay || decide ((f.frame.length + 4) * 8000000 ≤ (relayTokens s p).tc))

/-- When the head frame of a port queue became head. -/
def headSince (s : State) (p q : Nat) : Nat := tabGet s.traffic.portSince (8 * p + q) 0

/-- The queue a port sends from, and whether it is promoted (R232, R240): of promoted queues whose heads are equally old the
highest-numbered (DESIGN CHOICE, notes/assumptions/164). -/
def portChoice (s : State) (p : Nat) : Option (Nat × Bool) :=
  let ready := ((upTo 8).reverse).filter (portReady s p)
  let age := clamp 10 600000 (s.get F.TRF_AGE_BH_age_ms) * 1000000
  let old := ready.filter (fun q => decide (headSince s p q + age < s.now))
  match old with
  | [] => ready.head?.map (fun q => (q, false))
  | q :: rest => some (rest.foldl (fun b r => if headSince s p r < headSince s p b then r else b) q, true)

/-- Count a promotion (R240). -/
def promote (s : State) : State := (s.inc F.TRF_PROMOTE_CNT_count).event F.TRF_STAT_promote F.TRF_EVCNT_promote_cnt

/-- Take the head frame off a port queue. -/
def popPort (p q : Nat) (rest : List PortFrame) (s : State) : State :=
  let k := 8 * p + q
  { s with traffic := { s.traffic with
    ports := if rest.isEmpty then tabErase s.traffic.ports k else tabPut s.traffic.ports k rest
    portSince := if rest.isEmpty then tabErase s.traffic.portSince k else tabPut s.traffic.portSince k s.now } }

/-- A port sends a frame (R226, R235, R408). -/
def portSend (p q stamp : Nat) (f : PortFrame) (rest : List PortFrame) (s : State) : State :=
  let n := wireLength s p f.vlan f.tagged f.frame.length
  let s := shaperTake (64 + 8 * p + q) (8 * (n + 20)) rest.isEmpty (syncShapers s)
  let put (x : MeterState) (s : State) : State := { s with grf := { s.grf with tokens := tabPut s.grf.tokens p x } }
  let s := if f.relay then put { relayTokens s p with tc := (relayTokens s p).tc - n * 8000000 } s else s
  let (l, s) := ptpEgress p (stamp + s.getInt (F.TMB_PTP_ADJ_tx_adj p) * 256).toNat f (popPort p q rest s)
  let l := if leavesUntagged s p f.vlan f.tagged then l
    else l.take 12 ++ [0x81#8, 0#8] ++ beBytes 2 (f.pcp * 2 ^ 13 + f.dei * 2 ^ 12 + f.vlan) ++ l.drop 12
  let s := (freeCells 4 f.cells s).inc (F.ETH_TX_FRAMES_count p)
  s.emit (.ethernet p (l ++ leBytes 4 (crc32 l)))

/-- PORT_TRANSMIT_OPPORTUNITY (R232): `stamp` is the frame's stamp at the balls in 1/256 ns (R255). -/
def execPortTransmitOpportunity (port stamp : Nat) (s : State) : Host.Outcome State Fault Refusal :=
  run (fun s =>
    let s := s.reach (stamp / 256)
    if !portUp s port then s
    else
      match portChoice s port with
      | none => s
      | some (q, promoted) =>
        match tabGet s.traffic.ports (8 * port + q) [] with
        | [] => s
        | f :: rest =>
          if s.cellsLost f.cells then countDrop 6 (freeCells 4 f.cells (popPort port q rest (syncShapers s)))
          else portSend port q stamp f rest (s.when promoted promote)) s

/-! Host rings (R233, R234). -/

/-- Execute a to-part descriptor: its status (R234). -/
def hostDesc (ue : List Nat) (d : List Byte) (s : State) : Fate :=
  let len := leAt d 2 2
  let lid := leAt d 16 4 % 2 ^ 17
  if byteAt d 0 ≠ 1 ∨ 1 < byteAt d 1 ∨ (byteAt d 1 = 0 ∧ len < 14) ∨ (byteAt d 1 = 1 ∧ lid = 0) then (2, s)
  else
    match dramFetch ue 6 (leAt d 8 8 / 16 * 16) len s with
    | (none, s) => (3, s)
    | (some l, s) =>
      match allocCells 2 len s with
      | (none, s) => (1, countDrop 0 s)
      | (some x, s) =>
        let tagged := decide (beAt l 12 2 = 0x8100 ∧ 18 ≤ l.length)
        let tci := if tagged then beAt l 14 2 else s.open 12
        let pcp := if tagged then tci / 2 ^ 13 else 8
        let c : Passage := ⟨4, tci % 4096, pcp, tci / 4096 % 2, s.stamp, leAt d 20 4, false, 2, x, 0, false, none, false⟩
        if byteAt d 1 = 1 then toVq lid (byteAt d 4 % 64) { c with vlan := 0 } l s
        else
          let frame := if tagged then l.take 12 ++ l.drop 16 else l
          let (force, s) := learn 4 (beAt frame 6 6) c.vlan s.used
          forward force c frame s

/-- Whether a to-part ring has a descriptor to execute. -/
def hostWaits (s : State) (k : Nat) : Bool :=
  let n := ringSize (s.get (F.TRF_HQ_TP_CFG_log2_size k))
  s.on (F.TRF_HQ_TP_CFG_en k) && decide (s.get (F.TRF_HQ_TP_TAIL_index k) % n ≠ s.get (F.TRF_HQ_TP_HEAD_index k) % n)

/-- Execute the descriptor at a to-part ring's tail (R233). -/
def hostOne (ue : List Nat) (k : Nat) (s : State) : State :=
  if !hostWaits s k then s
  else
    let n := ringSize (s.get (F.TRF_HQ_TP_CFG_log2_size k))
    let t := s.get (F.TRF_HQ_TP_TAIL_index k) % n
    let a := s.pair (F.TRF_HQ_TP_BASE_LO_addr k) (F.TRF_HQ_TP_BASE_HI_addr k) / 32 * 32 + 32 * t
    let (d, s) := dramFetch ue 6 a 32 s
    let (st, s) := match d with | some d => hostDesc ue d s | none => (3, s)
    let (_, s) := dramStore 6 (a + 6) (leBytes 1 st) s
    s.set (F.TRF_HQ_TP_TAIL_index k) ((t + 1) % n)

/-- Execute at most `n` descriptors of a to-part ring. -/
def hostSome (ue : List Nat) (k n : Nat) (s : State) : State :=
  match n with
  | 0 => s
  | n + 1 => hostSome ue k n (hostOne ue k s)

/-- HOSTQ_TP_HEAD_ADVANCE (R233): the part executes up to `done` descriptors before the next command; `ue` lists
DRAM addresses that read uncorrectable. -/
def execHostqTpHeadAdvance (initiator queue head done : Nat) (ue : List Nat) (s : State) : Host.Outcome State Fault Refusal :=
  run (gated ⟨initiator, 0x38040C + 0x40 * queue, true, BitVec.ofNat 32 head⟩
    (fun s => hostSome ue queue done (s.set (F.TRF_HQ_TP_HEAD_index queue) head))) s

/-- A to-host ring's tail is written: waiting frames are delivered into the buffers posted (R233). -/
def writeHostTail (k v : Nat) (s : State) : State :=
  let s := s.set (F.TRF_HQ_TH_TAIL_index k) v
  deliverHost k (tabGet s.traffic.hosts k []).length s

/-- HOSTQ_TH_TAIL_ADVANCE (R233). -/
def execHostqThTailAdvance (initiator queue tail : Nat) (s : State) : Host.Outcome State Fault Refusal :=
  run (gated ⟨initiator, 0x380430 + 0x40 * queue, true, BitVec.ofNat 32 tail⟩ (writeHostTail queue tail)) s

/-! Configuration writes. -/

/-- A write of a reserve (R227). -/
def writeReserve (k : Nat) (v : Word) (s : State) : State :=
  let others := (((upTo 6).filter (fun j => j ≠ k)).map (fun j => s.get (F.TRF_POOL_RES_reserve j))).sum
  let new := bits v.toNat 0 17
  if s.get (F.TRF_POOL_RES_reserve k) < new ∧ s.get F.TRF_CELLS_cells < others + new then s.set F.TRF_STAT_cfg_refused 1
  else s.set (F.TRF_POOL_RES_reserve k) new

/-- TRF_RESERVE_WRITE (R227). -/
def execTrfReserveWrite (initiator alloc : Nat) (value : Word) (s : State) : Host.Outcome State Fault Refusal :=
  run (gated ⟨initiator, 0x380040 + 0x10 * alloc, true, value⟩ (writeReserve alloc value)) s

/-- A shaper's credit takes its reset value (R237). -/
def resetShaper (i : Nat) (s : State) : State :=
  let credit : Int := if s.on (F.TRF_SHP0_reset_mode i) then (s.get (F.TRF_SHP3_hi_credit i) : Int) * 256 else 0
  putShaper i { tabGet s.traffic.shapers i {} with credit := credit, updated := s.now, part := 0 } s

/-- A write of a word of a shaper (R237). -/
def writeShaper (i word : Nat) (v : Word) (s : State) : State :=
  let q := wordField v 0 7
  let taken := (upTo 96).any (fun j => decide (j ≠ i) && s.on (F.TRF_SHP0_en j) && decide (s.get (F.TRF_SHP0_queue j) = q))
  if word = 0 ∧ wordField v 31 1 = 1 ∧ (103 < q ∨ taken = true) then s.set F.TRF_STAT_cfg_refused 1
  else
    let s := writePlain (0x381000 + 0x20 * i + 4 * word) v (syncShapers s)
    if 4 < word then s else deliverHosts (resetShaper i s)

/-- SHAPER_CONFIG_WRITE (R237): words 0 to 4 of a shaper. -/
def execShaperConfigWrite (initiator shaper word : Nat) (value : Word) (s : State) : Host.Outcome State Fault Refusal :=
  run (gated ⟨initiator, 0x381000 + 0x20 * shaper + 4 * word, true, value⟩ (writeShaper shaper word value)) s

/-- SHAPER_CREDIT_ZERO (R236): the instant at which a shaper's rising credit reaches 0. -/
def execShaperCreditZero (shaper : Nat) (s : State) : Host.Outcome State Fault Refusal :=
  run (fun s =>
    let x := tabGet s.traffic.shapers shaper {}
    let slope := s.get (F.TRF_SHP1_idle_slope shaper)
    if s.on (F.TRF_SHP0_en shaper) && decide (x.credit < 0 ∧ slope ≠ 0) then
      let t := max x.updated x.sendingTo + ceilDiv ((-x.credit).toNat * 1000000 - x.part) (slope * 256)
      let s := s.reach t
      deliverHosts (putShaper shaper (shaperNow s shaper) s)
    else s) s

/-- A meter's buckets are filled (R239). -/
def fillMeter (m : Nat) (s : State) : State :=
  let cbs := s.get (F.TRF_METER2_cbs m)
  let x : MeterState := ⟨cbs * 8000000, max (s.get (F.TRF_METER3_pbs m)) cbs * 8000000, s.now⟩
  { s with traffic := { s.traffic with meters := tabPut s.traffic.meters m x } }

/-- A write of a word of a meter (R239). -/
def writeMeter (m word : Nat) (v : Word) (s : State) : State :=
  let s := writePlain (0x388000 + 0x20 * m + 4 * word) v s
  if 4 < word then s else fillMeter m s

/-- METER_CONFIG_WRITE (R239): words 0 to 4 of a meter. -/
def execMeterConfigWrite (initiator meter word : Nat) (value : Word) (s : State) : Host.Outcome State Fault Refusal :=
  run (gated ⟨initiator, 0x388000 + 0x20 * meter + 4 * word, true, value⟩ (writeMeter meter word value)) s

end Sys2Proof.Machine
end

