-- ==== Sys2Proof/Machine/Lanes.lean ====
section
/-!
DEFINITION. Demodulation lanes (R93 to R118): delimiter, header, payload and end of a frame, the
receive descriptor, take-over, self-test, re-admission and microcode.
-/

namespace Sys2Proof.Machine

/-! Delimiters (R97, R98, R101). -/

/-- The number of bits in which two words of `n` bits differ. -/
def hamming (n a b : Nat) : Nat := popCount (a ^^^ b) n

/-- The 128 chips of the Understory sync word, first chip in bit 0: bit 31 first, each bit four chips (R99, R100). -/
def syncChips : Nat := wordFrom (spreadBits (bitsFrom 32 0x9B1E4A73).reverse)

/-- Whether an O-QPSK delimiter's 64 chips, first chip in bit 0, decode exactly to the symbols 7 and 0xA (R98). -/
def sfdChips (received : Nat) : Bool :=
  (symbolsOf 2 ((bitsFrom 64 received).map (fun b => if b then 1 else -1))).map Prod.fst == [7, 10]

/-- What a received delimiter decides: found and coded, found and uncoded, or not found (R97, R98,
R101). -/
def delimiter (format group received : Nat) : Option Bool :=
  if format = 0 then
    let u := if group = 0 then 0x904E else 0x7A0E
    let c := if group = 0 then 0x6F4E else 0x632D
    if hamming 16 received u ≤ 1 then some false else if hamming 16 received c ≤ 1 then some true else none
  else if format = 1 then (if sfdChips received then some false else none)
  else if hamming 128 received syncChips ≤ 16 then some true else none

/-- A frame a lane holds is replaced. -/
def putFrame (n : Nat) (f : LaneFrame) (s : State) : State := { s with lanes := { s.lanes with frames := tabPut s.lanes.frames n f } }

/-- A frame's equaliser meets further symbols (R105 to R107). -/
def adapt (training : Bool) (l : List EqSymbol) (f : LaneFrame) : LaneFrame :=
  let (q, r) := equalise f.eq.toNat training l f.equaliser f.eqReset
  { f with equaliser := q, eqReset := r }

/-- A lane compares a received delimiter (R97, R98, R101, R103): 16 bits for SUN-FSK, 64 hard-decided chips for O-QPSK,
128 for Understory mode, the first chip in bit 0.  Found, it ends the equaliser's training on the symbols since the
detection (R106), and the lane knows what it has measured. -/
def execDelimiterFound (lane received stamp : Nat) (m : FrameMeasure) (symbols : List EqSymbol) (s : State) :
    Host.Outcome State Fault Refusal :=
  runIn (19 + lane / 136) (fun s =>
    match tabFind s.lanes.frames lane with
    | some f =>
      if f.found then s
      else
        match delimiter f.req.format (bits f.fsk.toNat 0 1) received with
        | some c =>
          let f := adapt true symbols f
          let f := { f with found := true, coded := c, sfdStamp := stamp, measure := m
                            incl := f.incl &&& s.get (F.SPC_WIN_INCL_incl (streamWindow s f.req.stream))
                            equaliser := { f.equaliser with trained := some f.equaliser.forward } }
          (putFrame lane f s).set (F.LNE_STATUS_state lane) 2
        | none => s
    | none => s) s

/-! Ending a frame (R111 to R114). -/

/-- A part of a channel vector scaled by 127 / top, as a byte (R79). -/
def vectorPart (top x : Int) : Byte :=
  let q : Rat := (127 * x : Int) / (top : Rat)
  BitVec.ofInt 8 (if q = (q.floor : Rat) then q.floor else q.floor + (if Config.roundsUp q then 1 else 0))

/-- The channel vector of a frame (R79): elements of chains that are not included are 0, and the largest part has
magnitude 127. -/
def vectorBytes (mask : Nat) (v : List Int) : List Byte :=
  let w := (upTo 32).map (fun i => if mask.testBit (i / 2) then v.getD i 0 else 0)
  let top := (w.map (fun x => (x.natAbs : Int))).foldl max 0
  if top = 0 then List.replicate 32 0#8 else w.map (vectorPart top)

/-- Build the receive descriptor of a frame that ends (R114); what is not yet known reads 0 (R111). -/
def buildDescriptor (s : State) (n : Nat) (f : LaneFrame) (status : Nat) (psdu : List Byte) (kept : Bool) : RxDescriptor :=
  let m := f.measure
  let st := f.req.stream
  let bin := s.get (F.SPC_STREAM_bin st)
  let vec := f.found && !m.chanVec.isEmpty
  let fl := b2n f.coded + 2 * b2n (f.whitened && decide (f.req.format ≠ 1)) + 4 * b2n f.crc16 + 8 * b2n kept
    + 16 * b2n f.stored + 32 * b2n vec + 64 * b2n f.eqReset
  ⟨status, f.req.format, f.req.catchClass, f.req.mode, fl, n, f.req.pool, f.gen, f.position, st, bin,
    binWindow s bin, s.get (F.SPC_STREAM_beam st), f.req.cell, f.sfdStamp, f.req.offset, m.cfo, m.symRate, m.rssi,
    min m.snr 255, f.req.snr, min f.fecCorr 255, f.len, f.phr, if kept then f.cells else [],
    if f.found then asnOf s (f.sfdStamp / 256) else 0, 0, m.endDelta, 0,
    if vec then vectorBytes f.incl m.chanVec else [], if kept then psdu else [],
    f.req.cellUse⟩

/-- Output that the collector discards (R92). -/
def discard (s : State) : State := (s.inc F.SRH_GEN_DISCARD_CNT_count).event F.SRH_STAT_gen_discard F.SRH_EVCNT_gen_discard_cnt

/-- The collector takes a descriptor (R92, R113): stale output is discarded and counted. -/
def collect (n : Nat) (f : LaneFrame) (d : RxDescriptor) (s : State) : State :=
  if s.get (F.SRH_LANE_MAP_role n) = 1 ∧ s.get (F.SRH_LANE_MAP_gen n) = f.gen then
    let d := { d with seq := s.lanes.nextSeq }
    let s := { s with lanes := { s.lanes with delivered := s.lanes.delivered ++ [d], nextSeq := (s.lanes.nextSeq + 1) % 2 ^ 32 } }
    s.inc (F.LNE_FRAME_CNT_count n)
  else discard s

/-- The output of a frame that a pruned lane had reaches its fence: it is discarded and counted (R92, R387). -/
def discardFenced (n : Nat) (s : State) : State :=
  discard (fenceDrop { s with lanes := { s.lanes with fenced := tabErase s.lanes.fenced n } })

/-- A frame ends with a descriptor (R110 to R113). -/
def endFrame (n status : Nat) (psdu : List Byte) (complete : Bool) (s : State) : State :=
  match tabFind s.lanes.frames n with
  | none => s
  | some f =>
    let full := complete && !f.noBuffer
    let kept := full && (decide (status = 0) || f.cfg.toNat.testBit 31)
    let d := buildDescriptor s n f status psdu kept
    let s := s.set (F.LNE_STATUS_last_status n) status
    let s := collect n f d s
    let ok := s.get (F.SRH_LANE_MAP_role n) = 1 ∧ s.get (F.SRH_LANE_MAP_gen n) = f.gen
    releaseLane n (kept && decide ok) s

/-- Minimum psdu length and FCS length rules of a header: none where the header is bad (R97, R98, R101).
Answers the PSDU length, whether whitening is present, and whether the FCS is the CRC-16. -/
def parseHeader (format phr : Nat) : Option (Nat × Bool × Bool) :=
  if format = 0 then
    let len := (upTo 11).foldl (fun a i => 2 * a + b2n (phr.testBit (5 + i))) 0
    let short := phr.testBit 3
    if len < (if short then 3 else 5) then none else some (len, phr.testBit 4, short)
  else if format = 1 then (if phr % 128 < 3 then none else some (phr % 128, false, true))
  else
    let len := phr % 256
    if bits phr 12 4 = crc4 phr ∧ bits phr 8 4 = 1 ∧ 5 ≤ len ∧ len ≤ 64 then some (len, true, false) else none

/-- Whether a SUN-FSK header announces a mode switch (R97). -/
def modeSwitch (format phr : Nat) : Bool := decide (format = 0) && phr.testBit 0

/-- The PHR a lane decodes from the soft values received after the delimiter, bit i the i-th bit received. -/
def phrOf (f : LaneFrame) (rx : List Int) : Nat :=
  wordFrom ((decodeBits f.req.format f.coded f.fsk.toNat none rx).1.take (phrBits f.req.format))

/-- What a lane has measured and corrected so far, and its equaliser after further symbols (R104, R106, R108). -/
def laneMeasured (f : LaneFrame) (ended : Bool) (rx : List Int) (m : FrameMeasure) (symbols : List EqSymbol) : LaneFrame :=
  { adapt false symbols f with measure := m, fecCorr := (decodeBits f.req.format f.coded f.fsk.toNat (if ended then some f.len else none) rx).2 }

/-- The status a decoded PHR ends a frame with, if any: PHR_BAD comes before UNSUPPORTED (R97, R98, R101, R112). -/
def headerStatus (format phr : Nat) : Option Nat :=
  if (parseHeader format phr).isNone then some 2 else if modeSwitch format phr then some 3 else none

/-- A lane decodes the PHR (R97, R98, R101) from the soft values received after the delimiter. -/
def execPhrDecode (lane : Nat) (rx : List Int) (m : FrameMeasure) (symbols : List EqSymbol) (s : State) :
    Host.Outcome State Fault Refusal :=
  runIn (19 + lane / 136) (fun s =>
    match tabFind s.lanes.frames lane with
    | some f =>
      if !f.found || f.phrKnown then s
      else
        let phr := phrOf f rx
        let f := { laneMeasured f false rx m symbols with phrKnown := true, phr := phr }
        match headerStatus f.req.format phr with
        | some st => endFrame lane st [] false (putFrame lane f s)
        | none =>
          let (len, wh, short) := (parseHeader f.req.format phr).getD (0, false, false)
          (putFrame lane { f with len := len, whitened := wh, crc16 := short, begun := s.now } s).set (F.LNE_STATUS_state lane) 3
    | none =>
      match tabFind s.lanes.fenced lane with
      | some f => if f.found && !f.phrKnown && (headerStatus f.req.format (phrOf f rx)).isSome then discardFenced lane s else s
      | none => s) s

/-- The equaliser of a frame meets symbols after the delimiter, and returns to its trained taps where their error power
says so (R106, R107). -/
def execEqReset (lane : Nat) (symbols : List EqSymbol) (s : State) : Host.Outcome State Fault Refusal :=
  runIn (19 + lane / 136) (fun s =>
    match tabFind s.lanes.frames lane with
    | some f => if f.found then putFrame lane (adapt false symbols f) s else s
    | none => s) s

/-- A lane takes one more packet-buffer cell for its PSDU; where none is free it releases those it has (R110). -/
def takeCell (n : Nat) (s : State) : State :=
  match tabFind s.lanes.frames n with
  | none => s
  | some f =>
    if f.noBuffer then s
    else
      match allocCells 0 256 s with
      | (some c, s) => putFrame n { f with cells := f.cells ++ c } s
      | (none, s) =>
        (putFrame n { f with cells := [], noBuffer := true } (freeCells 0 f.cells s)).event F.LNE_STAT_no_buffer F.LNE_EVCNT_no_buffer_cnt

/-- Cells of a frame that hold octets decoded by an instant (R110). -/
def cellsBy (f : LaneFrame) (t : Nat) : Nat :=
  if f.phrKnown then ceilDiv (min f.len ((t - f.begun) / octetNs f.req.format f.req.mode f.coded)) 256 else 0

/-- A lane takes cells until its frame has a number of them. -/
def takeUpTo (n k : Nat) (s : State) : State :=
  each (upTo (k - ((tabFind s.lanes.frames n).map (fun f => f.cells.length)).getD 0)) (fun _ s => takeCell n s) s

/-- The lanes store what they have decoded by the present (R110). -/
def storePsdus (s : State) : State := each s.lanes.frames (fun x s => takeUpTo x.1 (cellsBy x.2 s.now) s) s

/-- No delimiter within the pool's wait after the detection; below 100 µs it acts as 100 (R111). -/
def execSfdWaitTimeout (lane : Nat) (s : State) : Host.Outcome State Fault Refusal :=
  runIn (19 + lane / 136) (fun s =>
    match tabFind s.lanes.frames lane with
    | some f =>
      if f.found then s
      else
        let s := s.reach (ceilDiv f.req.stamp 256 + 1000 * max 100 (bits f.cfg.toNat 0 16))
        releaseLane lane false ((s.inc (F.LNE_NOSFD_CNT_count lane)).inc F.LNE_EVCNT_nosfd_cnt)
    | none => s) s

/-- The signal of a frame is lost after its delimiter (R111). -/
def execLostSignal (lane : Nat) (rx : List Int) (m : FrameMeasure) (symbols : List EqSymbol) (s : State) :
    Host.Outcome State Fault Refusal :=
  runIn (19 + lane / 136) (fun s =>
    match tabFind s.lanes.frames lane with
    | some f =>
      if f.found then endFrame lane 4 [] false ((putFrame lane (laneMeasured f false rx m symbols) s).inc F.LNE_EVCNT_lost_cnt) else s
    | none =>
      match tabFind s.lanes.fenced lane with
      | some f => if f.found then discardFenced lane s else s
      | none => s) s

/-- Whether the frame check of a PSDU holds (R97 to R99, R109). -/
def fcsHolds (short : Bool) (l : List Byte) : Bool :=
  if short then decide (leAt l (l.length - 2) 2 = crc16 (l.take (l.length - 2)))
  else decide (leAt l (l.length - 4) 4 = fcs32 (l.take (l.length - 4)))

/-- The PSDU of a frame whose last bit is decoded, whitening removed (R97, R99, R109). -/
def psduOf (f : LaneFrame) (rx : List Int) : List Byte :=
  let l := octetsOf f.len ((decodeBits f.req.format f.coded f.fsk.toNat (some f.len) rx).1.drop (phrBits f.req.format))
  if f.whitened then dewhiten l else l

/-- The last bit of a frame is decoded (R109 to R112), from all the soft values received after the delimiter.  A lane
that is not working has output that is never heard (R92, R387). -/
def execLaneFrameComplete (lane : Nat) (rx : List Int) (m : FrameMeasure) (symbols : List EqSymbol) (s : State) :
    Host.Outcome State Fault Refusal :=
  runIn (19 + lane / 136) (fun s =>
    match tabFind s.lanes.frames lane with
    | some f =>
      if !f.phrKnown then s
      else
        let psdu := psduOf f rx
        let good := fcsHolds f.crc16 psdu
        let s := if good then s else s.inc (F.LNE_CRC_CNT_count lane)
        let s := takeUpTo lane (ceilDiv f.len 256) (putFrame lane (laneMeasured f true rx m symbols) s)
        let lacking := ((tabFind s.lanes.frames lane).map LaneFrame.noBuffer).getD false
        endFrame lane (if lacking then 6 else if good then 0 else 1) psdu true s
    | none => if s.get (F.SRH_LANE_MAP_role lane) ≠ 1 then discardFenced lane s else s) s

/-- A gap mark on a window (R13, R111): frames in progress end with GAP, pending detections end; of a frame that a pruned
lane had, the output is discarded (R92). -/
def gapWindow (w : Nat) (s : State) : State :=
  let s := each ((s.lanes.fenced.filter (fun (_, f) => decide (streamWindow s f.req.stream = w))).map Prod.fst) discardFenced s
  let hit := (s.lanes.frames.filter (fun (_, f) => decide (streamWindow s f.req.stream = w))).map Prod.fst
  let s := each hit (fun n s => endFrame n 5 [] false s) s
  let waiting := (s.search.requests.filter (fun r => decide (streamWindow s r.stream = w))).map LaneRequest.stream
  let s := { s with search := { s.search with requests := s.search.requests.filter (fun r => decide (streamWindow s r.stream ≠ w)) } }
  each waiting (fun i s => if frozen s i then s else releaseStream i s) s

/-! Self-test and microcode (R115 to R118). -/

/-- Start a lane's self-test (R115). -/
def startTest (n : Nat) (by_ : SelfTestBy) (s : State) : State :=
  let role := s.get (F.SRH_LANE_MAP_role n)
  let s := { s with lanes := { s.lanes with
    tests := tabPut s.lanes.tests n by_, oldRole := tabPut s.lanes.oldRole n role
    faulted := s.lanes.faulted.filter (fun x => x ≠ n) } }
  ((s.set (F.SRH_LANE_MAP_role n) 3).set (F.LNE_ST_RESULT_result n) 1).set (F.LNE_STATUS_state n) 5

/-- End a lane's self-test: its role is the one it had. -/
def stopTest (n result : Nat) (s : State) : State :=
  let role := tabGet s.lanes.oldRole n 0
  let s := { s with lanes := { s.lanes with tests := tabErase s.lanes.tests n, oldRole := tabErase s.lanes.oldRole n } }
  ((s.set (F.SRH_LANE_MAP_role n) role).set (F.LNE_ST_RESULT_result n) result).set (F.LNE_STATUS_state n) (if role = 2 then 6 else 0)

/-- A write to LNE_CTL (R115, R116); of both bits in one write the self-test is served first (notes/assumptions/117). -/
def writeLneCtl (n : Nat) (w : Word) (s : State) : State :=
  let role := s.get (F.SRH_LANE_MAP_role n)
  let s := if !w.toNat.testBit 0 then s
    else if role = 1 ∨ role = 3 then s.set (F.LNE_ST_RESULT_result n) 8
    else startTest n .software s
  if !w.toNat.testBit 1 then s
  else if s.get (F.SRH_LANE_MAP_role n) = 2 ∧ s.get (F.LNE_ST_RESULT_result n) = 2 ∧ !s.lanes.faulted.contains n then
    let s := s.setPruned 1 n false
    let s := { s with lanes := { s.lanes with fenced := tabErase s.lanes.fenced n } }
    loadUcode n (((s.setReg (0x1A2000 + 4 * n) 0#32).set (F.LNE_STATUS_state n) 0))
  else s.set F.LNE_STAT_readmit_refused 1

/-- A fault is recorded against a lane: a self-test passed before it counts no more (R116). -/
def laneFaulted (n : Nat) (s : State) : State :=
  { s with lanes := { s.lanes with faulted := if s.lanes.faulted.contains n then s.lanes.faulted else s.lanes.faulted ++ [n] } }

/-- Record a lane's prune in its own register as well (R385, LNE_PRUNE_CAUSE). -/
def recordLanePrune (n cause : Nat) (s : State) : State :=
  let s := recordPrune 1 n cause [] (laneFaulted n s)
  let s := (s.set (F.LNE_PRUNE_CAUSE_rr_index n) (s.get F.PRN_LAST_RR_rr_index)).set (F.LNE_PRUNE_CAUSE_cause n) (min cause 15)
  showSwitching ((s.setReg (0x1A2000 + 4 * n) 0x80000000#32).set (F.LNE_STATUS_state n) 6)

/-- A lane's self-test ends (R115): result 2 is PASS, 3 to 6 name the part that failed. -/
def execLaneSelftestDone (lane result durationUs : Nat) (s : State) : Host.Outcome State Fault Refusal :=
  runIn (19 + lane / 136) (fun s =>
    match tabFind s.lanes.tests lane with
    | none => s
    | some by_ =>
      let result := clamp 2 6 result
      let spare := tabGet s.lanes.oldRole lane 0 = 0
      let s := (stopTest lane result s).set (F.LNE_ST_RESULT_duration_us lane) (min durationUs 65535)
      let s := s.set F.LNE_STAT_selftest_done 1
      if result = 2 then s
      else
        let s := s.event F.LNE_STAT_selftest_fail F.LNE_EVCNT_selftest_fail_cnt
        let s := if by_ = .software then
            ringWrite s 0x13 1 lane (19 + lane / 136) 3 (leBytes 1 result) false else s
        if spare then recordLanePrune lane 3 s
        else if by_ = .readmission then s else s.inc F.PRN_FENCE_DROP_CNT_count) s

/-- The spares of a bank, from the one whose turn is next. -/
def spareTurn (s : State) (bank : Nat) : List Nat :=
  let k := tabGet s.lanes.nextSpare bank 0 % 136
  ((upTo 136).map (fun i => 136 * bank + (k + i) % 136)).filter (fun n => decide (s.get (F.SRH_LANE_MAP_role n) = 0))

/-- A bank's background test timer (R117): the next spare in turn is tested, one at a time. -/
def execSpareTestTimer (bank : Nat) (s : State) : Host.Outcome State Fault Refusal :=
  run (fun s =>
    if bank < 4 ∧ s.get F.LNE_SPARE_TEST_period_s ≠ 0 ∧ s.domOn (19 + bank) ∧
        !s.lanes.tests.any (fun (n, b) => decide (n / 136 = bank ∧ b = .timer)) then
      match (spareTurn s bank).head? with
      | some n =>
        startTest n .timer { s with lanes := { s.lanes with nextSpare := tabPut s.lanes.nextSpare bank (n % 136 + 1) } }
      | none => s
    else s) s

/-- Free spares of a bank, and spares of it under self-test. -/
def bankSpares (s : State) (b : Nat) : List Nat × List Nat :=
  let l := (upTo 136).map (136 * b + ·)
  (l.filter (fun n => decide (s.get (F.SRH_LANE_MAP_role n) = 0)),
   l.filter (fun n => decide (s.get (F.SRH_LANE_MAP_role n) = 3 ∧ tabGet s.lanes.oldRole n 2 = 0)))

/-- The spare that takes over a position of a bank (R91, R117): free spares of the bank, then its spares
under test, then the lowest-numbered other bank with a free spare, then one with a spare under test. -/
def chooseSpare (s : State) (b : Nat) : Option Nat :=
  let own := bankSpares s b
  let others := ((upTo 4).filter (fun x => decide (x ≠ b))).map (bankSpares s)
  match [own.1, own.2].find? (fun l => !l.isEmpty) with
  | some l => pick s l
  | none =>
    match (others.map Prod.fst).find? (fun l => !l.isEmpty) with
    | some l => pick s l
    | none =>
      match (others.map Prod.snd).find? (fun l => !l.isEmpty) with
      | some l => pick s l
      | none => none

/-- The target of a lane that leaves its pool for the spares; other targets are 128 × pool + position. -/
def toSpares : Nat := 4096

/-- The map word of an idle lane that holds the position of a target, or is a spare. -/
def laneWord (t : Nat) : Word :=
  if t = toSpares then 0#32 else BitVec.ofNat 32 (2 ^ 30 + t / 128 * 2 ^ 24 + t % 128 * 2 ^ 16)

/-- A pruned lane and the spare that takes its position trade places in the moves a live re-stand has planned: what
was planned for the lane is now the spare's, and a target of the spare waits for another (R46). -/
def tradePlaces (n m : Nat) (s : State) : State :=
  let other (k : Nat) : Nat := if k = n then m else if k = m then n else k
  { s with stand := { s.stand with planned := s.stand.planned.map (fun x => (other x.1, x.2)) } }

/-- A lane is pruned (R91, R385): its frame is lost, and its position passes to a spare, which takes the
position the lane was still to join if it waited for one (R46). -/
def pruneLane (n cause : Nat) (s : State) : State :=
  let late := s.stand.lateLanes.find? (fun x => decide (x.1 = n))
  let w := match late with | some x => laneWord x.2 | none => s.reg (0x1A2000 + 4 * n)
  let role := if late = some (n, toSpares) then 0 else s.get (F.SRH_LANE_MAP_role n)
  let s := { s with stand := { s.stand with lateLanes := s.stand.lateLanes.filter (fun x => decide (x.1 ≠ n)) } }
  let s := match tabFind s.lanes.frames n with
    | some f =>
      let s := { s with lanes := { s.lanes with fenced := tabPut s.lanes.fenced n f } }
      releaseLane n false (s.inc F.SRH_PRUNE_LOSS_CNT_count)
    | none => s
  let s := if role = 3 then stopTest n 7 s else s
  let s := recordLanePrune n cause s
  if role ≠ 1 then s
  else
    match chooseSpare s (n / 136) with
    | some m =>
      let s := s.used
      let s := if s.get (F.SRH_LANE_MAP_role m) = 3 then stopTest m 7 s else s
      let g := (bits w.toNat 8 8 + 1) % 256
      let s := s.setReg (0x1A2000 + 4 * m) (wordSet (wordSet w 0 8 0) 8 8 g)
      tradePlaces n m s
    | none => noSpare (s.set F.SRH_STAT_no_spare 1)

/-- The update planner activates a LANE image (R118): spares load it at once, a working lane when it
next releases its stream, a pruned lane on re-admission. -/
def newUcode (version : Nat) (s : State) : State :=
  let waits := (upTo 544).filter (fun n => decide (s.get (F.SRH_LANE_MAP_role n) = 1) || s.pruned 1 n)
  let busy (n : Nat) : Nat × Nat :=
    (n, if waits.contains n then tabGet s.lanes.loading n 0 else s.now + (Config.freeValue (s.free + n) 32).toNat % 20001)
  let s := { s with
    free := s.free + 544
    lanes := { s.lanes with noUcode := false, oldUcode := waits, loading := ((upTo 544).map busy).filter (fun x => decide (s.now < x.2)) } }
  let s := each (upTo 544) (fun n s => s.set (F.LNE_STATUS_ucode_new n) (b2n (!waits.contains n))) s
  (s.set F.LNE_UCODE_version version).set F.LNE_UCODE_switching (b2n (switching s))

/-! The 96 bytes of a receive descriptor (R114). -/

/-- A receive descriptor as it is laid out (R114). -/
def descriptorBytes (d : RxDescriptor) : List Byte :=
  let buf := match d.cells with
    | [] => 0
    | c :: _ => c % 2 ^ 17 + (d.cells.length % 16) * 2 ^ 24
  let cr := match d.cell with
    | some (_, i) => 2 ^ 31 + i % 2 ^ 19
    | none => 0
  leBytes 1 1 ++ leBytes 1 d.status ++ leBytes 1 (d.format * 64 + d.catchClass * 16 + d.mode) ++ leBytes 1 d.flags ++
  leBytes 2 (d.lane + d.pool * 1024) ++ leBytes 1 d.gen ++ leBytes 1 d.position ++ leBytes 2 d.stream ++
  leBytes 2 (d.bin + d.window * 1024 + d.beam * 4096) ++ leBytes 4 cr ++ leBytes 8 d.sfdStamp ++
  leBytes 4 (unsigned 32 d.catchOffset) ++ leBytes 4 (unsigned 32 d.cfo) ++ leBytes 2 (unsigned 16 d.symRate) ++
  leBytes 2 (unsigned 16 d.rssi) ++ leBytes 1 d.snr ++ leBytes 1 d.detSnr ++ leBytes 1 (min 255 (2 * d.snr)) ++
  leBytes 1 d.fecCorr ++ leBytes 2 d.psduLen ++ leBytes 2 d.phr ++ leBytes 4 buf ++ leBytes 5 d.asn ++
  leBytes 1 d.macFlags ++ leBytes 2 0 ++ leBytes 4 (unsigned 32 d.endDelta) ++ leBytes 4 d.seq ++ fit 32 d.chanVec

end Sys2Proof.Machine
end

