-- ==== Sys2Proof/Machine/Mac.lean ====
section
/-!
DEFINITION. MAC frames as IEEE 802.15.4-2020 lays them out (PRESUMED: the manual cites the standard): the header
the engine reads (R168), and the IEs it reads and writes (R173, R180, R360).
-/

namespace Sys2Proof.Machine

/-- A MAC address, the first octet of an extended one highest. -/
inductive MacAddr where
  | short (a : Nat)
  | ext (e : Nat)
  deriving DecidableEq, Repr

/-- The parts of a frame's header that the engine uses: frame type (0 beacon, 1 data, 2 acknowledgement), whether
it is secured and asks for an acknowledgement, its addresses, security level, frame counter if it carries one,
header IEs, the length of the header with its IEs, and whether payload IEs follow. -/
structure MacHeader where
  type : Nat
  secured : Bool
  ackReq : Bool
  dst : Option MacAddr
  src : Option MacAddr
  level : Nat
  counter : Option Nat
  ies : List (Nat × List Byte)
  length : Nat
  payloadIes : Bool
  deriving DecidableEq, Repr

/-- An address of a mode. -/
def readMac (mode : Nat) (l : List Byte) : Option MacAddr :=
  if mode = 2 then some (.short (leAt l 0 2)) else if mode = 3 then some (.ext (leAt l 0 8)) else none

/-- Octets of an address of a mode. -/
def macLen (mode : Nat) : Nat := if mode = 2 then 2 else if mode = 3 then 8 else 0

/-- Whether the destination and source PAN IDs are present: version, PAN ID compression, address modes. -/
def panIds (ver : Nat) (comp : Bool) (dm sm : Nat) : Bool × Bool :=
  if ver < 2 then (decide (dm ≠ 0), decide (sm ≠ 0) && !(comp && decide (dm ≠ 0)))
  else if dm = 0 ∧ sm = 0 then (comp, false)
  else if sm = 0 then (!comp, false)
  else if dm = 0 then (false, !comp)
  else if dm = 3 ∧ sm = 3 then (!comp, false)
  else (true, !comp)

/-- Header IEs: the list, whether payload IEs follow, and how many octets they take. -/
def readIes (fuel : Nat) (l : List Byte) : List (Nat × List Byte) × Bool × Nat :=
  match fuel with
  | 0 => ([], false, 0)
  | fuel + 1 =>
    if l.length < 2 then ([], false, 0)
    else
      let d := leAt l 0 2
      let n := d % 128
      let id := d / 128 % 256
      if id = 0x7E then ([], true, 2) else if id = 0x7F then ([], false, 2)
      else
        let (r, p, k) := readIes fuel (l.drop (2 + n))
        ((id, slice l 2 n) :: r, p, 2 + n + k)

/-- What follows the payload IEs. -/
def afterPayloadIes (fuel : Nat) (l : List Byte) : List Byte :=
  match fuel with
  | 0 => l
  | fuel + 1 =>
    if l.length < 2 then []
    else
      let d := leAt l 0 2
      if d / 2048 % 16 = 15 then l.drop 2 else afterPayloadIes fuel (l.drop (2 + d % 2048))

/-- MIC octets of a security level. -/
def micOctets (level : Nat) : Nat := if level % 4 = 0 then 0 else 2 * 2 ^ (level % 4)

/-- Octets of a key identifier of a mode. -/
def keyIdLen (mode : Nat) : Nat := if mode = 0 then 0 else if mode = 1 then 1 else if mode = 2 then 5 else 9

/-- The header of a frame without its FCS: none where it is cut short. -/
def readHeader (l : List Byte) : Option MacHeader :=
  let fc := leAt l 0 2
  let ver := fc / 4096 % 4
  let dm := fc / 1024 % 4
  let sm := fc / 16384 % 4
  let secured := bit fc 3
  let (dp, sp) := panIds ver (bit fc 6) dm sm
  let a := 2 + (if ver = 2 ∧ bit fc 8 then 0 else 1) + 2 * b2n dp
  let b := a + macLen dm + 2 * b2n sp
  let c := b + macLen sm
  let sc := byteAt l c
  let level := if secured then sc % 8 else 0
  let suppressed := bit sc 5
  let e := if secured then c + 1 + (if suppressed then 0 else 4) + keyIdLen (sc / 8 % 4) else c
  let body := slice l e (l.length - e - micOctets level)
  let (ies, pies, n) := if bit fc 9 ∧ ver = 2 then readIes body.length body else ([], false, 0)
  if l.length < e + n + micOctets level ∨ l.length < 3 then none
  else some ⟨fc % 8, secured, bit fc 5, readMac dm (l.drop a), readMac sm (l.drop b), level,
    if secured && !suppressed then some (leAt l (c + 1) 4) else none, ies, e + n, pies⟩

/-- The nonce of CCM*: the source's extended address, then the ASN, or the frame counter and the security level. -/
def nonce (eui asn level : Nat) (counter : Option Nat) : List Byte :=
  beBytes 8 eui ++ (match counter with | some c => beBytes 4 c ++ leBytes 1 level | none => beBytes 5 asn)

/-- A frame with its FCS. -/
def withFcs (short : Bool) (l : List Byte) : List Byte := l ++ (if short then leBytes 2 (crc16 l) else leBytes 4 (fcs32 l))

/-! IEs. -/

/-- A header IE. -/
def headerIe (id : Nat) (l : List Byte) : List Byte := leBytes 2 (l.length % 128 + id * 128) ++ l

/-- The Time Correction IE of a correction in µs, held to ±2,047 (R173). -/
def timeCorrection (us : Int) : List Byte := headerIe 0x1E (leBytes 2 (unsigned 12 (clampInt (-2047) 2047 us)))

/-- A subfield of the Bexora IE (R180). -/
def subfield (id : Nat) (l : List Byte) : List Byte := leBytes 1 id ++ leBytes 1 l.length ++ l

/-- The Bexora IE (R180). -/
def bexoraIe (ver router : Nat) (subs : List (List Byte)) : List Byte :=
  headerIe 0 ([0x7A#8, 0xE5#8, 0x1B#8] ++ leBytes 1 ver ++ leBytes 1 router ++ subs.flatten)

/-- The subfields of a Bexora IE's content (R181). -/
def readSubs (fuel : Nat) (l : List Byte) : List (Nat × List Byte) :=
  match fuel with
  | 0 => []
  | fuel + 1 =>
    if l.length < 2 ∨ l.length < 2 + byteAt l 1 then []
    else (byteAt l 0, slice l 2 (byteAt l 1)) :: readSubs fuel (l.drop (2 + byteAt l 1))

/-- The GROVE subfields of version 2 in a frame's header IEs: set and epoch (R360). -/
def groveSubs (ies : List (Nat × List Byte)) : List (Nat × Nat) :=
  ies.flatMap (fun (id, l) =>
    if id = 0 ∧ l.take 3 = [0x7A#8, 0xE5#8, 0x1B#8] ∧ 2 ≤ byteAt l 3 then
      (readSubs l.length (l.drop 5)).filterMap (fun (k, v) => if k = 1 ∧ 7 ≤ v.length then some (leAt v 5 2 % 4096, leAt v 0 4) else none)
    else [])

end Sys2Proof.Machine
end

