-- ==== Sys2Proof/Machine/Sse.lean ====
section
/-!
DEFINITION. The slot schedule engine ahead of a timeslot: cells and channels (R162 to R167), receive cells (R171,
R184, R190), transmit cells and their guard (R175, R177, R178, R182, R183, R231, R240), beacons (R179 to R181),
resync (R188, R189), and the holds of R371.
-/

namespace Sys2Proof.Machine

/-- Whether an instance of the engine is in service (R192). -/
def engineUp (s : State) : Bool := (s.on F.SSE_PAIR_inst0 || s.on F.SSE_PAIR_inst1) && s.domOn 23

/-- Whether queued downlink and resync bursts go on (R194). -/
def fullDuty (s : State) : Bool := !s.on F.SSE_AP_reduced

/-! Cells and channels. -/

/-- A cell (R163). -/
structure Cell where
  index : Nat
  sf : Nat
  ts : Nat
  chOff : Nat
  tx : Bool
  rx : Bool
  shared : Bool
  expect : Bool
  template : Nat
  span : Nat
  tp : Nat
  lid : Nat
  deriving DecidableEq, Repr

/-- The cell at an index of the schedule store. -/
def cellAt (s : State) (i : Nat) : Cell :=
  let w := cellWord s i 0 + cellWord s i 1 * 2 ^ 32
  ⟨i, bits w 57 6, bits w 41 16, bits w 33 8, bit w 32, bit w 31, bit w 30, bit w 27, bits w 24 3, bits w 20 4 + 1, bits w 17 3, bits w 0 17⟩

/-- The cells with valid set in a range of the schedule store, in order. -/
def validCells (s : State) (base n : Nat) : List Nat :=
  s.tables.cells.filterMap (fun (k, w) => if k % 2 = 1 ∧ w.toNat.testBit 31 ∧ base ≤ k / 2 ∧ k / 2 < base + n then some (k / 2) else none)

/-- Count a schedule error (R162). -/
def schedErr (s : State) : State := s.event F.SSE_STAT_sched_err F.SSE_EVCNT1_sched_err_cnt

/-- Count a cell beyond capacity (R167). -/
def cellOvf (s : State) : State := s.event F.SSE_STAT_cell_ovf F.SSE_EVCNT_cell_ovf_cnt

/-- The cells of a region that are due at a timeslot of the slotframe, for that slotframe, and whether each is executed:
out of order or poisoned, it is skipped as a schedule error (R162, R390).  A cell in two regions is executed once for
each (R162). -/
def dueCells (s : State) (h idx : Nat) (l : List Nat) (prev : Nat) : List (Cell × Bool) :=
  match l with
  | [] => []
  | i :: rest =>
    let c := cellAt s i
    let r := dueCells s h idx rest c.ts
    if c.ts = idx then ({ c with sf := h }, decide (prev ≤ c.ts) && !s.poison 2 i 1) :: r else r

/-- A channel: frequency in 100 Hz, format and mode. -/
structure Chan where
  freq : Nat
  format : Nat
  mode : Nat
  deriving DecidableEq, Repr

/-- An entry of the channel table. -/
def chanAt (s : State) (c : Nat) : Chan := ⟨s.get (F.SSE_CHAN_freq_100hz c), s.get (F.SSE_CHAN_format c), s.get (F.SSE_CHAN_mode c)⟩

/-- The channel of a cell in a timeslot (R164). -/
def cellChan (s : State) (asn : Nat) (c : Cell) : Chan :=
  let q := s.get (F.SSE_SF0_hop c.sf)
  chanAt s (s.get (F.SSE_HOP_chan q ((asn + c.chOff) % clamp 1 256 (s.get (F.SSE_HOP_LEN_len q)))))

/-- The word of a frequency in 100 Hz (R120, R164). -/
def chanWord (freq : Nat) : Nat := roundDiv (freq * 200) 3

/-- The bin whose raster position contains a frequency (R62, R164). -/
def binOf (s : State) (freq : Nat) : Option Nat :=
  (s.regs.filterMap (fun (o, w) => if 0x144000 ≤ o ∧ o < 0x145000 ∧ w.toNat.testBit 31 then some ((o - 0x144000) / 4) else none)).find?
    (binHolds s freq)

/-! A leaf's clock (R171, R182). -/

/-- Time in ns since the last contact with a leaf. -/
def sinceContact (s : State) (lid t : Nat) : Nat := t - (leafWord s lid 12 + leafWord s lid 13 * 2 ^ 32) / 256

/-- Offset in ns of a leaf's frames from the slot's TsTxOffset at an instant: o − p × t. -/
def leafOffset (s : State) (lid t : Nat) : Int :=
  signed 32 (leafWord s lid 11) - roundDivInt (signed 32 (leafWord s lid 10) * ((sinceContact s lid t : Nat) : Int)) 1000000000

/-- Q(t) in units of 10^-9 ns. -/
def rawGuard (s : State) (lid t : Nat) : Nat :=
  s.get F.SSE_GUARD_g_base_us * 1000000000000
    + ((signed 32 (leafWord s lid 10)).natAbs + s.get F.SSE_GUARD_margin * 100) * sinceContact s lid t

/-- G_max in the same units: 0 declares 2,200 µs. -/
def guardMax (s : State) (lid : Nat) : Nat :=
  let g := bits (leafWord s lid 16) 0 16
  (if g = 0 then 2200 else g) * 1000000000000

/-- U(t) for downlink: Q(t) with TXL_LATE_MAX, beyond G_max. -/
def uncovered (s : State) (lid t : Nat) : Nat := rawGuard s lid t + lateMax s * 1000000000 - guardMax s lid

/-- TsTxOffset of a template in ns. -/
def txOffset (s : State) (k : Nat) : Nat := s.get (F.SSE_TMPL0_tx_offset k) * 1000

/-- The expected arrival of a leaf in a timeslot (R171). -/
def leafExpected (s : State) (lid asn template : Nat) : Int :=
  let t := slotStart s asn
  (t : Int) + txOffset s template + leafOffset s lid t

/-! Limbs (R167). -/

/-- Limbs in service, an active gang by its leader. -/
def limbsInService (s : State) : List Nat :=
  (upTo 8).filter (fun l => decide (limbCode s l ≠ 8) && s.on (F.TXL_CTL_power l) &&
    (gangOf s l).all (fun g => decide (s.get (F.TXL_GANG_leader g) = l)))

/-- What a descriptor occupies of its limb, ramp and tail included, in ns. -/
def airTime (d : TxDesc) : Nat × Nat := (rampStart d, d.launch / 256 + ceilDiv (ppduTime d * 1000) 3 + 2000)

/-- The descriptors a limb has before it or on air. -/
def limbWork (s : State) (l : Nat) : List TxDesc :=
  s.txl.crossing.filter (fun d => decide (d.limb = l)) ++ (s.limb l).queue ++ (s.limb l).air.toList.map OnAir.desc

/-- Whether a limb is free for a descriptor. -/
def limbFree (s : State) (d : TxDesc) (l : Nat) : Bool :=
  let asn := asnOf s (d.launch / 256)
  (limbWork s l).all (fun e => decide ((airTime d).2 ≤ (airTime e).1 ∨ (airTime e).2 ≤ (airTime d).1))
    && s.sse.limbUse.all (fun (m, a, b) => decide (m ≠ l ∨ asn < a ∨ b ≤ asn))

/-- The limb for a descriptor: READY on the channel, else with a valid calibration entry for it, else the lowest
that is free. -/
def pickLimb (s : State) (d : TxDesc) : Option Nat :=
  let free := (limbsInService s).filter (limbFree s d)
  let c := chan100k d.chanFw
  match free.find? (fun l => decide (limbCode s l = 4 ∧ (s.limb l).chan = c)) with
  | some l => some l
  | none =>
    match free.find? (fun l => (servingEntry s l c).isSome) with
    | some l => some l
    | none => free.head?

/-- Post a descriptor to a limb that is free for it, if there is one. -/
def postTx (d : TxDesc) (s : State) : Option (Nat × State) :=
  if !engineUp s then none
  else (pickLimb s d).map (fun l => (l, { s with txl := { s.txl with crossing := s.txl.crossing ++ [{ d with limb := l }] } }))

/-- A descriptor with the settings that the manual does not say how the engine chooses taken from a free value:
drive level, return state, coding, whitening, FCS, SFD group and the SUN-FSK preamble.  The standard preambles
are 4 octets of O-QPSK and 32 of Understory mode (R183). -/
def draft (s : State) (ch : Chan) : TxDesc :=
  let x := s.open 32
  let f := ch.format
  { limb := 0, format := f, mode := ch.mode, coded := f = 2 || (f = 0 && bit x 0), whiten := f = 2 || (f = 0 && bit x 1)
    crc16 := f = 1 || (f = 0 && bit x 2), cxPri := bit x 3, interleave := f = 0 && bit x 4, rsc := f = 0 && bit x 5
    ret := bits x 6 2, power := signed 8 (bits x 8 8)
    preamble := if f = 0 then clamp 4 1024 (bits x 16 10) else if f = 1 then 4 else 32
    launch := 0, chanFw := chanWord ch.freq, tilt := 0, nextFw := 0, cells := [], psdu := []
    sfdGroup := if f = 0 then bits x 26 1 else 0, cell := none, lid := 0, tag := 0, weights := [], arrival := 0 }

/-- Longest preamble of a format (R141). -/
def preambleMax (f : Nat) : Nat := if f = 1 then 256 else 1024

/-- Octet time of the preamble in units of 1/3 µs (R183). -/
def octetThirds (ch : Chan) : Nat := if ch.format = 1 then 96 else if ch.format = 2 then 480 else 8 * fskSymbol ch.mode

/-- Tilt for a leaf in 0.01 ppm (R133). -/
def leafTilt (s : State) (lid : Nat) : Int :=
  roundDivInt (signed 32 (leafWord s lid 8) * 1000000) (bits (leafWord s lid 9) 0 25)

/-- The address a leaf is sent to: its short one where it has one. -/
def leafAddr (s : State) (lid : Nat) : Nat :=
  if bit (leafWord s lid 0) 4 then bits (leafWord s lid 1) 16 16 else leafWord s lid 2 + leafWord s lid 3 * 2 ^ 32

/-- Key index of a leaf. -/
def keyIndex (s : State) (lid : Nat) : Nat := bits (leafWord s lid 17) 8 8

/-- A secured data frame to a leaf (R175). -/
def dataPsdu (s : State) (asn lid : Nat) (key payload : List Byte) (ack short : Bool) : List Byte :=
  let h := Config.macHeader (leafAddr s 0) lid (leafAddr s lid) asn (keyIndex s lid) ack
  withFcs short (h ++ Config.ccmEncrypt key (nonce (routerEui s) asn 0 none) h payload Config.micLength)

/-- A leaf's stored weights, none where they are all zero (R135). -/
def leafWeights (s : State) (lid : Nat) : List Byte :=
  let w := (upTo 8).flatMap (fun i => leBytes 4 (leafWord s lid (20 + i)))
  if w.all (fun b => decide (b = 0#8)) then [] else w

/-! Choice of a frame (R175, R177, R178, R231, R240). -/

/-- The head frame of a neighbour that a cell may carry, shapers aside (R175, R230, R235, R390). -/
def offers (s : State) (lid : Nat) : Option VqFrame :=
  match vqueue s lid with
  | f :: _ => if f.taken || f.spilled.isSome || !schedulable s lid || leafLost s lid || leafBlurred s lid then none else some f
  | [] => none

/-- Whether a neighbour's head frame is there and its class is eligible. -/
def offersNow (s : State) (lid : Nat) : Bool := (offers s lid).any (fun f => eligible s f.cls)

/-- The class of a neighbour's head frame. -/
def headClass (s : State) (lid : Nat) : Nat := match vqueue s lid with | f :: _ => f.cls | [] => 0

/-- How long a neighbour's head has waited (R240). -/
def headWait (s : State) (lid : Nat) : Nat := s.now - tabGet s.traffic.vqSince lid s.now

/-- The first of a list under an order that `lt` gives. -/
def leastBy (lt : Nat → Nat → Bool) (l : List Nat) : Option Nat :=
  match l with
  | [] => none
  | x :: rest => some (rest.foldl (fun b y => if lt y b then y else b) x)

/-- Whether keys come in rising order. -/
def lexLt (a b : List Int) : Bool :=
  match a, b with
  | x :: xs, y :: ys => decide (x < y) || (decide (x = y) && lexLt xs ys)
  | _, _ => false

/-- The order in which heads are served: longest wait first, then the lower class, then the lower LID. -/
def olderHead (s : State) (a b : Nat) : Bool :=
  let key (l : Nat) : List Int := [-(headWait s l : Int), headClass s l, l]
  lexLt (key a) (key b)

/-- The order of R231: priority of the class, the lower class, the older head, the lower LID. -/
def firstByClass (s : State) (a b : Nat) : Bool :=
  let key (l : Nat) : List Int := [-(s.get (F.TRF_CLASS_CFG_prio (headClass s l)) : Int), headClass s l, -(headWait s l : Int), l]
  lexLt (key a) (key b)

/-- The heads that promote their class for a cell: the oldest of their class among those it may carry, above
TRF_AGE_MESH (R240). -/
def classPromoted (s : State) (l : List Nat) : List Nat :=
  let age := clamp 10 600000 (s.get F.TRF_AGE_MESH_age_ms) * 1000000
  l.filter (fun x => decide (age < headWait s x) && l.all (fun y => decide (headClass s y ≠ headClass s x) || !olderHead s y x))

/-- Waits of a head restarted from now, at R240's promotion or at R178's. -/
def restartWait (lid : Nat) (s : State) : State := { s with traffic := { s.traffic with vqSince := tabPut s.traffic.vqSince lid s.now } }
def restartShared (lid : Nat) (s : State) : State := { s with sse := { s.sse with waitFrom := tabPut s.sse.waitFrom lid s.now } }

/-- Shared cells a neighbour still lets pass. -/
def backoff (s : State) (lid : Nat) : Nat := tabGet s.sse.backoff lid 0

/-- Set it. -/
def setBackoff (lid n : Nat) (s : State) : State :=
  { s with sse := { s.sse with backoff := if n = 0 then tabErase s.sse.backoff lid else tabPut s.sse.backoff lid n } }

/-- A head that a cell offers, and whether R178 or R240 promotes it. -/
structure Offer where
  lid : Nat
  aged : Bool := false
  promoted : Bool := false
  deriving DecidableEq, Repr

/-- The head that a shared cell carries (R177, R178, R231, R240): `lid` is the cell's neighbour, 0 for any.  A request
that has waited too long is allowed whatever backoff remains, and R231's order then decides. -/
def sharedPick (lid : Nat) (s : State) : Option Offer × State :=
  let waiting := (if lid = 0 then s.traffic.vqs.map Prod.fst else [lid]).filter (fun l => (offers s l).isSome)
  let limit := clamp 10 600000 (s.get F.SSE_AGE_LIMIT_age_ms) * 1000000
  let aged (l : Nat) : Bool := decide (limit < s.now - tabGet s.sse.waitFrom l s.now)
  let free := waiting.filter (fun l => offersNow s l && (decide (backoff s l = 0) || aged l))
  let promoted := leastBy (olderHead s) (classPromoted s free)
  let picked := promoted.orElse (fun _ => leastBy (firstByClass s) free)
  let s1 := each (waiting.filter (fun l => decide (backoff s l ≠ 0 ∧ picked ≠ some l))) (fun l s => setBackoff l (backoff s l - 1) s) s
  (picked.map (fun l => ⟨l, aged l, promoted.isSome⟩), s1)

/-- The promotions of a head count, and its waits begin anew, once it is served (R178, R240). -/
def settleOffer (o : Offer) (s : State) : State :=
  let s := s.when o.aged (fun s => setBackoff o.lid 0 (restartShared o.lid (s.inc F.SSE_PROMOTE_CNT_count)))
  s.when o.promoted (fun s => restartWait o.lid (promote s))

/-- Smallest and largest backoff exponent. -/
def maxBe (s : State) : Nat := s.get F.SSE_SHARED_CFG_max_be
def minBe (s : State) : Nat := min (s.get F.SSE_SHARED_CFG_min_be) (maxBe s)

/-- A leaf's backoff exponent, and setting it (R196). -/
def leafBe (s : State) (lid : Nat) : Nat := bits (leafWord s lid 29) 8 4
def setBe (lid be : Nat) (s : State) : State :=
  if leafBe s lid = be then s else writeLeaf lid [(29, leafWord s lid 29 - leafBe s lid * 256 + be % 16 * 256)] s

/-- A dedicated cell or a success resets a neighbour's backoff (R177). -/
def resetBackoff (lid : Nat) (s : State) : State := setBackoff lid 0 (setBe lid (minBe s) s)

/-- Whether the head frame of a neighbour is taken for an attempt. -/
def headTaken (s : State) (lid : Nat) : Bool := match vqueue s lid with | f :: _ => f.taken | [] => false

/-- Take the head frame of a neighbour for an attempt of `n` octets (R235). -/
def takeHead (lid n : Nat) (s : State) : State :=
  match vqueue s lid with
  | f :: rest =>
    let s := putVq lid ({ f with taken := true } :: rest) false s
    shaperTake f.cls (8 * n) (!classHolds s f.cls) s
  | [] => s

/-- Give the head frame of a neighbour back to its class (R235). -/
def untakeHead (lid : Nat) (s : State) : State :=
  match vqueue s lid with
  | f :: rest => putVq lid ({ f with taken := false } :: rest) false s
  | [] => s

/-! Transmit cells. -/

/-- A leaf becomes DRIFTED (R183, R186). -/
def driftLeaf (lid : Nat) (s : State) : State :=
  let s := moveLeaf lid 4 2 s
  { s with sse := { s.sse with resync := s.sse.resync.filter (fun r => decide (r.lid ≠ lid)) ++ [⟨lid, false, none, 0⟩] } }

/-- How many octets stretch the preamble for a leaf (R183): none where the leaf becomes DRIFTED. -/
def stretch (s : State) (lid t : Nat) (ch : Chan) (preamble : Nat) : Option Nat :=
  if bits (leafWord s lid 0) 0 3 = 1 then some 0
  else
    let u := uncovered s lid t
    let n := ceilDiv (3 * u) (octetThirds ch * 1000000000000)
    if 4000 * 1000000000000 < u ∨ preambleMax ch.format < preamble + n then none else some n

/-- The key of a frame (R175): a broadcast frame takes the key of HWD_GROUP_SLOT where that is enabled
(notes/assumptions/46), another its leaf's. -/
def frameKey (lid : Nat) (broadcast : Bool) (s : State) : Option (List Byte) × State :=
  if broadcast && s.on F.HWD_GROUP_SLOT_en then
    if s.on F.HWD_STATUS_locked then (none, s)
    else
      let (r, s) := useSlot (s.get F.HWD_GROUP_SLOT_slot) 0 none s
      (if r.1 = stOk then some r.2 else none, s)
  else leafKey lid s

/-- Prepare the head frame of a neighbour for a cell and post it (R175, R182, R183): whether the cell is used. -/
def prepareFrame (asn lid : Nat) (c : Cell) (ch : Chan) (s : State) : Bool × State :=
  match offers s lid with
  | none => (false, s)
  | some f =>
    if s.cellsLost f.cells then (false, countDrop 6 (popVq lid true s))
    else
    let t := slotStart s asn
    let d := draft s ch
    match if f.broadcast then some 0 else stretch s lid t ch d.preamble with
    | none => (false, driftLeaf lid s)
    | some n =>
      match frameKey lid f.broadcast s with
      | (none, s) => (false, s)
      | (some key, s) =>
        let late := if f.broadcast then 0 else leafOffset s lid t
        let launch := ((t : Int) + txOffset s c.template + late) * 256 - (n * octetThirds ch * 128000 / 3 : Nat)
        let d := { d with
          preamble := d.preamble + n, launch := launch.toNat, tilt := if f.broadcast then 0 else leafTilt s lid, cells := f.cells
          psdu := dataPsdu s asn lid key f.payload (!f.broadcast) d.crc16, cell := some (asn, c.index)
          lid := if f.broadcast then 0 else lid, tag := b2n c.shared + 8 * lid
          weights := if f.broadcast then [] else leafWeights s lid }
        match postTx d s with
        | none => (true, cellOvf s)
        | some (_, s) => (true, takeHead lid d.psdu.length s.used)

/-- The neighbour of GRF_POLLEN_CFG, by its short address (R344). -/
def pollenPeer (s : State) : Option Nat :=
  (findEntry s 0 (iidOfShort (s.get F.GRF_POLLEN_CFG_peer))).bind (fun (_, e) =>
    if e.leafClass && !e.toPort then some (e.target % 2 ^ 17) else none)

/-- Whether a Pollen frame waits that a cell may carry: the cell lies in the slotframe of GRF_POLLEN_CFG and goes to its
neighbour, on a channel outside Understory mode (R344). -/
def pollenDue (s : State) (c : Cell) (ch : Chan) : Bool :=
  let peer := (pollenPeer s).getD 0
  decide (peer ≠ 0) && s.on F.GRF_CTL_pollen_en && !s.grf.pollenOut.isEmpty && !s.grf.pollenTaken
    && decide (c.sf = s.get F.GRF_POLLEN_CFG_sf ∧ ch.format ≠ 2 ∧ (c.lid = peer ∨ c.lid = 0))

/-- Send a waiting Pollen frame in a cell of its slotframe (R344), under the guard of its neighbour's leaf (R175, R183):
whether the cell is used.  The frame keeps its place until its attempt has ended (R176). -/
def pollenCell (asn : Nat) (c : Cell) (ch : Chan) (s : State) : Bool × State :=
  let peer := (pollenPeer s).getD 0
  if !pollenDue s c ch || !schedulable s peer || leafLost s peer || leafBlurred s peer then (false, s)
  else
    match s.grf.pollenOut with
    | [] => (false, s)
    | l :: _ =>
      let t := slotStart s asn
      let d := draft s ch
      match stretch s peer t ch d.preamble, leafKey peer s with
      | none, _ => (false, driftLeaf peer s)
      | some _, (none, s) => (false, s)
      | some n, (some key, s) =>
        let launch := ((t : Int) + txOffset s c.template + leafOffset s peer t) * 256 - (n * octetThirds ch * 128000 / 3 : Nat)
        let d := { d with
          preamble := d.preamble + n, launch := launch.toNat, tilt := leafTilt s peer, psdu := dataPsdu s asn peer key l true d.crc16
          cell := some (asn, c.index), lid := peer, tag := 5 + b2n c.shared, weights := leafWeights s peer }
        match postTx d s with
        | none => (true, cellOvf s)
        | some (_, s) => (true, { s.used with grf := { s.grf with pollenTaken := true } })

/-- The GROVE subfield of a set (R180): without the set in version 1. -/
def groveSub (s : State) (ver set : Nat) : List Byte :=
  subfield 1 (leBytes 4 (s.get (F.BGH_SET0_epoch set)) ++ leBytes 1 (s.get (F.BGH_SET1_standby set)) ++ (if ver = 1 then [] else leBytes 2 set))

/-- The sets this router owns, those on standby included. -/
def ownedSets (s : State) : List Nat :=
  s.regs.filterMap (fun (o, w) =>
    if 0x368004 ≤ o ∧ o < 0x370000 ∧ o % 8 = 4 ∧ w.toNat.testBit 31 ∧ w.toNat % 64 = routerId s then some ((o - 0x368004) / 8) else none)

/-- A nested IE of the short and of the long form (IEEE 802.15.4-2020, PRESUMED). -/
def shortIe (id : Nat) (l : List Byte) : List Byte := leBytes 2 (l.length + id * 256) ++ l
def longIe (id : Nat) (l : List Byte) : List Byte := leBytes 2 (l.length + id * 2048 + 2 ^ 15) ++ l

/-- The TSCH Timeslot IE of a template: its ID only for template 0, in full otherwise (R179); the CCA and turnaround
times of the standard have no register. -/
def timeslotIe (s : State) (k : Nat) : List Byte :=
  if k = 0 then shortIe 0x1C [0#8]
  else
    let w := leBytes 2
    shortIe 0x1C (leBytes 1 k ++ leBytes 4 Config.ccaTimes.toNat ++ w (s.get (F.SSE_TMPL0_tx_offset k)) ++ w (s.get (F.SSE_TMPL0_rx_offset k))
      ++ w (s.get (F.SSE_TMPL2_rx_ack_delay k)) ++ w (s.get (F.SSE_TMPL1_tx_ack_delay k)) ++ w (s.get (F.SSE_TMPL1_rx_wait k))
      ++ w (s.get (F.SSE_TMPL2_ack_wait k)) ++ w Config.turnaround.toNat ++ w (s.get (F.SSE_TMPL3_max_ack k))
      ++ w (s.get (F.SSE_TMPL3_max_tx k)) ++ w (tsNs s / 1000))

/-- The IEs the engine fills into a beacon of a timeslot (R179): TSCH Synchronization, TSCH Timeslot and Channel Hopping. -/
def tschIes (s : State) (asn template hop : Nat) : List Byte :=
  shortIe 0x1A (leBytes 5 asn ++ leBytes 1 (s.get F.SSE_EB_join_metric)) ++ timeslotIe s template ++ longIe 9 (leBytes 1 hop)

/-- Send the enhanced beacon of a beacon cell (R179 to R181), its body the template that firmware keeps.  The Bexora IE has room for 13 sets of version 2. -/
def beaconCell (body : List Byte) (asn : Nat) (c : Cell) (ch : Chan) (s : State) : Bool × State :=
  let ver := if s.on (F.SSE_SF0_v1 c.sf) then 1 else 2
  let ie := bexoraIe ver (routerId s) (((ownedSets s).take 13).map (groveSub s ver))
  let d := draft s ch
  let l := Config.completeBeacon body ie (tschIes s asn c.template (s.get (F.SSE_SF0_hop c.sf)))
  let d := { d with launch := (slotStart s asn + txOffset s c.template) * 256, psdu := withFcs d.crc16 l, cell := some (asn, c.index), tag := 2 }
  match postTx d s with
  | none => (true, cellOvf s)
  | some (_, s) => (true, s.used)

/-- Ask Heartwood for a leaf's key ahead (R294). -/
def prefetchKey (lid : Nat) (s : State) : State :=
  if (cached s lid).isSome ∨ s.hwd.prefetch.contains lid then s else { s with hwd := { s.hwd with prefetch := s.hwd.prefetch ++ [lid] } }

/-- Whether the backoff of its neighbour bars a waiting Pollen frame from a shared cell (R177); the cell counts for it, where it
does not for a frame of the neighbour's own queue. -/
def pollenBackoff (c : Cell) (ch : Chan) (s : State) : Bool × State :=
  let peer := (pollenPeer s).getD 0
  if !c.shared || !pollenDue s c ch || decide (backoff s peer = 0) || !fullDuty s then (false, s)
  else (true, if (offers s peer).isSome then s else setBackoff peer (backoff s peer - 1) s)

/-- A transmit cell (R175, R179, R231): whether it is used.  A cell with the shared option and no LID offers a
frame of any neighbour; without that option it is a beacon cell. -/
def txCell (body : List Byte) (asn : Nat) (c : Cell) (ch : Chan) (s : State) : Bool × State :=
  if c.lid = 0 ∧ c.shared = false then beaconCell body asn c ch s
  else
    let s := if c.shared then s else prefetchKey c.lid (resetBackoff c.lid s)
    let (held, s) := pollenBackoff c ch s
    let (offer, s) : Option Offer × State := if !fullDuty s then (none, s) else if c.shared then sharedPick c.lid s
      else (if offersNow s c.lid then some { lid := c.lid } else none, s)
    match offer with
    | some o =>
      let (used, s) := prepareFrame asn o.lid c ch s
      (used, s.when (headTaken s o.lid) (settleOffer o))
    | none => if fullDuty s && !held then pollenCell asn c ch s else (false, s)

/-! Receive cells (R77, R86, R171, R184, R190). -/

/-- Half the receive window of a dedicated cell in ns: at most 20,000 µs (R171, R184), and that with a poisoned
engine word (R390). -/
def halfWindow (s : State) (lid t template : Nat) : Nat :=
  if leafBlurred s lid then 20000000
  else min 20000000 (max (s.get (F.SSE_TMPL1_rx_wait template) * 500) (rawGuard s lid t / 2000000000))

/-- Half the window of a time parent's beacon: the guard of R182 with G_max of SSE_TP_CFG (R190). -/
def halfParent (s : State) (cand t template : Nat) : Nat :=
  let since := match s.time.otaLast.lookup cand with | some a => ((t : Int) - a).toNat | none => 0
  let q := s.get F.SSE_GUARD_g_base_us * 1000 + s.get F.SSE_GUARD_margin * 100 * since / 1000000000
  max (s.get (F.SSE_TMPL1_rx_wait template) * 500) (min q (s.get F.SSE_TP_CFG_g_max_us * 1000) / 2)

/-- A cell uses a channel in the timeslots it spans, in whichever bins it lies (R69). -/
def markChan (asn span freq : Nat) (s : State) : State :=
  { s with canopy := { s.canopy with cellChans := s.canopy.cellChans ++ (upTo span).map (fun i => (asn + i, freq)) } }

/-- Post a receive cell to the searchers, its window held over its span (R163), a time parent's for late catch too
(R190), and note what it waits for. -/
def rxCell (asn : Nat) (c : Cell) (ch : Chan) (s : State) : Bool × State :=
  match binOf s ch.freq with
  | none => (false, schedErr s)
  | some b =>
    let t := slotStart s asn
    let dedicated := decide (c.lid ≠ 0) && !c.shared
    let parent := decide (1 ≤ c.tp ∧ c.tp ≤ 4)
    let expected : Int := if dedicated then leafExpected s c.lid asn c.template else (t : Int) + txOffset s c.template
    let half := if dedicated then halfWindow s c.lid t c.template else if parent then halfParent s (c.tp - 1) t c.template else 0
    let opens := if dedicated || parent then (expected - half).toNat else t + s.get (F.SSE_TMPL0_rx_offset c.template) * 1000
    let closes := if dedicated || parent then (expected + half).toNat else opens + s.get (F.SSE_TMPL1_rx_wait c.template) * 1000
    let weights := if dedicated && !leafBlurred s c.lid then leafWeights s c.lid else []
    let closes := closes + (c.span - 1) * tsNs s
    let use_ : CellUse := ⟨c.lid, c.shared, ch.freq, s.get (F.SSE_TMPL1_tx_ack_delay c.template), expected - t - txOffset s c.template, c.sf⟩
    let s := postCell ⟨asn, c.index, b, if dedicated then c.lid else 0, dedicated || parent, c.expect, opens, closes, expected.toNat, weights, none, use_, false⟩ s
    let s := markChan asn c.span ch.freq s
    let s := if dedicated && c.expect then { s with sse := { s.sse with expects := s.sse.expects ++ [(asn, c.index, c.lid)] } } else s
    let s := if parent && s.on F.SSE_TP_CFG_en && decide (s.get F.SSE_TP_STATUS_active = c.tp - 1) then
        { s with sse := { s.sse with parents := s.sse.parents ++ [(asn, c.index, c.tp - 1)] } } else s
    (true, s)

/-! A timeslot's cells (R162 to R167). -/

/-- Transmit cells of a timeslot: 8, and no more than the limbs in service. -/
def txLimit (s : State) : Nat := min 8 (limbsInService s).length

/-- Note the span of a cell, and hold the limb its descriptor went to over it (R163). -/
def noteSpan (asn : Nat) (c : Cell) (s : State) : State :=
  if c.span = 1 then s
  else
    let held := (s.txl.crossing.filter (fun d => decide (d.cell = some (asn, c.index)))).map (fun d => (d.limb, asn, asn + c.span))
    { s with sse := { s.sse with spans := s.sse.spans ++ [(c.sf, asn + c.span)], limbUse := s.sse.limbUse ++ held } }

/-- Execute a due cell: the receive and transmit cells of the timeslot so far, and the state. -/
def doCell (bodies : List (Nat × List Byte)) (asn : Nat) (x : Cell × Bool) (acc : Nat × Nat × State) : Nat × Nat × State :=
  let (nr, nt, s) := acc
  let c := x.1
  let ch := cellChan s asn c
  let listen (s : State) : Nat × Nat × State :=
    if 512 ≤ nr then (nr, nt, cellOvf s)
    else
      let (ok, s) := rxCell asn c ch s
      if ok then (nr + 1, nt, if c.tx then s else noteSpan asn c s) else (nr, nt, s)
  if !x.2 || decide (3 ≤ ch.format) then (nr, nt, schedErr s)
  else if c.tx then
    if txLimit s ≤ nt then (nr, nt, cellOvf s)
    else
      let (used, s) := txCell ((bodies.lookup c.sf).getD []) asn c ch s
      let s := noteSpan asn c s
      if used then
        (nr, nt + 1, markChan asn c.span ch.freq s)
      else if c.rx then listen s else (nr, nt + 1, s)
  else if c.rx then listen s
  else (nr, nt, s)

/-- Cells due together of which one spans timeslots: it alone is executed, the first of several (R163). -/
def spanned (l : List (Cell × Bool)) : List (Cell × Bool) :=
  match l.find? (fun x => x.2 && decide (1 < x.1.span)) with
  | some x => [x]
  | none => l

/-- The due cells of a slotframe in a timeslot: none inside a span of the slotframe. -/
def frameCells (s : State) (asn h : Nat) : List (Cell × Bool) :=
  let size := s.get (F.SSE_SF0_size h)
  if !s.on (F.SSE_SF0_en h) || decide (size = 0) || s.sse.spans.any (fun (f, e) => decide (f = h ∧ asn < e)) then []
  else spanned <| dueCells s h (asn % size) (validCells s (s.get (F.SSE_SF1_base h)) (min 524288 (s.get (F.SSE_SF2_count h)))) 0

/-- The engine reads the cells of a timeslot (R166). -/
def readTimeslot (bodies : List (Nat × List Byte)) (asn : Nat) (s : State) : State :=
  let s := { s with sse := { s.sse with
    read := asn + 1
    spans := s.sse.spans.filter (fun (_, e) => decide (asn < e))
    limbUse := s.sse.limbUse.filter (fun (_, _, e) => decide (s.asn < e)) } }
  let (ok, s) := hwAccess 7 6 0x1800000 false s
  if ok then (each (upTo 64) (fun h acc => each (frameCells acc.2.2 asn h) (doCell bodies asn) acc) (0, 0, s)).2.2 else s

/-- CELL_READ (R166): a timeslot that has begun or was read before is not read; `bodies` are the beacon templates of
slotframes as firmware keeps them in the packet buffer then (R179). -/
def execCellRead (asn : Nat) (bodies : List (Nat × List Byte)) (s : State) : Host.Outcome State Fault Refusal :=
  run (fun s => s.when (engineUp s && s.on F.SSE_CTL_run && decide (s.asn < asn ∧ s.sse.read ≤ asn ∧ asn < 2 ^ 40)) (readTimeslot bodies asn)) s

/-! Holds (R371). -/

/-- The domains a cell needs: UPLINK's for a posted receive cell, DOWNLINK's and the limb's group for a posted
descriptor. -/
def cellDomains (s : State) (asn cell : Nat) : Option (List Nat) :=
  if s.search.posts.any (fun p => decide (p.asn = asn ∧ p.cell = cell)) then some (serviceDomains s 0)
  else
    match ((upTo 8).flatMap (limbWork s)).find? (fun d => decide (d.cell = some (asn, cell))) with
    | some d => some ((15 + d.limb / 4) :: serviceDomains s 2)
    | none => none

/-- SCHEDULE_PRE_WAKE (R371). -/
def execSchedulePreWake (asn cell : Nat) (s : State) : Host.Outcome State Fault Refusal :=
  run (fun s =>
    match cellDomains s asn cell with
    | none => s
    | some ds =>
      let s := releaseHold (asn, cell) s
      let s := { s with power := { s.power with cellHolds := s.power.cellHolds ++ [⟨holdKey asn cell, ds⟩] } }
      each ds wakeDomain s) s

/-- LATE_CATCH_HOLD_END (R86, R371): the hold on the cell ends, also where a re-stand or a step has taken its post. -/
def execLateCatchHoldEnd (asn cell : Nat) (s : State) : Host.Outcome State Fault Refusal :=
  run (fun s =>
    match s.search.posts.find? (fun p => decide (p.asn = asn ∧ p.cell = cell)) with
    | none => dropHold (some (asn, cell)) s
    | some p =>
      let s := movePosts (dropHold (some (asn, cell)) (s.reach (p.closes + spanNs s)))
      { s with search := { s.search with posts := s.search.posts.filter (fun p => !decide (p.asn = asn ∧ p.cell = cell) || p.stream.isSome) } }) s

/-! Resync (R188, R189). -/

/-- RESYNC_WAIT_EXPIRY (R188): a leaf has been DRIFTED for SSE_RESYNC_WAIT. -/
def execResyncWaitExpiry (lid : Nat) (s : State) : Host.Outcome State Fault Refusal :=
  run (fun s =>
    if leafState s lid = 4 then
      let s := s.reach ((leafWord s lid 19 + clamp 1 600 (s.get F.SSE_RESYNC_WAIT_wait_s)) * 1000000000)
      let l := if s.sse.resync.any (fun r => decide (r.lid = lid)) then s.sse.resync else s.sse.resync ++ [⟨lid, false, none, 0⟩]
      { s with sse := { s.sse with resync := l.map (fun r => if r.lid = lid then { r with due := true } else r) } }
    else s) s

/-- The descriptors of a burst in a timeslot: beacons back to back with a gap of 1 ms, from an instant on. -/
def burstTrain (d : TxDesc) (ends fuel at_ : Nat) : List TxDesc :=
  match fuel with
  | 0 => []
  | fuel + 1 =>
    let len := ceilDiv (ppduTime d * 1000) 3
    if ends < at_ + len then [] else { d with launch := at_ * 256 } :: burstTrain d ends fuel (at_ + len + 1000000)

/-- A timeslot of a leaf's burst (R188, R189), whose frames need a limb free for all of them: whether there was one.  A
version-1 leaf gets the GROVE subfield in place of RESYNC (R181). -/
def burstSlot (body : List Byte) (asn lid : Nat) (s : State) : Bool × State :=
  let ch := chanAt s (bits (leafWord s lid 16) 16 10)
  let d := draft s ch
  let ie := if bit (leafWord s lid 0) 3 then bexoraIe 1 (routerId s) [groveSub s 1 (leafSet s lid)]
    else bexoraIe 2 (routerId s) [subfield 2 (leBytes 3 lid ++ leBytes 5 asn)]
  let d := { d with psdu := withFcs d.crc16 (Config.completeBeacon body ie (tschIes s asn 0 0)), tag := 4 + 8 * lid }
  let t := slotStart s asn
  let train := burstTrain d (t + tsNs s) 64 t
  match (limbsInService s).filter (fun l => engineUp s && train.all (fun e => limbFree s e l)), train with
  | l :: _, _ :: _ => (true, { s.used with txl := { s.txl with crossing := s.txl.crossing ++ train.map (fun e => { e with limb := l }) } })
  | _, _ => (false, s)

/-- Begin bursts at an instant for due leaves, in the order of their entry to DRIFTED, while fewer than max_conc run. -/
def startBursts (fuel at_ : Nat) (todo : List ResyncLeaf) (s : State) : State :=
  match fuel, todo with
  | 0, _ => s
  | _, [] => s
  | fuel + 1, r :: rest =>
    let running := (s.sse.resync.filter (fun r => decide (0 < r.left))).length
    let period := max 1 (s.get F.SSE_RESYNC_CFG_period_s)
    let ready := r.due && decide (r.left = 0) && r.last.all (fun t => decide (t + period * 1000000000 ≤ at_))
    if max 1 (s.get F.SSE_RESYNC_CFG_max_conc) ≤ running then s
    else if ready then
      let n := clamp 1 2 (s.get F.SSE_RESYNC_CFG_burst_ts)
      let l := s.sse.resync.map (fun q => if q.lid = r.lid then { q with last := some at_, left := n } else q)
      startBursts fuel at_ rest ({ s with sse := { s.sse with resync := l } }.inc F.SSE_RESYNC_CNT_count)
    else startBursts fuel at_ rest s

/-- RESYNC_BURST (R188, R189), with the beacon template firmware keeps: bursts begin or go on in a timeslot that is to come,
once its cells have been read and each timeslot once. -/
def execResyncBurst (asn : Nat) (body : List Byte) (s : State) : Host.Outcome State Fault Refusal :=
  run (fun s =>
    if engineUp s && s.on F.SSE_CTL_run && fullDuty s && decide (s.asn < asn ∧ asn < s.sse.read ∧ s.sse.bursts ≤ asn) then
      let s := { s with sse := { s.sse with resync := s.sse.resync.filter (fun r => decide (leafState s r.lid = 4)), bursts := asn + 1 } }
      let s := startBursts s.sse.resync.length (slotStart s asn) s.sse.resync s
      each (s.sse.resync.filter (fun r => decide (0 < r.left))) (fun r s =>
        let (ok, s) := burstSlot body asn r.lid s
        if ok then { s with sse := { s.sse with resync := s.sse.resync.map (fun q => if q.lid = r.lid then { q with left := q.left - 1 } else q) } }
        else s) s
    else s) s

end Sys2Proof.Machine
end

