-- ==== Sys2Proof/Machine/Judge.lean ====
section
/-!
DEFINITION. The slot schedule engine's judgement of received frames (R168 to R174, R219, R360), time parents
(R190, R191), misses (R185, R186), completions (R176, R177), and autopilot (R193, R194).
-/

namespace Sys2Proof.Machine

/-! Marks (R169). -/

def markDup : Nat := 1
def markStale : Nat := 2
def markAuth : Nat := 4
def markNoKey : Nat := 8
def markNoLeaf : Nat := 16
def markAck : Nat := 32
def markAnchor : Nat := 64
def markAdopted : Nat := 128

/-! Steps of R168. -/

/-- A received frame without its FCS. -/
def macBytes (d : RxDescriptor) : List Byte := d.psdu.take (d.psdu.length - (if bit d.flags 2 then 2 else 4))

/-- The IID of a MAC address (R201). -/
def macIid (a : MacAddr) : Nat := match a with | .short x => iidOfShort x | .ext e => iidOfEui e

/-- Whether an address is a leaf's. -/
def leafHas (s : State) (lid : Nat) (a : MacAddr) : Bool :=
  match a with
  | .short x => bit (leafWord s lid 0) 4 && decide (bits (leafWord s lid 1) 16 16 = x)
  | .ext e => decide (leafWord s lid 2 + leafWord s lid 3 * 2 ^ 32 = e)

/-- The LID of a frame's source, 0 for none (R168, R201): an EMPTY entry gives none. -/
def resolveLeaf (d : RxDescriptor) (src : Option MacAddr) (s : State) : Nat × State :=
  match src with
  | none => (0, s)
  | some a =>
    match d.cellUse.bind (fun c => if c.lid ≠ 0 ∧ c.shared = false ∧ leafHas s c.lid a = true then some c.lid else none) with
    | some l => (if leafState s l = 0 then 0 else l, s)
    | none =>
      let (hit, s) := lookup 0 (macIid a) s
      match hit with
      | some e =>
        if e.leafClass ∧ e.toPort = false ∧ e.target / 2 ^ 17 = routerId s ∧ leafState s (e.target % 2 ^ 17) ≠ 0 then (e.target % 2 ^ 17, s)
        else (0, s)
      | none => (0, s)

/-- Authentication and decryption under a leaf's key: the payload, or the mark. -/
def openFrame (d : RxDescriptor) (h : MacHeader) (lid : Nat) (s : State) : Except Nat (List Byte) × State :=
  let l := macBytes d
  if !h.secured then (.ok (l.drop h.length), s)
  else
    match leafKey lid s with
    | (none, s) => (.error markNoKey, s)
    | (some key, s) =>
      let eui := leafWord s lid 2 + leafWord s lid 3 * 2 ^ 32
      match Config.ccmDecrypt key (nonce eui d.asn h.level h.counter) (l.take h.length) (l.drop h.length) (micOctets h.level) with
      | some p => (.ok p, s)
      | none => (.error markAuth, s)

/-- The counter of a secured frame: its value, and whether it is an ASN. -/
def frameCounter (d : RxDescriptor) (h : MacHeader) : Option (Nat × Bool) :=
  if h.secured then some (match h.counter with | some c => (c, false) | none => (d.asn, true)) else none

/-- The mark the counter brings, none for a fresh frame: a frame that carries no counter is fresh. -/
def counterMark (s : State) (lid : Nat) (ctr : Option (Nat × Bool)) : Option Nat :=
  match ctr with
  | none => none
  | some (c, _) =>
    let last := (leafWord s lid 6 + leafWord s lid 7 * 2 ^ 32) % 2 ^ 40
    if c = last then some markDup else if c < last then some markStale else none

/-- The channel of a frame in 100 Hz: its cell's as it was read; the manual names none for a frame that refers to no
cell. -/
def frameChan (s : State) (d : RxDescriptor) : Nat :=
  match d.cellUse with
  | some u => u.freq
  | none => s.open 25

/-- TsTxAckDelay in µs of a frame's cell as it was read, of template 0 without one (R161, R173). -/
def frameAckDelay (s : State) (d : RxDescriptor) : Nat :=
  match d.cellUse with
  | some u => u.ackDelay
  | none => s.get (F.SSE_TMPL1_tx_ack_delay 0)

/-- A frame's offset in ns from TsTxOffset of its cell's timeslot: its offset from the expected arrival, and that
arrival's own.  The expected arrival is so re-anchored by catch_offset (R22, R170, notes/assumptions/52). -/
def anchorOf (d : RxDescriptor) : Int :=
  match d.cellUse with
  | some u => u.early + d.catchOffset
  | none => 0

/-- The update of a leaf by a fresh frame, one write of its row (R170), and its return to ACTIVE (R186). -/
def updateLeaf (d : RxDescriptor) (lid chan : Nat) (ctr : Option (Nat × Bool)) (s : State) : State :=
  let off := d.cfo + (binCentreHz s d.bin - (chan * 100 : Nat))
  let p := roundDivInt (off * 10000000) chan
  let old := signed 32 (leafWord s lid 10)
  let drift := if bits (leafWord s lid 9) 0 25 = 0 then p else old + roundDivInt (p - old) 4
  let w32 (k : Nat) (x : Nat) : List (Nat × Nat) := [(k, x % 2 ^ 32), (k + 1, x / 2 ^ 32 % 2 ^ 32)]
  let ws := (match ctr with | some (c, isAsn) => w32 6 (c % 2 ^ 40 + b2n isAsn * 2 ^ 40) | none => [])
    ++ [(8, unsigned 32 off), (9, chan % 2 ^ 25), (10, unsigned 32 drift)]
    ++ (if d.catchClass < 2 then (11, unsigned 32 (anchorOf d)) :: (w32 12 d.sfdStamp ++ w32 14 d.asn) else [])
    ++ (if bit d.flags 5 ∧ 40 ≤ d.snr then (upTo 8).map (fun i => (20 + i, leAt d.chanVec (4 * i) 4)) else [])
    ++ (if d.catchClass < 2 then [(29, leafWord s lid 29 - leafMisses s lid)] else [])
  let s := writeLeaf lid ws s
  let st := leafState s lid
  if st = 3 ∨ ((st = 4 ∨ st = 5) ∧ d.catchClass < 2) then moveLeaf lid 2 3 s else s

/-! Enhanced ACKs (R173, R174). -/

/-- The IEs of an EACK: the time correction, and the Bexora IE where it carries something (R173, R180, R181). -/
def ackIes (s : State) (d : RxDescriptor) (lid : Nat) : List Byte :=
  let ns := -d.catchOffset
  let us := roundDivInt ns 1000
  let set := leafSet s lid
  let v1 := bit (leafWord s lid 0) 3
  let grove := match tabFind s.grove.epochAt set with
    | some a => if d.asn ≤ a + s.get F.SSE_EB_epoch_ts then [groveSub s (if v1 then 1 else 2) set] else []
    | none => []
  let tcorr := if us.natAbs ≤ 2047 ∨ v1 = true then [] else [subfield 3 (leBytes 4 (unsigned 32 ns))]
  let subs := grove ++ tcorr
  timeCorrection us ++ (if subs.isEmpty then [] else bexoraIe (if v1 then 1 else 2) (routerId s) subs)

/-- Count an EACK that is not sent (R174). -/
def ackDrop (s : State) : State := s.event F.SSE_STAT_ack_drop F.SSE_EVCNT_ack_drop_cnt

/-- An EACK's rank among those that overlap: IN_CELL first, then the frame that ended earlier. -/
def ackBefore (a b : TxDesc) : Bool := decide (b.tag / 8 < a.tag / 8) || (decide (b.tag / 8 = a.tag / 8) && decide (a.ended < b.ended))

/-- An EACK that has not reached its limb gives it up to one that goes first. -/
def yieldAck (d : TxDesc) (s : State) : State :=
  let gives (e : TxDesc) : Bool := decide (e.tag % 8 = 3) && ackBefore d e
    && decide ((airTime d).1 < (airTime e).2 ∧ (airTime e).1 < (airTime d).2)
  match s.txl.crossing.filter gives with
  | [] => s
  | e :: rest =>
    let worst := rest.foldl (fun a b => if ackBefore a b then b else a) e
    ackDrop { s with txl := { s.txl with crossing := s.txl.crossing.erase worst } }

/-- Post the EACK of a frame, or count its drop: whether it was posted. -/
def postAck (d : RxDescriptor) (h : MacHeader) (lid chan : Nat) (s : State) : Bool × State :=
  let t := draft s ⟨chan, d.format, d.mode⟩
  let s := s.used
  let launch := d.sfdStamp + (d.endDelta + frameAckDelay s d * 1000) * 256
  let (key, s) : Option (List Byte) × State := if h.secured then leafKey lid s else (none, s)
  let hd := Config.ackHeader (leafAddr s 0) lid d.asn (if key.isSome then keyIndex s lid else 0) (macBytes d) ++ ackIes s d lid
  let l := match key with
    | some k => hd ++ Config.ccmEncrypt k (nonce (routerEui s) d.asn 0 none) hd [] Config.micLength
    | none => hd
  let t := { t with launch := launch, tilt := leafTilt s lid, psdu := withFcs t.crc16 l, cell := none, lid := lid
                    tag := 3 + 8 * b2n (decide (d.catchClass = 0)), ended := d.sfdStamp + d.endDelta * 256 }
  if launch / 256 < s.now + 100000 ∨ (h.secured ∧ key.isNone) then (false, ackDrop s)
  else
    match postTx t s with
    | some (_, s) => (true, s)
    | none =>
      match postTx t (yieldAck t s) with
      | some (_, s) => (true, s)
      | none => (false, ackDrop s)

/-! Beacons (R190, R360). -/

/-- A beacon announces a higher epoch for a set served here (R360). -/
def heedGrove (e : Nat × Nat) (s : State) : State :=
  if setServed s e.1 && decide (s.get (F.BGH_SET0_epoch e.1) < e.2) then
    followSet true e.1 ((s.set (F.BGH_SET1_standby e.1) 1).event F.GRV_STAT_standby F.GRV_EVCNT_standby_cnt)
  else s

/-- The ASN of a TSCH Synchronization IE in a list of nested IEs. -/
def nestedAsn (fuel : Nat) (l : List Byte) : Option Nat :=
  match fuel with
  | 0 => none
  | fuel + 1 =>
    if l.length < 2 then none
    else
      let d := leAt l 0 2
      if bit d 15 then nestedAsn fuel (l.drop (2 + d % 2048))
      else if d / 256 % 128 = 0x1A ∧ 6 ≤ d % 256 then some (leAt l 2 5)
      else nestedAsn fuel (l.drop (2 + d % 256))

/-- The ASN that a frame's payload IEs announce. -/
def announcedAsn (fuel : Nat) (l : List Byte) : Option Nat :=
  match fuel with
  | 0 => none
  | fuel + 1 =>
    if l.length < 2 then none
    else
      let d := leAt l 0 2
      let n := d % 2048
      if d / 2048 % 16 = 15 then none
      else if d / 2048 % 16 = 1 then
        match nestedAsn n (slice l 2 n) with
        | some a => some a
        | none => announcedAsn fuel (l.drop (2 + n))
      else announcedAsn fuel (l.drop (2 + n))

/-- The candidate whose beacon a frame is. -/
def parentOf (s : State) (src : Option MacAddr) : Option Nat :=
  match src with
  | some (.short a) => firstBelow 4 (fun i => bit (s.get F.SSE_TP_CFG_cand_en) i && decide (s.get (F.SSE_TP_CAND_short_addr i) = a))
  | _ => none

/-- Take a candidate for the active time parent: the grid follows its first beacon (R190, R191). -/
def takeParent (i : Nat) (s : State) : State :=
  let s := (s.set F.SSE_TP_STATUS_active i).set F.SSE_TP_STATUS_misses 0
  { s.set F.SSE_TP_STATUS_holdover 0 with sse := { s.sse with reload := true } }

/-- Load SSE_T0 and SSE_ASN0 from a parent's beacon. -/
def reloadGrid (d : RxDescriptor) (asn : Nat) (l : List Byte) (s : State) : State :=
  match announcedAsn l.length l with
  | none => s
  | some a =>
    let s := s.setPair F.SSE_T0_LO_value F.SSE_T0_HI_value (((slotStart s asn : Int) + d.catchOffset).toNat)
    let s := s.setPair F.SSE_ASN0_LO_value F.SSE_ASN0_HI_value a
    let s := s.setAsn (asnOf s s.now)
    { s with sse := { s.sse with reload := false, read := min s.sse.read (s.asn + 1), bursts := min s.sse.bursts (s.asn + 1) } }

/-- A beacon of the active candidate is checked against the grid, or the grid is reloaded from it (R190).  The manual gives the
check no consequence: its outcome is kept (DESIGN CHOICE, notes/assumptions/160). -/
def heedGrid (d : RxDescriptor) (asn : Nat) (l : List Byte) (s : State) : State :=
  if s.sse.reload then reloadGrid d asn l s
  else
    match announcedAsn l.length l with
    | some a => { s with sse := { s.sse with gridCheck := some (decide (a = asn), d.catchOffset) } }
    | none => s

/-- A beacon of a candidate is received (R190, R191). -/
def onParent (d : RxDescriptor) (i : Nat) (l : List Byte) (s : State) : State :=
  let s := s.set (F.SSE_TP_CAND_lost i) 0
  let s := if s.get F.SSE_TP_STATUS_active = 7 then takeParent i s else s
  match d.cell with
  | some (asn, c) =>
    if s.get F.SSE_TP_STATUS_active ≠ i then s
    else
      let s := s.set F.SSE_TP_STATUS_misses 0
      let s := { s with sse := { s.sse with parents := s.sse.parents.filter (fun (a, k, _) => decide ¬(a = asn ∧ k = c)) } }
      heedGrid d asn l (otaOffset i d.catchOffset s)
  | none => s

/-- The octets after a frame's header that stand in clear: none of a frame that is enciphered, of one that carries a MIC alone
those before it. -/
def plainBody (d : RxDescriptor) (h : MacHeader) : List Byte :=
  let l := (macBytes d).drop h.length
  if 4 ≤ h.level then [] else l.take (l.length - micOctets h.level)

/-- What the engine reads from an enhanced beacon, before the frame is judged. -/
def readBeacon (d : RxDescriptor) (h : MacHeader) (s : State) : State :=
  if h.type ≠ 0 then s
  else
    let s := each (groveSubs h.ies) heedGrove s
    match parentOf s h.src with
    | some i => if s.on F.SSE_TP_CFG_en then onParent d i (plainBody d h) s else s
    | none => s

/-- What the engine reads from an enciphered beacon of the active candidate once it is open (R168, R190). -/
def readSealed (d : RxDescriptor) (h : MacHeader) (payload : List Byte) (s : State) : State :=
  match d.cell with
  | some (asn, _) =>
    if h.type = 0 ∧ 4 ≤ h.level ∧ s.on F.SSE_TP_CFG_en ∧ parentOf s h.src = some (s.get F.SSE_TP_STATUS_active) then heedGrid d asn payload s else s
  | none => s

/-! Delivery (R168, R193, R219, R344). -/

/-- Whether a frame comes from the Pollen neighbour, in a cell of the Pollen slotframe and outside Understory mode (R344). -/
def fromPollen (s : State) (d : RxDescriptor) (lid : Nat) : Bool :=
  decide (pollenPeer s = some lid ∧ d.format ≠ 2) && d.cellUse.any (fun u => decide (u.sf = s.get F.GRF_POLLEN_CFG_sf))

/-- Deliver a judged frame with its marks, which stand in its descriptor (R169): to firmware, to Graft, or through Bough. -/
def deliver (d : RxDescriptor) (h : MacHeader) (lid marks : Nat) (payload : List Byte) (s : State) : State :=
  let c : Passage := ⟨5, 0, 0, 0, d.sfdStamp, 0, false, 0, d.cells, d.seq, false, none, false⟩
  let addr := if lid = 0 then 0 else routerId s * 2 ^ 17 + lid
  let d := { d with macFlags := marks }
  let s := { s with sse := { s.sse with judged := some d } }
  let tell (r : Nat) (s : State) : State := (exception r addr c d.psdu (s.emit (.toFirmware 0x28 (descriptorBytes d)))).2
  if s.on F.SSE_AP_active && decide (marks % 32 ≠ 0 ∨ 128 ≤ marks) then (freeCells 0 d.cells s).inc F.SSE_AP_DROP_CNT_count
  else if marks % 32 ≠ 0 ∨ 128 ≤ marks then tell 0x0D s
  else if h.type = 2 then freeCells 0 d.cells s
  else if h.type ≠ 1 then tell 0x05 s
  else if h.secured ∧ byteAt payload 0 = 0xF7 then
    (freeCells 0 d.cells s).when (fromPollen s d lid) (pollenMessage payload)
  else
    let iid (a : Option MacAddr) : Nat := match a with | some a => macIid a | none => leafMacIid s 0
    match decompress (contexts s) (iid h.src) (iid h.dst) payload with
    | .error r => tell r s
    | .ok p => (uplink (s.get (F.TRF_CLASS_CFG_up_q (bits (leafWord s lid 17) 0 6))) addr c d.psdu p s).2

/-- Steps 4 to 7 of R168 for a frame that is open. -/
def judgeOpen (d : RxDescriptor) (h : MacHeader) (lid : Nat) (payload : List Byte) (s : State) : State :=
  let ctr := frameCounter d h
  let mark := counterMark s lid ctr
  let chan := frameChan s d
  let s := if d.cell.isNone then s.used else s
  let s := match mark with
    | none =>
      let s := updateLeaf d lid chan ctr s
      if d.catchClass < 2 then
        { s with sse := { s.sse with expects := s.sse.expects.filter (fun (a, c, l) => decide ¬(d.cell = some (a, c) ∧ l = lid)) } }
      else s
    | some m => if m = markDup then s.inc F.SSE_DUP_CNT_count else s.inc F.SSE_STALE_CNT_count
  let marks := match mark with | none => markAnchor | some m => m
  let ack := h.ackReq && decide (h.type ≠ 2 ∧ mark ≠ some markStale) && (decide (d.catchClass < 2) || s.on F.SSE_CTL_ack_unsched)
  let (posted, s) := if ack then postAck d h lid chan s else (false, s)
  deliver d h lid (marks + b2n posted * markAck) (if h.payloadIes then afterPayloadIes payload.length payload else payload) s

/-- The engine judges a descriptor with status OK (R168). -/
def judge (d : RxDescriptor) (s : State) : State :=
  match readHeader (macBytes d) with
  | none => deliver d ⟨1, false, false, none, none, 0, none, [], 0, false⟩ 0 markNoLeaf [] s
  | some h =>
    let s := readBeacon d h s
    let (lid, s) := resolveLeaf d h.src s
    if lid = 0 then deliver d h 0 markNoLeaf [] s
    else if leafState s lid = 6 then deliver d h lid markAdopted [] s
    else
      match openFrame d h lid s with
      | (.error m, s) => deliver d h lid m [] (s.when (decide (m = markAuth)) (·.inc F.SSE_AUTH_FAIL_CNT_count))
      | (.ok p, s) => judgeOpen d h lid p (readSealed d h p s)

/-- FRAME_JUDGE (R168): the oldest descriptor is judged at an instant. -/
def execFrameJudge (at_ : Nat) (s : State) : Host.Outcome State Fault Refusal :=
  run (fun s =>
    match s.lanes.delivered with
    | [] => s
    | d :: rest =>
      if !engineUp s then s
      else
        let s := { s.reach at_ with lanes := { s.lanes with delivered := rest } }
        if s.cellsLost d.cells then countDrop 6 (freeCells 0 d.cells s)
        else if d.status = 0 then judge d s
        else (freeCells 0 d.cells s).emit (.toFirmware 0x28 (descriptorBytes d))) s

/-! Misses (R185, R186, R191). -/

/-- Count a miss of a leaf. -/
def missLeaf (lid : Nat) (s : State) : State :=
  let st := leafState s lid
  if st < 2 ∨ st = 6 then s
  else
    let s := setMisses lid (leafMisses s lid + 1) s
    let n := leafMisses s lid
    if max 4 (s.get F.SSE_LOST_MISSES_misses) ≤ n ∧ st ≠ 5 then moveLeaf lid 5 6 s
    else if 3 ≤ n ∧ st = 2 then moveLeaf lid 3 1 s
    else s

/-- CELL_MISS (R185): the late-catch hold on an expect cell ends. -/
def execCellMiss (asn cell : Nat) (s : State) : Host.Outcome State Fault Refusal :=
  run (fun s =>
    match s.sse.expects.find? (fun (a, c, _) => decide (a = asn ∧ c = cell)) with
    | none => s
    | some (_, _, lid) =>
      let s := match s.search.posts.find? (fun p => decide (p.asn = asn ∧ p.cell = cell)) with
        | some p => s.reach (p.closes + spanNs s)
        | none => s
      missLeaf lid { s with sse := { s.sse with expects := s.sse.expects.filter (fun (a, c, _) => decide ¬(a = asn ∧ c = cell)) } }) s

/-- The candidate after the lost one: the next enabled one in index order that is not lost. -/
def nextParent (s : State) (i : Nat) : Option Nat :=
  ([1, 2, 3].map (fun k => (i + k) % 4)).find? (fun j => bit (s.get F.SSE_TP_CFG_cand_en) j && !s.on (F.SSE_TP_CAND_lost j))

/-- No time parent candidate remains (R191, R248). -/
def noParent (s : State) : State :=
  let s := ((s.set F.SSE_TP_STATUS_active 7).set F.SSE_TP_STATUS_misses 0).set F.SSE_TP_STATUS_holdover 1
  (s.set F.SSE_STAT_holdover 1).when (decide (s.get F.TMB_REF_src = 2)) (enterHoldover 2)

/-- The active time parent is lost (R191, R248). -/
def loseParent (i : Nat) (s : State) : State :=
  let s := (s.set (F.SSE_TP_CAND_lost i) 1).event F.SSE_STAT_tp_lost F.SSE_EVCNT_tp_lost_cnt
  let s := { s with sse := { s.sse with parents := [] } }
  match nextParent s i with
  | some j => (takeParent j s).when (decide (s.get F.TMB_REF_src = 2)) (enterHoldover 3)
  | none => noParent s

/-- TP_BEACON_MISS (R191): the late-catch hold on a parent's cell ends without its beacon. -/
def execTpBeaconMiss (asn cell : Nat) (s : State) : Host.Outcome State Fault Refusal :=
  run (fun s =>
    match s.sse.parents.find? (fun (a, c, _) => decide (a = asn ∧ c = cell)) with
    | none => s
    | some (_, _, i) =>
      let s := { s with sse := { s.sse with parents := s.sse.parents.filter (fun (a, c, _) => decide ¬(a = asn ∧ c = cell)) } }
      if s.get F.SSE_TP_STATUS_active ≠ i then s
      else
        let s := s.inc F.SSE_TP_STATUS_misses
        if 3 ≤ s.get F.SSE_TP_STATUS_misses then loseParent i s else s) s

/-! Completions (R174, R176, R177). -/

/-- A neighbour's backoff grows after a failed attempt in a shared cell (R177). -/
def raiseBackoff (lid : Nat) (s : State) : State :=
  let be := min (max (leafBe s lid) (minBe s) + 1) (maxBe s)
  setBackoff lid (s.open be) (setBe lid be s).used

/-- An attempt is consumed (R176, R177): in a shared cell the backoff grows.  A broadcast frame has one. -/
def consumeAttempt (lid : Nat) (shared : Bool) (s : State) : State :=
  match vqueue s lid with
  | [] => s
  | f :: rest =>
    let s := if shared then raiseBackoff lid s else s
    if f.broadcast ∨ s.get F.SSE_SHARED_CFG_max_retries ≤ f.attempts then undelivered lid s
    else putVq lid ({ f with attempts := f.attempts + 1, taken := false } :: rest) false s

/-- A data frame's completion; `acked` says that a valid EACK came. -/
def dataDone (x : TxDone) (acked : Bool) (s : State) : State :=
  let lid := x.desc.tag / 8
  let s := if x.status = 0 then s else s.inc F.SSE_MISS_CNT_count
  let broadcast := match vqueue s lid with | f :: _ => f.broadcast | [] => false
  if x.status = 0 ∧ (acked = true ∨ broadcast = true) then resetBackoff lid (popVq lid true s)
  else if x.status = 0 ∨ x.status = 4 ∨ x.status = 5 then consumeAttempt lid (decide (x.desc.tag % 8 = 1)) s
  else untakeHead lid s

/-- A descriptor that completed PRUNED is posted to another limb while its launch can still be met (R142). -/
def repost (x : TxDone) (s : State) : Option State :=
  if x.status = 7 ∧ s.now + 100000 ≤ x.desc.launch / 256 then (postTx { x.desc with arrival := 0 } s).map Prod.snd else none

/-- The first waiting Pollen frame has ended: acknowledged or out of attempts it leaves, else it waits for another cell
(R176, R177).  One that is given up is asked for again by its receiver (R344). -/
def pollenDone (x : TxDone) (acked : Bool) (s : State) : State :=
  let s := if x.status = 0 then s else s.inc F.SSE_MISS_CNT_count
  let leave (s : State) : State :=
    { s with grf := { s.grf with pollenOut := s.grf.pollenOut.tail, pollenTaken := false, pollenTries := 0 } }
  if !s.grf.pollenTaken then s
  else if x.status = 0 ∧ acked = true then leave (resetBackoff x.desc.lid s)
  else if x.status = 0 ∨ x.status = 4 ∨ x.status = 5 then
    let s := if x.desc.tag % 8 = 6 then raiseBackoff x.desc.lid s else s
    if s.get F.SSE_SHARED_CFG_max_retries ≤ s.grf.pollenTries then leave s
    else { s with grf := { s.grf with pollenTaken := false, pollenTries := s.grf.pollenTries + 1 } }
  else { s with grf := { s.grf with pollenTaken := false } }

/-- What the engine does with a completion. -/
def completed (x : TxDone) (acked : Bool) (s : State) : State :=
  match repost x s with
  | some s => if x.desc.tag % 8 = 3 then ackDrop s else if x.desc.tag % 8 = 4 then s else s.inc F.SSE_MISS_CNT_count
  | none =>
    let k := x.desc.tag % 8
    if k < 2 then dataDone x acked s
    else if k = 3 then (if x.status = 0 then s.inc F.SSE_ACK_CNT_count else ackDrop s)
    else if k = 5 ∨ k = 6 then pollenDone x acked s
    else if k = 4 ∨ x.status = 0 then s
    else s.inc F.SSE_MISS_CNT_count

/-- TX_COMPLETION (R176): the oldest completion, and for a frame that asked for one whether a valid EACK came. -/
def execTxCompletion (acked : Bool) (s : State) : Host.Outcome State Fault Refusal :=
  run (fun s =>
    match s.txl.done with
    | [] => s
    | x :: rest => completed x acked { s with txl := { s.txl with done := rest } }) s

/-! The leaf event ring and autopilot. -/

/-- A write of SSE_LEV_TAIL (R187). -/
def writeLevTail (v : Word) (s : State) : State := showLeafEvents (s.set F.SSE_LEV_TAIL_index (wordField v 0 10))

/-- LEV_TAIL_WRITE (R187). -/
def execLevTailWrite (initiator : Nat) (value : Word) (s : State) : Host.Outcome State Fault Refusal :=
  run (gated ⟨initiator, 0x2800A4, true, value⟩ (writeLevTail value)) s

/-- The heartbeat limit in ns. -/
def heartbeatNs (s : State) : Nat := clamp 10 1000 (s.get F.SSE_AP_CFG_hb_ms) * 1000000

/-- Whether the heartbeat is required (R193): some core in service is not asleep by policy. -/
def heartbeatRequired (s : State) : Bool :=
  (upTo 4).any (fun c => s.coreServes c && decide ((s.dom (3 + c)).st ≠ .ret ∧ (s.dom (3 + c)).st ≠ .off ∧ (s.dom (3 + c)).st ≠ .offToOn
    ∧ (s.dom (3 + c)).st ≠ .retToOn))

/-- A write of SSE_FW_HB (R193). -/
def writeHeartbeat (s : State) : State := { s with sse := { s.sse with beat := some s.now, hbFrom := some s.now } }

/-- FW_HEARTBEAT (R193). -/
def execFwHeartbeat (initiator : Nat) (value : Word) (s : State) : Host.Outcome State Fault Refusal :=
  run (gated ⟨initiator, 0x280054, true, value⟩ writeHeartbeat) s

/-- FW_HEARTBEAT_MISS (R193): hb_ms pass without a heartbeat. -/
def execFwHeartbeatMiss (s : State) : Host.Outcome State Fault Refusal :=
  run (fun s =>
    if engineUp s && heartbeatRequired s then
      let s := match s.sse.hbFrom with | some t => s.reach (t + heartbeatNs s) | none => s
      { s with sse := { s.sse with apWanted := true } }
    else s) s

/-- A write of SSE_CTL (R193, R194): the timing registers are read anew when the schedule starts; PD_MAC is held ON while it runs
(R368, R370). -/
def writeSseCtl (v : Word) (s : State) : State :=
  let was := s.on F.SSE_CTL_run
  let s := (s.set F.SSE_CTL_run (wordField v 0 1)).set F.SSE_CTL_ack_unsched (wordField v 1 1)
  let s := if !was && s.on F.SSE_CTL_run then wakeDomain 23 { s with sse := { s.sse with read := 0, bursts := 0 } }
    else s.when (was && !s.on F.SSE_CTL_run) (returnForced 23)
  let s := if wordField v 2 1 = 1 ∧ s.on F.SSE_AP_active = false then { s with sse := { s.sse with apWanted := true } } else s
  let beating := s.sse.beat.any (fun t => decide (s.now ≤ t + heartbeatNs s))
  if wordField v 3 1 = 1 ∧ s.on F.SSE_AP_active = true ∧ beating = true then { s with sse := { s.sse with resumeWanted := true } } else s

/-- A write of SSE_CTL that keeps run and ack_unsched and sets one more bit. -/
def sseCtlWith (i : Nat) (s : State) : Word := BitVec.ofNat 32 (s.get F.SSE_CTL_run + 2 * s.get F.SSE_CTL_ack_unsched + 2 ^ i)

/-- AP_ENTER_REQUEST (R193). -/
def execApEnterRequest (initiator : Nat) (s : State) : Host.Outcome State Fault Refusal :=
  run (fun s => gated ⟨initiator, 0x280000, true, sseCtlWith 2 s⟩ (writeSseCtl (sseCtlWith 2 s)) s) s

/-- AP_RESUME (R194). -/
def execApResume (initiator : Nat) (s : State) : Host.Outcome State Fault Refusal :=
  run (fun s => gated ⟨initiator, 0x280000, true, sseCtlWith 3 s⟩ (writeSseCtl (sseCtlWith 3 s)) s) s

/-- AUTOPILOT_REDUCED (R194): 60 s after entry. -/
def execAutopilotReduced (s : State) : Host.Outcome State Fault Refusal :=
  run (fun s =>
    if s.on F.SSE_AP_active && !s.on F.SSE_AP_reduced then
      let s := s.reach (s.sse.apSince + 60000000000)
      let s := { s with sse := { s.sse with resync := s.sse.resync.map (fun (r : ResyncLeaf) => ({ r with left := 0 } : ResyncLeaf)) } }
      let s := withdraw (fun d => decide (d.tag % 8 = 4)) s
      ringNote 0x20 [1#8] false ((s.set F.SSE_AP_reduced 1).set F.SSE_STAT_ap_reduced 1)
    else s) s

/-- What a timeslot edge does to autopilot (R193, R194). -/
def edgeAutopilot (s : State) : State :=
  let want := s.sse.apWanted || !crownServed s
  let resume := s.sse.resumeWanted
  let s : State := { s with sse := { s.sse with apWanted := false, resumeWanted := false } }
  if s.on F.SSE_AP_active then
    if resume then failLate [5] 60000000000 (ringNote 0x20 [2#8] false ((s.set F.SSE_AP_active 0).set F.SSE_AP_reduced 0)) else s
  else if want && engineUp s then
    let s := ringNote 0x20 [0#8] false ((s.set F.SSE_AP_active 1).set F.SSE_STAT_ap 1)
    { s with sse := { s.sse with apSince := s.now } }
  else s

end Sys2Proof.Machine
end

