-- ==== Sys2Proof/Machine/Mailbox.lean ====
section
/-!
DEFINITION. What the part sends the host through the mailbox: messages in the to-host ring, unsolicited events, and
FW_STATE (R416, R417, R419).
-/

namespace Sys2Proof.Machine

/-- Whether Crown firmware answers: the cores were started and one is in service (R193, R417). -/
def firmwareUp (s : State) : Bool := s.grf.started && crownServed s

/-- The slots of a mailbox ring. -/
def mailSlots (log2 : Nat) : Nat := 2 ^ clamp 4 10 log2

/-- A message of the part: header and payload in a slot of 256 bytes (R416). -/
def mailSlot (major minor type flags status seq : Nat) (payload : List Byte) : List Byte :=
  fit 256 (leBytes 1 major ++ leBytes 1 minor ++ leBytes 2 type ++ leBytes 2 payload.length ++ leBytes 1 flags
    ++ leBytes 1 status ++ leBytes 4 seq ++ leBytes 4 0 ++ payload)

/-- Put the first waiting message in the to-host ring if it has room (R209, R416). -/
def pumpOne (s : State) : State :=
  match s.tap.outbox with
  | [] => s
  | m :: rest =>
    let n := mailSlots (s.get F.TPR_MB_TH_CFG_log2_size)
    let h := s.get F.TPR_MB_TH_HEAD_index % n
    if !s.on F.TPR_MB_TH_CFG_en || decide ((h + 1) % n = s.get F.TPR_MB_TH_TAIL_index % n) then s
    else
      let (ok, s) := dramStore 6 (s.pair F.TPR_MB_TH_BASE_LO_addr F.TPR_MB_TH_BASE_HI_addr + 256 * h) m s
      if ok then
        ringVector 0 0x5C ({ s.set F.TPR_MB_TH_HEAD_index ((h + 1) % n) with tap := { s.tap with outbox := rest } })
      else s

/-- Put waiting messages in the to-host ring, at most `n`. -/
def pumpMail (n : Nat) (s : State) : State :=
  match n with
  | 0 => s
  | n + 1 => pumpMail n (pumpOne s)

/-- Send a message of the part to the host. -/
def postMail (m : List Byte) (s : State) : State :=
  pumpMail (s.tap.outbox.length + 1) { s with tap := { s.tap with outbox := s.tap.outbox ++ [m] } }

/-- Send an unsolicited event (R416); until a version is negotiated it waits (R419), DEDUCED, entry 134. -/
def postEvent (type : Nat) (payload : List Byte) (s : State) : State :=
  if s.on F.TPR_MB_VER_valid then
    let m := mailSlot (s.get F.TPR_MB_VER_major) (s.get F.TPR_MB_VER_minor) type 2 0 s.tap.eventSeq payload
    postMail m { s with tap := { s.tap with eventSeq := (s.tap.eventSeq + 1) % 2 ^ 32 } }
  else { s with tap := { s.tap with waiting := s.tap.waiting ++ [(type, payload)] } }

/-- Send the events that waited for a version (R419). -/
def postWaiting (s : State) : State :=
  each s.tap.waiting (fun e s => postEvent e.1 e.2 s) { s with tap := { s.tap with waiting := [] } }

/-- Send FW_STATE where firmware service has changed (R417). -/
def noteFirmware (s : State) : State :=
  if s.on F.TPR_MB_VER_valid && decide (s.tap.fwReported ≠ some (firmwareUp s)) then
    postEvent 0x0101 [BitVec.ofNat 8 (b2n (firmwareUp s))] { s with tap := { s.tap with fwReported := some (firmwareUp s) } }
  else s

/-- A Crown core starts at its reset vector (R335, R347, R365). -/
def coreStarts (c : Nat) (s : State) : State := { s with power := { s.power with starts := tabPut s.power.starts c (tabGet s.power.starts c 0 + 1) } }

end Sys2Proof.Machine
end

