-- ==== Sys2Proof/Machine/Power.lean ====
section
/-!
DEFINITION. The power manager: allowed states, entries and returns of domains with what they lose and
restore (R364 to R370), operating points and the voltage loop (R374 to R377), wake holds and bud
watching (R378 to R380).
-/

namespace Sys2Proof.Machine

/-! Policy (R366 to R370). -/

/-- The allowed state of a domain (R367): 0 OFF, 1 RET, 2 ON.  Every domain is held ON from reset until
the host writes its budgets.  PD_SEC and PD_DDR go to RET where OFF would be allowed while SSE_CTL.run
is 1 (R371), and PD_SEC while an account holds a charge (R154).  PD_AON is ON, PD_HOST follows the link. -/
def allowed (s : State) (d : Nat) : Nat :=
  if d = 0 then 2
  else if d = 27 then (if s.tap.perstLow then 0 else if s.get F.TPR_LINK_pm = 0 then 2 else if s.get F.TPR_LINK_pm = 1 then 1 else 0)
  else if !s.power.budgetSet then 2
  else
    let floor := s.get (F.PWR_DOM_CFG_floor d)
    let b := domainBudget s d
    if floor = 0 ∧ within (testLatency s d (domLatency d).1) b then
      (if (d = 2 ∨ d = 26) ∧ s.on F.SSE_CTL_run then 1 else if d = 2 ∧ chargesHeld s then 1 else 0)
    else if floor ≤ 1 ∧ within (testLatency s d (domLatency d).2) b then 1
    else 2

/-- The state the power manager moves a domain to: ON under a hold, the forced state (on PD_SEC not OFF while an account holds a charge, R154), else the
allowed state (R368 to R370). -/
def wanted (s : State) (d : Nat) : Nat :=
  if held s d then 2
  else
    let f := s.get (F.PWR_DOM_CFG_force d)
    if f = 1 ∨ f = 2 then forcedState s d f else if f = 3 then 2 else allowed s d

/-! Leaving ON. -/

/-- A port's link goes down (R406): the change is counted, SYNCE_OUT squelched where the port is its
source (R253), and frames queued to the port are dropped (R232). -/
def linkLost (p : Nat) (s : State) : State :=
  if s.on (F.ETH_STATUS_link_up p) then
    dropPort p (synceLoses p (((s.set (F.ETH_STATUS_link_up p) 0).set (F.ETH_STAT_link_change p) 1).inc (F.ETH_EVCNT_link_cnt p)))
  else s

/-- Every Ethernet link is down (R365: the SerDes is down in RET and OFF). -/
def linksDown (s : State) : State :=
  each (upTo 4) (fun p s =>
    let s := linkLost p s
    ((s.set (F.ETH_STATUS_block_lock p) 0).set (F.ETH_STATUS_fec_lock p) 0).set (F.ETH_STATUS_rx_clk_lock p) 0) s

/-- What stops when a domain leaves ON (R50, R68, R365, R371). -/
def domainLeaves (d : Nat) (s : State) : State :=
  if d = 25 then linksDown s else frontLeaves d s

/-- A domain begins an entry to RET or OFF (R365). -/
def enterState (d target : Nat) (s : State) : State :=
  domainLeaves d (beginEntry d target s)

/-- Move a domain toward the state that is wanted now, where no idle time stands in the way: an ON domain
leaves for a forced state only, a domain in RET or OFF moves at once, one in transition completes it
first (R369, R370). -/
def review (d : Nat) (s : State) : State :=
  if d = 0 ∨ 27 ≤ d ∨ barredByHold s d = true then s
  else
    let w := wanted s d
    match (s.dom d).st with
    | .on => if w ≠ 2 ∧ s.get (F.PWR_DOM_CFG_force d) ≠ 0 then enterState d w s else s
    | .ret => if w = 2 then wakeDomain d s else if w = 0 then s.setDom d ⟨.toOff, false⟩ else s
    | .off => if w = 0 then s else wakeDomain d s
    | _ => s

/-- Every domain is evaluated again (R369). -/
def reviewAll (s : State) : State := each (upTo 27) review s

/-! What a domain loses in OFF (R364, R365). -/

/-- The BAR0 ranges of a domain's own registers (R23, R450): first offset and end. -/
def ownRanges (d : Nat) : List (Nat × Nat) :=
  if d = 1 then [(0x80000, 0xA0000)]
  else if d = 2 then [(0x20000, 0x40000), (0x240000, 0x280000), (0x400000, 0x420000), (0x440000, 0x460000)]
  else if d = 7 then [(0x300000, 0x340000)]
  else if 11 ≤ d ∧ d ≤ 14 then [(0x101000 + 0x400 * (d - 11), 0x101400 + 0x400 * (d - 11))]
  else if d = 15 ∨ d = 16 then
    [(0x201000 + 0x400 * (d - 15), 0x201400 + 0x400 * (d - 15)), (0x208000 + 0x4000 * (d - 15), 0x20C000 + 0x4000 * (d - 15))]
  else if 19 ≤ d ∧ d ≤ 22 then [(0x1C0000 + 0x8800 * (d - 19), 0x1C8800 + 0x8800 * (d - 19))]
  else if d = 23 then [(0x280000, 0x300000)]
  else if d = 24 then [(0x340000, 0x400000), (0x460000, 0x480000)]
  else if d = 25 then [(0x500000, 0x540000)]
  else if d = 26 then [(0x580000, 0x5A0000)]
  else if d = 27 then [(0x5C0000, 0x5E0000)]
  else []

/-- The common registers of the blocks over several domains (R450), with those domains. -/
def commonRanges : List (Nat × Nat × List Nat) := [
  (0x100000, 0x101000, [11, 12, 13, 14]), (0x140000, 0x1C0000, [17, 18]),
  (0x1E2000, 0x200000, [19, 20, 21, 22]), (0x200000, 0x201000, [15, 16])]

/-- Registers a domain shows again after OFF: settings restored (R365), values from the plan, OTP, MRAM
and the boot, and the state of pruned units. -/
def restoredRanges : List (Nat × Nat) := [
  (0x20000, 0x20010), (0x20040, 0x20060), (0x20064, 0x20068), (0x140100, 0x140180), (0x140200, 0x140224),
  (0x144000, 0x145000), (0x180020, 0x180030), (0x184000, 0x186000), (0x1A2000, 0x1A2880), (0x1E2000, 0x1E2004), (0x100000, 0x100004),
  (0x240000, 0x24000C), (0x241000, 0x241200), (0x400000, 0x400008), (0x40004C, 0x400054), (0x400080, 0x4000C0), (0x400200, 0x4002A0),
  (0x400310, 0x400328), (0x400330, 0x400334), (0x400340, 0x400360), (0x440004, 0x440008),
  (0x440080, 0x4400C0), (0x580000, 0x580008), (0x380030, 0x380034), (0x100020, 0x100024)]

/-- Whether an offset is restored after OFF: of a chain's registers, CNP_CH_CTL and CNP_CH_EXT. -/
def restored (off : Nat) : Bool :=
  restoredRanges.any (fun (a, b) => decide (a ≤ off ∧ off < b))
  || (decide (0x101000 ≤ off ∧ off < 0x102000) && decide (off % 0x100 = 0 ∨ off % 0x100 = 0x10))

/-- The ranges whose contents go with a domain that is OFF: its own, and the common ones of a block
none of whose domains keeps them. -/
def lostRanges (s : State) (d : Nat) : List (Nat × Nat) :=
  ownRanges d ++ (commonRanges.filter (fun (_, _, ds) => ds.contains d && ds.all (fun x => decide ((s.dom x).st = .off)))).map
    (fun (a, b, _) => (a, b))

/-- Registers in given ranges take their reset values. -/
def dropRegs (rs : List (Nat × Nat)) (s : State) : State :=
  { s with
    regs := s.regs.filter (fun (o, _) => !(rs.any (fun (a, b) => decide (a ≤ o ∧ o < b))) || restored o)
    rwoWritten := s.rwoWritten.filter (fun o => !(rs.any (fun (a, b) => decide (a ≤ o ∧ o < b)))) }

/-- As many zero bytes. -/
def zeroLike (l : List Byte) : List Byte := List.replicate l.length 0#8

/-- The packet buffer reads zero: the frames that stand in it are all zero bytes. -/
def zeroBuffer (s : State) : State :=
  { s with
    traffic := { s.traffic with
      vqs := s.traffic.vqs.map (fun (k, l) => (k, l.map (fun (f : VqFrame) => ({ f with payload := zeroLike f.payload } : VqFrame))))
      ports := s.traffic.ports.map (fun (k, l) => (k, l.map (fun (f : PortFrame) => ({ f with frame := zeroLike f.frame } : PortFrame))))
      hosts := s.traffic.hosts.map (fun (k, l) => (k, l.map (fun (f : HostFrame) => ({ f with frame := zeroLike f.frame } : HostFrame)))) }
    lanes := { s.lanes with delivered := s.lanes.delivered.map (fun (d : RxDescriptor) => ({ d with psdu := zeroLike d.psdu } : RxDescriptor)) } }

/-- The frames of a bank's lanes are lost. -/
def dropBank (b : Nat) (s : State) : State :=
  let ns := (s.lanes.frames.map Prod.fst).filter (fun n => decide (n / 136 = b))
  each ns (fun n s => releaseLane n false s) s

/-- The state a lane shows on its return: fenced if pruned, else idle. -/
def laneReturns (b : Nat) (s : State) : State :=
  each ((upTo 136).filter (fun k => decide (s.get (F.SRH_LANE_MAP_role (136 * b + k)) = 2)))
    (fun k s => s.set (F.LNE_STATUS_state (136 * b + k)) 6) s

/-- The default reserves apply only where their sum fits (R227). -/
def defaultReserves (s : State) : State :=
  if s.get F.TRF_CELLS_cells < ((upTo 6).map (fun k => wordField (regReset (0x380040 + 0x10 * k)) 0 17)).sum then
    (each (upTo 6) (fun k s => s.set (F.TRF_POOL_RES_reserve k) 0) s).set F.TRF_STAT_cfg_refused 1
  else s

/-- The state behind the registers that goes with a domain (R365): the table memories, the packet
buffer, the key cache and the accounts, a group's limbs and chains (whose LNA_CTL pins stay), a bank's lanes, the
queues. -/
def loseState (d : Nat) (s : State) : State :=
  if d = 1 then { s with time := {}, tmu := { sampled := s.board.gpioIn, seen := s.board.gpioIn } }
  else if d = 2 then
    let s := zeroiseSlots s
    { s with hwd := { s.hwd with cache := [], runs := [], prefetch := [], served := [] }, rgp := accountsKept s }
  else if d = 7 then { s with tables := { s.tables with leaf := [] } }
  else if d = 8 then { s with tables := { s.tables with learn := [], cells := [] } }
  else if d = 9 then zeroBuffer s
  else if 11 ≤ d ∧ d ≤ 14 then
    each (upTo 4) (fun k s =>
      let n := 4 * (d - 11) + k
      let s := s.setIf ((s.chain n).pin != s.on (F.CNP_CH_CTL_lna_pol n)) (F.CNP_CH_STATUS_ext_on n) 1
      s.setChain n { s.chain n with quiet := 0, detected := false, settling := false, pauseTo := 0 }) s
  else if d = 15 ∨ d = 16 then
    each (upTo 4) (fun k s =>
      let l := 4 * (d - 15) + k
      if s.pruned 3 l then s.set (F.TXL_STATUS_state l) 8 else s.setLimb l {}) s
  else if d = 17 ∨ d = 18 then
    let bins := (upTo 1024).filter (fun b => (chzWindows d).contains (binWindow s b))
    { s with
      canopy := { s.canopy with qmap := s.canopy.qmap.filter (fun (k, _) => !bins.contains (k / 4)) }
      search := { s.search with requests := s.search.requests.filter (fun r => !(chzWindows d).contains (streamWindow s r.stream)) } }
  else if 19 ≤ d ∧ d ≤ 22 then laneReturns (d - 19) (s.when ([19, 20, 21, 22].all (fun x => decide ((s.dom x).st = .off))) (setWaits s.pools))
  else if d = 23 then { s with sse := {}, tables := { s.tables with events := [] } }
  else if d = 24 then defaultReserves { s with traffic := {}, grove := { txSeq := s.grove.txSeq } }
  else if d = 26 then { s with dram := [] }
  else s

/-- A domain is OFF: its contents are lost. -/
def loseDomain (d : Nat) (s : State) : State :=
  let s := if 19 ≤ d ∧ d ≤ 22 then dropBank (d - 19) s else s
  let s := if d = 15 ∨ d = 16 then
      each ((upTo 4).filter (fun k => limbPowered s (4 * (d - 15) + k))) (fun k s => limbOff (4 * (d - 15) + k) s) s
    else s
  cleanBanks d (loseState d (dropRegs (lostRanges s d) s))

/-- A domain completes its entry to RET or OFF (R365); a wake that came meanwhile is served now. -/
def domainEntered (d : Nat) (s : State) : State :=
  let x := s.dom d
  let s := match x.st with
    | .toOff => loseDomain d (s.setDom d ⟨.off, false⟩)
    | .toRet => s.setDom d ⟨.ret, false⟩
    | _ => s
  if x.wake then wakeDomain d s else review d s

/-- DOMAIN_ENTRY_DONE (R365). -/
def execDomainEntryDone (domain : Nat) (s : State) : Host.Outcome State Fault Refusal :=
  run (fun s =>
    match (s.dom domain).st with
    | .toOff => domainEntered domain s
    | .toRet => domainEntered domain s
    | _ => s) s

/-- DOMAIN_IDLE_EXPIRY (R369): the domain has gone idle_us without an access, a hold or a wake. -/
def execDomainIdleExpiry (domain : Nat) (s : State) : Host.Outcome State Fault Refusal :=
  run (fun s =>
    if 1 ≤ domain ∧ domain ≤ 26 ∧ s.domOn domain = true ∧ wanted s domain ≠ 2 then enterState domain (wanted s domain) s else s) s

/-! Reaching ON (R365, R68, R381, R382). -/

/-- The chains of a group, enabled or not, rejoin at the next timeslot edge, after OFF at the ladder they start with
(R68). -/
def groupReturns (g : Nat) (fromOff : Bool) (s : State) : State :=
  refreshFront (each (upTo 4) (fun k s =>
    let n := 4 * g + k
    let s := s.setChain n { s.chain n with waitEdge := true }
    if fromOff then setLadder n (startLadder s n) s else s) s)

/-- Interrupts that wait for a Crown core are delivered once one is in service (R382). -/
def deliverWaiting (s : State) : State :=
  if s.coresInService.isEmpty then s
  else
    let l := s.power.crownIrqWaiting
    each l (fun b s => s.emit (.crownInterrupt b)) { s with power := { s.power with crownIrqWaiting := [] } }

/-- What resumes in a domain that is ON again; the heartbeat limit starts again with the first Crown core (R193). -/
def domainReturns (d : Nat) (fromOff : Bool) (s : State) : State :=
  if d = 1 then rearm true s
  else if d = 2 ∧ fromOff = false ∧ s.on F.HWD_DRBG_healthy = true then remaskAll s
  else if 3 ≤ d ∧ d ≤ 6 then
    let others := (upTo 4).any (fun c => decide (3 + c ≠ d) && s.coreServes c && s.domOn (3 + c))
    let s := s.when fromOff (coreStarts (d - 3))
    deliverWaiting (if others then s else { s with sse := { s.sse with hbFrom := some s.now } })
  else if 11 ≤ d ∧ d ≤ 14 then groupReturns (d - 11) fromOff s
  else if d = 17 ∨ d = 18 then
    each ((chzWindows d).filter (fun w => s.on (F.SPC_WIN_INCL_incl w))) beginFill
      { s with power := { s.power with lateRates := s.power.lateRates.filter (fun x => x ≠ d) } }
  else if 19 ≤ d ∧ d ≤ 22 then
    { s with search := { s.search with requests := s.search.requests.map (fun (r : LaneRequest) =>
        if r.bankWait && poolAwake s r.pool then ({ r with bankWait := false } : LaneRequest) else r) } }
  else if d = 26 then { s with power := { s.power with lateRates := s.power.lateRates.filter (fun x => x ≠ d) } }
  else s

/-- A domain reaches ON (R365). -/
def domainReached (d : Nat) (s : State) : State :=
  match (s.dom d).st with
  | .offToOn => domainReturns d true (s.setDom d ⟨.on, false⟩)
  | .retToOn => domainReturns d false (s.setDom d ⟨.on, false⟩)
  | _ => s

/-! Writes of budgets and forces. -/

/-- A write of PWR_BUDGET[i] (R367, R369). -/
def writeBudget (i : Nat) (v : Word) (s : State) : State :=
  let s := s.set (F.PWR_BUDGET_us i) (wordField v 0 24)
  reviewAll { s with power := { s.power with budgetSet := true } }

/-- BUDGET_WRITE (R367). -/
def execBudgetWrite (initiator service : Nat) (value : Word) (s : State) : Host.Outcome State Fault Refusal :=
  run (fun s => if 7 ≤ service then s else gated ⟨initiator, 0x40020 + 4 * service, true, value⟩ (writeBudget service value) s) s

/-- Whether a force is refused (R370, R154): below the floor, below a hold other than the PD_TIME hold,
which a force overrides with the floor that every plan gives PD_TIME (DEDUCED, notes/assumptions/175), or a force of OFF on PD_SEC while an account holds a charge. -/
def forceRefused (s : State) (d f : Nat) : Bool :=
  (decide (f = 1 ∨ f = 2) && ((decide (d ≠ 1) && decide (f - 1 < s.get (F.PWR_DOM_CFG_floor d))) || heldHw s d))
  || (decide (d = 2) && decide (f = 1) && chargesHeld s)

/-- Whether work waits that wakes the Crown cores: an interrupt, or a frame in a host queue that firmware handles (R382). -/
def crownWork (s : State) : Bool :=
  !s.power.crownIrqWaiting.isEmpty
  || (decide (s.owner 6 0x38 = 0x0900) && (upTo 8).any (fun q => !(tabGet s.traffic.hosts q []).isEmpty))

/-- A write of PWR_DOM_CFG[d].force (R370): with a force that ends, work that waited for it wakes the Crown cores (R382). -/
def writeForce (d : Nat) (v : Word) (s : State) : State :=
  let f := wordField v 4 2
  if d = 0 ∨ 27 ≤ d then s
  else if forceRefused s d f then s.event F.PWR_STAT_force_refused F.PWR_EVCNT_op_refused_cnt
  else
    let s := review d (s.set (F.PWR_DOM_CFG_force d) f)
    noteFirmware (s.when ((f = 0 || f = 3) && crownWork s && [3, 4, 5, 6, 10].contains d) wakeCrown)

/-- DOMAIN_FORCE_WRITE (R370). -/
def execDomainForceWrite (initiator domain : Nat) (value : Word) (s : State) : Host.Outcome State Fault Refusal :=
  run (fun s => if 28 ≤ domain then s else gated ⟨initiator, 0x40100 + 4 * domain, true, value⟩ (writeForce domain value) s) s

/-! Operating points (R374 to R377). -/

/-- VDD_CORE floor of an operating point in mV. -/
def opFloor (op : Nat) : Nat := if op = 3 then 720 else if op = 2 then 650 else if op = 1 then 600 else 550

/-- Most beam streams of an operating point. -/
def opStreams (op : Nat) : Nat := 256 * 2 ^ op

/-- The operating point whose DDR rate a max_rate code names: 0 2,133 to 3 8,533 MT/s. -/
def opRefused (s : State) (op : Nat) : Bool :=
  decide (opStreams op < (validStreams s).length) || decide (s.get F.DDR_CFG_max_rate < op)

/-- Record a refused request. -/
def refuseOp (s : State) : State := s.event F.PWR_STAT_op_refused F.PWR_EVCNT_op_refused_cnt

/-- Three failures of AVSBus (R377), with the last status. -/
def avsFails (status : Nat) (s : State) : State :=
  let s := ringNote 0x31 (leBytes 2 status) false (s.event F.PWR_STAT_avs_fail F.PWR_EVCNT_avs_fail_cnt)
  { s with power := { s.power with avsFailed := true } }

/-- A rail voltage is written and committed; `avs` is the last status of three failed attempts, none
where the write was acknowledged (R377). -/
def avsWrite (mv : Nat) (avs : Option Nat) (s : State) : Bool × State :=
  let s := s.emit (.avsWrite (s.get F.PWR_AVS_CFG_rail) mv)
  match avs with
  | none => (true, s.set F.PWR_VCORE_applied_mv mv)
  | some st => (false, avsFails st s)

/-- The rates and the floor of a new operating point are in force (R375); in a domain that is not ON
the rates follow at its next wake. -/
def opDone (op : Nat) (s : State) : State :=
  let late := [17, 18, 26].filter (fun d => !s.domOn d)
  let s := (((s.set F.PWR_VCORE_floor_mv (opFloor op)).set F.PWR_DVFS_op_now op).set F.PWR_DVFS_busy 0).set F.PWR_STAT_op_done 1
  { s with power := { s.power with opPhase := .idle, lateRates := late } }

/-- Check and start one change (R374, R375). -/
def opStart (op : Nat) (avs : Option Nat) (s : State) : State :=
  let now := s.get F.PWR_DVFS_op_now
  if opRefused s op then refuseOp s
  else if op ≤ now then opDone op s
  else if s.power.avsFailed then refuseOp s
  else if s.get F.PWR_VCORE_applied_mv < opFloor op then
    match avsWrite (opFloor op) avs s with
    | (true, s) => { s.set F.PWR_DVFS_busy 1 with power := { s.power with opPhase := .raiseSettling op } }
    | (false, s) => refuseOp s
  else { s.set F.PWR_DVFS_busy 1 with power := { s.power with opPhase := .raisePace op } }

/-- A write of PWR_DVFS.op_req: while a change runs it replaces the request that waits. -/
def writeDvfs (v : Word) (avs : Option Nat) (s : State) : State :=
  let op := wordField v 0 2
  let s := s.set F.PWR_DVFS_op_req op
  if s.power.opPhase = .idle then opStart op avs s else { s with power := { s.power with opWaiting := some op } }

/-- A change completes, and a waiting request is taken up. -/
def opComplete (op : Nat) (avs : Option Nat) (s : State) : State :=
  let s := opDone op s
  match s.power.opWaiting with
  | some w => opStart w avs { s with power := { s.power with opWaiting := none } }
  | none => s

/-- OP_REQUEST (R375). -/
def execOpRequest (initiator : Nat) (value : Word) (avs : Option Nat) (s : State) : Host.Outcome State Fault Refusal :=
  run (fun s => gated ⟨initiator, 0x40070, true, value⟩ (writeDvfs value avs) s) s

/-- OP_VOLTAGE_SETTLED (R375): the raise waits for a pace update. -/
def execOpVoltageSettled (s : State) : Host.Outcome State Fault Refusal :=
  run (fun s =>
    match s.power.opPhase with
    | .raiseSettling op => { s with power := { s.power with opPhase := .raisePace op } }
    | _ => s) s

/-- A pace update during the pace wait of a raise (R375). -/
def paceForOp (avs : Option Nat) (s : State) : State :=
  match s.power.opPhase with
  | .raisePace op => if s.get F.PWR_AVS_CFG_pace_tgt ≤ s.get F.GLB_PACE_min_pace then opComplete op avs s else s
  | _ => s

/-- Whether the loop of R376 runs: on updates of the pace monitors (R449), not after a failure (R377), and not while a
written voltage settles. -/
def vcoreLoops (s : State) : Bool :=
  !s.board.porLow && !s.board.resetLow && s.power.paced && !s.power.avsFailed && (match s.power.opPhase with | .raiseSettling _ => false | _ => true)

/-- VCORE_LOOP_TICK (R376).  A raise that waits for its pace is helped by the loop, which lowers nothing meanwhile (R375). -/
def execVcoreLoopTick (avs : Option Nat) (s : State) : Host.Outcome State Fault Refusal :=
  run (fun s =>
    if !vcoreLoops s then s
    else
      let pace := s.get F.GLB_PACE_min_pace
      let tgt := s.get F.PWR_AVS_CFG_pace_tgt
      let mv := s.get F.PWR_VCORE_applied_mv
      if pace < tgt ∧ mv < 850 then (avsWrite (min 850 (mv + 5)) avs s).2
      else if s.power.opPhase = .idle ∧ tgt + 96 < pace ∧ s.get F.PWR_VCORE_floor_mv < mv then (avsWrite (max (s.get F.PWR_VCORE_floor_mv) (mv - 5)) avs s).2
      else s) s

/-- A write of PWR_AVS_CFG: retry clears the failure state (R377). -/
def writeAvsCfg (v : Word) (s : State) : State :=
  let s := writePlain 0x40078 v s
  if wordField v 5 1 = 1 then { s with power := { s.power with avsFailed := false } } else s

/-- AVS_RETRY (R377). -/
def execAvsRetry (initiator : Nat) (s : State) : Host.Outcome State Fault Refusal :=
  let v : Word := s.reg 0x40078 ||| 0x20#32
  run (fun s => gated ⟨initiator, 0x40078, true, v⟩ (writeAvsCfg v) s) s

/-! Wakes (R378 to R380). -/

/-- WAKE_HOLD_EXPIRY (R378): the hold of a source ends. -/
def execWakeHoldExpiry (code : Nat) (s : State) : Host.Outcome State Fault Refusal :=
  run (fun s => reviewAll { s with power := { s.power with wakeHolds := s.power.wakeHolds.filter (fun c => c ≠ code) } }) s

/-- Whether the bud watcher takes its chain's samples continuously: the chain enabled and its group ON. -/
def budContinuous (s : State) : Bool :=
  let n := s.get F.PWR_BUD_CFG_chain
  s.on (F.CNP_CH_CTL_enable n) && s.domOn (11 + n / 4)

/-- A write of PWR_BUD_CFG (R380): the first window opens at the write that sets en, or changes period_ms or win_us while it is set. -/
def writeBudCfg (v : Word) (s0 : State) : State :=
  let s := writePlain 0x400B0 v s0
  let en := s.on F.PWR_BUD_CFG_en
  let new := en && (!s0.on F.PWR_BUD_CFG_en || decide (s.get F.PWR_BUD_CFG_period_ms ≠ s0.get F.PWR_BUD_CFG_period_ms)
    || decide (s.get F.PWR_BUD_CFG_win_us ≠ s0.get F.PWR_BUD_CFG_win_us))
  { s with power := { s.power with budOpen := en && (s.power.budOpen || (new && !budContinuous s)) } }

/-- BUD_WINDOW_OPEN (R380). -/
def execBudWindowOpen (s : State) : Host.Outcome State Fault Refusal :=
  run (fun s =>
    if s.on F.PWR_BUD_CFG_en && !budContinuous s then { s with power := { s.power with budOpen := true } } else s) s

/-- BUD_WINDOW_CLOSE (R380). -/
def execBudWindowClose (s : State) : Host.Outcome State Fault Refusal :=
  run (fun s => { s with power := { s.power with budOpen := false } }) s

/-- BUD_DETECT (R380): `matched` of the 64 chips match a cyclic shift of the pattern. -/
def execBudDetect (matched : Nat) (s : State) : Host.Outcome State Fault Refusal :=
  run (fun s =>
    if s.on F.PWR_BUD_CFG_en && (s.power.budOpen || budContinuous s) && decide (56 ≤ matched) && decide (matched ≤ 64) then
      wakeSource 7 (11 + s.get F.PWR_BUD_CFG_chain / 4) matched (s.inc F.PWR_BUD_CNT_count)
    else s) s

/-- GPIO_WAKE_EDGE (R378): an edge at a GPIO ball; timer units that count or capture the pin sample it at their ticks
(R263). -/
def execGpioWakeEdge (pin : Nat) (rising : Bool) (s : State) : Host.Outcome State Fault Refusal :=
  run (fun s =>
    if 32 ≤ pin then s
    else
      let s := { s with board := { s.board with gpioIn := putBit s.board.gpioIn pin rising } }
      if bit (s.get F.PWR_GPIO_WAKE_pins) pin && (bit (s.get F.PWR_GPIO_POL_pol) pin == !rising) then wakeSource 9 0 pin s else s) s

end Sys2Proof.Machine
end

