-- ==== Sys2Proof/Machine/Taproot.lean ====
section
/-!
DEFINITION. Taproot and the backhaul links: link changes and the wakes they bring (R405, R406, R378), the
PCIe link, PERST_L and WAKE_L (R368, R378, R413), coalesced ring vectors (R415), BAR2 (R412), and the
mailbox (R416 to R419).
-/

namespace Sys2Proof.Machine

/-! Ethernet links. -/

/-- Whether a port's mode is 10GBASE-R or 25GBASE-R. -/
def portMode (s : State) (p : Nat) : Bool := decide (s.get (F.ETH_CFG_mode p) = 1 ∨ s.get (F.ETH_CFG_mode p) = 2)

/-- Whether a port needs FEC alignment lock: RS-FEC is used at 25G only (R405). -/
def portFec (s : State) (p : Nat) : Bool := decide (s.get (F.ETH_CFG_mode p) = 2) && s.on (F.ETH_CFG_fec p)

/-- LINK_UP (R406): the locks have held for 10 ms without hi_ber. -/
def execLinkUp (port : Nat) (s : State) : Host.Outcome State Fault Refusal :=
  run (fun s =>
    if decide (port < 4) && portMode s port && s.domOn 25 && !s.pruned 7 port && !s.on (F.ETH_STATUS_link_up port) then
      let s := ((s.set (F.ETH_STATUS_block_lock port) 1).set (F.ETH_STATUS_rx_clk_lock port) 1).set (F.ETH_STATUS_hi_ber port) 0
      let s := (s.set (F.ETH_STATUS_fec_lock port) (b2n (portFec s port))).set (F.ETH_STATUS_link_up port) 1
      wakeSource 1 25 port ((s.set (F.ETH_STAT_link_change port) 1).inc (F.ETH_EVCNT_link_cnt port))
    else s) s

/-- LINK_DOWN (R406): what the receiver reports now, a lock lost or a high bit error rate; a receive clock that
unlocks while the link holds squelches SYNCE_OUT only (R253). -/
def execLinkDown (port : Nat) (block fec clk hiBer : Bool) (s : State) : Host.Outcome State Fault Refusal :=
  run (fun s =>
    if decide (port < 4) && s.on (F.ETH_STATUS_link_up port) && (!block || hiBer || (portFec s port && !fec)) then
      let s := wakeSource 1 25 port (linkLost port s)
      (((s.set (F.ETH_STATUS_block_lock port) (b2n block)).set (F.ETH_STATUS_fec_lock port) (b2n fec)).set
        (F.ETH_STATUS_rx_clk_lock port) (b2n clk)).set (F.ETH_STATUS_hi_ber port) (b2n hiBer)
    else if decide (port < 4) && s.on (F.ETH_STATUS_link_up port) && !clk then synceLoses port (s.set (F.ETH_STATUS_rx_clk_lock port) 0)
    else s) s

/-- A write of ETH_CFG[p] (R405): a change of mode or fec takes the link down at once. -/
def writeEthCfg (p : Nat) (v : Word) (s : State) : State :=
  let changes := decide (wordField v 0 2 ≠ s.get (F.ETH_CFG_mode p) ∨ wordField v 2 1 ≠ s.get (F.ETH_CFG_fec p))
  let wasUp := s.on (F.ETH_STATUS_link_up p)
  let s := if changes then
      let s := if wasUp then wakeSource 1 25 p (linkLost p s) else dropPort p s
      ((s.set (F.ETH_STATUS_block_lock p) 0).set (F.ETH_STATUS_fec_lock p) 0).set (F.ETH_STATUS_rx_clk_lock p) 0
    else s
  writePlain (0x500000 + 0x10000 * p) v s

/-- ETH_CFG_WRITE (R405). -/
def execEthCfgWrite (initiator port : Nat) (value : Word) (s : State) : Host.Outcome State Fault Refusal :=
  run (fun s => if 4 ≤ port then s else gated ⟨initiator, 0x500000 + 0x10000 * port, true, value⟩ (writeEthCfg port value) s) s

/-- ETH_SIGNAL_DETECT (R378): a link change seen while PD_ETH sleeps. -/
def execEthSignalDetect (port : Nat) (s : State) : Host.Outcome State Fault Refusal :=
  run (fun s => if port < 4 ∧ s.domOn 25 = false then wakeSource 1 25 port s else s) s

/-! The PCIe link. -/

/-- Taproot is reset with its link down or PERST_L low (R413): its registers, its vectors and every
pending message; host-owned rings stop, and table DMA ring 0. -/
def taprootReset (pm : Nat) (s : State) : State :=
  let s := dropRegs [(0x5C0000, 0x5E0000)] s
  let s := { s with tap := { s.tap with msix := [], funcMask := false, pba := [], gapRunning := [], coalesced := [], outbox := [], waiting := [], eventSeq := 0, fwReported := none } }
  let s := if s.owner 6 0x38 = 0x0800 then
      each (upTo 8) (fun q s => (s.set (F.TRF_HQ_TP_CFG_en q) 0).set (F.TRF_HQ_TH_CFG_en q) 0) s else s
  ((s.set (F.LFT_DMA_CFG_en 0) 0).set F.TPR_LINK_pm pm).setDom 27 ⟨.off, false⟩

/-- PERST_ASSERT (R413). -/
def execPerstAssert (s : State) : Host.Outcome State Fault Refusal :=
  run (fun s => taprootReset 2 { s with tap := { s.tap with perstLow := true } }) s

/-- PERST_RELEASE (R378): WAKE_L is released, and the release acts as wake source 4. -/
def execPerstRelease (s : State) : Host.Outcome State Fault Refusal :=
  run (fun s =>
    if s.tap.perstLow then
      wakeSource 4 27 0 { s with tap := { s.tap with perstLow := false }, power := { s.power with wakeL := false } }
    else s) s

/-- PCIE_LINK_DOWN (R413). -/
def execPcieLinkDown (s : State) : Host.Outcome State Fault Refusal := run (taprootReset 2) s

/-- PCIE_L1_ENTRY (R368). -/
def execPcieL1Entry (s : State) : Host.Outcome State Fault Refusal :=
  run (fun s => if s.get F.TPR_LINK_pm = 0 ∧ s.tap.perstLow = false then (s.set F.TPR_LINK_pm 1).setDom 27 ⟨.ret, false⟩ else s) s

/-- PCIE_L1_EXIT (R378): the host starts an exit from L1. -/
def execPcieL1Exit (s : State) : Host.Outcome State Fault Refusal :=
  run (fun s => if s.get F.TPR_LINK_pm = 1 then wakeSource 3 27 0 (wakeDomain 27 s) else s) s

/-- Send a pending vector if nothing masks it (R415). -/
def sendPending (v : Nat) (s : State) : State :=
  let e := tabGet s.tap.msix v {}
  if s.tap.pba.contains v && !e.masked && !s.tap.funcMask && decide (s.get F.TPR_LINK_pm = 0) then
    ({ s with tap := { s.tap with pba := s.tap.pba.filter (fun x => x ≠ v) } }).emit (.msix v e.addr e.data)
  else s

/-- What the link trains to (R411): 2.5 to 16 GT/s on 1, 2 or 4 lanes. -/
def trains (gen width : Nat) : Bool := decide (1 ≤ gen ∧ gen ≤ 4) && decide (width = 1 ∨ width = 2 ∨ width = 4)

/-- PCIE_L0_REACHED (R378, R368): PD_HOST is ON, WAKE_L is released and pending messages are sent. -/
def execPcieL0Reached (gen width : Nat) (s : State) : Host.Outcome State Fault Refusal :=
  run (fun s =>
    if s.tap.perstLow || !trains gen width then s
    else
      let s := ((s.set F.TPR_LINK_pm 0).set F.TPR_LINK_gen gen).set F.TPR_LINK_width width
      let s := s.setDom 27 ⟨.on, false⟩
      let s := { s with power := { s.power with wakeL := false } }
      each (upTo 64) sendPending s) s

/-- WAKE_IN (R378): WAKE_L is driven low by another device. -/
def execWakeIn (s : State) : Host.Outcome State Fault Refusal := run (wakeSource 5 0 0) s

/-- The block whose interrupt handling a ring vector follows (R414, R415). -/
def vectorBlock (v : Nat) : Nat := if v ≤ 1 then 0x5C else if v = 34 then 0x08 else 0x38

/-- MSIX_COALESCE_EXPIRY (R415): the gap of a ring vector ends, and an advance meanwhile is sent now. -/
def execMsixCoalesceExpiry (vector : Nat) (s : State) : Host.Outcome State Fault Refusal :=
  run (fun s =>
    if s.tap.gapRunning.contains vector then
      let late := s.tap.coalesced.contains vector
      let s := { s with tap := { s.tap with
        gapRunning := s.tap.gapRunning.filter (fun x => x ≠ vector), coalesced := s.tap.coalesced.filter (fun x => x ≠ vector) } }
      if late then ringVector vector (vectorBlock vector) s else s
    else s) s

/-! BAR2 (R412). -/

/-- DRAM accesses that stall are kept at offsets from here on. -/
def dramTag : Nat := 2 ^ 40

/-- An access of one DRAM word that PD_DDR lets through: beyond the usable size it reads 0 or is dropped. -/
def dramWord (a : Access) (s : State) : State :=
  let addr := a.off - dramTag
  if s.dramOk addr 4 then
    if a.write then s.dramWrite addr (leBytes 4 a.value.toNat) else s.emit (.read (BitVec.ofNat 32 (s.dramNat addr 4)))
  else
    let s := (s.set F.TPR_STAT_bar2_oor 1).inc F.TPR_BAR2_OOR_CNT_count
    if a.write then s else s.emit (.read 0#32)

/-- A DRAM access behind the fence of PD_DDR (R372, R412). -/
def gatedDram (a : Access) (s : State) : State :=
  match gate s 26 with
  | .pass => dramWord a s
  | .stall =>
    let s := wakeDomain 26 s
    { s with power := { s.power with stalled := s.power.stalled ++ [⟨26, a, none⟩] } }
  | .fence =>
    let s := recordFence 26 a s
    if a.write then s else s.emit (.read 0x0FF00FF0#32)

/-- BAR2_ACCESS (R412): an access of one word at an offset of the window. -/
def execBar2Access (offset : Nat) (write : Bool) (value : Word) (s : State) : Host.Outcome State Fault Refusal :=
  run (fun s =>
    if s.domOn 27 then gatedDram ⟨0, dramTag + s.get F.TPR_BAR2_WIN_win * 2 ^ 32 + offset % 2 ^ 32 / 4 * 4, write, value⟩ s else s) s

/-! The mailbox (R416 to R419). -/

/-- The highest minor the part speaks of a major (R418). -/
def ownMinor (major : Nat) : Option Nat := if major = 1 then some 6 else if major = 2 then some 3 else if major = 3 then some 2 else none

/-- The version a HELLO's offers lead to (R419). -/
def chooseVersion (offers : List (Nat × Nat)) : Option (Nat × Nat) :=
  [3, 2, 1].findSome? (fun m =>
    match ((offers.filter (fun (a, _) => decide (a = m))).map Prod.snd).max?, ownMinor m with
    | some h, some own => some (m, min h own)
    | _, _ => none)

/-- The pairs a HELLO offers. -/
def helloOffers (p : List Byte) : List (Nat × Nat) := (upTo (min 8 (byteAt p 0))).map (fun i => (byteAt p (2 + 2 * i), byteAt p (3 + 2 * i)))

/-- The slot of the request that stands first in the to-part ring, if there is one. -/
def mailFront (s : State) : Option Nat :=
  let n := mailSlots (s.get F.TPR_MB_TP_CFG_log2_size)
  let t := s.get F.TPR_MB_TP_TAIL_index % n
  if s.on F.TPR_MB_TP_CFG_en && decide (t ≠ s.get F.TPR_MB_TP_HEAD_index % n) then
    some (s.pair F.TPR_MB_TP_BASE_LO_addr F.TPR_MB_TP_BASE_HI_addr + 256 * t)
  else none

/-- The first request is consumed. -/
def mailTake (s : State) : State :=
  let n := mailSlots (s.get F.TPR_MB_TP_CFG_log2_size)
  ringVector 1 0x5C (s.set F.TPR_MB_TP_TAIL_index ((s.get F.TPR_MB_TP_TAIL_index % n + 1) % n))

/-- Answer a request: the versions and the sequence are those of the request's header (R416). -/
def mailAnswer (m : List Byte) (status : Nat) (payload : List Byte) (s : State) : State :=
  let s := if status = 1 then s.set F.TPR_STAT_mb_version 1 else s
  postMail (mailSlot (byteAt m 0) (byteAt m 1) (leAt m 2 2) 1 status (leAt m 8 4) payload) s

/-- Negotiate a version (R419). -/
def mailHello (m : List Byte) (s : State) : State :=
  match chooseVersion (helloOffers (m.drop 16)) with
  | some (a, b) =>
    let s := ((s.set F.TPR_MB_VER_valid 1).set F.TPR_MB_VER_major a).set F.TPR_MB_VER_minor b
    postWaiting (noteFirmware (mailAnswer m 0 [BitVec.ofNat 8 a, BitVec.ofNat 8 b, 0#8, 0#8] s))
  | none =>
    let s := ((s.set F.TPR_MB_VER_valid 0).set F.TPR_MB_VER_major 0).set F.TPR_MB_VER_minor 0
    mailAnswer m 1 [0#8, 0#8, 0#8, 0#8] s

/-- The status that turns a request other than HELLO away (R417, R419), if one does. -/
def mailRefusal (m : List Byte) (s : State) : Option Nat :=
  let type := leAt m 2 2
  if !s.on F.TPR_MB_VER_valid || decide (byteAt m 0 ≠ s.get F.TPR_MB_VER_major) then some 1
  else if 240 < leAt m 4 2 then some 4
  else if type ≠ 2 ∧ (type < 0x1000 ∨ 0x7FFF < type) then some 2
  else if type ≠ 2 ∧ firmwareUp s = false then some 3
  else none

/-- Handle one request of the mailbox (R417). -/
def mailRequest (m : List Byte) (s : State) : State :=
  let s := mailTake s
  if leAt m 2 2 = 1 then (if 240 < leAt m 4 2 then mailAnswer m 4 [] s else mailHello m s)
  else
    match mailRefusal m s with
    | some st => mailAnswer m st [] s
    | none =>
      if leAt m 2 2 = 2 then mailAnswer m 0 (slice m 16 (leAt m 4 2)) s else s.emit (.toFirmware 0x5C m)

/-- Handle the first request if its type is one that `kind` takes. -/
def mailEvent (kind : Nat → Bool) (s : State) : State :=
  match mailFront s with
  | none => s
  | some a =>
    match dramFetch [] 6 a 256 s with
    | (none, s) => s
    | (some m, s) => if kind (leAt m 2 2) then mailRequest m s else s

/-- MAILBOX_HELLO (R419). -/
def execMailboxHello (s : State) : Host.Outcome State Fault Refusal := run (mailEvent (fun t => decide (t = 1))) s

/-- MAILBOX_PING (R417). -/
def execMailboxPing (s : State) : Host.Outcome State Fault Refusal := run (mailEvent (fun t => decide (t = 2))) s

/-- MAILBOX_HOST_SERVICE (R417): a request of any other type. -/
def execMailboxHostService (s : State) : Host.Outcome State Fault Refusal :=
  run (mailEvent (fun t => decide (t ≠ 1) && decide (t ≠ 2))) s

end Sys2Proof.Machine
end

