-- ==== Sys2Proof/Machine/Board.lean ====
section
/-!
DEFINITION. The board's memory and pins: the flash port (R424), the board record (R420), GPIO and coexistence
pins (R425, R426), and boundary scan (R428).
-/

namespace Sys2Proof.Machine

/-! Flash (R424). -/

/-- The lifecycle state in force (R329). -/
def lifecycle (s : State) : Nat := s.get F.BRK_LC_state

/-- A byte of the flash; an erased one reads 0xFF. -/
def flashByte (s : State) (a : Nat) : Byte := tabGet s.board.flash a 0xFF#8

/-- Bytes of the flash. -/
def flashRead (s : State) (a n : Nat) : List Byte := (upTo n).map (fun i => flashByte s (a + i))

/-- Write bytes into a table of flash bytes, an erased byte not listed. -/
def flashPut (m : Tab Byte) (a : Nat) (l : List Byte) : Tab Byte :=
  match l with
  | [] => m
  | b :: rest => flashPut (if b = 0xFF#8 then tabErase m a else tabPut m a b) (a + 1) rest

/-- Write bytes of the flash. -/
def flashWrite (a : Nat) (l : List Byte) (s : State) : State := { s with board := { s.board with flash := flashPut s.board.flash a l } }

/-- Erase the blocks that a range meets. -/
def flashErase (a n : Nat) (s : State) : State :=
  let b := Config.eraseBlockLess1 + 1
  let lo := a / b * b
  let hi := ceilDiv (a + n) b * b
  if n = 0 then s else { s with board := { s.board with flash := s.board.flash.filter (fun (k, _) => !(decide (lo ≤ k) && decide (k < hi))) } }

/-- A flash command completes. -/
def flashDone (status : Nat) (s : State) : State :=
  let s := (s.set F.XSP_RESULT_done 1).set F.XSP_RESULT_status status
  let s := s.set F.XSP_STAT_done 1
  if status = 0 then s else s.set F.XSP_STAT_err 1

/-- Start a flash command: the lifecycle or a monitor session permits PROGRAM and ERASE; a command beside
another, or beside Seed or Graft, completes with BUSY. -/
def flashGo (initiator op : Nat) (s : State) : State :=
  if s.board.flashHeld || s.board.flashOp.isSome then flashDone 2 s
  else if (op = 1 ∨ op = 2) ∧ 2 < lifecycle s ∧ ¬(initiator = 6 ∧ s.mon.session.isSome) then flashDone 1 s
  else
    let r : FlashOp := ⟨op, s.get F.XSP_ADDR_addr, s.get F.XSP_LEN_len, s.pair F.XSP_BUF_LO_addr F.XSP_BUF_HI_addr⟩
    { (s.set F.XSP_CMD_busy 1).set F.XSP_RESULT_done 0 with board := { s.board with flashOp := some r } }

/-- A write of XSP_CMD. -/
def writeXspCmd (initiator : Nat) (v : Word) (s : State) : State :=
  let s := s.set F.XSP_CMD_op (wordField v 0 2)
  if wordField v 31 1 = 1 then flashGo initiator (wordField v 0 2) s else s

/-- A go of one operation behind the fence. -/
def xspStart (initiator op : Nat) (s : State) : State :=
  gated ⟨initiator, 0x5A0000, true, BitVec.ofNat 32 (2 ^ 31 + op)⟩ (writeXspCmd initiator (BitVec.ofNat 32 (2 ^ 31 + op))) s

/-- XSP_READ (R424). -/
def execXspRead (initiator : Nat) (s : State) : Host.Outcome State Fault Refusal := run (xspStart initiator 0) s

/-- XSP_PROGRAM (R424). -/
def execXspProgram (initiator : Nat) (s : State) : Host.Outcome State Fault Refusal := run (xspStart initiator 1) s

/-- XSP_ERASE (R424). -/
def execXspErase (initiator : Nat) (s : State) : Host.Outcome State Fault Refusal := run (xspStart initiator 2) s

/-- XSP_SFDP (R424). -/
def execXspSfdp (initiator : Nat) (s : State) : Host.Outcome State Fault Refusal := run (xspStart initiator 3) s

/-- The effect of a flash command, and its status: 4 where its buffer is out of reach or reads uncorrectable. -/
def flashRun (ue : List Nat) (r : FlashOp) (s : State) : Nat × State :=
  if r.op = 2 then (0, flashErase r.addr r.len s)
  else if r.op = 1 then
    match dramFetch ue 6 r.buf r.len s with
    | (some l, s) => (0, flashWrite r.addr l s)
    | (none, s) => (4, s)
  else
    let l := if r.op = 0 then flashRead s r.addr r.len else (upTo r.len).map (fun i => Config.flashSfdp (r.addr + i))
    let (ok, s) := dramStore 6 r.buf l s
    (if ok then 0 else 4, s)

/-- XSP_COMPLETE (R424): `deviceOk` says whether the device carried the operation out. -/
def execXspComplete (deviceOk : Bool) (ue : List Nat) (s : State) : Host.Outcome State Fault Refusal :=
  run (fun s =>
    match s.board.flashOp with
    | none => s
    | some r =>
      let (st, s) := if deviceOk then flashRun ue r s else (3, s)
      let s := s.set F.XSP_CMD_busy 0
      flashDone st { s with board := { s.board with flashOp := none } }) s

/-! The board record (R420). -/

/-- Whether 64 bytes are a board record. -/
def boardValid (l : List Byte) : Bool :=
  decide (slice l 0 4 = [0x42#8, 0x58#8, 0x42#8, 0x52#8]) && decide (byteAt l 4 = 1) && decide (byteAt l 6 ≤ 3)
  && decide (byteAt l 7 ≤ 7) && decide (byteAt l 8 ≤ 7) && decide (50 ≤ byteAt l 9) && decide (byteAt l 9 ≤ 200)
  && (slice l 10 50).all (fun b => decide (b = 0#8)) && decide (leAt l 0x3C 4 = crc32 (l.take 0x3C))

/-- A write of DDR_BOARD_CTL.go (R420, R156): the staged record is checked and programmed; `vpp` says whether VPP_OTP is
present, `readback` whether the programmed bytes read back equal. -/
def programBoard (vpp readback : Bool) (s : State) : State :=
  let a := s.pair F.DDR_BOARD_ADDR_LO_addr F.DDR_BOARD_ADDR_HI_addr
  let l := s.dramRead a 64
  if lifecycle s ≤ 1 ∧ s.dramOk a 64 = true ∧ boardValid l = true ∧ vpp = true ∧ otpRead s 0x1200 64 = List.replicate 64 0#8 then
    let s := otpWrite 0x1200 l s
    s.set (if readback then F.DDR_STAT_board_done else F.DDR_STAT_board_fail) 1
  else s.set F.DDR_STAT_board_fail 1

/-- BOARD_RECORD_PROGRAM (R420). -/
def execBoardRecordProgram (initiator : Nat) (vpp readback : Bool) (s : State) : Host.Outcome State Fault Refusal :=
  run (fun s => gated ⟨initiator, 0x580038, true, 1#32⟩ (programBoard vpp readback) s) s

/-! Pins (R425). -/

/-- A DIR or OUT word after a write: a pin of the GPIO block takes the bit, another pin's bit only clears. -/
def pinBits (owned : Nat → Bool) (n old v : Nat) : Nat :=
  maskOf ((upTo n).filter (fun i => if owned i then bit v i else bit old i && bit v i))

/-- Drive the pins of the GPIO block whose direction or level has changed; one that becomes an input is driven no more. -/
def drivePins (owned : Nat → Bool) (n base : Nat) (before after : Nat × Nat) (s : State) : State :=
  let s := each ((upTo n).filter (fun i => owned i && bit before.1 i && !bit after.1 i)) (fun i s => s.emit (.undriven (base + i))) s
  each ((upTo n).filter (fun i => owned i && bit after.1 i && (bit before.1 i != bit after.1 i || bit before.2 i != bit after.2 i)))
    (fun i s => s.emit (.pin (base + i) (bit after.2 i))) s

/-- Record the pins that a write tried to set without owning them. -/
def pinConflicts (owned : Nat → Bool) (cls n v : Nat) (s : State) : State :=
  each ((upTo n).filter (fun i => bit v i && !owned i)) (fun i s => s.conflict F.PIN_CONFLICT_conflict F.PIN_STAT_conflict (s.owner cls i) cls i) s

/-- A write of PIN_GPIO_DIR or PIN_GPIO_OUT. -/
def writeGpio (out : Bool) (v : Word) (s : State) : State :=
  let own := gpioOwns s 1
  let b := (s.get F.PIN_GPIO_DIR_bits, s.get F.PIN_GPIO_OUT_bits)
  let f := if out then F.PIN_GPIO_OUT_bits else F.PIN_GPIO_DIR_bits
  let s := pinConflicts own 1 32 v.toNat (s.set f (pinBits own 32 (s.get f) v.toNat))
  drivePins own 32 0 b (s.get F.PIN_GPIO_DIR_bits, s.get F.PIN_GPIO_OUT_bits) s

/-- A write of PIN_CX_DIR or PIN_CX_OUT. -/
def writeCxPins (out : Bool) (v : Word) (s : State) : State :=
  let own := gpioOwns s 3
  let b := (s.get F.PIN_CX_DIR_bits, s.get F.PIN_CX_OUT_bits)
  let f := if out then F.PIN_CX_OUT_bits else F.PIN_CX_DIR_bits
  let s := pinConflicts own 3 12 v.toNat (s.set f (pinBits own 12 (s.get f) v.toNat))
  drivePins own 12 34 b (s.get F.PIN_CX_DIR_bits, s.get F.PIN_CX_OUT_bits) s

/-- PIN_GPIO_WRITE (R425). -/
def execPinGpioWrite (initiator : Nat) (out : Bool) (value : Word) (s : State) : Host.Outcome State Fault Refusal :=
  run (fun s => gated ⟨initiator, if out then 0xA0024 else 0xA0020, true, value⟩ (writeGpio out value) s) s

/-- PIN_CX_WRITE (R425). -/
def execPinCxWrite (initiator : Nat) (out : Bool) (value : Word) (s : State) : Host.Outcome State Fault Refusal :=
  run (fun s => gated ⟨initiator, if out then 0xA0034 else 0xA0030, true, value⟩ (writeCxPins out value) s) s

/-- The owner that PIN_OWNER[i] shows (R426). -/
def pinOwner (s : State) (i : Nat) : Nat :=
  if i < 32 then s.owner 1 i else if i < 34 then s.owner 2 (i - 32) else s.owner 3 (i - 34)

/-! Boundary scan (R428). -/

/-- TAP_INSTRUCTION (R428, R329): 0 IDCODE, whose value is then shifted out, 1 BYPASS, 2 SAMPLE/PRELOAD, 3 EXTEST; EXTEST acts as BYPASS from
DEPLOYED on, and so does every other code. -/
def execTapInstruction (code : Nat) (s : State) : Host.Outcome State Fault Refusal :=
  run (fun s =>
    let c := if 3 < code then 1 else if code = 3 ∧ 2 < lifecycle s then 1 else code
    let s : State := { s with board := { s.board with tap := c } }
    if c = 0 then s.emit (.idcode 0x17160A4B#32) else s) s

end Sys2Proof.Machine
end

