-- ==== Sys2Proof/Machine/Bark.lean ====
section
/-!
DEFINITION. Bark: tamper episodes and their responses (R320 to R328), sensor classes (R324), and the
lifecycle (R329 to R332).
-/

namespace Sys2Proof.Machine

/-- A monitor session ends (R404). -/
def endSession (s : State) : State :=
  let s : State := { s with mon := { s.mon with session := none } }
  (s.set F.MON_STATUS_session 0).set F.MON_STATUS_secs_left 0

/-! Responses (R325 to R328). -/

/-- Every slot and cache entry is zeroised (R325): the cache refills by misses, and a slot comes back at its next use where it
can be derived or restored. -/
def zeroiseKeys (s : State) : State := zeroiseSlots (flushCache s)

/-- Heartwood is locked (R328). -/
def lockHeartwood (s : State) : State :=
  let s : State := { s with nv := { s.nv with locked := true } }
  ((s.set F.HWD_STATUS_locked 1).set F.HWD_STAT_locked 1).set F.BRK_STATUS_erase_lock 1

/-- BARK_HOLD is entered (R326): once, while it stands. -/
def enterHold (s : State) : State :=
  if s.bark.hold then s
  else
  let s : State := { s with bark := { s.bark with hold := true }, nv := { s.nv with holds := s.nv.holds + 1 } }
  let s := s.set F.BRK_HOLD_CNT_count (min s.nv.holds (2 ^ 32 - 1))
  each ((upTo 8).map (11 + ·)) (fun d s => loseDomain d (domainLeaves d (s.setDom d ⟨.off, false⟩))) s

/-- Whether Bark has been the wake source at this very instant (R323: events that fall together are answered once). -/
def barkWoke (s : State) : Bool :=
  s.power.wakeHolds.contains 11 && decide (s.get F.PWR_WAKE_LAST_code = 11)
  && decide (s.get F.PWR_WAKE_AON_ticks = s.power.aonTicks % 2 ^ 32)
  && decide (s.pair F.PWR_WAKE_TS_LO_ns F.PWR_WAKE_TS_HI_ns = if s.domOn 1 then s.now else 0)

/-- The forced cycle of R327: PD_SEC loses its retention, and Bark is the wake source. -/
def forcedCycle (sensor : Nat) (s : State) : State :=
  if barkWoke s then s.set F.PWR_WAKE_LAST_detail sensor
  else wakeSource 11 0 sensor (loseDomain 2 (s.setDom 2 ⟨.off, false⟩))

/-- Whether a Heartwood operation is in progress. -/
def keyOperation (s : State) : Bool := !s.hwd.runs.isEmpty || s.sweeping

/-- The context of R325: 0 idle, 1 start-up, 2 sleep, 3 key operation. -/
def barkContext (s : State) : Nat :=
  if s.on F.BRK_CTL_boot_done = false then 1 else if s.domOn 2 = false then 2 else if keyOperation s then 3 else 0

/-- An alarm ends the key operations in progress (R303): commands with ABORTED, a sweep with phase aborted. -/
def abortKeys (s : State) : State :=
  let s := abortCmds s
  if s.sweeping then s.set F.HWD_GEN_sweep 3 else s

/-- The response of an ALARM (class 2) or ERASE (class 3) in a context (R325). -/
def respond (sensor cls ctx : Nat) (s : State) : State :=
  if cls < 2 then s
  else if ctx = 1 then enterHold s
  else if ctx = 2 then
    let s := if cls = 3 then { s with nv := { s.nv with locked := true } } else s
    let s := forcedCycle sensor s
    if cls = 3 then lockHeartwood s else s
  else
    let s := zeroiseKeys (if ctx = 3 then abortKeys s else s)
    if cls = 3 then lockHeartwood s else s

/-- The class a sensor's event takes (R322, R323); 0: no event. -/
def barkClass (s : State) (sensor : Nat) (under : Bool) : Nat :=
  let c := s.get (F.BRK_SENSOR_CFG_class sensor)
  let c := if c = 0 ∧ sensor < 6 then 1 else c
  if under && s.board.pfailLow && decide (sensor = 1 ∨ sensor = 2) then 1 else c

/-- Log and count an episode (R321). -/
def logEpisode (sensor cls ctx : Nat) (s : State) : State :=
  let s := (s.set (F.BRK_SENSOR_CFG_episode sensor) 1).inc (F.BRK_SENSOR_CNT_count sensor)
  let s := if cls = 1 then s.event F.BRK_STAT_notice F.BRK_EVCNT_notice_cnt
    else if cls = 2 then s.event F.BRK_STAT_alarm F.BRK_EVCNT_alarm_cnt else s.event F.BRK_STAT_erase F.BRK_EVCNT_erase_cnt
  let s : State := if 2 ≤ cls then { s with nv := { s.nv with tampers := s.nv.tampers + 1 } } else s
  let s := s.set F.BRK_TAMPER_CNT_count (min s.nv.tampers (2 ^ 32 - 1))
  let head := s.get F.RRC_HEAD_index
  let lost := ringProtected s head
  let s := if lost then (s.set F.BRK_LAST_rr_index (s.open 12)).used else s.set F.BRK_LAST_rr_index head
  let s := ((s.set F.BRK_LAST_sensor sensor).set F.BRK_LAST_class cls).set F.BRK_LAST_context ctx
  ringNote 0x30 (leBytes 1 sensor ++ leBytes 1 cls ++ leBytes 1 ctx) (decide (2 ≤ cls) && bit (s.get F.RRC_CFG_trig) 2) s

/-- A tamper event meets a transition request (R332): before the programming of OTP begins it ends the request with
ABORTED, and after that it waits.  When the programming begins is left open. -/
def abortTransition (s : State) : State :=
  if s.bark.lc.isNone || !s.bark.waiting.isEmpty then s
  else if s.open 1 = 0 then
    let s : State := { s.used with bark := { s.bark with lc := none } }
    let s := (s.set F.BRK_LC_RESULT_done 1).set F.BRK_LC_RESULT_status 8
    s.event F.BRK_STAT_lc_refused F.BRK_EVCNT_lc_refused_cnt
  else s.used

/-! The external loops (R320). -/

/-- The bit that a loop drives on TMP_LOOPk_A in bit time `n` since the release of POR_L. -/
def loopDrives (s : State) (k n : Nat) : Bool := Config.loopPattern (Config.loopSeed s.bark.release k) n

/-- The bit time that runs: 1,024 bit/s, 32 ticks of the always-on clock each (R379). -/
def loopTime (s : State) : Nat := s.power.aonTicks / 32

/-- Whether the bits seen on TMP_LOOPk_B, the latest first, differ from the pattern driven in two consecutive bits, `n` being the
bit time of the latest. -/
def loopDiffers (s : State) (k n : Nat) (seen : List Bool) : Bool :=
  match seen with
  | [] => false
  | b :: rest =>
    (decide (0 < n) && (b != loopDrives s k n) && (match rest with | c :: _ => c != loopDrives s k (n - 1) | [] => false))
    || (decide (0 < n) && loopDiffers s k (n - 1) rest)

/-- Whether a sensor's condition is met (R320): that of sensors 0 to 5 is the event itself, and a loop's is judged by the bits
seen. -/
def sensorMet (s : State) (sensor : Nat) (seen : List Bool) : Bool :=
  decide (sensor < 6) || (decide (sensor < 10) && loopDiffers s (sensor - 6) (loopTime s) seen)

/-- BARK_SENSOR_EVENT (R320 to R325): `under` says that the event is an undervoltage, and `seen` are the latest bits on a loop's
TMP_LOOPk_B, the latest first. -/
def execBarkSensorEvent (sensor : Nat) (under : Bool) (seen : List Bool) (s : State) : Host.Outcome State Fault Refusal :=
  run (fun s =>
    if !sensorMet s sensor seen then s
    else
      let cls := barkClass s sensor under
      if cls = 0 then s
      else
        let s := s.set F.BRK_STATUS_live (setBit (s.get F.BRK_STATUS_live) sensor)
        if s.on (F.BRK_SENSOR_CFG_episode sensor) then s
        else
          let ctx := barkContext s
          let s := logEpisode sensor cls ctx s
          let s := if 2 ≤ cls then endSession s else s
          let s := if 2 ≤ cls then abortTransition s else s
          if s.bark.lc.isSome && decide (2 ≤ cls) then { s with bark := { s.bark with waiting := s.bark.waiting ++ [(sensor, cls)] } }
          else respond sensor cls ctx s) s

/-- BARK_EPISODE_END (R321): 1 s in which the sensor's condition has not been met. -/
def execBarkEpisodeEnd (sensor : Nat) (s : State) : Host.Outcome State Fault Refusal :=
  run (fun s =>
    if 10 ≤ sensor then s
    else (s.set F.BRK_STATUS_live (clrBit (s.get F.BRK_STATUS_live) sensor)).set (F.BRK_SENSOR_CFG_episode sensor) 0) s

/-! Classes (R324). -/

/-- The class a sensor takes without a record: ALARM for sensors 0 to 5, DISABLED for loops. -/
def defaultClass (sensor : Nat) : Nat := if sensor < 6 then 2 else 0

/-- The class the record in MRAM holds for a sensor. -/
def storedClass (s : State) (sensor : Nat) : Nat := tabGet s.nv.classes sensor (defaultClass sensor)

/-- A write of BRK_SENSOR_CFG[i]: in DEPLOYED a lower class is ignored. -/
def writeClass (i : Nat) (v : Word) (s : State) : State :=
  let c := wordField v 0 2
  if lifecycle s = 3 ∧ c < s.get (F.BRK_SENSOR_CFG_class i) then s.set F.BRK_STAT_cfg_refused 1
  else s.set (F.BRK_SENSOR_CFG_class i) c

/-- BARK_CLASS_WRITE (R324). -/
def execBarkClassWrite (initiator sensor : Nat) (value : Word) (s : State) : Host.Outcome State Fault Refusal :=
  run (fun s => if 10 ≤ sensor then s else gated ⟨initiator, 0x420100 + 4 * sensor, true, value⟩ (writeClass sensor value) s) s

/-- Store the present classes as the record. -/
def persistClasses (s : State) : State :=
  if lifecycle s = 3 ∧ (upTo 10).any (fun i => decide (s.get (F.BRK_SENSOR_CFG_class i) < storedClass s i)) then
    s.set F.BRK_STAT_cfg_refused 1
  else { s with nv := { s.nv with classes := (upTo 10).map (fun i => (i, s.get (F.BRK_SENSOR_CFG_class i))) } }

/-! The lifecycle (R329 to R332). -/

/-- The state OTP holds (R329): the highest whose word has at least 24 of its 32 bits programmed. -/
def otpState (s : State) : Nat :=
  (((upTo 5).map (· + 1)).filter (fun k => decide (24 ≤ popCount (leNat (otpRead s (0x0E80 + 4 * (k - 1)) 4)) 32))).max?.getD 0

/-- A new transition nonce (R331): the DRBG gives none while it is not healthy. -/
def drawNonce (s : State) : State :=
  let (ok, s) := hwAccess 2 6 0x420040 true s
  if ok && s.on F.HWD_DRBG_healthy then
    let n := s.random 32
    setWords F.BRK_LC_NONCE_bytes n { s.used with nv := { s.nv with lcNonce := n } }
  else s

/-- A transition that R330 lists, by its signer. -/
def listedTransition (from_ target signer : Nat) : Bool :=
  decide ((from_, target, signer) ∈ [(0, 1, 0), (1, 2, 0), (2, 3, 1), (2, 4, 1), (3, 4, 1), (0, 5, 0), (1, 5, 0), (4, 5, 0), (2, 5, 1), (3, 5, 1)])

/-- The prerequisite of a transition (R330): for PROVISIONED a committed OPERATOR record and a base profile
in force, for DEPLOYED persisted loop classes. -/
def prerequisite (s : State) (from_ target : Nat) : Bool :=
  if from_ = 1 ∧ target = 2 then !allZero (otpRead s 0x0C80 64) && (validRecords s).any (fun r => decide (r.kind = 3)) && !s.rgp.inForce.isEmpty
  else if from_ = 2 ∧ target = 3 then !s.nv.classes.isEmpty
  else true

/-- The status of a staged transition request (R331), the first check that fails; 0 OK. -/
def lcStatus (s : State) (vpp : Bool) (h sig : List Byte) : Nat :=
  let signer := byteAt h 7
  if slice h 0 4 ≠ [0x42#8, 0x58#8, 0x4C#8, 0x54#8] ∨ byteAt h 4 ≠ 1 ∨ 5 < byteAt h 5 ∨ 5 < byteAt h 6 ∨ 1 < signer then 1
  else if slice h 8 32 ≠ (if lifecycle s = 0 then List.replicate 32 0#8 else deviceId s) then 2
  else if byteAt h 5 ≠ lifecycle s ∨ listedTransition (byteAt h 5) (byteAt h 6) signer = false ∨ prerequisite s (byteAt h 5) (byteAt h 6) = false then 3
  else if slice h 40 32 ≠ fit 32 s.nv.lcNonce then 4
  else if (if signer = 0 then Config.xmssMtVerify Config.vendorKey h sig
      else match operatorKey s with | some k => Config.xmssVerify k h sig | none => false) = false then 5
  else if vpp = false then 6
  else 0

/-- The result of a request that is not carried out. -/
def lcRefuse (status target : Nat) (s : State) : State :=
  let s := ((s.set F.BRK_LC_RESULT_done 1).set F.BRK_LC_RESULT_status status).set F.BRK_LC_RESULT_to target
  s.event F.BRK_STAT_lc_refused F.BRK_EVCNT_lc_refused_cnt

/-- A write of BRK_CTL.lc_go (R331): a request that passes begins to program OTP; `vpp` says whether
VPP_OTP is present. -/
def lcGo (vpp : Bool) (ue : List Nat) (s : State) : State :=
  let a := s.pair F.BRK_LC_ADDR_LO_addr F.BRK_LC_ADDR_HI_addr / 16 * 16
  if s.bark.lc.isSome then lcRefuse 9 (s.get F.BRK_LC_RESULT_to) s
  else
    match dramFetch ue 6 a 72 s with
    | (none, s) => lcRefuse 1 0 s
    | (some h, s) =>
      let (sig, s) := dramFetch ue 6 (a + 72) (sigLen (byteAt h 7)) s
      let st := lcStatus s vpp h (sig.getD [])
      if st ≠ 0 then lcRefuse st (byteAt h 6) s
      else
        let s : State := { s with bark := { s.bark with lc := some (byteAt h 6) } }
        (s.set F.BRK_LC_RESULT_done 0).set F.BRK_LC_RESULT_to (byteAt h 6)

/-- A write of BRK_CTL (R324, R331); boot_done is written by Seed only. -/
def writeBrkCtl (vpp : Bool) (ue : List Nat) (v : Word) (s : State) : State :=
  let s := if wordField v 3 1 = 1 then drawNonce s else s
  let s := if wordField v 2 1 = 1 then persistClasses s else s
  if wordField v 1 1 = 1 then lcGo vpp ue s else s

/-- BARK_PERSIST (R324). -/
def execBarkPersist (initiator : Nat) (s : State) : Host.Outcome State Fault Refusal :=
  run (fun s => gated ⟨initiator, 0x42002C, true, 4#32⟩ (writeBrkCtl false [] 4#32) s) s

/-- LC_NEW_NONCE (R331). -/
def execLcNewNonce (initiator : Nat) (s : State) : Host.Outcome State Fault Refusal :=
  run (fun s => gated ⟨initiator, 0x42002C, true, 8#32⟩ (writeBrkCtl false [] 8#32) s) s

/-- LIFECYCLE_TRANSITION (R331). -/
def execLifecycleTransition (initiator : Nat) (vpp : Bool) (ue : List Nat) (s : State) : Host.Outcome State Fault Refusal :=
  run (fun s => gated ⟨initiator, 0x42002C, true, 2#32⟩ (writeBrkCtl vpp ue 2#32) s) s

/-- What a transition programs into word `k` of the lifecycle (R329). -/
def wordPart (k : Nat) : Nat × List Byte := (0x0E80 + 4 * (k - 1), List.replicate 4 0xFF#8)

/-- Whether a place of OTP is unprogrammed. -/
def blank (s : State) (a n : Nat) : Bool := allZero (otpRead s a n)

/-- What a transition programs into a root record: one of a DRBG root; a record that an earlier attempt programmed stands as it
is (R330, DESIGN CHOICE, notes/assumptions/171). -/
def rootPart (addr : Nat) (s : State) : List (Nat × List Byte) × State :=
  if blank s addr 64 then ([(addr, rootRecord s (s.random 32))], s.used) else ([], s)

/-- The PUF is enrolled (R278): helper data, where there are none, and the secret that the die's response gives with them. -/
def enrol (s : State) : List (Nat × List Byte) × State :=
  if blank s 0x0400 2048 then
    let h := s.random 2048
    let s := s.used
    ([(0x0400, h)], { s.used with nv := { s.nv with dus := Config.fuzzyExtract (s.random 1024) h } })
  else ([], s)

/-- Whether a transition needs an output of the DRBG, and cannot end its programming without one (R302, DESIGN CHOICE,
notes/assumptions/171). -/
def needsRoot (target : Nat) (s : State) : Bool :=
  (decide (target = 1) && (blank s 0x0C40 64 || blank s 0x0400 2048)) || (decide (target = 4) && blank s 0x0CC0 64)

/-- What a transition programs, in order (R330): the PUF's helper data with its check value, root records, and the
lifecycle word last. -/
def transitionParts (target : Nat) (s : State) : List (Nat × List Byte) × State :=
  if target = 1 then
    let (h, s) := enrol s
    let (r, s) := rootPart 0x0C40 s
    (h ++ [(0x0C00, derive256 s.nv.dus [] "BX7160 DUSCHK")] ++ r ++ [wordPart 1], s)
  else if target = 4 then
    let (r, s) := rootPart 0x0CC0 s
    (r ++ [wordPart 4], s)
  else if target = 5 then ([(0x0C40, List.replicate 192 0xFF#8), wordPart 5], s)
  else ([wordPart target], s)

/-- Program parts of OTP in order. -/
def programParts (l : List (Nat × List Byte)) (s : State) : State := each l (fun x => otpWrite x.1 x.2) s

/-- What a transition programs, in order (R330). -/
def programTransition (target : Nat) (s : State) : State :=
  let (l, s) := transitionParts target s
  programParts l s

/-- A transition whose programming ends early leaves OTP torn (R330): how many parts are whole, and which bits of the
next are programmed, are left open. -/
def tearTransition (target : Nat) (s : State) : State :=
  let (l, s) := transitionParts target s
  let k := s.open 3
  let s := s.used
  let torn := match l[k]? with
    | some (a, b) => [(a, List.zipWith (· &&& ·) b (s.random b.length))]
    | none => []
  programParts (l.take k ++ torn) s.used

/-- A reset cuts the programming of a transition (R330). -/
def cutTransition (s : State) : State :=
  match s.bark.lc with
  | some target => tearTransition target s
  | none => s

/-- Tamper events held back by the programming have their responses now: that of the highest class (R332). -/
def respondLate (s : State) : State :=
  let l := s.bark.waiting
  let s : State := { s with bark := { s.bark with waiting := [] } }
  match l.foldl (fun best x => match best with
    | none => some x
    | some b => if b.2 < x.2 then some x else some b) none with
  | some (sensor, cls) => respond sensor cls (barkContext s) s
  | none => s

/-- LC_PROGRAM_DONE (R330, R332): `ok` says whether OTP took the bits. -/
def execLcProgramDone (ok : Bool) (s : State) : Host.Outcome State Fault Refusal :=
  run (fun s =>
    match s.bark.lc with
    | none => s
    | some target =>
      if needsRoot target s && !s.on F.HWD_DRBG_healthy then s
      else
      let s : State := { s with bark := { s.bark with lc := none } }
      let s := s.set F.BRK_LC_RESULT_done 1
      let s := if ok then
          let s := programTransition target (s.set F.BRK_LC_RESULT_status 0)
          endSession (drawNonce ((s.set F.BRK_STAT_lc_done 1).set F.BRK_LC_next (otpState s)))
        else lcRefuse 7 target (tearTransition target s)
      respondLate s) s

end Sys2Proof.Machine
end

