-- ==== Sys2Proof/Machine/Stand.lean ====
section
/-!
DEFINITION. The stand plan (R29 to R49): the container and its checks, what a plan in force fixes, and live
re-stand.
-/

namespace Sys2Proof.Machine

/-! The container (R30 to R33). -/

/-- A directory entry (R31). -/
structure Region where
  type : Nat
  recVer : Nat
  flags : Nat
  reserved : Nat
  offset : Nat
  length : Nat
  count : Nat
  digest : List Byte
  deriving DecidableEq, Repr

/-- Bytes of the signature block (R32), by header flags. -/
def planSigLen (l : List Byte) : Nat := if bit (byteAt l 9) 0 then 2820 else 9893

/-- The directory of a container. -/
def regionsOf (l : List Byte) : List Region :=
  (upTo (leAt l 0x0A 2)).map (fun k =>
    let b := 0x40 + 48 * k
    ⟨byteAt l b, byteAt l (b + 1), byteAt l (b + 2), byteAt l (b + 3), leAt l (b + 4) 4, leAt l (b + 8) 4, leAt l (b + 12) 4, slice l (b + 16) 32⟩)

/-- Whether the part knows a region's type and record version (R33, R35). -/
def knownRegion (r : Region) : Bool := (decide (1 ≤ r.type ∧ r.type ≤ 8) && decide (r.recVer ≤ 1)) || decide (r.type = 0x7F)

/-- The regions of a type that are applied. -/
def regionsOfType (l : List Byte) (t : Nat) : List Region := (regionsOf l).filter (fun r => decide (r.type = t) && knownRegion r)

/-- Record size and number of records of a type (R33). -/
def recordSize (t : Nat) : Nat := if t = 1 ∨ t = 5 then 16 else if t = 4 then 4 else if t = 0x7F then 1 else 8
def recordRange (t : Nat) : Nat × Nat :=
  if t = 1 then (1, 4) else if t = 2 then (1, 1024) else if t = 3 then (1, 16) else if t = 4 then (1, 1)
  else if t = 5 then (1, 4096) else if t = 6 then (0, 1024) else if t = 7 then (0, 26) else if t = 8 then (1, 512) else (0, 2 ^ 32)

/-- The records of the region of a type, none where it is absent. -/
def recordsOf (l : List Byte) (t : Nat) : List (List Byte) :=
  match regionsOfType l t with
  | r :: _ => pieces (recordSize t) r.count (slice l r.offset r.length)
  | [] => []

/-- What the regions of some types that are present put into a measurement (R37), a skipped one included. -/
def regionIds (l : List Byte) (ts : List Nat) : List RegionId :=
  ts.flatMap (fun t => ((regionsOf l).filter (fun r => decide (r.type = t))).map (fun r => ⟨r.type, r.recVer, r.digest⟩))

/-- The plan a container holds. -/
def parsePlan (l : List Byte) : Plan where
  major := byteAt l 4
  planId := leAt l 0x0C 4
  seq := leAt l 0x10 4
  signer := byteAt l 9 % 2
  bands := (recordsOf l 1).map (fun r => ⟨byteAt r 0, byteAt r 1, byteAt r 2, leAt r 4 4, leAt r 8 4, leAt r 12 2⟩)
  bins := (recordsOf l 2).map (fun r => ⟨byteAt r 0, byteAt r 1, leAt r 2 2, leAt r 4 2⟩)
  lanes := (recordsOf l 3).map (fun r => ⟨byteAt r 0, byteAt r 1, leAt r 2 2, [byteAt r 4, byteAt r 5, byteAt r 6, byteAt r 7]⟩)
  pbMib := byteAt ((recordsOf l 4).headD []) 0
  qtree := (recordsOf l 5).map (fun r => ⟨r⟩)
  tlinks := recordsOf l 6
  powers := (recordsOf l 7).map (fun r => ⟨byteAt r 0, byteAt r 1, byteAt r 2, leAt r 4 4⟩)
  owns := (recordsOf l 8).map (fun r => ⟨byteAt r 0, byteAt r 1, byteAt r 2, leAt r 4 2⟩)
  fixed := regionIds l [4, 5, 6, 7, 8]
  live := regionIds l [1, 2, 3]
  skipped := ((regionsOf l).filter (fun r => !knownRegion r)).length
  bytes := l

/-! The checks (R36), one for each code. -/

/-- 0x01: the structure of a container of `len` staged bytes. -/
def structureGood (l : List Byte) (len : Nat) : Bool :=
  decide (64 ≤ len ∧ len ≤ 2 ^ 20) && decide (l.length = len) && decide (slice l 0 4 = [0x42#8, 0x58#8, 0x53#8, 0x50#8])
  && decide (leAt l 0x14 4 = len) && decide (1 ≤ leAt l 0x0A 2 ∧ leAt l 0x0A 2 ≤ 32) && decide (leAt l 0x1C 4 = 0)
  && decide (byteAt l 9 ≤ 1) && decide (0x40 + 48 * leAt l 0x0A 2 + planSigLen l ≤ len)
  && (regionsOf l).all (fun r => decide (r.reserved = 0 ∧ r.flags ≤ 1))

/-- 0x04: the signer and the signature (R32). -/
def signatureGood (s : State) (l : List Byte) : Bool :=
  let n := l.length - planSigLen l
  if bit (byteAt l 9) 0 then
    match operatorKey s with
    | some k => Config.xmssVerify k (l.take n) (l.drop n)
    | none => false
  else decide (lifecycle s ≠ 3) && Config.xmssMtVerify Config.vendorKey (l.take n) (l.drop n)

/-- Regions by rising offset, an empty one before the region that starts where it stands. -/
def insertRegion (r : Region) (l : List Region) : List Region :=
  match l with
  | [] => [r]
  | x :: rest => if r.offset < x.offset ∨ (r.offset = x.offset ∧ r.length ≤ x.length) then r :: x :: rest else x :: insertRegion r rest

/-- Whether sorted regions from `pos` on lie at multiples of 16 before `end_` without overlap, with zeros between.
That a start that is no multiple of 16 and a region that runs into the signature block count as code 0x05, as an
overlap does, is a DESIGN CHOICE (notes/assumptions/111): the table of codes names neither. -/
def regionsFit (l : List Byte) (pos end_ : Nat) (rs : List Region) : Bool :=
  match rs with
  | [] => (slice l pos (end_ - pos)).all (fun b => decide (b = 0#8))
  | r :: rest =>
    decide (r.offset % 16 = 0) && decide (pos ≤ r.offset) && decide (r.offset + r.length ≤ end_)
    && (slice l pos (r.offset - pos)).all (fun b => decide (b = 0#8)) && regionsFit l (r.offset + r.length) end_ rest

/-- 0x05: region digests, overlaps and gaps (R31). -/
def regionsGood (l : List Byte) : Bool :=
  let rs := regionsOf l
  regionsFit l (0x40 + 48 * rs.length) (l.length - planSigLen l) (rs.foldr insertRegion [])
  && rs.all (fun r => decide (Config.shake256 (slice l r.offset r.length) 32 = r.digest))

/-- Whether all elements of a list of numbers differ. -/
def allDistinct (l : List Nat) : Bool :=
  match l with
  | [] => true
  | x :: rest => !rest.contains x && allDistinct rest

/-- 0x07: required types present and applied, no type twice, known or not (R33). -/
def regionsPresent (l : List Byte) : Bool :=
  allDistinct ((regionsOf l).map Region.type) && [1, 2, 3, 4, 8].all (fun t => decide ((regionsOfType l t).length = 1))

/-- A BAND record within its limits (R33, R62). -/
def bandGood (b : BandRec) : Bool :=
  decide (b.window ≤ 3 ∧ b.enable ≤ 1 ∧ b.binCode ≤ 8 ∧ b.width ≤ 128000)
  && decide (820000 + b.width ≤ 2 * b.centre ∧ 2 * b.centre + b.width ≤ 5000000) && decide (2 * b.width % binWidth2 b.binCode = 0)

/-- The last raster index of a window (R62). -/
def rasterLast (b : BandRec) : Nat := 2 * b.width / binWidth2 b.binCode

/-- Whether a raster position may be selected (R63), in quarters of a kHz. -/
def selectable (b : BandRec) (i : Nat) : Bool :=
  decide ((2 * ((i * binWidth2 b.binCode : Nat) : Int) - 2 * (b.width : Int)).natAbs + binWidth2 b.binCode ≤ 256000)

/-- The BAND record of a window. -/
def bandOf (p : Plan) (w : Nat) : Option BandRec := p.bands.find? (fun b => decide (b.window = w))

/-- A BINS record within its limits (R33, R63). -/
def runGood (p : Plan) (r : BinsRec) : Bool :=
  match bandOf p r.window with
  | none => false
  | some b =>
    decide (r.beams = 1 ∨ r.beams = 2 ∨ r.beams = 4) && decide (1 ≤ r.count) && decide (r.first + r.count - 1 ≤ rasterLast b)
    && selectable b r.first && selectable b (r.first + r.count - 1)

/-- Whether runs overlap no run after them in one window. -/
def runsApart (rs : List BinsRec) : Bool :=
  match rs with
  | [] => true
  | r :: rest => rest.all (fun q => decide (q.window ≠ r.window ∨ r.first + r.count ≤ q.first ∨ q.first + q.count ≤ r.first)) && runsApart rest

/-- Whether a window is on. -/
def windowEnabled (p : Plan) (w : Nat) : Bool := match bandOf p w with | some b => decide (b.enable = 1) | none => false

/-- The modes of a format, as a mask (R95). -/
def modesOf (f : Nat) : Nat := if f = 0 then 0x7F else 1

/-- A LANE record within its limits (R33, R95). -/
def poolGood (x : LaneRec) : Bool :=
  decide (x.pool ≤ 15 ∧ x.format ≤ 2 ∧ x.modeMask ≠ 0) && decide (x.modeMask &&& modesOf x.format = x.modeMask)

/-- Working lanes a plan takes from a bank. -/
def bankTotal (p : Plan) (b : Nat) : Nat := (p.lanes.map (fun x => x.counts.getD b 0)).sum

/-- A POWER record within its limits (R366). -/
def powerGood (x : PowerRec) : Bool :=
  decide (1 ≤ x.domain ∧ x.domain ≤ 26 ∧ x.floor ≤ 2 ∧ x.autowake ≤ 1) && decide (10 ≤ x.idleUs ∧ x.idleUs ≤ 1000000)
  && (decide (x.domain ≠ 1) || decide (x.floor = 2))

/-- How many resources a class has (R39). -/
def resourceCount (p : Plan) (c : Nat) : Nat :=
  if c = 1 then 32 else if c = 2 then 2 else if c = 3 then 12 else if c = 4 then 32 else if c = 5 then p.pbMib else if c = 6 then 96 else 0

/-- The highest instance of an owner class (R451). -/
def ownerInstances (c : Nat) : Nat := if c = 4 then 3 else if c = 3 then 31 else if c = 2 then 1 else 0

/-- An OWN record within its limits (R451). -/
def ownGood (p : Plan) (x : OwnRec) : Bool :=
  decide (x.owner / 256 ≤ 9) && decide (x.owner % 256 ≤ ownerInstances (x.owner / 256))
  && decide (1 ≤ x.count ∧ x.count ≤ 96) && decide (x.first + x.count ≤ resourceCount p x.resClass)

/-- The source of a unit's CLOCK record. -/
def clockSourceOf (ls : List (List Byte)) (u : Nat) : Option Nat :=
  (ls.find? (fun r => decide (byteAt r 2 = u ∧ byteAt r 3 = 2))).map (fun r => byteAt r 0)

/-- Whether `n` CLOCK records in a row lead to a unit. -/
def clockedFor (ls : List (List Byte)) (n u : Nat) : Bool :=
  match n with
  | 0 => true
  | n + 1 => match clockSourceOf ls u with | some v => clockedFor ls n v | none => false

/-- A TLINK record within its limits (R265). -/
def linkGood (p : Plan) (r : List Byte) : Bool :=
  decide (byteAt r 0 ≤ 31 ∧ byteAt r 1 ≤ 8 ∧ byteAt r 2 ≤ 31 ∧ byteAt r 3 ≤ 3) && decide (leAt r 4 4 = 0)
  && decide (byteAt r 0 ≠ byteAt r 2) && decide (ownerIn p.owns 4 (byteAt r 0) / 256 ≠ 0 ∧ ownerIn p.owns 4 (byteAt r 2) / 256 ≠ 0)

/-- Whether the TLINK records stand together (R265). -/
def linksGood (p : Plan) : Bool :=
  p.tlinks.all (linkGood p)
  && allDistinct (p.tlinks.map leNat)
  && allDistinct ((p.tlinks.filter (fun r => decide (byteAt r 3 = 2))).map (fun r => byteAt r 2))
  && (upTo 32).all (fun u => !clockedFor p.tlinks 32 u)

/-- 0x08: records within their limits (R21, R33, R34, R62, R63, R95, R265, R366, R451).  That a region's length
that differs from record_count × record size counts as code 0x08 is a DESIGN CHOICE (notes/assumptions/111): the
table of codes does not name it. -/
def limitsGood (l : List Byte) : Bool :=
  let p := parsePlan l
  let sel := p.bins.filter (fun r => windowEnabled p r.window)
  [1, 2, 3, 4, 5, 6, 7, 8, 0x7F].all (fun t => (regionsOfType l t).all (fun r =>
      decide (r.length = r.count * recordSize t) && decide ((recordRange t).1 ≤ r.count ∧ r.count ≤ (recordRange t).2)))
  && (recordsOf l 1).all (fun r => decide (byteAt r 3 = 0 ∧ leAt r 14 2 = 0)) && p.bands.all bandGood && allDistinct (p.bands.map BandRec.window)
  && (recordsOf l 2).all (fun r => decide (byteAt r 6 = 0 ∧ byteAt r 7 = 0)) && p.bins.all (runGood p) && runsApart p.bins
  && decide ((sel.map BinsRec.count).sum ≤ 1024) && decide ((sel.map (fun r => r.count * r.beams)).sum ≤ 2048)
  && p.lanes.all poolGood && allDistinct (p.lanes.map LaneRec.pool) && (upTo 4).all (fun b => decide (bankTotal p b ≤ 128))
  && (recordsOf l 4).all (fun r => decide (leAt r 1 3 = 0)) && decide (8 ≤ p.pbMib ∧ p.pbMib ≤ 24)
  && (recordsOf l 7).all (fun r => decide (byteAt r 3 = 0)) && p.powers.all powerGood && allDistinct (p.powers.map PowerRec.domain)
  && (recordsOf l 8).all (fun r => decide (byteAt r 3 = 0 ∧ leAt r 6 2 = 0)) && p.owns.all (ownGood p)
  && linksGood p

/-- 0x09: no resource covered twice (R41). -/
def ownersApart (xs : List OwnRec) : Bool :=
  match xs with
  | [] => true
  | x :: rest =>
    rest.all (fun y => decide (y.resClass ≠ x.resClass ∨ x.first + x.count ≤ y.first ∨ y.first + y.count ≤ x.first)) && ownersApart rest

/-- The channels of active slotframes in 100 Hz (R44): those of the hopping sequences of the slotframes that are
enabled while the engine runs. -/
def activeChannels (s : State) : List Nat :=
  if !s.on F.SSE_CTL_run then []
  else
    ((upTo 64).filter (fun h => s.on (F.SSE_SF0_en h) && s.on (F.SSE_SF0_size h))).flatMap (fun h =>
      let q := s.get (F.SSE_SF0_hop h)
      (upTo (clamp 1 256 (s.get (F.SSE_HOP_LEN_len q)))).map (fun i => s.get (F.SSE_CHAN_freq_100hz (s.get (F.SSE_HOP_chan q i)))))

/-- Whether a frequency lies inside a selected bin of a plan (R62): twice the distance from a raster centre is at
most the bin width. -/
def channelCovered (p : Plan) (freq : Nat) : Bool :=
  p.bins.any (fun r =>
    match bandOf p r.window with
    | none => false
    | some b =>
      decide (b.enable = 1) && (upTo r.count).any (fun k =>
        let c : Int := 20 * (b.centre : Int) - 10 * b.width + (10 * ((r.first + k) * binWidth2 b.binCode) : Nat)
        decide ((2 * (freq : Int) - c).natAbs ≤ 5 * binWidth2 b.binCode)))

/-- What a load is: at boot from a committed slot or not, a live re-stand, or a step of the update planner. -/
inductive LoadKind where
  | boot (checkFloor : Bool)
  | live
  | planner
  deriving DecidableEq, Repr

/-- 0x0B: the FIXED regions are those of the plan in force (R44). -/
def fixedSame (s : State) (p : Plan) : Bool :=
  match s.stand.inForce with
  | some q => decide (q.fixed = p.fixed)
  | none => false

/-- The checks of a load in order of code (R36), each with whether it passes. -/
def planChecks (s : State) (k : LoadKind) (l : List Byte) (len : Nat) : List (Nat × Bool) :=
  let p := parsePlan l
  [(1, structureGood l len),
   (2, decide (byteAt l 4 = s.get F.STP_ABI_fmt_major ∧ byteAt l 5 ≤ s.get F.STP_ABI_fmt_minor_max)),
   (3, decide (leAt l 6 2 = 0x7160 ∧ byteAt l 8 ≤ s.get F.GLB_ID_stepping)),
   (4, signatureGood s l),
   (5, regionsGood l),
   (6, (regionsOf l).all (fun r => knownRegion r || decide (r.flags = 0))),
   (7, regionsPresent l),
   (8, limitsGood l),
   (9, ownersApart p.owns),
   (10, (match k with | .boot false => true | _ => decide (s.get F.STP_SEQ_FLOOR_floor ≤ p.seq))),
   (11, (match k with | .live => fixedSame s p | _ => true)),
   (12, (match k with | .boot _ => true | _ => (activeChannels s).all (channelCovered p)))]

/-- The code of the first check that fails, 0 where all pass. -/
def firstFailure (cs : List (Nat × Bool)) : Nat :=
  match cs with
  | [] => 0
  | (c, ok) :: rest => if ok then firstFailure rest else c

/-- The result of the checks of a load (R36). -/
def planResult (s : State) (k : LoadKind) (l : List Byte) (len : Nat) : Nat := firstFailure (planChecks s k l len)

/-! What a plan fixes. -/

/-- The digest of a set of regions under a label (R37). -/
def planDigest (label : String) (major : Nat) (ids : List RegionId) : List Byte :=
  Config.shake256 (ascii label ++ leBytes 1 major ++ ids.flatMap (fun r => leBytes 1 r.type ++ leBytes 1 r.recVer ++ r.digest)) 32

/-- The value of the stand-plan measurement register (R37). -/
def planMeasurement (p : Plan) : List Byte := planDigest "BX7160 STAND" p.major p.fixed

/-- Runs by rising first index. -/
def insertRun (r : BinsRec) (l : List BinsRec) : List BinsRec :=
  match l with
  | [] => [r]
  | x :: rest => if r.first < x.first then r :: x :: rest else x :: insertRun r rest

/-- The runs of a window in raster order. -/
def runsOf (p : Plan) (w : Nat) : List BinsRec := (p.bins.filter (fun r => decide (r.window = w))).foldr insertRun []

/-- A selected bin: its window, beams, raster index, bin code and centre in units of 0.5 kHz. -/
structure PlanBin where
  window : Nat
  beams : Nat
  raster : Nat
  code : Nat
  centre : Int
  deriving DecidableEq, Repr

/-- The selected bins of a window (R64). -/
def windowBins (p : Plan) (w : Nat) : List PlanBin :=
  match bandOf p w with
  | none => []
  | some b =>
    if b.enable = 1 then
      (runsOf p w).flatMap (fun r => (upTo r.count).map (fun k =>
        ⟨w, r.beams, r.first + k, b.binCode, 2 * (b.centre : Int) - b.width + ((r.first + k) * binWidth2 b.binCode : Nat)⟩))
    else []

/-- The selected bins in order of bin ID (R64). -/
def planBins (p : Plan) : List PlanBin := (upTo 4).flatMap (windowBins p)

/-- The streams in order of stream ID: bin ID and beam (R72). -/
def planStreams (bins : List PlanBin) : List (Nat × Nat) :=
  (bins.zipIdx).flatMap (fun (x, b) => (upTo x.beams).map (fun k => (b, k)))

/-- The word of CHZ_BIN for a bin. -/
def binWord (x : PlanBin) : Word :=
  BitVec.ofNat 32 (2 ^ 31 + x.window * 2 ^ 28 + (if x.beams = 4 then 2 else x.beams - 1) * 2 ^ 26 + x.raster)

/-- The word of SPC_STREAM for a stream with blind weights. -/
def streamWord (b k : Nat) : Word := BitVec.ofNat 32 (2 ^ 31 + k * 2 ^ 28 + b * 2 ^ 18)

/-- Show a window's registers (R62, R64); its output is not valid. -/
def showWindow (p : Plan) (w : Nat) (s : State) : State :=
  let base := 0x140100 + 0x20 * w
  match bandOf p w with
  | none => each [0, 4, 8, 12, 16] (fun o s => s.setReg (base + o) 0#32) s
  | some b =>
    let s := s.setReg base (BitVec.ofNat 32 (b.chainMask * 2 ^ 16 + b.binCode * 4 + b.enable))
    ((s.setReg (base + 4) (BitVec.ofNat 32 b.centre)).setReg (base + 8) (BitVec.ofNat 32 b.width)).setReg (base + 12)
      (BitVec.ofNat 32 (rasterLast b + 1))

/-- Show how many bins a window has and the first of them (R64). -/
def showWindowBins (p : Plan) (w : Nat) (s : State) : State :=
  let first := ((upTo w).map (fun v => (windowBins p v).length)).sum
  let n := (windowBins p w).length
  s.setReg (0x140110 + 0x20 * w) (BitVec.ofNat 32 (n * 2 ^ 16 + (if n = 0 then 0 else first)))

/-- Show a window's two slices (R66): pruned ones stay pruned, one with no chain of an enabled window is idle. -/
def showSlices (p : Plan) (w : Nat) (s : State) : State :=
  each [0, 1] (fun h s =>
    let i := 2 * w + h
    let mask := match bandOf p w with | some b => if b.enable = 1 then bits b.chainMask (8 * h) 8 else 0 | none => 0
    let st := if s.pruned 4 i then 2 else if mask = 0 then 0 else 1
    s.setReg (0x140200 + 4 * i) (BitVec.ofNat 32 (h * 64 + w * 16 + st))) s

/-- Put the window, bin and stream registers of a plan in place of those that stand (R64, R72). -/
def showBins (bins : List PlanBin) (s : State) : State :=
  let s := { s with regs := s.regs.filter (fun (o, _) => !(decide (0x144000 ≤ o ∧ o < 0x145000) || decide (0x184000 ≤ o ∧ o < 0x186000))) }
  let s := each bins.zipIdx (fun x s => s.setReg (0x144000 + 4 * x.2) (binWord x.1)) s
  each (planStreams bins).zipIdx (fun x s => s.setReg (0x184000 + 4 * x.2) (streamWord x.1.1 x.1.2)) s

/-- A domain's policy (R365, R366). -/
def policyOf (p : Plan) (d : Nat) : PowerRec :=
  match p.powers.find? (fun x => decide (x.domain = d)) with
  | some x => x
  | none => ⟨d, defaultFloor d, 1, 1000⟩

/-- The power policy of a plan applies (R366). -/
def applyPolicy (p : Plan) (s : State) : State :=
  each (upTo 28) (fun d s =>
    let x := policyOf p d
    ((s.set (F.PWR_DOM_CFG_floor d) x.floor).set (F.PWR_DOM_CFG_autowake d) x.autowake).set (F.PWR_DOM_CFG_idle_us d) x.idleUs) s

/-- Show the use and domain of every bank; a bank another bank serves for keeps what it serves (R389). -/
def showBanks (pb : Nat) (s : State) : State :=
  each (upTo 296) (fun b s =>
    let v := tabGet s.prune.serves b (if b < 288 then b + 1 else 0)
    let x := if v = 0 then (8, 0) else bankUse pb (v - 1)
    (s.set (F.PRN_BANK_MAP_use b) x.1).set (F.PRN_BANK_MAP_domain b) x.2) s

/-- Cells traffic owns (R224): a slice of another owner, or of none, is not for it (R39). -/
def ownedCells (p : Plan) : Nat := ((upTo p.pbMib).filter (fun i => decide (ownerIn p.owns 5 i = 0x0700))).length * 4096

/-- The formats of a plan's pools, as bits of SRH_WIN_FMT (R82). -/
def planFormats (p : Plan) : Nat := maskOf ((upTo 3).filter (fun f => p.lanes.any (fun x => decide (x.format = f))))

/-- Enable bits of formats that have no pool in a plan read 0 (R82). -/
def maskFormats (p : Plan) (s : State) : State :=
  each (upTo 4) (fun w s => s.set (F.SRH_WIN_FMT_fmt_en w) (s.get (F.SRH_WIN_FMT_fmt_en w) &&& planFormats p)) s

/-- Show the plan's identity and its LIVE digest (R37), and what it leaves of the searchers' formats. -/
def showPlan (p : Plan) (s : State) : State :=
  let s := maskFormats p s
  let s := (s.set F.STP_PLAN_ID_plan_id p.planId).set F.STP_PLAN_SEQ_plan_seq p.seq
  setWords F.STP_LIVE_DIGEST_digest (planDigest "BX7160 LIVE" p.major p.live) s

/-! Lanes (R33, R46). -/

/-- Take `n` elements of a list at places the manual leaves open. -/
def takeOpen {α : Type} [DecidableEq α] (n : Nat) (l : List α) (s : State) : List α × List α × State :=
  match n with
  | 0 => ([], l, s)
  | n + 1 =>
    match pick s l with
    | none => ([], l, s)
    | some x =>
      let r := takeOpen n (l.filter (fun y => decide (y ≠ x))) s.used
      (x :: r.1, r.2.1, r.2.2)

/-- The lanes of a bank. -/
def bankLanes (b : Nat) : List Nat := (upTo 136).map (136 * b + ·)

/-- The pool and position that a lane works at, or is to work at once its frame ends (R46): none for a spare or a pruned
lane, and for one that is to join the spares. -/
def placeOf (s : State) (n : Nat) : Option (Nat × Nat) :=
  match s.stand.lateLanes.lookup n with
  | some t => if t = toSpares then none else some (t / 128, t % 128)
  | none =>
    if s.get (F.SRH_LANE_MAP_role n) = 1 then some (s.get (F.SRH_LANE_MAP_pool n), s.get (F.SRH_LANE_MAP_position n)) else none

/-- Working lanes of a pool in a bank, late lanes in the pools they are to join. -/
def poolLanesIn (s : State) (q b : Nat) : List Nat :=
  (bankLanes b).filter (fun n => decide ((placeOf s n).map Prod.fst = some q))

/-- Lanes of a bank that are to join its spares once their frames end. -/
def lateSpares (s : State) (b : Nat) : List Nat :=
  (bankLanes b).filter (fun n => decide (s.stand.lateLanes.lookup n = some toSpares))

/-- Lanes a plan takes for a pool from a bank. -/
def laneCount (p : Plan) (q b : Nat) : Nat := match p.lanes.find? (fun x => decide (x.pool = q)) with | some x => x.counts.getD b 0 | none => 0

/-- The lanes of a bank that leave their pools: as many as a pool holds beyond its new count, chosen by the loader.
A pool is its pool_id: lanes of one that only changes its format or mode_mask are not affected
(notes/assumptions/112, DESIGN CHOICE). -/
def leavers (p : Plan) (b : Nat) (qs : List Nat) (s : State) : List Nat × State :=
  match qs with
  | [] => ([], s)
  | q :: rest =>
    let l := poolLanesIn s q b
    let r := takeOpen (l.length - laneCount p q b) l s
    let r2 := leavers p b rest r.2.2
    (r.1 ++ r2.1, r2.2)

/-- Give the lanes a pool lacks in a bank their targets, from a supply in order. -/
def fillPools (s : State) (p : Plan) (b : Nat) (leaving : List Nat) (qs supply : List Nat) : List (Nat × Nat) :=
  match qs with
  | [] => (supply.filter (fun n => leaving.contains n)).map (fun n => (n, toSpares))
  | q :: rest =>
    let l := (poolLanesIn s q b).filter (fun n => !leaving.contains n)
    let need := laneCount p q b - l.length
    let free := (upTo 128).filter (fun k => !(l.filterMap (fun n => (placeOf s n).map Prod.snd)).contains k)
    let took := supply.take need
    (took.zip free).map (fun (n, k) => (n, 128 * q + k)) ++ fillPools s p b leaving rest (supply.drop need)

/-- The lanes that change their pool in a bank, each with its target: lanes that leave one pool go first to the
pools that lack lanes, then spares, then spares under self-test (R44), then lanes that are still to become spares. -/
def bankMoves (p : Plan) (b : Nat) (s : State) : List (Nat × Nat) × State :=
  let out := leavers p b (upTo 16) s
  let spares := bankSpares s b
  let a := takeOpen spares.1.length spares.1 out.2
  let t := takeOpen spares.2.length spares.2 a.2.2
  (fillPools s p b out.1 (upTo 16) (out.1 ++ a.1 ++ t.1 ++ lateSpares s b), t.2.2)

/-- The lanes that change their pool under a plan. -/
def laneMoves (p : Plan) (bs : List Nat) (s : State) : List (Nat × Nat) × State :=
  match bs with
  | [] => ([], s)
  | b :: rest =>
    let r := bankMoves p b s
    let r2 := laneMoves p rest r.2
    (r.1 ++ r2.1, r2.2)

/-- A lane joins its target; the place of a lane that has been pruned meanwhile passes to a spare (R46, R91). -/
def joinLane (n t : Nat) (s : State) : State :=
  let role := s.get (F.SRH_LANE_MAP_role n)
  if role = 2 then
    if t = toSpares then s
    else
      match chooseSpare s (n / 136) with
      | some m =>
        let s := if s.get (F.SRH_LANE_MAP_role m) = 3 then stopTest m 7 s.used else s.used
        s.setReg (0x1A2000 + 4 * m) (laneWord t)
      | none => noSpare (s.set F.SRH_STAT_no_spare 1)
  else
    let s := if role = 3 then stopTest n 7 s else s
    (s.setReg (0x1A2000 + 4 * n) (laneWord t)).set (F.LNE_STATUS_state n) 0

/-- Whether a lane's frame still runs. -/
def laneBusy (s : State) (n : Nat) : Bool := (tabFind s.lanes.frames n).isSome

/-! The plan in force (R36). -/

/-- What the FIXED regions of a plan decide. -/
def applyFixed (p : Plan) (s : State) : State := applyPolicy p (s.set F.TRF_CELLS_cells (ownedCells p))

/-- A plan comes into force at boot: nothing of an earlier one stands. -/
def installPlan (p : Plan) (s : State) : State :=
  let s := { s with stand := { s.stand with inForce := some p } }
  let s := showPlan p (applyFixed p (showBanks p.pbMib s))
  let s := defaultReserves s
  let s := each (upTo 4) (fun w s => showSlices p w (showWindowBins p w (showWindow p w s))) s
  let s := (if s.pruned 4 8 then s.setReg 0x140220 2#32 else spareStandby s)
  let s := setWaits p.lanes (showBins (planBins p) s)
  let r := laneMoves p (upTo 4) s
  let s := each r.1 (fun x s => joinLane x.1 x.2 s) r.2
  refreshFront s

/-! Slots of the flash (R333, R334). -/

/-- The directory copy at an offset: its entries where the copy is whole (R333). -/
def directoryAt (s : State) (base : Nat) : Option (List (List Byte)) :=
  let h := flashRead s base 8
  let es := (upTo (byteAt h 5)).map (fun i => flashRead s (base + 8 + 16 * i) 16)
  if h.take 5 = [0x42#8, 0x58#8, 0x46#8, 0x44#8, 0x01#8] ∧ es.all (fun e => decide (leAt e 12 4 = crc32 (e.take 12))) = true then some es else none

/-- The flash directory: the copy at 0x1_0000 where the first fails. -/
def directory (s : State) : List (List Byte) := (directoryAt s 0).getD ((directoryAt s 0x10000).getD [])

/-- Offset and size of a type's slot. -/
def imageSlot (s : State) (type slot : Nat) : Option (Nat × Nat) :=
  ((directory s).find? (fun e => decide (byteAt e 0 = type ∧ byteAt e 1 = slot))).map (fun e => (leAt e 4 4, leAt e 8 4))

/-- A type's boot record in MRAM. -/
def bootRec (s : State) (t : Nat) : BootRec := tabGet s.nv.bootRecs t {}

/-- GRF_SLOT and STP_SLOT show a type's boot record. -/
def showBootRec (t : Nat) (b : BootRec) (s : State) : State :=
  let s := ((s.set (F.GRF_SLOT_active t) b.active).set (F.GRF_SLOT_next_boot t) b.nextBoot).set (F.GRF_SLOT_committed t) (b2n b.committed)
  let s := s.set (F.GRF_SLOT_tries t) b.tries
  if t = 2 then s.set F.STP_SLOT_next_boot b.nextBoot else s

/-- Write a type's boot record, which GRF_SLOT shows. -/
def setBootRec (t : Nat) (b : BootRec) (s : State) : State :=
  showBootRec t b { s with nv := { s.nv with bootRecs := tabPut s.nv.bootRecs t b } }

/-- Raise STP_SEQ_FLOOR (R38). -/
def raiseSeqFloor (n : Nat) (s : State) : State :=
  let f := max n (s.get F.STP_SEQ_FLOOR_floor)
  { s.set F.STP_SEQ_FLOOR_floor f with nv := { s.nv with floors := tabPut s.nv.floors 0 f } }

/-! Live re-stand (R44 to R49). -/

/-- A result other than OK (R36). -/
def planRefused (s : State) : State := s.event F.STP_STAT_refused F.STP_EVCNT_refuse_cnt

/-- STP_RESULT.phase of a phase. -/
def phaseCode (p : RestandPhase) : Nat :=
  match p with
  | .idle => 0 | .verify => 1 | .prepare => 2 | .armed => 3 | .drain => 4 | .persisting => 5 | .done => 6

/-- Enter a phase. -/
def setPhase (p : RestandPhase) (s : State) : State :=
  { s.set F.STP_RESULT_phase (phaseCode p) with stand := { s.stand with phase := p } }

/-- A re-stand ends without a swap: nothing of the new plan is kept (R49). -/
def endRestand (code : Nat) (s : State) : State :=
  let s := { s with stand := { s.stand with phase := .idle, shadow := none, staged := [], planned := [], affected := [], planner := false } }
  reviewAll (planRefused ((s.setReg 0x20038 (BitVec.ofNat 32 code)).set F.STP_STAT_busy 0))

/-- A re-stand of a container starts (R45, R46): one that STP_LIVE_CTL asks for keeps the at_asn and persist of its go. -/
def beginRestand (planner : Bool) (l : List Byte) (s : State) : State :=
  let s := (s.setReg 0x20038 0#32).set F.STP_STAT_busy 1
  setPhase .verify { s with stand := { s.stand with
    shadow := none, staged := l, planned := [], affected := [], planner := planner
    persist := s.on F.STP_LIVE_CTL_persist && !planner, atAsn := s.on F.STP_LIVE_CTL_at_asn && !planner } }

/-- A write of STP_LIVE_CTL.go (R45). -/
def restandGo (s : State) : State :=
  if s.on F.STP_STAT_busy then planRefused (s.set F.STP_RESULT_code 13)
  else
    let a := s.pair F.STP_LOAD_ADDR_LO_addr F.STP_LOAD_ADDR_HI_addr / 16 * 16
    let (r, s) := dramFetch [] 6 a (s.get F.STP_LOAD_LEN_len) s
    beginRestand false (r.getD []) s

/-- A write of STP_LIVE_CTL.cancel (R49): no effect outside a re-stand and after the swap. -/
def restandCancel (s : State) : State :=
  match s.stand.phase with
  | .verify | .prepare | .armed | .drain => endRestand 15 s
  | _ => s

/-- A write of STP_LIVE_CTL: cancel acts before go (notes/assumptions/154, DESIGN CHOICE). -/
def writeLiveCtl (v : Word) (s : State) : State :=
  let s := (s.set F.STP_LIVE_CTL_at_asn (wordField v 3 1)).set F.STP_LIVE_CTL_persist (wordField v 2 1)
  let s := if wordField v 1 1 = 1 then restandCancel s else s
  if wordField v 0 1 = 1 then restandGo s else s

/-- LIVE_RESTAND_GO (R46). -/
def execLiveRestandGo (initiator : Nat) (persist atAsn : Bool) (s : State) : Host.Outcome State Fault Refusal :=
  run (fun s =>
    let v : Word := BitVec.ofNat 32 (1 + 4 * b2n persist + 8 * b2n atAsn)
    gated ⟨initiator, 0x2002C, true, v⟩ (writeLiveCtl v) s) s

/-- LIVE_RESTAND_CANCEL (R49). -/
def execLiveRestandCancel (initiator : Nat) (s : State) : Host.Outcome State Fault Refusal :=
  run (fun s =>
    let v : Word := BitVec.ofNat 32 (2 + 4 * s.get F.STP_LIVE_CTL_persist + 8 * s.get F.STP_LIVE_CTL_at_asn)
    gated ⟨initiator, 0x2002C, true, v⟩ (writeLiveCtl v) s) s

/-- The windows a new plan affects (R44): their BAND or BINS records differ. -/
def affectedWindows (old : Option Plan) (p : Plan) : List Nat :=
  match old with
  | none => upTo 4
  | some q => (upTo 4).filter (fun w => decide (bandOf q w ≠ bandOf p w) || decide (runsOf q w ≠ runsOf p w))

/-- RESTAND_VERIFY_DONE (R46): the container is refused, or its target lanes are chosen and the PD_CHZ and lane
domains held for its preparation. -/
def execRestandVerifyDone (s : State) : Host.Outcome State Fault Refusal :=
  run (fun s =>
    if s.stand.phase ≠ .verify then s
    else
      let l := s.stand.staged
      let code := planResult s (if s.stand.planner then .planner else .live) l (if s.stand.planner then l.length else s.get F.STP_LOAD_LEN_len)
      if code ≠ 0 then endRestand code s
      else
        let p := parsePlan l
        let r := laneMoves p (upTo 4) s
        let s := { r.2 with stand := { r.2.stand with shadow := some p, planned := r.1, affected := affectedWindows r.2.stand.inForce p } }
        reviewAll (setPhase .prepare s)) s

/-- The PD_CHZ domains that the affected windows a plan enables need. -/
def restandDomains (s : State) : List Nat :=
  match s.stand.shadow with
  | none => []
  | some p => (s.stand.affected.filter (windowEnabled p)).map (fun w => 17 + w / 2)

/-- RESTAND_ARM (R46): with the domains ON, preparation ends and the drain timeslot is chosen. -/
def execRestandArm (s : State) : Host.Outcome State Fault Refusal :=
  run (fun s =>
    if s.stand.phase = .prepare ∧ (restandDomains s).all s.domOn = true then
      let asn := s.pair F.STP_LIVE_ASN_LO_asn F.STP_LIVE_ASN_HI_asn
      if s.stand.atAsn then
        (if asn ≤ s.asn + 1 then endRestand 14 s else setPhase .armed { s with stand := { s.stand with drainAsn := asn - 1 } })
      else setPhase .armed { s with stand := { s.stand with drainAsn := s.asn + 1 } }
    else s) s

/-! The drain and the swap, at timeslot edges (R46, R47). -/

/-- The drain timeslot begins: searchers of affected windows request no lanes, and receive cells of the timeslot
on them are skipped and counted. -/
def beginDrain (s : State) : State :=
  let hit := s.stand.affected
  let s := setPhase .drain { s with canopy := { s.canopy with drainWindows := hit } }
  let s := each (hit.flatMap (windowStreams s)) (fun i s => s.setIf (decide (s.get (F.SRH_STREAM_STATUS_state i) = 1)) (F.SRH_STREAM_STATUS_state i) 5) s
  let skip (asn cell : Nat) : Bool := s.search.posts.any (fun p => decide (p.asn = asn ∧ p.cell = cell) && hit.contains (binWindow s p.bin))
  let gone := s.search.posts.filter (fun p => decide (p.asn = s.stand.drainAsn) && hit.contains (binWindow s p.bin))
  let keepCell (x : Nat × Nat × Nat) : Bool := !(decide (x.1 = s.stand.drainAsn) && skip x.1 x.2.1)
  let s := { s with
    sse := { s.sse with expects := s.sse.expects.filter keepCell, parents := s.sse.parents.filter keepCell }
    search := { s.search with posts := s.search.posts.filter (fun p => !gone.contains p) } }
  let s := each (gone.filterMap RxPost.stream) (fun i s => if frozen s i then s else endPost i s) s
  let s := each gone (fun p s => dropHold (some (p.asn, p.cell)) s) s
  if gone.isEmpty then s else (s.set F.STP_STAT_drain_skip 1).add F.STP_EVCNT_drain_skip_cnt gone.length

/-- Searchers that were in the drain state correlate again. -/
def endDrain (s : State) : State :=
  each ((validStreams s).filter (fun i => decide (s.get (F.SRH_STREAM_STATUS_state i) = 5))) (fun i s =>
    s.set (F.SRH_STREAM_STATUS_state i) (searcherState s i)) s

/-- Which new bin and which new stream an old bin or stream of a window that is not affected becomes. -/
structure Renumbering where
  bins : List (Nat × Nat)
  streams : List (Nat × Nat)
  deriving DecidableEq, Repr

/-- The renumbering between two plans: per unaffected window, its bins and streams keep their order (R64, R72). -/
def renumber (old new : List PlanBin) (hit : List Nat) : Renumbering :=
  let bin (x : PlanBin × Nat) : Option (Nat × Nat) := if hit.contains x.1.window then none else (new.idxOf? x.1).map (fun k => (x.2, k))
  let bs := old.zipIdx.filterMap bin
  let ns := planStreams new
  ⟨bs, (planStreams old).zipIdx.filterMap (fun ((b, k), i) => (bs.lookup b).bind (fun b' => (ns.idxOf? (b', k)).map (fun j => (i, j))))⟩

/-- A table by stream under new stream IDs, entries of streams that are gone left out. -/
def moveTab {α : Type} (m : List (Nat × Nat)) (t : Tab α) : Tab α :=
  m.foldl (fun r (i, j) => match tabFind t i with | some x => tabPut r j x | none => r) []

/-- A post under new bin and stream IDs (R64): one of an affected window takes the bin that holds its channel and
a free beam of it. -/
def movePost (m : Renumbering) (p : RxPost) (s : State) : State :=
  match m.bins.lookup p.bin with
  | some b =>
    let p := { p with bin := b, stream := p.stream.bind (fun i => m.streams.lookup i) }
    { s with search := { s.search with posts := s.search.posts ++ [p] } }
  | none =>
    match binOf s p.cellUse.freq with
    | some b => postCell { p with bin := b, stream := none } s
    | none => dropHold (some (p.asn, p.cell)) s

/-- The quiet map under a new plan (R47, R70): bins that are there as before keep their entries.  A bin whose raster
position is as before counts as unchanged, whatever else of its window's BAND record changes (notes/assumptions/156,
DESIGN CHOICE). -/
def moveQmap (old new : List PlanBin) (t : Tab QmapEntry) : Tab QmapEntry :=
  new.zipIdx.foldl (fun r (x, j) =>
    match old.idxOf? x with
    | some i => (upTo 4).foldl (fun r g => match tabFind t (qmapKey i g) with | some e => tabPut r (qmapKey j g) e | none => r) r
    | none => r) []

/-- What the searchers and combiners hold by bin and stream, under the new IDs. -/
def renumberSearch (m : Renumbering) (s : State) : State :=
  let request (r : LaneRequest) : Option LaneRequest := (m.streams.lookup r.stream).map (fun j => { r with stream := j })
  { s with
    lanes := { s.lanes with frames := s.lanes.frames.filterMap (fun (n, f) => (request f.req).map (fun r => (n, { f with req := r }))) }
    search := { s.search with
      requests := s.search.requests.filterMap request
      busyBins := s.search.busyBins.filterMap (fun b => m.bins.lookup b)
      suppressed := (moveTab m.streams s.search.suppressed).filterMap (fun (i, k) => (m.streams.lookup k).map (fun k' => (i, k')))
      covariance := moveTab m.bins s.search.covariance
      weights := moveTab m.streams s.search.weights
      blind := moveTab m.streams s.search.blind
      lastDetection := m.streams.foldl (fun r (i, j) => match tabFind s.search.lastDetection i with
        | some d => tabPut r j { d with stream := j }
        | none => r) [] }
    canopy := { s.canopy with spoiltBins := s.canopy.spoiltBins.filterMap (fun b => m.bins.lookup b) } }

/-- The registers by stream, under the new IDs: what an unaffected stream shows moves with it (SRH_STREAM_STATUS,
whose count starts again at a swap, and the stored weights of SPC_STREAM). -/
def renumberRegs (m : Renumbering) (before : State) (s : State) : State :=
  let s := { s with regs := s.regs.filter (fun (o, _) => !decide (0x1A4000 ≤ o ∧ o < 0x1A6000)) }
  each m.streams (fun (x : Nat × Nat) s =>
    let s := s.setReg (0x1A4000 + 4 * x.2) (before.reg (0x1A4000 + 4 * x.1))
    let s := s.set (F.SRH_STREAM_STATUS_det_cnt x.2) 0
    (s.set (F.SPC_STREAM_mrc x.2) (before.get (F.SPC_STREAM_mrc x.1))).set (F.SPC_STREAM_lid x.2) (before.get (F.SPC_STREAM_lid x.1))) s

/-- The settings of an affected window change: its output is valid one fill time later (R65). -/
def refillWindow (w : Nat) (s : State) : State :=
  let s : State := { s with canopy := { s.canopy with joining := s.canopy.joining.filter (fun x => decide (x.1 ≠ w)) } }
  let s := refreshWindow w (unfill w s)
  if s.get (F.SPC_WIN_INCL_incl w) ≠ 0 ∧ clockRuns s = true then beginFill w s else s

/-- The LIVE regions of a plan take effect (R46, R64, R72); the wait of a pool that is new or changes its format is
set (R111). -/
def swapLive (p : Plan) (s : State) : State :=
  let old := match s.stand.inForce with | some q => planBins q | none => []
  let new := planBins p
  let hit := s.stand.affected
  let s := each hit gapWindow s
  let before := s
  let m := renumber old new hit
  let posts := s.search.posts
  let s := setWaits (p.lanes.filter (fun r => !s.pools.any (fun q => decide (q.pool = r.pool ∧ q.format = r.format)))) s
  let s := { s with stand := { s.stand with inForce := some p }, canopy := { s.canopy with qmap := moveQmap old new s.canopy.qmap } }
  let s := renumberRegs m before (renumberSearch m { s with search := { s.search with posts := [] } })
  let s := each hit (fun w s => showSlices p w (showWindow p w s)) s
  let s := showBins new (each (upTo 4) (showWindowBins p) s)
  let s := each m.streams (fun (x : Nat × Nat) s =>
    (s.set (F.SPC_STREAM_mrc x.2) (before.get (F.SPC_STREAM_mrc x.1))).set (F.SPC_STREAM_lid x.2) (before.get (F.SPC_STREAM_lid x.1))) s
  let s := each posts (movePost m) s
  let s := each hit refillWindow s
  refreshFront s

/-- Idle affected lanes join their new pools, before spares are chosen for lanes that have been pruned; the others
join once their frames end. -/
def swapLanes (s : State) : State :=
  let gone (x : Nat × Nat) : Bool := decide (s.get (F.SRH_LANE_MAP_role x.1) = 2)
  let busy := s.stand.planned.filter (fun x => laneBusy s x.1)
  let rest := s.stand.planned.filter (fun x => !laneBusy s x.1)
  let idle := rest.filter (fun x => !gone x) ++ rest.filter gone
  let s := { s with stand := { s.stand with lateLanes := s.stand.lateLanes.filter (fun x => !(s.stand.planned.map Prod.fst).contains x.1) ++ busy } }
  each idle (fun x s => joinLane x.1 x.2 s) s

/-! FIXED regions that change at the swap of a planner's step (R347). -/

/-- A feature whose resource has passed to another owner is disabled, with CONFLICT (R42). -/
def ownershipMoves (old : List OwnRec) (s : State) : State :=
  let lost (c i f : Nat) : Bool := decide (ownerIn old c i = f) && decide (s.owner c i ≠ f)
  let s := if lost 2 0 0x0200 && s.on F.TMB_PPS_CFG_out_en then writePpsCfg (s.reg 0x80050) s else s
  let s := if ownerIn old 2 0 ≠ s.owner 2 0 then ppsPin s else s
  let s := if decide (ownerIn old 2 1 ≠ s.owner 2 1) && s.on F.TMB_SYNCE_en then writeSynce (s.reg 0x80064) s else s
  let s := each ((upTo 4).filter (fun w => s.on (F.TXL_CX_CTL_active w) && (upTo 3).any (fun k => lost 3 (3 * w + k) (0x0400 + w))))
    (fun w s => writeCxCtl w 1#32 s) s
  let s := each ((upTo 32).filter (fun u => s.on (F.TMU_OUT_en u))) (fun u s =>
    match outPin s u with
    | some (c, i) =>
      if lost c i (0x0300 + u) then tmuConflict (s.owner c i) c i s
      else if ownerIn old c i ≠ s.owner c i then driveOut u s
      else s
    | none => s) s
  let s := each ((upTo 32).filter (fun u => lost 4 u 0x0300 && (s.on (F.TMU_CTL_run u) || s.on (F.TMU_OUT_en u)))) (fun u s =>
    let s := match outPin s u with
      | some (1, i) => s.when (s.on (F.TMU_OUT_en u) && decide (s.owner 1 i = 0x0300 + u)) (fun s => s.emit (.undriven i))
      | some _ => s.when (decide (s.owner 2 0 = 0x0300 + u)) ppsPin
      | none => s
    tmuConflict (s.owner 4 u) 4 u s) s
  let s := if (upTo 32).any (fun i => lost 1 i 0x0100 && bit (s.get F.PIN_GPIO_DIR_bits) i) then writeGpio false (s.reg 0xA0020) s else s
  let s := if (upTo 12).any (fun i => lost 3 i 0x0100 && bit (s.get F.PIN_CX_DIR_bits) i) then writeCxPins false (s.reg 0xA0030) s else s
  let s := match s.grove.unit with
    | some u => if lost 4 u 0x0500 then writeHbCfg (s.reg 0x46000C) s else s
    | none =>
      if s.on F.GRV_HB_CFG_hb_en && (upTo 32).any (fun u => decide (ownerIn old 4 u ≠ 0x0500 ∧ s.owner 4 u = 0x0500)) then
        writeHbCfg (s.reg 0x46000C) s
      else s
  match (upTo 24).find? (fun i => lost 5 i 0x0600) with
  | some i => if s.on F.GRF_CTL_relay_en && stagingContested s then
      s.conflict F.GRF_CONFLICT_conflict F.GRF_STAT_conflict (s.owner 5 i) 5 i else s
  | none => s

/-- Timer units whose TLINK records change take the new links; events in flight on removed links are discarded. -/
def linksMove (old new : List (List Byte)) (s : State) : State :=
  if old = new then s
  else
    let stands (m : LinkMsg) : Bool := new.any (fun r => decide (byteAt r 0 = m.src ∧ byteAt r 1 = m.ev ∧ byteAt r 2 = m.dst ∧ byteAt r 3 = m.action))
    let s := { s with tmu := { s.tmu with links := s.tmu.links.filter stands } }
    each ((upTo 32).filter (fun u => old.any (fun r => decide (byteAt r 2 = u ∧ byteAt r 3 = 0)) && !hasGate s u))
      (fun u s => s.set (F.TMU_STATUS_gate_open u) 1) s

/-- The changed FIXED regions of a planner's STAND step take effect (R347). -/
def swapFixed (old : Option Plan) (p : Plan) (s : State) : State :=
  match old with
  | none => applyFixed p s
  | some q =>
    let s := applyFixed p s
    let s := if q.qtree = p.qtree then s else each ((upTo 96).filter (fun i => s.on (F.TRF_SHP0_en i))) resetShaper s
    ownershipMoves q.owns (linksMove q.tlinks p.tlinks s)

/-- The swap (R46): the shadow settings take effect. -/
def swapPlan (s : State) : State :=
  match s.stand.shadow with
  | none => s
  | some p =>
    let old := s.stand.inForce
    let persist := s.stand.persist
    let moved := s.stand.planned.length
    let hit := s.stand.affected
    let s := each hit spoilWindow s
    let s := showPlan p (swapLanes (swapLive p s))
    let s := if s.stand.planner then swapFixed old p s else s
    let s := ((s.set F.STP_RESULT_skipped (min 63 p.skipped)).set F.STP_RESULT_lanes_moved (min 1023 moved)).set F.STP_RESULT_affected (maskOf hit)
    let s := s.set F.STP_STAT_done 1
    let s := { s with stand := { s.stand with shadow := none, planned := [], affected := [] } }
    let s := if persist then setPhase .persisting s
      else
        let s := setPhase .done ((s.set F.STP_RESULT_code 0).set F.STP_STAT_busy 0)
        { s with stand := { s.stand with staged := [] } }
    reviewAll s

/-- What a timeslot edge to `asn` does to a re-stand. -/
def edgeRestand (asn : Nat) (s : State) : State :=
  let s := endDrain s
  if s.stand.phase = .armed ∧ s.stand.drainAsn ≤ asn then beginDrain s
  else if s.stand.phase = .drain ∧ s.stand.drainAsn < asn then swapPlan s
  else s

/-- LATE_LANE_JOIN (R46): a lane that was busy at the swap has ended its frame. -/
def execLateLaneJoin (lane : Nat) (s : State) : Host.Outcome State Fault Refusal :=
  run (fun s =>
    match s.stand.lateLanes.find? (fun x => decide (x.1 = lane)) with
    | some x =>
      if laneBusy s lane then s
      else joinLane lane x.2 { s with stand := { s.stand with lateLanes := s.stand.lateLanes.filter (fun y => decide (y.1 ≠ lane)) } }
    | none => s) s

/-- RESTAND_PERSIST (R46): the container is in the inactive STAND slot, which is marked active and next to boot,
and the floor is raised. -/
def execRestandPersist (s : State) : Host.Outcome State Fault Refusal :=
  run (fun s =>
    if s.stand.phase ≠ .persisting then s
    else
      let slot := 1 - (bootRec s 2).active
      let s := match imageSlot s 2 slot, s.stand.inForce with
        | some (a, n), some p => flashWrite a p.bytes (flashErase a n s)
        | _, _ => s
      let s := (setBootRec 2 ⟨slot, slot, true, 0⟩ s).set F.GRF_READY_types (clrBit (s.get F.GRF_READY_types) 1)
      let s := raiseSeqFloor (s.get F.STP_PLAN_SEQ_plan_seq) s
      let s := setPhase .done ((s.set F.STP_RESULT_code 0).set F.STP_STAT_busy 0)
      { s.set F.STP_STAT_persisted 1 with stand := { s.stand with staged := [] } }) s

end Sys2Proof.Machine
end

