-- ==== Sys2Proof/Machine/Update.lean ====
section
/-!
DEFINITION. Boot (R333 to R337), grafts into slots (R340, R341), and the update planner (R345 to R350).
-/

namespace Sys2Proof.Machine

/-! Images in flash (R334). -/

/-- An image in a slot: its manifest (empty for a bare stand-plan container) and its bytes. -/
structure Image where
  manifest : List Byte
  bytes : List Byte
  deriving DecidableEq, Repr

/-- The digest of an image (R341): its target digest, or that of the bare container. -/
def imageDigest (x : Image) : List Byte := Config.shake256 x.bytes 32

/-- The version of an image's manifest. -/
def imageVersion (x : Image) : Nat := leAt x.manifest 0x10 4

/-- Bytes from a multiple of 4 KiB up. -/
def page (n : Nat) : Nat := ceilDiv n 4096 * 4096

/-- The image of a slot behind a manifest, where it passes the checks of R334. -/
def manifestImage (s : State) (type a : Nat) : Option Image :=
  let m := flashRead s a (manLength (flashRead s a 0x80))
  let l := flashRead s (a + page m.length) (manTargetLen m)
  if manifestGood s m && decide (manType m = type) && decide (manPart m = 0x7160) && decide (byteAt m 0x0A ≤ s.get F.GLB_ID_stepping)
      && decide (Config.shake256 l 32 = manTarget m) then some ⟨m, l⟩ else none

/-- The image of a type's slot, if the slot is valid and its flash can be read (R334, R423). -/
def slotImage (s : State) (bad : List (Nat × Nat)) (type slot : Nat) : Option Image :=
  if bad.contains (type, slot) then none
  else
    match imageSlot s type slot with
    | none => none
    | some (a, _) =>
      if type = 2 ∧ flashRead s a 4 = [0x42#8, 0x58#8, 0x53#8, 0x50#8] then
        let l := flashRead s a (leAt (flashRead s a 0x18) 0x14 4)
        if ((planChecks s (.boot false) l l.length).take 9).all (fun x => x.2) then some ⟨[], l⟩ else none
      else manifestImage s type a

/-- The image in a type's active slot. -/
def activeImage (s : State) (t : Nat) : Option Image := slotImage s [] t (bootRec s t).active

/-- The image of a type that stands in its inactive slot. -/
def stagedImage (s : State) (t : Nat) : Option Image := slotImage s [] t (1 - (bootRec s t).active)

/-- The digest of an image that may be absent: 32 zero bytes (R281). -/
def digestOrZero (x : Option Image) : List Byte := match x with | some i => imageDigest i | none => List.replicate 32 0#8

/-! Boot (R335 to R337). -/

/-- The bits of GRF_RESET_LIST for groups. -/
def setResetList (gs : List Nat) (b : Bool) (s : State) : State :=
  each gs (fun g s => s.set (F.GRF_RESET_LIST_groups (g / 32)) (putBit (s.get (F.GRF_RESET_LIST_groups (g / 32))) (g % 32) b)) s

/-- The step that was activated and not committed ends without its image: the settings it cleared are restored (R350). -/
def closeStep (s : State) : State :=
  let s := setResetList (s.nv.cleared.map Prod.fst) false s
  { s with nv := { s.nv with
    settings := s.nv.cleared.foldl (fun t x => tabPut t x.1 x.2) s.nv.settings, cleared := [], openStep := none } }

/-- A type falls back to its other slot (R336), which takes back a step that was not committed. -/
def fallBack (t slot : Nat) (s : State) : State :=
  let s := setBootRec t ⟨slot, slot, true, 0⟩ s
  let s := s.set F.GRF_BOOT_fallback (setBit (s.get F.GRF_BOOT_fallback) (t - 1))
  let s := s.when (decide (s.nv.openStep = some t)) closeStep
  ringNote 0x41 (leBytes 1 t) false (s.event F.GRF_STAT_boot_fallback F.GRF_EVCNT_fallback_cnt)

/-- Load a type (R336): its next_boot slot, or the other one, by an attempt on a slot. -/
def loadType (t : Nat) (attempt : Nat → State → Option Image × State) (s : State) : Option Image × State :=
  let r := bootRec s t
  let trial := decide (r.nextBoot ≠ r.active) || !r.committed
  let tries := if trial then r.tries + 1 else r.tries
  let s := if trial then setBootRec t { r with tries := tries } s else s
  match if trial && decide (3 ≤ tries) then (none, s) else attempt r.nextBoot s with
  | (some i, s) => (some i, s)
  | (none, s) =>
    match attempt (1 - r.nextBoot) s with
    | (some i, s) => (some i, fallBack t (1 - r.nextBoot) s)
    | (none, s) => (none, s)

/-- Load a type whose slots need pass the checks of R334 only. -/
def loadPlain (bad : List (Nat × Nat)) (t : Nat) (s : State) : Option Image × State :=
  loadType t (fun slot s => (slotImage s bad t slot, s)) s

/-- BOOT_HALT (R337): no Crown core and no radio domain is powered. -/
def bootHalt (cause : Nat) (s : State) : State :=
  let s := ringNote 0x42 (leBytes 1 cause) false (s.set F.GRF_BOOT_halt cause)
  each ([3, 4, 5, 6] ++ (upTo 8).map (11 + ·)) (fun d s => loseDomain d (domainLeaves d (s.setDom d ⟨.off, false⟩))) s

/-- The index of the root a lifecycle state selects (R279). -/
def rootOf (lc : Nat) : Option Nat := if lc = 1 then some 1 else if lc = 2 ∨ lc = 3 then some 2 else if lc = 4 then some 3 else none

/-- Select the root (R279). -/
def selectRoot (s : State) : State :=
  match rootOf (lifecycle s) with
  | none => s
  | some r =>
    match openRoot s r with
    | some k => fillSlot 1 k (2 ^ 8) 0 0 0 0 (s.set F.HWD_STATUS_root r)
    | none => s

/-- The boundary of a root's signing index (R308): that of its valid record with the highest sequence. -/
def resvBoundary (s : State) (root : Nat) : Nat :=
  ((reservations s root).foldl (fun best x =>
    match best with
    | some (y : ResvRecord) => if y.seq < x.seq then some x else best
    | none => some x) none).elim 0 ResvRecord.boundary

/-- A boot discards the material of a key update that has no commit (R318). -/
def recoverUpdate (s : State) : State :=
  if s.nv.kuOpen then { s.set F.HWD_SIG_STAT_ku_recovered 1 with nv := { s.nv with kuOpen := false } } else s

/-- The registers whose reset values OTP and MRAM hold, at a release (R9, R38, R324, R328, R329, R330, R346). -/
def showStored (s : State) : State :=
  let s := (s.set F.BRK_LC_state (otpState s)).set F.BRK_LC_next (otpState s)
  let s := (s.set F.BRK_TAMPER_CNT_count (min s.nv.tampers (2 ^ 32 - 1))).set F.BRK_HOLD_CNT_count (min s.nv.holds (2 ^ 32 - 1))
  let s := (s.set F.HWD_STATUS_locked (b2n s.nv.locked)).set F.BRK_STATUS_erase_lock (b2n s.nv.locked)
  let s := each ((upTo 5).map (· + 1)) (fun t s => s.set (F.GRF_FLOOR_security_ver t) (tabGet s.nv.floors t 0)) s
  setWords F.BRK_LC_NONCE_bytes s.nv.lcNonce (s.set F.STP_SEQ_FLOOR_floor (tabGet s.nv.floors 0 0))

/-- What Boot shows of MRAM besides: a key update that it recovers, the boot records, and the generations of the operator's
keys (R296, R305, R308, R317, R336). -/
def showNv (s : State) : State :=
  let s := recoverUpdate (showStored s)
  let s := each ((upTo 5).map (· + 1)) (fun t s => showBootRec t (bootRec s t) s) s
  let s := s.setPair F.HWD_KU_COUNTER_LO_counter F.HWD_KU_COUNTER_HI_counter (((validRecords s).map KuRecord.counter).foldl max 0)
  let s := (s.set F.HWD_GEN_gen0 s.nv.genStates.1).set F.HWD_GEN_gen1 s.nv.genStates.2
  showOpKeys (s.set F.HWD_GEN_current (if s.nv.genStates.2 = 2 then 1 else 0))

/-- The board record in force, or what Seed takes without a valid one (R420): both channels, max_rate 2, drive 4, ODT 4 and a
flash clock of 100 MHz. -/
def boardRecord (s : State) : List Byte :=
  let r := otpRead s 0x1200 64
  if boardValid r then r else [0x42#8, 0x58#8, 0x42#8, 0x52#8, 1#8, 3#8, 2#8, 4#8, 4#8, 100#8]

/-- Seed has read the flash's SFDP tables in 1-1-1 mode at 25 MHz and runs it in 8D-8D-8D at the board's clock (R423). -/
def openFlash (s : State) : State :=
  { s with board := { s.board with octal := true, flashMhz := byteAt (boardRecord s) 9 } }

/-- The DRAM configuration (R420): the board record's channels, rate, drive and ODT codes; `mib` are the densities of the
channels, of each of which inline ECC reserves one sixteenth (R421). -/
def configureDram (mib : List Nat) (s : State) : State :=
  let r := boardRecord s
  let en := byteAt r 5 % 4
  let size := ((upTo 2).map (fun c => if bit en c then mib.getD c 0 * 15 / 16 else 0)).sum
  let s := ((s.set F.DDR_CFG_ch_en en).set F.DDR_CFG_max_rate (byteAt r 6 % 4)).set F.DDR_SIZE_mib (min 65535 size)
  { s with board := { s.board with dqDrive := byteAt r 7, dqOdt := byteAt r 8 } }

/-- The level-2 keys of the selected root (R280, R284). -/
def deriveKeys (s : State) : State := each ((upTo 7).map (4 + ·)) deriveSlot s

/-- Match the generations with D (R299, R348). -/
def matchGens (s : State) : State :=
  let d := digestReg s
  let s : State := match firstBelow 2 (fun g => decide (genState s g ≠ 0) && decide (tabGet s.nv.genDigests g [] = d)) with
    | some g =>
      let o := genState s (1 - g)
      let keep := s.nv.openStep.isSome && (decide (o = 3) || (decide (o = 2) && decide (genState s g = 1)))
      moveGens g 2 (if keep then 3 else 0) (recommit g s)
    | none =>
      let s := (s.set F.HWD_STAT_no_gen 1)
      let s : State := { s with hwd := { s.hwd with noGenSeen := true }, nv := { s.nv with genDigests := [(0, d)], slotStore := [] } }
      setGens 2 0 s
  each ((upTo 2).map (2 + ·)) deriveSlot s

/-- Restore the operator slots from the ACTIVE generation's area (R287). -/
def restoreSlots (s : State) : State := each operatorSlots restoreSlot s

/-- The identity public key of the root is computed at its first selection and kept with its check (R306). -/
def publishIdentity (s : State) : State :=
  let k := identityKey s
  let s : State := { s with nv := { s.nv with idPub := tabPut s.nv.idPub (rootIndex s) (k, idTag s k) } }
  setWords F.HWD_DEVICE_ID_bytes (Config.shake256 k 32) s

/-- The Keys step (R335): D is known, and with a root the level-2 keys. -/
def bootKeys (s : State) : State :=
  let s := if s.get F.HWD_STATUS_root = 0 then s
    else restoreSlots (matchGens (publishIdentity (deriveKeys s)))
  let b := resvBoundary s (rootIndex s)
  (setIndex b b s).set F.BRK_CTL_boot_done 1

/-- When a health check ends (R347). -/
def healthEnd (s : State) : Nat := s.now + 120000000000

/-- An image booted from an uncommitted slot has its health check from its beginning (R336, R349). -/
def resumeHealth (s : State) : State :=
  match s.nv.openStep with
  | none => s
  | some t =>
    let old := if t = 1 then (bootRec s t).active else 1 - (bootRec s t).active
    let m := if t = 1 ∨ t = 4 then
        let x := slotImage s [] t old
        Config.shake256 (digestOrZero (if t = 1 then x else activeImage s 1) ++ digestOrZero (if t = 4 then x else activeImage s 4)) 32
      else if t = 2 then (match slotImage s [] 2 old with | some i => planMeasurement (parsePlan i.bytes) | none => List.replicate 32 0#8)
      else digestOrZero (slotImage s [] t old)
    let s : State := { s with grf := { s.grf with plan := some ⟨[], t, old, m, true, healthEnd s, false, false, false⟩, seed2Waiting := false } }
    (s.set F.GRF_STATUS_phase 3).set F.GRF_STATUS_type t

/-- The types of which a verified image waits in the inactive slot at a boot (GRF_READY): a graft in staging made it, and it is
not the image of a step that is not committed. -/
def waitingTypes (s : State) : List Nat :=
  ((upTo 5).map (· + 1)).filter (fun t => decide (s.nv.openStep ≠ some t) && match stagedImage s t with
    | some x => !x.manifest.isEmpty && s.nv.grafts.any (fun (_, g) => allHeld g && decide (manType g.manifest = t ∧ manTarget g.manifest = manTarget x.manifest))
    | none => false)

/-- The Crown image is copied to DRAM (R335, R347). -/
def copyCrown (x : Option Image) (s : State) : State := match x with | some i => s.dramWrite Config.crownPlace i.bytes | none => s

/-- The last steps: the Crown cores start if their image is valid (R335). -/
def bootCrown (x : Option Image) (s : State) : State :=
  let s := s.set F.GRF_READY_types (maskOf ((waitingTypes s).map (· - 1)))
  let s := if x.isSome then each (upTo 4) coreStarts s else s
  resumeHealth (noteFirmware { s with grf := { s.grf with started := x.isSome } })

/-- From the profile on (R335): DRAM, LANE, CROWN and the keys. -/
def bootRest (training : Bool) (mib : List Nat) (bad : List (Nat × Nat)) (s : State) : State :=
  let s := loadProfile s
  let s := setMeasurement 2 (if s.rgp.inForce.isEmpty then List.replicate 32 0#8 else profileDigest s.rgp.inForce) s
  if !training then bootHalt 4 s
  else
    let s := configureDram mib s
    let r := loadPlain bad 3 s
    let s := setMeasurement 3 (digestOrZero r.1) r.2
    let s : State := { s with lanes := { s.lanes with noUcode := r.1.isNone } }
    let s := s.set F.LNE_UCODE_version (match r.1 with | some x => imageVersion x / 2 ^ 16 | none => 0)
    let c := loadPlain bad 5 s
    bootCrown c.1 (bootKeys (setMeasurement 4 (digestOrZero c.1) (copyCrown c.1 c.2)))

/-- The container in a STAND slot that the loader reads: a bare one as it stands, or the image behind a manifest. -/
def standContainer (bad : List (Nat × Nat)) (slot : Nat) (s : State) : Option Image :=
  if bad.contains (2, slot) then none
  else
    match imageSlot s 2 slot with
    | none => none
    | some (a, _) =>
      if flashRead s a 4 = [0x42#8, 0x58#8, 0x53#8, 0x50#8] then some ⟨[], flashRead s a (leAt (flashRead s a 0x18) 0x14 4)⟩
      else manifestImage s 2 a

/-- The loader takes a STAND slot, or refuses its container (R36): the floor counts for an uncommitted slot only
(R335). -/
def attemptStand (bad : List (Nat × Nat)) (slot : Nat) (s : State) : Option Image × State :=
  match standContainer bad slot s with
  | none => (none, s)
  | some x =>
    let r := bootRec s 2
    let code := planResult s (.boot (decide (slot = r.nextBoot) && !r.committed)) x.bytes x.bytes.length
    if code = 0 then (some x, s) else (none, planRefused (s.setReg 0x20038 (BitVec.ofNat 32 code)))

/-- The STAND step (R335): the loader's own result is recorded. -/
def bootStand (training : Bool) (mib : List Nat) (bad : List (Nat × Nat)) (s : State) : State :=
  match loadType 2 (attemptStand bad) s with
  | (none, s) => bootHalt 3 s
  | (some x, s) =>
    let p := parsePlan x.bytes
    let s := installPlan p s
    let s := (s.setReg 0x20038 (BitVec.ofNat 32 (min 63 p.skipped * 2 ^ 26))).set F.STP_STAT_done 1
    let s := (s.set F.STP_SLOT_booted (bootRec s 2).nextBoot).set F.STP_SLOT_next_boot (bootRec s 2).nextBoot
    bootRest training mib bad (setMeasurement 1 (planMeasurement p) s)

/-- The DUS (R278): the extractor takes at most eight reads of the PUF with the helper data in OTP, and the first result that the
check value accepts is the DUS. -/
def reconstructed (puf : List (List Byte)) (s : State) : Option (List Byte) :=
  ((puf.take 8).map (fun r => fit 32 (Config.fuzzyExtract r (otpRead s 0x0400 2048)))).find?
    (fun k => decide (derive256 k [] "BX7160 DUSCHK" = otpRead s 0x0C00 32))

/-- A BLANK part has no helper data as yet, so it has no DUS to fail and no root (DEDUCED, notes/assumptions/173). -/
def unenrolled (s : State) : Bool := decide (lifecycle s = 0) && blank s 0x0C00 32

/-- What Seed does with the DUS: none for a part that is not enrolled. -/
def takeDus (dus : Option (List Byte)) (s : State) : State :=
  match dus with
  | some k => selectRoot { s.set F.HWD_STATUS_dus_ok 1 with nv := { s.nv with dus := k } }
  | none => s

/-- SEED2 and SEC, and what follows (R335). -/
def bootImages (training : Bool) (mib : List Nat) (bad : List (Nat × Nat)) (s : State) : State :=
  let a := loadPlain bad 1 s
  let b := loadPlain bad 4 a.2
  match a.1, b.1 with
  | some x, some y => bootStand training mib bad (setMeasurement 0 (Config.shake256 (imageDigest x ++ imageDigest y) 32) b.2)
  | _, _ => bootHalt 2 b.2

/-- The Seed sequence (R335). -/
def bootSequence (puf : List (List Byte)) (training : Bool) (mib : List Nat) (bad : List (Nat × Nat)) (s : State) : State :=
  let s := showNv { s with nv := { s.nv with boots := s.nv.boots + 1 } }
  if lifecycle s = 5 then bootHalt 5 s
  else
    let dus := reconstructed puf s
    if dus.isNone && !unenrolled s then bootHalt 1 s
    else bootImages training mib bad (takeDus dus ((openFlash s).set F.HWD_DRBG_healthy 1))

/-- Whether Seed may start: out of reset with every supply good (R434), not in BARK_HOLD, and not run yet. -/
def mayBoot (s : State) : Bool :=
  s.board.suppliesGood && !s.board.porLow && !s.board.resetLow && !s.bark.hold
  && !s.on F.BRK_CTL_boot_done && decide (s.get F.GRF_BOOT_halt = 0)

/-- BOOT_SEQUENCE (R335): the raw reads of the PUF, whether DRAM trains, the densities of the DRAM channels in MiB,
and the slots whose flash does not read. -/
def execBootSequence (puf : List (List Byte)) (training : Bool) (mib : List Nat) (unreadable : List (Nat × Nat)) (s : State) :
    Host.Outcome State Fault Refusal :=
  run (fun s => if mayBoot s then bootSequence puf training mib unreadable s else s) s

/-! Deltas (R340). -/

/-- Apply a delta's operations: what is left of them, the source, the bytes written and operations done so far,
none where an operation or END is not allowed. -/
def applyOps (fuel : Nat) (ops src : List Byte) (out : List Byte) (done len count : Nat) : Option (List Byte) :=
  match fuel with
  | 0 => none
  | fuel + 1 =>
    match ops with
    | [] => none
    | c :: rest =>
      if c = 0#8 then (if out.length = len ∧ done = count then some out else none)
      else if c = 3#8 then
        let n := leAt rest 0 4
        if n = 0 ∨ rest.length < 4 + n ∨ len < out.length + n then none
        else applyOps fuel (rest.drop (4 + n)) src (out ++ slice rest 4 n) (done + 1) len count
      else
        let o := leAt rest 0 4
        let n := leAt rest 4 4
        if n = 0 ∨ rest.length < 8 ∨ src.length < o + n ∨ len < out.length + n then none
        else if c = 1#8 then applyOps fuel (rest.drop 8) src (out ++ slice src o n) (done + 1) len count
        else if c = 2#8 ∧ 8 + n ≤ rest.length then
          applyOps fuel (rest.drop (8 + n)) src (out ++ List.zipWith (· + ·) (slice src o n) (slice rest 8 n)) (done + 1) len count
        else none

/-- The image a delta makes of a source, where every rule of R340 holds. -/
def applyDelta (m delta src : List Byte) : Option (List Byte) :=
  let full := (slice delta 16 delta.length)
  if slice delta 0 8 ≠ [0x42#8, 0x58#8, 0x47#8, 0x44#8, 1#8, 0#8, 0#8, 0#8] ∨ leAt delta 8 4 ≠ manTargetLen m then none
  else
    match applyOps (full.length + 1) full (if manFull m then [] else src) [] 0 (manTargetLen m) (leAt delta 12 4) with
    | some l => if Config.shake256 l 32 = manTarget m then some l else none
    | none => none

/-- Whether the update planner has a step of a type. -/
def planHas (s : State) (t : Nat) : Bool := match s.grf.plan with | some p => decide (p.type = t) || p.rest.contains t | none => false

/-- The delta of a graft that is whole. -/
def graftDelta (g : Graft) : List Byte := ((upTo (pieceCount g.manifest)).map (fun i => tabGet g.pieces i [])).flatten

/-- The image that a graft's delta makes of the image in service. -/
def graftTarget (s : State) (g : Graft) : Option (List Byte) :=
  applyDelta g.manifest (graftDelta g) (match activeImage s (manType g.manifest) with | some x => x.bytes | none => [])

/-- A reset cuts an application (R341): the manifest and a number of whole 4 KiB of the target, which is left open, are written,
and the position is recorded in MRAM. -/
def cutApply (s : State) : State :=
  match s.grf.applying with
  | none => s
  | some id =>
    let g := graft s id
    match graftTarget s g, imageSlot s (manType g.manifest) (1 - (bootRec s (manType g.manifest)).active) with
    | some l, some (a, _) =>
      let k := max s.nv.applyPos (4096 * (s.open 15 % (l.length / 4096 + 1)))
      let s := s.used
      let m := g.manifest
      let s := if k = 0 then s
        else flashWrite (a + page m.length + s.nv.applyPos) (slice l s.nv.applyPos (k - s.nv.applyPos)) (flashWrite a m s)
      { s with nv := { s.nv with applyPos := k } }
    | _, _ => s

/-- The delta is copied to the graft staging region of the flash, where it fits (R343). -/
def copyDelta (l : List Byte) (s : State) : State :=
  match (directory s).find? (fun e => decide (byteAt e 0 = 0x0F)) with
  | some e => if l.length ≤ leAt e 8 4 then flashWrite (leAt e 4 4) l (flashErase (leAt e 4 4) (leAt e 8 4) s) else s
  | none => s

/-- The inactive slot of a type holds no valid image while one is written into it. -/
def openSlot (t : Nat) (s : State) : State :=
  let s := s.set F.GRF_READY_types (clrBit (s.get F.GRF_READY_types) (t - 1))
  match imageSlot s t (1 - (bootRec s t).active) with
  | some (a, n) => flashErase a n s
  | none => s

/-- Whether a graft may be applied: an image for this part, none of whose type is in a plan, and no other application under
way. -/
def mayApply (s : State) (g : Graft) : Bool :=
  s.grf.applying.isNone && s.board.flashOp.isNone && allHeld g && decide (manPart g.manifest = 0x7160) && decide (byteAt g.manifest 0x0A ≤ s.get F.GLB_ID_stepping)
  && !planHas s (manType g.manifest)

/-- GRAFT_APPLY (R341): a graft whose pieces are all held begins to be applied into the inactive slot; a source slot that
reads uncorrectable is invalid (R423), so it holds no image that the manifest names. -/
def execGraftApply (graft_ : Nat) (unreadable : Bool) (s : State) : Host.Outcome State Fault Refusal :=
  run (fun s =>
    let g := graft s graft_
    let m := g.manifest
    if !mayApply s g then s
    else if !manFull m && decide (digestOrZero (if unreadable then none else activeImage s (manType m)) ≠ manSource m) then grfResult 3 (manType m) s
    else
      let s := openSlot (manType m) (copyDelta (graftDelta g) s)
      { s with
        grf := { s.grf with applying := some graft_ }, board := { s.board with flashHeld := true }, nv := { s.nv with applyPos := 0 } }) s

/-- GRAFT_APPLY_DONE (R341): the delta has been applied, from the recorded position on; the slot holds the manifest and the image,
or the graft is refused. -/
def execGraftApplyDone (s : State) : Host.Outcome State Fault Refusal :=
  run (fun s =>
    match s.grf.applying with
    | none => s
    | some id =>
      let done := s.nv.applyPos
      let s : State := { s with
        grf := { s.grf with applying := none }, board := { s.board with flashHeld := false }, nv := { s.nv with applyPos := 0 } }
      let g := graft s id
      let m := g.manifest
      let t := manType m
      match graftTarget s g, imageSlot s t (1 - (bootRec s t).active) with
      | some l, some (a, n) =>
        if n < page m.length + l.length then grfResult 10 t s
        else
          let s := flashWrite (a + page m.length + done) (l.drop done) (flashWrite a m (if done = 0 then flashErase a n s else s))
          (s.set F.GRF_STAT_staged 1).set F.GRF_READY_types (setBit (s.get F.GRF_READY_types) (t - 1))
      | _, _ => grfResult 10 t s) s

/-! Pollen frames (R344). -/

/-- A Pollen message of a type. -/
def pollenOf (type : Nat) (payload : List Byte) (s : State) : State :=
  if byteAt payload 0 = 0xF7 ∧ byteAt payload 1 = type then pollenMessage payload s else s

/-- POLLEN_PIECE, POLLEN_WANT and POLLEN_ANNOUNCE (R344): the payload of a secured data frame. -/
def execPollenPiece (payload : List Byte) (s : State) : Host.Outcome State Fault Refusal := run (pollenOf 1 payload) s
def execPollenWant (payload : List Byte) (s : State) : Host.Outcome State Fault Refusal := run (pollenOf 2 payload) s
def execPollenAnnounce (payload : List Byte) (s : State) : Host.Outcome State Fault Refusal := run (pollenOf 3 payload) s

/-! The order of a plan (R345, R346). -/

/-- What an image provides and requires: (interface, major, minor). -/
def provided (m : List Byte) : List (Nat × Nat × Nat) := (manDecls m).filterMap (fun d => if d.1 = 1 then some d.2 else none)
def required (m : List Byte) : List (Nat × Nat × Nat) := (manDecls m).filterMap (fun d => if d.1 = 2 then some d.2 else none)

/-- Whether a set of manifests is consistent (R345): the silicon provides every interface at 1.0. -/
def consistent (ms : List (List Byte)) : Bool :=
  ms.all (fun m => (required m).all (fun (i, a, b) =>
    (decide (1 ≤ i ∧ i ≤ 7 ∧ a = 1 ∧ b = 0)) || ms.any (fun q => (provided q).any (fun (j, c, d) => decide (i = j ∧ a = c ∧ b ≤ d)))))

/-- The manifest of a type in service, and the one staged. -/
def manifestNow (s : State) (t : Nat) : List Byte := match activeImage s t with | some x => x.manifest | none => []
def manifestStaged (s : State) (t : Nat) : List Byte := match stagedImage s t with | some x => x.manifest | none => []

/-- Whether the set stays consistent after every step of an order. -/
def orderGood (s : State) (changed order : List Nat) : Bool :=
  match order with
  | [] => true
  | t :: rest =>
    let ch := t :: changed
    consistent ((upTo 5).map (fun k => if ch.contains (k + 1) then manifestStaged s (k + 1) else manifestNow s (k + 1)))
    && orderGood s ch rest

/-- The orders of a rising list of types, in ascending lexicographic order. -/
def orders (fuel : Nat) (l : List Nat) : List (List Nat) :=
  match fuel with
  | 0 => [[]]
  | fuel + 1 => if l.isEmpty then [[]] else l.flatMap (fun t => (orders fuel (l.filter (fun x => decide (x ≠ t)))).map (t :: ·))

/-- The order of a plan (R346): LANE, SEC, STAND, CROWN, else the first consistent order; SEED2 last. -/
def planOrder (s : State) (types : List Nat) : Option (List Nat) :=
  let live := types.filter (fun t => decide (t ≠ 1))
  let last := types.filter (fun t => decide (t = 1))
  (([3, 4, 2, 5].filter (fun t => live.contains t) :: orders 4 live).map (· ++ last)).find? (orderGood s [])

/-! Steps (R346 to R350). -/

/-- The measurement register of a type, and its value with a staged image. -/
def measIndex (t : Nat) : Nat := if t = 2 then 1 else if t = 3 then 3 else if t = 5 then 4 else 0
def stagedMeasurement (s : State) (t : Nat) : List Byte :=
  let x := stagedImage s t
  if t = 1 then Config.shake256 (digestOrZero x ++ digestOrZero (activeImage s 4)) 32
  else if t = 4 then Config.shake256 (digestOrZero (activeImage s 1) ++ digestOrZero x) 32
  else if t = 2 then (match x with | some i => planMeasurement (parsePlan i.bytes) | none => [])
  else digestOrZero x

/-- Show the planner's step. -/
def showStep (phase type : Nat) (s : State) : State :=
  ((s.set F.GRF_STATUS_phase phase).set F.GRF_STATUS_type type).when (decide (phase = 0)) (returnForced 2)

/-- The plan ends with a result. -/
def endPlan (code type : Nat) (s : State) : State :=
  showStep 0 0 (grfResult code type { s with grf := { s.grf with plan := none } })

/-- A step begins with its Prepare (R347). -/
def startStep (t : Nat) (rest : List Nat) (s : State) : State :=
  let m := stagedMeasurement s t
  let p : PlanRun := ⟨rest, t, (bootRec s t).active, measurement s (measIndex t), false, 0, false, false, false⟩
  showStep 1 t (prepareGen (digestWith s (measIndex t) m) { s with grf := { s.grf with plan := some p } })

/-- A plan is refused, changing nothing (R346). -/
def refusePlan (code type : Nat) (s : State) : State :=
  grfResult code type (s.event F.GRF_STAT_plan_refused F.GRF_EVCNT_refused_cnt)

/-- Whether a plan may not start now (R346, R348, R391). -/
def planBusy (s : State) : Bool :=
  s.grf.plan.isSome || s.on F.STP_STAT_busy || s.rgp.pending.isSome || s.grf.seed2Waiting || s.pruned 0x0B 0

/-- Whether a staged STAND image changes the SRAM region. -/
def sramChanges (s : State) : Bool :=
  match stagedImage s 2, s.stand.inForce with
  | some x, some p => decide ((parsePlan x.bytes).pbMib ≠ p.pbMib)
  | _, _ => true

/-- A write of GRF_CTL.plan_go (R346). -/
def planGo (s : State) : State :=
  let types := onesOf (s.get F.GRF_PLAN_types) 5 |>.map (· + 1)
  if planBusy s then refusePlan 5 0 s
  else
    match types.find? (fun t => !bit (s.get F.GRF_READY_types) (t - 1)) with
    | some t => refusePlan 1 t s
    | none =>
      match types.find? (fun t => decide (manSecurity (manifestStaged s t) < s.get (F.GRF_FLOOR_security_ver t))) with
      | some t => refusePlan 4 t s
      | none =>
        if types.contains 2 && sramChanges s then refusePlan 6 2 s
        else
          match planOrder s types with
          | none => refusePlan 2 0 s
          | some [] => s.set F.GRF_STAT_plan_done 1
          | some (t :: rest) => startStep t rest (grfResult 0 0 s)

/-- The settings groups an image reads that are stored in too old a format (R350). -/
def staleGroups (s : State) (m : List Byte) : List (Nat × Setting) :=
  (manDecls m).filterMap (fun (k, g, major, _) =>
    if k = 3 then (match tabFind s.nv.settings g with | some x => if x.format < major then some (g, x) else none | none => none) else none)

/-- Settings groups in too old a format are reset to defaults, and what they held is kept until the step commits (R350). -/
def resetSettings (t : Nat) (m : List Byte) (s : State) : State :=
  let old := staleGroups s m
  let s := each (upTo 8) (fun k s => s.set (F.GRF_RESET_LIST_groups k) 0) s
  if old.isEmpty then s
  else
    let writes (g : Nat) : Nat := ((manDecls m).find? (fun d => decide (d.1 = 3 ∧ d.2.1 = g))).elim 0 (fun d => d.2.2.2)
    let s : State := { s with nv := { s.nv with cleared := old, settings := old.foldl (fun t x => tabPut t x.1 ⟨writes x.1, Config.settingsDefault x.1 (writes x.1)⟩) s.nv.settings } }
    let s := (setResetList (old.map Prod.fst) true s).set F.GRF_STAT_settings_reset 1
    postEvent 0x0100 (leBytes 1 t ++ leBytes 3 0 ++ (upTo 8).flatMap (fun k => leBytes 4 (s.get (F.GRF_RESET_LIST_groups k)))) s

/-- The security cores restart into an image (R347, R391). -/
def restartSec (s : State) : State := { s with prune := { s.prune with secRestarting := true } }

/-- The planner asks for autopilot, and the Crown cores wait for the next edge (R347). -/
def askCrown (s : State) : State :=
  { s with sse := { s.sse with apWanted := s.sse.apWanted || !s.on F.SSE_AP_active }, grf := { s.grf with crownWaits := true } }

/-- At the edge the Crown cores restart from the image in DRAM (R347). -/
def restartCrown (s : State) : State :=
  if s.grf.crownWaits then
    let s : State := { s with sse := { s.sse with beat := none }, prune := { s.prune with stopped := [] }, grf := { s.grf with crownWaits := false } }
    noteFirmware (each ((upTo 4).filter (fun c => s.coreServes c && s.domOn (3 + c))) coreStarts s)
  else s

/-- A class takes an image (R347). -/
def takeImage (t : Nat) (x : Option Image) (s : State) : State :=
  if t = 3 then newUcode (match x with | some i => imageVersion i / 2 ^ 16 | none => 0) s
  else if t = 4 then restartSec s
  else if t = 2 then
    (if s.on F.STP_STAT_busy then planRefused (s.set F.STP_RESULT_code 13)
     else match x with | some i => beginRestand true i.bytes s | none => s)
  else if t = 5 then askCrown (copyCrown x s)
  else s

/-- PLAN_ACTIVATE (R347, R348): the sweep is complete; one journal record moves the generations, the slot and the
measurement, and the class takes the new image.  A SEED2 step then awaits its reset. -/
def execPlanActivate (s : State) : Host.Outcome State Fault Refusal :=
  run (fun s =>
    match s.grf.plan with
    | none => s
    | some p =>
      if p.activated ∨ s.get F.HWD_GEN_sweep ≠ 2 then s
      else
        let slot := 1 - p.oldSlot
        let x := stagedImage s p.type
        let m := stagedMeasurement s p.type
        let s := s.set F.GRF_READY_types (clrBit (s.get F.GRF_READY_types) (p.type - 1))
        let s : State := { s with nv := { s.nv with openStep := some p.type } }
        if p.type = 1 then
          let s := setBootRec 1 { bootRec s 1 with nextBoot := slot, committed := false, tries := 0 } s
          let s := resetSettings 1 (match x with | some i => i.manifest | none => []) s
          showStep 6 1 { s with grf := { s.grf with plan := none, seed2Waiting := true } }
        else
          let s := setBootRec p.type ⟨slot, slot, false, 0⟩ s
          let s := activateGen (measIndex p.type) m s
          let s := resetSettings p.type (match x with | some i => i.manifest | none => []) s
          let s : State := { s with grf := { s.grf with plan := some { p with activated := true, ends := healthEnd s } } }
          reviewAll (takeImage p.type x (showStep 3 p.type s))) s

/-- Roll an activated live step back (R347, R350). -/
def rollBackLive (p : PlanRun) (s : State) : State :=
  let s := rollbackGen (measIndex p.type) p.oldMeas s
  let s := setBootRec p.type ⟨p.oldSlot, p.oldSlot, true, 0⟩ s
  let restand := decide (p.type = 2) && (match s.stand.phase with | .verify | .prepare | .armed | .drain => true | _ => false)
  let s := if restand && s.stand.planner then endRestand 15 s
    else if p.type = 2 then
      (match slotImage s [] 2 p.oldSlot, s.stand.inForce with
       | some i, some q => if i.bytes = q.bytes then s else takeImage 2 (some i) s
       | _, _ => s)
    else takeImage p.type (slotImage s [] p.type p.oldSlot) s
  let s := closeStep s
  let s := s.set F.GRF_READY_types (setBit (s.get F.GRF_READY_types) (p.type - 1))
  endPlan 7 p.type (s.event F.GRF_STAT_rolled_back F.GRF_EVCNT_rollback_cnt)

/-- A SEED2 image fails its health check (R348): its slot stays uncommitted, and the next reset, which finds that its
tries have reached 3, falls back (R336).  The step awaits that reset. -/
def failSeed2 (s : State) : State :=
  let s := setBootRec 1 { bootRec s 1 with committed := false, tries := 2 } s
  let s := endPlan 7 1 (s.event F.GRF_STAT_rolled_back F.GRF_EVCNT_rollback_cnt)
  showStep 6 1 { s with grf := { s.grf with seed2Waiting := true } }

/-- A step whose health check fails is rolled back (R347, R348). -/
def rollBack (p : PlanRun) (s : State) : State := if p.type = 1 then failSeed2 s else rollBackLive p s

/-- HEALTH_FAIL (R347). -/
def execHealthFail (s : State) : Host.Outcome State Fault Refusal :=
  run (fun s => match s.grf.plan with | some p => if p.activated then rollBack p s else s | none => s) s

/-- The grafts of staging that made a type's image in service are dropped (R343). -/
def dropStaged (t : Nat) (s : State) : State :=
  let target := match activeImage s t with | some x => manTarget x.manifest | none => []
  { s with nv := { s.nv with grafts := s.nv.grafts.filter (fun (_, g) => !(decide (manType g.manifest = t) && decide (manTarget g.manifest = target))) } }

/-- A step commits (R347); a STAND image raises STP_SEQ_FLOOR to its own plan_seq (R38). -/
def commitStep (p : PlanRun) (s : State) : State :=
  let slot := 1 - p.oldSlot
  let s := setBootRec p.type ⟨slot, slot, true, 0⟩ (commitGen s)
  let floor := max (tabGet s.nv.floors p.type 0) (manSecurity (manifestNow s p.type))
  let s : State := { s with nv := { s.nv with floors := tabPut s.nv.floors p.type floor, openStep := none, cleared := [] } }
  let s := s.set (F.GRF_FLOOR_security_ver p.type) floor
  let s := if p.type ≠ 2 then s
    else match slotImage s [] 2 slot with
      | some x => raiseSeqFloor (parsePlan x.bytes).seq s
      | none => s
  let s := dropStaged p.type s
  match p.rest with
  | [] => (endPlan 0 0 s).set F.GRF_STAT_plan_done 1
  | t :: rest => if p.cancelled then endPlan 8 t s else startStep t rest s

/-- Whether a step's class shows a failure at the end of its health check (R347). -/
def stepFailed (p : PlanRun) (s : State) : Bool :=
  if p.failed then true
  else if p.type = 5 then !p.confirmed || s.on F.SSE_AP_active
  else if p.type = 3 then s.on F.LNE_UCODE_switching
  else if p.type = 2 then decide (s.get F.STP_RESULT_code ≠ 0) || s.on F.STP_STAT_busy
  else !s.on F.HWD_DRBG_healthy || s.prune.secRestarting

/-- HEALTH_CHECK_END (R347): 120 s have passed since activation. -/
def execHealthCheckEnd (s : State) : Host.Outcome State Fault Refusal :=
  run (fun s =>
    match s.grf.plan with
    | none => s
    | some p =>
      if !p.activated then s
      else
        let s := s.reach p.ends
        if stepFailed p s then rollBack p s else commitStep p s) s

/-- A write of GRF_CTL.cancel (R349). -/
def planCancel (s : State) : State :=
  match s.grf.plan with
  | none => s
  | some p =>
    if p.activated then { s with grf := { s.grf with plan := some { p with cancelled := true } } }
    else endPlan 8 p.type (abandonGen s)

/-- A write of GRF_CTL.confirm (R347). -/
def crownConfirm (s : State) : State :=
  match s.grf.plan with
  | none => s
  | some p => if p.activated ∧ p.type = 5 then { s with grf := { s.grf with plan := some { p with confirmed := true } } } else s

/-- A write of GRF_CTL.discard (R343): every staged graft that is not in a plan is dropped. -/
def graftDiscard (s : State) : State :=
  let s : State := { s with nv := { s.nv with grafts := s.nv.grafts.filter (fun (k, g) =>
    decide (s.grf.applying = some k) || (planHas s (manType g.manifest) && !g.manifest.isEmpty)) } }
  s.set F.GRF_READY_types (maskOf ((onesOf (s.get F.GRF_READY_types) 5).filter (fun i => planHas s (i + 1))))

/-- Selecting slices for staging, or enabling the relay, with none of them for Graft is a conflict (R343). -/
def checkStaging (s : State) : State :=
  if stagingContested s then
    s.conflict F.GRF_CONFLICT_conflict F.GRF_STAT_conflict (s.owner 5 0) 5 0
  else s

/-- A write of GRF_CTL; Pollen transfers resume once it is enabled (R344).  Security cores that are halted carry out none of its
commands (R326, R337, DESIGN CHOICE, notes/assumptions/174). -/
def writeGrfCtl (v : Word) (s : State) : State :=
  let resumes := !s.on F.GRF_CTL_pollen_en && v.toNat.testBit 6
  let s := (s.set F.GRF_CTL_pollen_en (wordField v 6 1)).set F.GRF_CTL_relay_en (wordField v 5 1)
  let s := s.when resumes resumePollen
  let s := if wordField v 5 1 = 1 then checkStaging s else s
  if s.secHalted then s
  else
  let s := if wordField v 4 1 = 1 then graftDiscard s else s
  let s := if wordField v 3 1 = 1 then crownConfirm s else s
  let s := if wordField v 1 1 = 1 then planCancel s else s
  if wordField v 0 1 = 1 then planGo s else s

/-- A write of one bit of GRF_CTL beside the enables as they stand. -/
def grfCtl (initiator b : Nat) (s : State) : State :=
  let v : Word := BitVec.ofNat 32 (2 ^ b + 32 * s.get F.GRF_CTL_relay_en + 64 * s.get F.GRF_CTL_pollen_en)
  gated ⟨initiator, 0x440020, true, v⟩ (writeGrfCtl v) s

/-- PLAN_GO (R346), PLAN_CANCEL (R349), CROWN_CONFIRM (R347) and GRAFT_DISCARD (R343). -/
def execPlanGo (initiator : Nat) (s : State) : Host.Outcome State Fault Refusal := run (grfCtl initiator 0) s
def execPlanCancel (initiator : Nat) (s : State) : Host.Outcome State Fault Refusal := run (grfCtl initiator 1) s
def execCrownConfirm (initiator : Nat) (s : State) : Host.Outcome State Fault Refusal := run (grfCtl initiator 3) s
def execGraftDiscard (initiator : Nat) (s : State) : Host.Outcome State Fault Refusal := run (grfCtl initiator 4) s

end Sys2Proof.Machine
end

