-- ==== Sys2Proof/Machine/Faults.lean ====
section
/-!
DEFINITION. Faults of containment units (R383 to R394): pruning by class, SRAM rows and banks, the security
core pair, re-admission and injection.
-/

namespace Sys2Proof.Machine

/-! Slices (R66, R67, R81). -/

/-- Whether PD_CHZ0 is ON or can be brought ON for the spare (R67, R370). -/
def sparePower (s : State) : Bool :=
  (s.domOn 17 || held s 17 || decide (s.get (F.PWR_DOM_CFG_force 17) = 0 ∨ s.get (F.PWR_DOM_CFG_force 17) = 3)) && !barredByHold s 17

/-- A window stays on its remaining half (R67). -/
def windowDegraded (s : State) : State := noSpare (s.set F.CHZ_STAT_degraded 1)

/-- The slice the spare is taking over or serves. -/
def spareFor (p : SparePhase) : Option Nat :=
  match p with
  | .standby => none
  | .loading i => some i
  | .filling i => some i
  | .joining i => some i
  | .serving i => some i
  | .returning i => some i

/-- The spare begins to take over a pruned slice, if it can (R67). -/
def spareTakes (i : Nat) (s : State) : State :=
  if s.canopy.spare = .standby ∧ s.pruned 4 8 = false ∧ sparePower s = true then
    wakeAllowed 17 { s with canopy := { s.canopy with spare := .loading i } }
  else if s.canopy.spare = .returning i then { s with canopy := { s.canopy with spare := .serving i } }
  else windowDegraded s

/-- A channelizer slice is pruned (R67); a partition that its compare prunes leaves no gap (R81). -/
def pruneSlice (i cause : Nat) (gap : Bool) (s : State) : State :=
  if i = 8 then
    let serves := match s.canopy.spare with | .serving j => some (j / 2) | .returning j => some (j / 2) | _ => none
    let s := match serves with
      | some w => if gap then gapWindow w (s.set F.CHZ_STAT_win_gap (setBit (s.get F.CHZ_STAT_win_gap) w)) else s
      | none => s
    let s := (recordPrune 4 8 cause [] s).event F.CHZ_STAT_slice_prune F.CHZ_EVCNT_slice_prune_cnt
    match spareFor s.canopy.spare with
    | some j =>
      let s := (spareStandby s).set (F.CHZ_SLICE_state 8) 2
      refreshWindow (j / 2) (windowDegraded s)
    | none => s.set (F.CHZ_SLICE_state 8) 2
  else
    let w := i / 2
    let used := sliceActive s i || decide (s.canopy.spare = .returning i)
    let s := if gap then gapWindow w (s.set F.CHZ_STAT_win_gap (setBit (s.get F.CHZ_STAT_win_gap) w)) else s
    let s := (s.set (F.CHZ_SLICE_state i) 2).event F.CHZ_STAT_slice_prune F.CHZ_EVCNT_slice_prune_cnt
    let s := recordPrune 4 i cause [] s
    refreshWindow w (s.when used (spareTakes i))

/-! Banks (R388 to R390). -/

/-- The group of a physical bank. -/
def bankGroup (b : Nat) : Nat := if b < 288 then b / 36 else b - 288

/-- What a physical bank serves: one more than a bank number, 0 for none. -/
def serving (s : State) (b : Nat) : Nat := tabGet s.prune.serves b (if b < 288 then b + 1 else 0)

/-- The spare of a group, if it is free: neither in service, pruned nor being copied to. -/
def freeSpare (s : State) (g : Nat) : Option Nat :=
  let sp := tabGet s.prune.groupSpare g (288 + g)
  if s.on (F.PRN_SPARE_BANK_in_use g) || s.pruned 6 sp || s.prune.bankCopy.any (fun (b, _) => decide (bankGroup b = g)) then none
  else some sp

/-- The elements of a list whose words are among poisoned ones: where the manual does not say which word holds what, which of
them these are is left open. -/
def hitBy {α : Type} (s : State) (l : List α) : List α :=
  (l.zipIdx.filter (fun x => decide (Config.freeValue (s.free + x.2) 1 = 1#1))).map Prod.fst

/-- Poisoned contexts (R390): frames of lanes, or of the windows, of the bank's domain end with GAP. -/
def contextsLost (dom : Nat) (s : State) : State :=
  let mine := (s.lanes.frames.filter (fun (n, f) =>
    decide (dom = 19 + n / 136 ∨ dom = 17 + streamWindow s f.req.stream / 2))).map Prod.fst
  let hit := hitBy s mine
  each hit (fun n s => endFrame n 5 [] false s) { s with free := s.free + mine.length }

/-- Poisoned words of the key cache (R390): entries are invalidated, and refilled by a miss. -/
def cacheLost (s : State) : State :=
  let left := hitBy s s.hwd.cache
  let n := s.hwd.cache.length
  let s : State := { s with free := s.free + n, hwd := { s.hwd with cache := left } }
  s.set F.HWD_CACHE_USED_entries ((left.map (fun x => x.2.length)).sum)

/-- The frames of queues are dropped with SPILL_ERR, their cells of an allocation given back. -/
def dropQueued (k : Nat) (cells : List (List Nat)) (s : State) : State := each cells (fun c s => countDrop 6 (freeCells k c s)) s

/-- Poisoned small structures (R390): shapers and meters are reinitialised as on a configuration write (R237, R239), and
queues whose head is poisoned lose their frames. -/
def structuresLost (s : State) : State :=
  let s := syncShapers s
  let shapers := hitBy s (s.traffic.shapers.map Prod.fst)
  let s : State := { s with free := s.free + s.traffic.shapers.length }
  let meters := hitBy s (s.traffic.meters.map Prod.fst)
  let s : State := { s with free := s.free + s.traffic.meters.length }
  let ports := hitBy s (s.traffic.ports.map Prod.fst)
  let s : State := { s with free := s.free + s.traffic.ports.length }
  let hosts := hitBy s (s.traffic.hosts.map Prod.fst)
  let s : State := { s with free := s.free + s.traffic.hosts.length }
  let vqs := hitBy s (s.traffic.vqs.map Prod.fst)
  let s : State := { s with free := s.free + s.traffic.vqs.length }
  let s := each shapers resetShaper s
  let s := each meters fillMeter s
  let s := each ports (fun k s => dropQueued 4 ((tabGet s.traffic.ports k []).map PortFrame.cells)
    { s with traffic := { s.traffic with ports := tabErase s.traffic.ports k, portSince := tabErase s.traffic.portSince k } }) s
  let s := each hosts (fun q s => dropQueued 5 ((tabGet s.traffic.hosts q []).map HostFrame.cells)
    { s with traffic := { s.traffic with hosts := tabErase s.traffic.hosts q } }) s
  let s := each vqs (fun lid s =>
    let l := vqueue s lid
    let s := setSpill (s.traffic.slots.filter (fun n => !(l.any (fun f => decide (f.spilled = some n))))) (putVq lid [] true s)
    dropQueued 3 (l.map VqFrame.cells) s) s
  if vqs.isEmpty then s else retryFetches s

/-- Poisoned words of Crown memory (R390): a core that reads one takes a load access fault. -/
def crownLost (s : State) : State :=
  let hit := hitBy s (upTo 4)
  each (hit.filter s.coresInService.contains) (fun c s => s.emit (.loadFault c)) { s with free := s.free + 4 }

/-- What reads the poisoned words of a memory whose words the manual does not place (R390). -/
def readersLose (v : Nat) (s : State) : State :=
  let (use, dom) := bankUse (planPb s) v
  if use = 4 then crownLost s else if use = 5 then contextsLost dom s else if use = 6 then cacheLost s else if use = 7 ∨ use = 9 then structuresLost s else s

/-- The places of words of a bank in the memory it serves. -/
def bankRanges (s : State) (v : Nat) (ws : List Nat) : List PoisonRange :=
  ws.map (fun w => ⟨(bankPlace s v).1, (bankPlace s v).2 * bankWords + w % bankWords, 1⟩)

/-- Poison words of the memory a bank serves. -/
def poisonWords (v : Nat) (rs : List PoisonRange) (s : State) : State :=
  let s : State := { s with prune := { s.prune with poisoned := s.prune.poisoned ++ rs } }
  if rs.isEmpty then s else readersLose v s

/-- Poison every word of the memory a bank serves. -/
def poisonBank (v : Nat) (s : State) : State :=
  let (use, rank) := bankPlace s v
  readersLose v { s with prune := { s.prune with poisoned := s.prune.poisoned ++ [⟨use, rank * bankWords, bankWords⟩] } }

/-- A group's spare takes the addresses of a bank (R389). -/
def spareServes (b sp : Nat) (s : State) : State :=
  let v := serving s b
  let g := bankGroup b
  let s := { s with prune := { s.prune with serves := tabPut (tabPut s.prune.serves sp v) b 0 } }
  let s := (s.set (F.PRN_SPARE_BANK_in_use g) 1).set (F.PRN_SPARE_BANK_serves g) (v - 1)
  showBanks (planPb s) s

/-- A row of a bank is replaced by a spare row, while one is left (R388). -/
def spareRow (b off : Nat) (s : State) : State :=
  if 16 ≤ tabGet s.prune.rowsSpared b 0 then s
  else
    let s := { s with prune := { s.prune with
      rowsSpared := tabPut s.prune.rowsSpared b (tabGet s.prune.rowsSpared b 0 + 1)
      rowErrors := tabErase s.prune.rowErrors (b * 512 + off / 512) } }
    let s := (s.inc F.PRN_ROW_SPARE_CNT_count).event F.PRN_STAT_row_spare F.PRN_EVCNT_row_spare_cnt
    ringWrite s 3 6 b (unitDomain s 6 b) 0 (leBytes 4 (off / 512 * 512)) false

/-- The prune of an SRAM bank (R389): cause 2 gives the spare its addresses at once with every word poisoned;
otherwise the bank is copied first.  With no spare free the bank stays in service. -/
def pruneBank (b cause off : Nat) (ws : List Nat) (s : State) : State :=
  let data (sp n : Nat) : List Byte := leBytes 4 off ++ leBytes 2 sp ++ leBytes 2 n ++ leBytes 4 0
  match freeSpare s (bankGroup b) with
  | some sp =>
    if sp = b then recordPrune 6 b cause (data (s.open 16) 0) s.used
    else if serving s b = 0 then recordPrune 6 b cause (data (s.open 16) 0) s.used
    else if cause = 2 then
      let s := recordPrune 6 b cause (data sp bankWords) s
      spareServes b sp (poisonBank (serving s b - 1) s)
    else
      let s := recordPrune 6 b cause (data sp ws.length) s
      { s with prune := { s.prune with bankCopy := tabPut s.prune.bankCopy b (bankRanges s (serving s b - 1) ws) } }
  | none =>
    let s := recordPrune 6 b cause (data (s.open 16) 0) s.used
    if serving s b = 0 then
      -- a spare that is being copied to: the take-over finds no next spare (R386)
      let hit := s.prune.bankCopy.any (fun (x, _) => decide (bankGroup x = bankGroup b))
      s.when hit (fun s => noSpare { s with prune := { s.prune with
        bankCopy := s.prune.bankCopy.filter (fun (x, _) => decide (bankGroup x ≠ bankGroup b)) } })
    else noSpare (spareRow b off s)

/-- BANK_COPY_DONE (R389): the spare takes the addresses of the bank, the words poisoned that were uncorrectable and have not been
written whole during the copy. -/
def execBankCopyDone (bank : Nat) (s : State) : Host.Outcome State Fault Refusal :=
  run (fun s =>
    match tabFind s.prune.bankCopy bank with
    | none => s
    | some ws =>
      let s := { s with prune := { s.prune with bankCopy := tabErase s.prune.bankCopy bank } }
      match freeSpare s (bankGroup bank) with
      | some sp => spareServes bank sp (poisonWords (serving s bank - 1) ws s)
      | none => s) s

/-- SRAM_CORRECTABLE_ERROR (R388): an error corrected in the row at a bank offset. -/
def execSramCorrectableError (bank off : Nat) (s : State) : Host.Outcome State Fault Refusal :=
  run (fun s =>
    if 296 ≤ bank ∨ 262144 ≤ off then s
    else
      let s := s.inc F.PRN_CE_CNT_count
      let k := bank * 512 + off / 512
      let n := tabGet s.prune.rowErrors k 0 + 1
      let s := { s with prune := { s.prune with rowErrors := tabPut s.prune.rowErrors k n } }
      if max 1 (s.get F.PRN_CE_CFG_thr) ≤ n then spareRow bank off s else s) s

/-! The other classes (R383). -/

/-- An Ethernet port is pruned (R410): its link is forced down. -/
def prunePort (p cause : Nat) (s : State) : State :=
  let up := s.on (F.ETH_STATUS_link_up p)
  let s := (recordPrune 7 p cause [] s).set (F.ETH_STATUS_pruned p) 1
  if up then wakeSource 1 25 p (linkLost p s) else dropPort p s

/-- A CCM* or KWP engine is pruned (R301). -/
def pruneEngine (f : Fld) (cls e cause : Nat) (s : State) : State :=
  let s := recordPrune cls e cause [] s
  (s.set f (clrBit (s.get f) e)).event F.HWD_STAT_engine_prune F.HWD_EVCNT_engine_prune_cnt

/-- A slot-engine instance is pruned (R192), and rejoins at no edge before it is re-admitted anew; with the second one the
engine stops, and no instance that waited for an edge has a survivor's state to copy. -/
def pruneInstance (i cause : Nat) (s : State) : State :=
  let s := recordPrune 10 i cause [] s
  let s := s.set (if i = 0 then F.SSE_PAIR_inst0 else F.SSE_PAIR_inst1) 0
  let up := s.on F.SSE_PAIR_inst0 || s.on F.SSE_PAIR_inst1
  let s := { s with sse := { s.sse with rejoin := if up then s.sse.rejoin.filter (fun k => k ≠ i) else [] } }
  if up then s.set F.SSE_PAIR_single 1 else ringNote 0x21 [] false s

/-- The pair disagrees (R192): the instances whose ECC or self-check reports an error are pruned, instance 1 where neither
does. -/
def pairMismatch (errs : List Nat) (s : State) : State :=
  if s.on F.SSE_PAIR_inst0 && s.on F.SSE_PAIR_inst1 then
    let l := [0, 1].filter (fun i => errs.contains i)
    each (if l.isEmpty then [1] else l) (fun i s => pruneInstance i 5 s) (s.event F.SSE_STAT_pair_mismatch F.SSE_EVCNT_pair_mismatch_cnt)
  else s

/-- A plan step in progress when its security cores stop (R349, R391): before Activate it is discarded, after it
the health check restarts, and no later step starts. -/
def interruptPlan (s : State) : State :=
  match s.grf.plan with
  | none => s
  | some p =>
    if p.activated && (p.type = 1 || p.type = 4) then failCheck [1, 4] { s with grf := { s.grf with plan := some { p with rest := [] } } }
    else if p.activated then { s with grf := { s.grf with plan := some { p with rest := [], ends := s.now + 120000000000 } } }
    else showStep 0 0 (abandonGen { s with grf := { s.grf with plan := none } })

/-- A key update in progress is cut, as by a power failure (R318): its command is lost. -/
def cutUpdate (s : State) : State :=
  match s.hwd.runs.find? (fun x => decide (x.2.op = 0x10) && x.2.waiting) with
  | some (c, _) =>
    let s := cutKeyUpdate true c s
    { s with hwd := { s.hwd with runs := s.hwd.runs.map (fun (k, r) => (k, if k = c then { r with waiting := false, status := stAborted } else r)) } }
  | none => s

/-- The pair of security cores is pruned (R391). -/
def pruneSecPair (cause : Nat) (s : State) : State :=
  let s := recordPrune 0x0B 0 cause [] s
  let s := interruptPlan (abortCmds (cutUpdate s))
  { s with prune := { s.prune with secRestarting := false } }

/-! Faults (R385, R386, R392). -/

/-- A re-admission ends (R393). -/
def endReadmit (cls inst : Nat) (ok : Bool) (s : State) : State :=
  let st := if ok then 0 else 2
  let s := { s with prune := { s.prune with readmit := none } }
  let s := ((s.set F.PRN_READMIT_busy 0).set F.PRN_READMIT_RESULT_done 1).set F.PRN_READMIT_RESULT_status st
  let s := (s.set F.PRN_READMIT_RESULT_class cls).set F.PRN_READMIT_RESULT_instance inst
  let s := if ok then s.set F.PRN_STAT_readmit_done 1 else s.event F.PRN_STAT_readmit_fail F.PRN_EVCNT_readmit_fail_cnt
  ringWrite s 2 cls inst (unitDomain s cls inst) 0 (leBytes 1 st) false

/-- A fault of a unit that is already pruned (R386): it is counted, and a re-admission self-test of it fails. -/
def faultPruned (cls inst : Nat) (s : State) : State :=
  let s := s.inc F.PRN_FENCE_DROP_CNT_count
  let s := s.when (decide (cls = 1)) (fun s =>
    let s := s.when ((tabFind s.lanes.tests inst).isSome) (stopTest inst 7)
    laneFaulted inst s)
  s.when (decide (s.prune.readmit = some (cls, inst))) (endReadmit cls inst false)

/-- One unit faults. -/
def faultUnit (f : UnitFault) (s : State) : State :=
  if unitCount f.cls ≤ f.inst then s
  else if f.cls = 10 ∧ f.cause = 5 then pairMismatch f.words s
  else if s.pruned f.cls f.inst then faultPruned f.cls f.inst s
  else if f.cls = 1 then pruneLane f.inst f.cause s
  else if f.cls = 2 then refreshFront (recordPrune 2 f.inst f.cause [] s)
  else if f.cls = 3 then pruneLimb f.inst f.cause s
  else if f.cls = 4 then pruneSlice f.inst f.cause true s
  else if f.cls = 5 then noteFirmware (recordPrune 5 f.inst f.cause [] s)
  else if f.cls = 6 then pruneBank f.inst f.cause f.off f.words s
  else if f.cls = 7 then prunePort f.inst f.cause s
  else if f.cls = 8 then pruneEngine F.HWD_ENGINE_ccm 8 f.inst f.cause s
  else if f.cls = 9 then pruneEngine F.HWD_ENGINE_kwp 9 f.inst f.cause s
  else if f.cls = 10 then pruneInstance f.inst f.cause s
  else pruneSecPair f.cause s

/-- Whether a fault is pruned before another of the same arbitration (R386). -/
def faultBefore (a b : UnitFault) : Bool :=
  decide (a.cls < b.cls) || (decide (a.cls = b.cls) && decide (a.inst < b.inst))

/-- Put a fault among the others of its arbitration: ascending, one of each unit with the lower cause. -/
def placeFault (f : UnitFault) (l : List UnitFault) : List UnitFault :=
  match l with
  | [] => [f]
  | x :: rest =>
    if faultBefore f x then f :: x :: rest
    else if f.cls = x.cls ∧ f.inst = x.inst then (if f.cause < x.cause then f else x) :: rest
    else x :: placeFault f rest

/-- UNIT_FAULT (R385, R386): the faults of one arbitration; where the instances of the prune controller disagree
on them, a PRUNE event of the controller freezes the ring (R392). -/
def execUnitFault (faults : List UnitFault) (disagree : Bool) (s : State) : Host.Outcome State Fault Refusal :=
  run (fun s =>
    let s := each (faults.foldr placeFault []) faultUnit s
    if disagree then ringWrite s 1 0 0 0 5 [] true else s) s

/-- STALL_WATCHDOG_EXPIRY (R16): the unit that holds the handshake domain faults with cause 2. -/
def execStallWatchdogExpiry (cls inst : Nat) (s : State) : Host.Outcome State Fault Refusal :=
  run (faultUnit ⟨cls, inst, 2, 0, []⟩) s

/-- PARTITION_MISMATCH (R81): the copies of a window's partition disagree; `reported` names the half whose ECC or
self-check reports the error, else the odd one is pruned.  Of a half that the spare serves, the partition is slice
8's own. -/
def execPartitionMismatch (window : Nat) (reported : Option Nat) (s : State) : Host.Outcome State Fault Refusal :=
  run (fun s =>
    if 4 ≤ window then s
    else
      let i := 2 * window + (match reported with | some h => h % 2 | none => 1)
      let s := s.event F.SPC_STAT_part_mismatch F.SPC_EVCNT_part_mismatch_cnt
      let i := if s.canopy.spare = .serving i ∨ s.canopy.spare = .returning i then 8 else i
      if s.pruned 4 i then faultPruned 4 i s else pruneSlice i 5 false s) s

/-! Lockstep (R391). -/

/-- LOCKSTEP_MISMATCH (R391): both security cores halt and restart; the third within 60 s prunes the pair. -/
def execLockstepMismatch (s : State) : Host.Outcome State Fault Refusal :=
  run (fun s =>
    if s.pruned 0x0B 0 then faultPruned 0x0B 0 s
    else
      let ts := s.prune.mismatchTimes.filter (fun t => decide (s.now ≤ t + 60000000000)) ++ [s.now]
      let s := { s with prune := { s.prune with mismatchTimes := ts } }
      if 3 ≤ ts.length then pruneSecPair 5 s
      else interruptPlan (cutUpdate { s with prune := { s.prune with secRestarting := true } })) s

/-- SEC_RESTART_DONE (R391): commands that waited go on, and material of a key update without a commit is discarded (R318). -/
def execSecRestartDone (s : State) : Host.Outcome State Fault Refusal :=
  run (fun s => recoverUpdate (failLate [4] 1000000000 { s with prune := { s.prune with secRestarting := false } })) s

/-! Re-admission (R393). -/

/-- A write of PRN_READMIT (R393). -/
def writeReadmit (v : Word) (s : State) : State :=
  let cls := wordField v 16 8
  let inst := wordField v 0 16
  let s := (s.set F.PRN_READMIT_class cls).set F.PRN_READMIT_instance inst
  let refuse (st : Nat) (s : State) : State :=
    ((s.set F.PRN_READMIT_RESULT_status st).set F.PRN_READMIT_RESULT_class cls).set F.PRN_READMIT_RESULT_instance inst
  if wordField v 31 1 = 0 then s
  else if s.prune.readmit.isSome then refuse 4 s
  else if unitCount cls ≤ inst then (refuse 3 s).set F.PRN_READMIT_RESULT_done 1
  else if !s.pruned cls inst then (refuse 1 s).set F.PRN_READMIT_RESULT_done 1
  else
    let s := (s.set F.PRN_READMIT_busy 1).set F.PRN_READMIT_RESULT_done 0
    let s := { s with prune := { s.prune with readmit := some (cls, inst) } }
    if cls = 1 ∧ (tabFind s.lanes.tests inst).isNone then startTest inst .readmission s else s

/-- PRN_READMIT (R393). -/
def execPrnReadmit (initiator cls inst : Nat) (s : State) : Host.Outcome State Fault Refusal :=
  let v := BitVec.ofNat 32 (2 ^ 31 + cls % 256 * 2 ^ 16 + inst % 65536)
  run (fun s => gated ⟨initiator, 0x60020, true, v⟩ (writeReadmit v) s) s

/-- A re-admitted slice (R67, R393): the spare hands back at the next edge; where it does not serve yet, or
nothing served, the slice works again. -/
def sliceReturns (i : Nat) (s : State) : State :=
  let w := i / 2
  let st := if s.on (F.CHZ_WIN_CFG_enable w) && decide (bits (s.get (F.CHZ_WIN_CFG_chain_mask w)) (8 * (i % 2)) 8 ≠ 0) then 1 else 0
  if i = 8 then s.set (F.CHZ_SLICE_state 8) 3
  else if s.canopy.spare = .serving i then { s with canopy := { s.canopy with spare := .returning i } }
  else
    let s := if spareFor s.canopy.spare = some i then spareStandby s else s
    refreshWindow w (s.set (F.CHZ_SLICE_state i) st)

/-- A re-admitted unit returns as its row of R393 says. -/
def unitReturns (cls inst : Nat) (s : State) : State :=
  let s := s.setPruned cls inst false
  if cls = 2 then refreshFront (s.setChain inst { s.chain inst with waitEdge := true })
  else if cls = 3 then
    ((clearEntries inst (fun _ => true) (s.setLimb inst {})).set (F.TXL_STATUS_state inst) 0).set (F.TXL_CTL_power inst) 0
  else if cls = 4 then sliceReturns inst s
  else if cls = 5 then { s with prune := { s.prune with stopped := s.prune.stopped.filter (fun c => c ≠ inst) ++ [inst] } }
  else if cls = 6 then
    let g := bankGroup inst
    if serving s inst ≠ 0 then s
    else
      let s := { s with prune := { s.prune with groupSpare := tabPut s.prune.groupSpare g inst } }
      (s.set (F.PRN_SPARE_BANK_in_use g) 0).set (F.PRN_SPARE_BANK_serves g) inst
  else if cls = 7 then s.set (F.ETH_STATUS_pruned inst) 0
  else if cls = 8 then s.set F.HWD_ENGINE_ccm (setBit (s.get F.HWD_ENGINE_ccm) inst)
  else if cls = 9 then s.set F.HWD_ENGINE_kwp (setBit (s.get F.HWD_ENGINE_kwp) inst)
  else if cls = 10 then { s with sse := { s.sse with rejoin := s.sse.rejoin ++ [inst] } }
  else s

/-- READMIT_DONE (R393): the self-test of a re-admission ends, passed or not.  A lane's result is that of its
self-test (R115, R116); the pair of security cores stays pruned, which only POR_L ends (R391). -/
def execReadmitDone (pass : Bool) (s : State) : Host.Outcome State Fault Refusal :=
  run (fun s =>
    match s.prune.readmit with
    | none => s
    | some (cls, inst) =>
      if cls = 1 then
        if (tabFind s.lanes.tests inst).isSome then s
        else
          let ok := pass && decide (s.get (F.LNE_ST_RESULT_result inst) = 2) && !s.lanes.faulted.contains inst
          endReadmit cls inst ok (if ok then writeLneCtl inst 2#32 s else s)
      else if pass && decide (cls ≠ 0x0B) then endReadmit cls inst true (unitReturns cls inst s)
      else endReadmit cls inst false s) s

/-! Injection (R394). -/

/-- Prune a unit by injection where it is permitted; a bank's offset is left open. -/
def inject (allowed : Bool) (cls inst : Nat) (s : State) : State :=
  if !allowed || decide (unitCount cls ≤ inst) then s.set F.PRN_STAT_inject_refused 1
  else faultUnit ⟨cls, inst, 7, s.open 18, []⟩ s.used

/-- A write of PRN_INJECT (R394). -/
def writeInject (initiator : Nat) (v : Word) (s : State) : State :=
  let cls := wordField v 16 8
  let inst := wordField v 0 16
  let s := (s.set F.PRN_INJECT_class cls).set F.PRN_INJECT_instance inst
  if wordField v 31 1 = 0 then s
  else inject (decide (lifecycle s ≤ 2) || (decide (initiator = 6) && s.mon.session.isSome)) cls inst s

/-- PRN_INJECT (R394). -/
def execPrnInject (initiator cls inst : Nat) (s : State) : Host.Outcome State Fault Refusal :=
  let v := BitVec.ofNat 32 (2 ^ 31 + cls % 256 * 2 ^ 16 + inst % 65536)
  run (fun s => gated ⟨initiator, 0x60030, true, v⟩ (writeInject initiator v) s) s

/-! Lanes by LNE_CTL (R115, R116). -/

/-- A write of a lane's LNE_CTL. -/
def laneCtl (initiator n : Nat) (v : Word) (s : State) : State :=
  if 544 ≤ n then s else gated ⟨initiator, 0x1C0000 + 0x100 * n, true, v⟩ (writeLneCtl n v) s

/-- LANE_SELFTEST (R115). -/
def execLaneSelftest (initiator lane : Nat) (s : State) : Host.Outcome State Fault Refusal := run (laneCtl initiator lane 1#32) s

/-- LANE_READMIT (R116). -/
def execLaneReadmit (initiator lane : Nat) (s : State) : Host.Outcome State Fault Refusal := run (laneCtl initiator lane 2#32) s

/-! Crossings and the sampling clock (R12, R13, R59). -/

/-- Whether a crossing can overflow (R11). -/
def canOverflow (n : Nat) : Bool := decide (n ≤ 3) || decide (n = 12) || (decide (14 ≤ n) && decide (n ≤ 17))

/-- FIFO_OVERFLOW (R12): an overflow episode of a crossing, with the entries it discarded. -/
def execFifoOverflow (crossing count : Nat) (s : State) : Host.Outcome State Fault Refusal :=
  run (fun s =>
    if canOverflow crossing then
      let c := max 1 count
      let s := (s.add (F.GLB_FIFO_OVF_CNT_count crossing) c).event F.GLB_STAT_fifo_ovf F.GLB_EVCNT_fifo_ovf_cnt
      ringNote 0x10 (leBytes 1 crossing ++ leBytes 4 (min c 0xFFFFFFFF)) false s
    else s) s

/-- GAP_MARK (R13, R260): the consumer of a crossing meets a gap mark; `inFrame` says that an Ethernet frame is in
progress at it. -/
def execGapMark (crossing : Nat) (inFrame : Bool) (s : State) : Host.Outcome State Fault Refusal :=
  run (fun s =>
    if crossing ≤ 3 then gapWindow crossing s
    else if crossing = 12 then
      let s := loseStamp s
      { s with time := { s.time with ppsGap := true } }
    else if 14 ≤ crossing ∧ crossing ≤ 17 ∧ inFrame = true then
      let p := crossing - 14
      (s.inc (F.ETH_RX_DROP_CNT_count p)).set (F.ETH_STAT_rx_drop p) 1
    else s) s

/-- CNVCLK_FAIL (R59): CNVCLK, watched while it is the source in use, fails.  Where the converters stop, active_src
keeps reading 1, CNVCLK is watched no more and the windows read not filled (notes/assumptions/114, DESIGN CHOICE). -/
def execCnvclkFail (s : State) : Host.Outcome State Fault Refusal :=
  run (fun s =>
    if s.on F.CNP_CLK_active_src && !s.canopy.stopped then
      let fb := s.get F.CNP_CLK_fallback
      let s := ringNote 0x11 [BitVec.ofNat 8 fb] false (s.event F.CNP_STAT_clk_fail F.CNP_EVCNT_clk_fail_cnt)
      let s := each (upTo 4) gapWindow s
      if fb = 1 then ((s.set F.CNP_CLK_active_src 0).set F.CNP_CLK_fell_back 1)
      else each (upTo 4) unfill { s.set F.CNP_CLK_locked 0 with canopy := { s.canopy with stopped := true } }
    else s) s

/-! The ring record (R398, R399). -/

/-- Freeze the ring by hand: F is the newest event, and nothing is protected where there is none. -/
def manualFreeze (s : State) : State :=
  let f := (s.get F.RRC_HEAD_index + 4095) % 4096
  ringFreeze s f (if s.ring.any then min (ringKeep s) s.ring.events.length else 0)

/-- A write of RRC_CTL (R398): with both bits the ring ends frozen at the new F. -/
def writeRrcCtl (v : Word) (s : State) : State :=
  let s := (s.set F.RRC_CTL_page (wordField v 8 1)).set F.RRC_CTL_src (wordField v 4 1)
  let s := if wordField v 0 1 = 1 then
      { s.set F.RRC_FREEZE_frozen 0 with ring := { s.ring with protFrom := 0, protCount := 0 } } else s
  if wordField v 1 1 = 1 ∧ s.get F.RRC_FREEZE_frozen = 0 then manualFreeze s else s

/-- A write of RRC_CTL that keeps its page and source. -/
def rrcCtl (initiator bitsSet : Nat) (s : State) : State :=
  let v := BitVec.ofNat 32 (s.get F.RRC_CTL_page * 256 + s.get F.RRC_CTL_src * 16 + bitsSet)
  gated ⟨initiator, 0x61024, true, v⟩ (writeRrcCtl v) s

/-- RRC_FREEZE (R398). -/
def execRrcFreeze (initiator : Nat) (s : State) : Host.Outcome State Fault Refusal := run (rrcCtl initiator 2) s

/-- RRC_UNFREEZE (R398). -/
def execRrcUnfreeze (initiator : Nat) (s : State) : Host.Outcome State Fault Refusal := run (rrcCtl initiator 1) s

/-- Show the newest valid flush. -/
def showFlush (s : State) : State :=
  match newestFlush s with
  | none => (s.setReg 0x61034 0#32).set F.RRC_FLUSH_SEQ_flush_seq 0
  | some f =>
    let slot := if (tabFind s.ring.flushes 0) = some f then 0 else 1
    (((s.set F.RRC_FLUSH_valid 1).set F.RRC_FLUSH_slot slot).set F.RRC_FLUSH_head f.head).set F.RRC_FLUSH_SEQ_flush_seq f.flushSeq

/-- PFAIL_FALL (R399): PFAIL_L has been low for 1 µs.  The BROWNOUT event freezes the ring, and its copy goes to
the slot that does not hold the newest valid flush. -/
def execPfailFall (s : State) : Host.Outcome State Fault Refusal :=
  run (fun s =>
    let s : State := { s with board := { s.board with pfailLow := true } }
    if s.ring.copying.isSome || !s.ring.sinceFlush then s
    else
      let t := ringTime s
      let s := ringNote 0x50 [] true s
      let slot := match newestFlush s with
        | some _ => 1 - s.get F.RRC_FLUSH_slot
        | none => (s.open 1)
      let s := if (newestFlush s).isSome then s else s.used
      let f : RrFlush := ⟨[0x42#8, 0x58#8, 0x52#8, 0x46#8], 1, s.get F.RRC_FLUSH_SEQ_flush_seq + 1, s.get F.RRC_HEAD_index, s.get F.RRC_FREEZE_f,
        (s.get F.RRC_SEQ_seq + 2 ^ 32 - 1) % 2 ^ 32, s.nv.boots, t, s.ring.events, 0⟩
      let f := { f with crc := tornCrc s f.sum }
      let s := s.used
      { s with ring := { s.ring with flushes := tabPut s.ring.flushes slot f, copying := some slot, sinceFlush := false } }) s

/-- RR_FLUSH_DONE (R399): the copy of the ring to MRAM completes. -/
def execRrFlushDone (s : State) : Host.Outcome State Fault Refusal :=
  run (fun s =>
    match s.ring.copying with
    | none => s
    | some slot =>
      let fl := s.ring.flushes.map (fun (k, (f : RrFlush)) => (k, if k = slot then ({ f with crc := f.sum } : RrFlush) else f))
      let s := { s with ring := { s.ring with flushes := fl, copying := none } }
      showFlush (s.event F.RRC_STAT_flushed F.RRC_EVCNT_flush_cnt)) s

/-- PFAIL_L_RISE (R322, R399): the part runs on with the ring frozen. -/
def execPfailLRise (s : State) : Host.Outcome State Fault Refusal :=
  run (fun s => { s with board := { s.board with pfailLow := false } }) s

end Sys2Proof.Machine
end

