-- ==== Sys2Proof/Machine/TableDma.lean ====
section
/-!
DEFINITION. Table DMA (R209 to R212), the ager's sweep, the Learning Table's seed and the grove set
table's two-word writes.
-/

namespace Sys2Proof.Machine

/-- A table DMA descriptor (R210). -/
structure DmaDesc where
  op : Nat
  table : Nat
  count : Nat
  index : Nat
  buf : Nat
  mask : Nat
  deriving DecidableEq, Repr

/-- The descriptor in 32 bytes. -/
def dmaDesc (l : List Byte) : DmaDesc := ⟨byteAt l 0, byteAt l 1, leAt l 2 2, leAt l 4 4, leAt l 8 8, leAt l 16 8⟩

/-- Bytes of a row and rows of a table. -/
def rowBytes (table : Nat) : Nat := if table = 0 then 192 else if table = 1 then 32 else 8
def tableRows (table : Nat) : Nat := if table = 0 then 131072 else if table = 1 then 262144 else 524288

/-- Whether a descriptor is out of range (R212). -/
def badDesc (d : DmaDesc) : Bool :=
  if d.op = 1 ∨ d.op = 2 then
    decide (2 < d.table) || decide (d.op = 2 ∧ d.table = 1) || decide (d.count < 1 ∨ 16 < d.count)
      || decide (tableRows d.table < d.index + d.count)
  else decide (d.op < 3 ∨ 5 < d.op) || decide (d.table ≠ 1) || decide (d.count ≠ 1)

/-- Bytes of input data a descriptor reads, and of output data it writes after them. -/
def dmaInput (d : DmaDesc) : Nat :=
  if d.op = 1 then 0 else if d.op = 2 then d.count * rowBytes d.table else 32

/-- A row of a table in bytes. -/
def rowOf (s : State) (table n : Nat) : List Byte :=
  if table = 0 then bytesOfWords ((upTo 48).map (leafWord s n))
  else if table = 1 then learnBytes (learnEntry s n)
  else bytesOfWords ((upTo 2).map (cellWord s n))

/-- Write the words of a row that the mask selects; mask 0 selects every word (R210).  Reserved words and bits that R196 lists
as 0 take the bits given (DESIGN CHOICE, notes/assumptions/161); bursts to a leaf that the row takes out of DRIFTED stop (R189). -/
def writeRow (table n mask : Nat) (row : List Byte) (s : State) : State :=
  let words := rowBytes table / 4
  let ws := (upTo words).filterMap (fun k =>
    if mask = 0 ∨ bit mask k = true then some (k, leAt row (4 * k) 4) else none)
  if table = 0 then (writeLeaf n ws s).when (decide (leafState s n = 4)) (stopBursts n) else writeCell n ws s

/-- Write `rows` rows of a WRITE descriptor, lowest index first (R211). -/
def writeRows (d : DmaDesc) (data : List Byte) (rows : Nat) (s : State) : State :=
  each (upTo rows) (fun i s => writeRow d.table (d.index + i) d.mask (slice data (rowBytes d.table * i) (rowBytes d.table)) s) s

/-- A descriptor's outcome: status, rows completed, entry index. -/
structure DmaResult where
  status : Nat
  rows : Nat
  index : Nat
  deriving DecidableEq, Repr

/-- Carry out a descriptor that is in range, with its input data; `stop` is the number of rows after
which its locks time out, if they do (R211). -/
def dmaApply (d : DmaDesc) (data : List Byte) (stop : Option Nat) (s : State) : DmaResult × State :=
  if d.op = 1 then
    let rows := min d.count (stop.getD d.count)
    let out := (upTo rows).flatMap (fun i => rowOf s d.table (d.index + i))
    let (_, s) := dramStore 5 d.buf out s
    (⟨if stop.isSome then 5 else 0, rows, 0⟩, s)
  else if d.op = 2 then
    let rows := min d.count (stop.getD d.count)
    (⟨if stop.isSome then 5 else 0, rows, 0⟩, writeRows d data rows s)
  else if stop.isSome then (⟨5, 0, 0⟩, s)
  else if d.op = 3 then
    let e := learnImage data
    let (r, s) := insert e s
    match r with
    | .placed n => (⟨0, 1, n⟩, s)
    | .replaced n => (⟨1, 1, n⟩, s)
    | .evicted n v =>
      let (_, s) := dramStore 5 (d.buf + 32) (learnBytes v) s
      (⟨3, 1, n⟩, s)
    | .noRoom => (⟨4, 0, 0⟩, (s.event F.LRN_STAT_insert_fail F.LRN_EVCNT_insert_fail_cnt))
  else
    let key := learnImage data
    match findEntry s key.type key.key with
    | none => (⟨2, 0, 0⟩, s)
    | some (n, e) =>
      if d.op = 4 then (⟨0, 1, n⟩, putLearn n {} s)
      else
        let (_, s) := dramStore 5 d.buf (learnBytes e) s
        (⟨0, 1, n⟩, s)

/-- The result of a descriptor (R210 to R212): its range, its buffer, which PD_DDR may fence (R373), the table's fence, then the
operation. -/
def dmaRun (ue : List Nat) (d : DmaDesc) (stop : Option Nat) (s : State) : DmaResult × State :=
  if badDesc d then (⟨6, 0, 0⟩, s)
  else
    let size := if d.op = 1 then d.count * rowBytes d.table else if d.op = 3 then 64 else dmaInput d
    let (open_, s) := hwAccess 26 5 (d.buf % 2 ^ 32) (decide (d.op ≠ 2)) s
    if !open_ then (⟨8, 0, 0⟩, s)
    else if !s.dramOk d.buf size then (⟨7, 0, 0⟩, s)
    else
      let (data, s) := if dmaInput d = 0 then (some [], s) else dramFetch ue 5 d.buf (dmaInput d) s
      match data with
      | none => (⟨7, 0, 0⟩, s)
      | some data =>
        let (open_, s) := hwAccess (if d.table = 0 then 7 else 8) 5 0 true s
        if !open_ then (⟨8, 0, 0⟩, s) else dmaApply d data stop s

/-- Whether a status counts as an error (R212). -/
def dmaError (st : Nat) : Bool := !(st = 0 || st = 1 || st = 3)

/-- Where a ring's next descriptor lies. -/
def dmaAddr (s : State) (r : Nat) : Nat :=
  s.pair (F.LFT_DMA_BASE_LO_addr r) (F.LFT_DMA_BASE_HI_addr r) / 32 * 32 + 32 * s.get (F.LFT_DMA_TAIL_index r)

/-- Descriptors of a ring. -/
def dmaSize (s : State) (r : Nat) : Nat := ringSize (s.get (F.LFT_DMA_CFG_log2_size r))

/-- Whether a ring has a descriptor that is not completed. -/
def dmaHolds (s : State) (r : Nat) : Bool :=
  decide (s.get (F.LFT_DMA_TAIL_index r) % dmaSize s r ≠ s.get (F.LFT_DMA_HEAD_index r) % dmaSize s r)

/-- Whether a ring has a descriptor to execute (R209). -/
def dmaWaits (s : State) (r : Nat) : Bool := s.on (F.LFT_DMA_CFG_en r) && dmaHolds s r

/-- Execute the descriptor at a ring's tail: its completion, then the tail, the flags and the counts
(R209, R211, R212). -/
def dmaOne (ue : List Nat) (r : Nat) (stop : Option Nat) (s : State) : State :=
  if !dmaHolds s r then s
  else
    let s : State := { s with tables := { s.tables with lastRing := r } }
    let a := dmaAddr s r
    let (raw, s) := dramFetch ue 5 a 32 s
    let (res, s) : DmaResult × State :=
      match raw with
      | none => (⟨7, 0, 0⟩, s)
      | some l => dmaRun ue (dmaDesc l) stop s
    let word := 2 ^ 31 + res.status * 2 ^ 24 + res.rows * 2 ^ 19 + res.index
    let (_, s) := dramStore 5 (a + 28) (leBytes 4 word) s
    let s := s.set (F.LFT_DMA_TAIL_index r) ((s.get (F.LFT_DMA_TAIL_index r) + 1) % dmaSize s r)
    let s := (s.set F.LFT_STAT_dma_done 1).inc F.LFT_DMA_DONE_CNT_count
    let s := if dmaError res.status then s.event F.LFT_STAT_dma_err F.LFT_EVCNT_dma_err_cnt else s
    if res.status = 5 then (s.inc F.LFT_LOCK_TO_CNT_count).event F.LFT_STAT_lock_timeout F.LFT_EVCNT_lock_to_cnt else s

/-- The ring whose descriptor the engine takes next: the one that did not run last, where it has work (R209). -/
def dmaTurn (s : State) : Option Nat :=
  let r := 1 - s.tables.lastRing
  if dmaWaits s r then some r else if dmaWaits s (1 - r) then some (1 - r) else none

/-- Execute at most `n` descriptors, alternating between the rings that have work. -/
def dmaSome (ue : List Nat) (n : Nat) (s : State) : State :=
  match n with
  | 0 => s
  | n + 1 =>
    match dmaTurn s with
    | none => s
    | some r => dmaSome ue n (dmaOne ue r none s)

/-- A ring's head is written, and the engine executes up to `n` descriptors before the next command. -/
def writeDmaHead (ue : List Nat) (r : Nat) (v : Word) (n : Nat) (s : State) : State :=
  dmaSome ue n (s.set (F.LFT_DMA_HEAD_index r) (bits v.toNat 0 12))

/-- DMA_HEAD_ADVANCE (R209). -/
def execDmaHeadAdvance (initiator ring head done : Nat) (ue : List Nat) (s : State) : Host.Outcome State Fault Refusal :=
  run (gated ⟨initiator, 0x30010C + 32 * ring, true, BitVec.ofNat 32 head⟩
    (writeDmaHead ue ring (BitVec.ofNat 32 head) done)) s

/-- DMA_LOCK_TIMEOUT (R211): the descriptor at a ring's tail has changed `rows` rows when 4 µs elapse; one that runs when PERST_L
stops its ring completes all the same (R413). -/
def execDmaLockTimeout (ring rows : Nat) (s : State) : Host.Outcome State Fault Refusal :=
  run (dmaOne [] ring (some rows)) s

/-- AGE_SWEEP (R203): the ager visits every entry, in index order. -/
def execAgeSweep (s : State) : Host.Outcome State Fault Refusal :=
  run (fun s =>
    let (ok, s) := hwAccess 8 6 0x2800000 true s
    let listed := s.tables.learn.map Prod.fst
    let lost := ((s.prune.poisoned.filter (fun r => decide (r.use = 1))).flatMap
      (fun r => (upTo (r.count / 4 + 1)).map (r.first / 4 + ·))).filter (fun n => !listed.contains n)
    if ok then each (listed ++ lost) ageEntry s else s) s

/-- LRN_SEED_WRITE (R208): word 0 is LRN_SEED_LO, word 1 LRN_SEED_HI. -/
def execLrnSeedWrite (initiator word : Nat) (value : Word) (s : State) : Host.Outcome State Fault Refusal :=
  run (gated ⟨initiator, 0x340004 + 4 * (word % 2), true, value⟩ (writeSeed (0x340004 + 4 * (word % 2)) value)) s

/-- BGH_SET_STAGE (R213): a write to word +4 of a set entry. -/
def execBghSetStage (initiator set : Nat) (value : Word) (s : State) : Host.Outcome State Fault Refusal :=
  run (gated ⟨initiator, 0x368004 + 8 * set, true, value⟩ (writeSet (0x368004 + 8 * set) value)) s

/-- BGH_SET_COMMIT (R213): a write to word +0 of a set entry. -/
def execBghSetCommit (initiator set : Nat) (value : Word) (s : State) : Host.Outcome State Fault Refusal :=
  run (gated ⟨initiator, 0x368000 + 8 * set, true, value⟩ (writeSet (0x368000 + 8 * set) value)) s

end Sys2Proof.Machine
end

