-- ==== Sys2Proof/Machine/Writes.lean ====
section
/-!
DEFINITION. What a word access to a BAR0 offset does once its domain lets it through (R6 to R8, R24): the write
of every register, with the effects its block gives it, and the read of every register, with the views the part
computes.
-/

namespace Sys2Proof.Machine

/-! Reads. -/

/-- A domain's state as PWR_DOM_STATE codes it. -/
def domCode (st : DomState) : Nat :=
  match st with
  | .off => 0
  | .ret => 1
  | .on => 2
  | _ => 3

/-- Sixteen domains' codes in one word. -/
def domainWord (f : Nat → Nat) (i : Nat) : Word :=
  BitVec.ofNat 32 (((upTo 16).map (fun k => if 16 * i + k < 28 then f (16 * i + k) * 4 ^ k else 0)).sum)

/-- A word of the ring-record window (R400): `d` bytes from its start. -/
def ringWindow (s : State) (d : Nat) : Word :=
  match tabFind (sourceEvents s).1 (2048 * s.get F.RRC_CTL_page + d / 32) with
  | some e => BitVec.ofNat 32 (leAt (eventBytes e) (d % 32) 4)
  | none => 0#32

/-- Autopilot's age in seconds. -/
def autopilotSeconds (s : State) : Nat := if s.on F.SSE_AP_active then min 65535 ((s.now - s.sse.apSince) / 1000000000) else 0

/-- The account registers of RGP (R151, R152): `d` bytes from 0x24_2000. -/
def accountWord (s : State) (d : Nat) : Word :=
  let p := s.rgp.inForce
  let r := d / 16
  if rangeCount p ≤ r then 0#32
  else if d % 16 = 0 then BitVec.ofNat 32 (dutyUsed s r / 3)
  else if d % 16 = 4 then BitVec.ofNat 32 (dutyLimit p r / 3)
  else if d % 16 = 8 ∧ dwellWindow p r ≠ 0 then BitVec.ofNat 32 (dwellCount p r * 65536 + dwellFirst p r)
  else 0#32

/-- RGP_DWELL_USED[k]. -/
def dwellWord (s : State) (k : Nat) : Word :=
  let p := s.rgp.inForce
  match (rangesOf p).find? (fun r => decide (dwellFirst p r ≤ k ∧ k < dwellFirst p r + dwellCount p r)) with
  | some r => BitVec.ofNat 32 (dwellUsed s r (k - dwellFirst p r) / 3)
  | none => 0#32

/-- The level at coexistence pin 3w + k, whoever owns it (R425): what the GPIO block or the set's frames drive (R140),
else what stands at the ball, which is left open. -/
def cxLevel (s : State) (i : Nat) : Bool :=
  let w := i / 3
  if gpioOwns s 3 i && bit (s.get F.PIN_CX_DIR_bits) i then bit (s.get F.PIN_CX_OUT_bits) i
  else if s.on (F.TXL_CX_CTL_active w) && decide (i % 3 = 0) then !(coexHolds s w).isEmpty
  else if s.on (F.TXL_CX_CTL_active w) && decide (i % 3 = 2) then (coexHolds s w).any CxHold.pri
  else bit (s.open 12) i

/-- A word of the MSI-X table or its PBA (R411): `d` bytes from the table's start. -/
def msixWord (s : State) (d : Nat) : Word :=
  if d < 0x400 then
    let e := tabGet s.tap.msix (d / 16) {}
    let v := if d % 16 = 0 then e.addr else if d % 16 = 4 then e.addr / 2 ^ 32 else if d % 16 = 8 then e.data else b2n e.masked
    BitVec.ofNat 32 v
  else if d = 0x8000 then BitVec.ofNat 32 (maskOf (s.tap.pba.filter (fun v => decide (v < 32))))
  else if d = 0x8004 then BitVec.ofNat 32 (maskOf ((s.tap.pba.filter (fun v => decide (32 ≤ v))).map (fun v => v - 32)))
  else 0#32

/-- A word of the table windows (R24). -/
def tableWord (s : State) (off : Nat) : Word :=
  if off < 0x2800000 then tabGet s.tables.leaf ((off - 0x1000000) / 4) 0#32
  else if off < 0x3000000 then
    BitVec.ofNat 32 (leAt (learnBytes (learnEntry s ((off - 0x2800000) / 32))) ((off - 0x2800000) % 32) 4)
  else tabGet s.tables.cells ((off - 0x3000000) / 4) 0#32

/-- The views of PD_AON blocks that the part computes. -/
def aonView (s : State) (off : Nat) : Option Word :=
  if off = 0x40040 ∨ off = 0x40044 then some (domainWord (fun d => domCode (s.dom d).st) ((off - 0x40040) / 4))
  else if off = 0x40048 ∨ off = 0x4004C then some (domainWord (allowed s) ((off - 0x40048) / 4))
  else if off = 0x40050 then some (BitVec.ofNat 32 (maskOf ((upTo 28).filter (fun d => s.on (F.PWR_DOM_CFG_autowake d)))))
  else if 0x40100 ≤ off ∧ off < 0x40170 then some (wordSet (s.reg off) 8 1 (b2n (held s ((off - 0x40100) / 4))))
  else if 0x70000 ≤ off ∧ off < 0x80000 then some (ringWindow s (off - 0x70000))
  else if off = 0xA0028 then some (BitVec.ofNat 32 (maskOf ((upTo 32).filter (gpioLevel s))))
  else if off = 0xA0038 then some (BitVec.ofNat 32 (maskOf ((upTo 12).filter (cxLevel s))))
  else if 0xA0100 ≤ off ∧ off < 0xA01B8 then some (BitVec.ofNat 32 (pinOwner s ((off - 0xA0100) / 4)))
  else if off = 0x420004 then some (wordSet (s.reg off) 30 1 (b2n (!s.on F.BRK_CTL_boot_done)))
  else if off = 0x5E0000 then
    (match s.mon.session with
    | some x => some (BitVec.ofNat 32 (2 ^ 31 + b2n (x.signer ≠ 0) * 2 ^ 30 + b2n s.mon.lockout * 2 ^ 29 + min 65535 (ceilDiv (x.ends - s.now) 1000000000)))
    | none => some (BitVec.ofNat 32 (b2n s.mon.lockout * 2 ^ 29)))
  else none

/-- The views of PD_TIME blocks that the part computes. -/
def timeView (s : State) (off : Nat) : Option Word :=
  if off = 0x80000 then some (BitVec.ofNat 32 s.time.ns)
  else if off = 0x80004 then some (BitVec.ofNat 32 (s.time.ns / 2 ^ 32))
  else if off = 0x80008 then some (BitVec.ofNat 32 s.time.frac)
  else if off = 0x90024 then some (BitVec.ofNat 32 (unitSum s))
  else if off = 0x90028 then some (BitVec.ofNat 32 (linkRecords s).length)
  else if 0x92000 ≤ off ∧ off < 0x94000 then some (BitVec.ofNat 32 (leAt ((linkRecords s).getD ((off - 0x92000) / 8) []) ((off - 0x92000) % 8) 4))
  else if 0x91000 ≤ off ∧ off < 0x92000 ∧ (off - 0x91000) % 0x80 = 0x10 then
    some (wordSet (s.reg off) 16 16 (s.owner 4 ((off - 0x91000) / 0x80)))
  else none

/-- TRF_SHP[i] +0x14: the integer part of a shaper's present credit (R235). -/
def creditWord (s : State) (i : Nat) : Word :=
  let x := if s.on (F.TRF_SHP0_en i) then shaperNow s i else tabGet s.traffic.shapers i {}
  BitVec.ofNat 32 (unsigned 32 (x.credit.fdiv 256))

/-- The views of the other blocks that the part computes. -/
def blockView (s : State) (off : Nat) : Option Word :=
  if 0x148000 ≤ off ∧ off < 0x14A000 then some (qmapWord s (off - 0x148000))
  else if 0x241000 ≤ off ∧ off < 0x241200 then some (BitVec.ofNat 32 (leAt s.rgp.inForce (off - 0x241000) 4))
  else if 0x242000 ≤ off ∧ off < 0x2420C0 then some (accountWord s (off - 0x242000))
  else if 0x244000 ≤ off ∧ off < 0x245000 then some (dwellWord s ((off - 0x244000) / 4))
  else if off = 0x28000C then some (wordSet (s.reg off) 16 16 (autopilotSeconds s))
  else if 0x288000 ≤ off ∧ off < 0x28A000 then
    some (BitVec.ofNat 32 (tabGet s.tables.events ((off - 0x288000) / 8) 0 / 2 ^ (32 * ((off / 4) % 2))))
  else if 0x300020 ≤ off ∧ off < 0x30003C then some (BitVec.ofNat 32 (stateCount s ((off - 0x300020) / 4)))
  else if off = 0x340030 then some (BitVec.ofNat 32 (stashUsed s * 2 ^ 21 + learnUsed s))
  else if off = 0x380034 then some (BitVec.ofNat 32 (s.get F.TRF_CELLS_cells - s.traffic.held.length))
  else if 0x381000 ≤ off ∧ off < 0x381C00 ∧ off % 0x20 = 0x14 then some (creditWord s ((off - 0x381000) / 0x20))
  else if 0x5D0000 ≤ off ∧ off < 0x5D8008 then some (msixWord s (off - 0x5D0000))
  else if 0x1000000 ≤ off ∧ off < 0x3400000 then some (tableWord s off)
  else none

/-- What a read of an offset returns where the read changes nothing (R8, R24): 0 outside every register. -/
def regRead (s : State) (off : Nat) : Word :=
  match aonView s off with
  | some w => w
  | none =>
    match timeView s off with
    | some w => w
    | none =>
      match blockView s off with
      | some w => w
      | none => s.reg off

/-- A read of an offset: a count of a timer unit, a captured value and the PPS capture change state with it. -/
def applyRead (off : Nat) (s : State) : Word × State :=
  let sub := (off - 0x91000) % 0x80
  if off = 0x80058 then readPpsCap s
  else if off = 0xA0038 then (regRead s off, s.used)
  else if 0x91000 ≤ off ∧ off < 0x92000 ∧ (sub = 12 ∨ (0x40 ≤ sub ∧ sub % 16 = 4)) then readTmu off s
  else (regRead s off, s)

/-! Writes. -/

/-- A write of a MASK register (R26): clearing a bit over a set flag raises the interrupt. -/
def writeMask (q : IrqSource) (v : Word) (s : State) : State :=
  let high := irqHigh s q
  let old := s.reg q.mask
  let s := writePlain q.mask v s
  let freed := (statWord s q.stat &&& old &&& ~~~(s.reg q.mask)).toNat &&& q.flags
  s.when (high && decide (freed ≠ 0)) (raiseIrq q.vector q.block)

/-- A write of the MASK of a chain or a timer unit (R26, R277), whose block shows it in one of its own flags. -/
def writeSubMask (stat mask flags : Nat) (evt : Fld) (q : IrqSource) (v : Word) (s : State) : State :=
  let high := irqHigh s q && !(s.reg q.mask).toNat.testBit evt.lsb
  let old := s.reg mask
  let s := writePlain mask v s
  let freed := (statWord s stat &&& old &&& ~~~(s.reg mask)).toNat &&& flags
  s.when (high && decide (freed ≠ 0)) (raiseIrq q.vector q.block)

/-- A ring's base and size are written only while it is not enabled; en is the bit 31 of its CFG. -/
def writeRing (cfg off : Nat) (v : Word) (s : State) : State :=
  if !(s.reg cfg).toNat.testBit 31 then writePlain off v s
  else if off = cfg then s.setReg cfg (wordSet (s.reg cfg) 31 1 (wordField v 31 1))
  else s

/-- How many descriptors of a to-part ring wait. -/
def hostWaiting (s : State) (k : Nat) : Nat :=
  let n := ringSize (s.get (F.TRF_HQ_TP_CFG_log2_size k))
  (s.get (F.TRF_HQ_TP_HEAD_index k) % n + n - s.get (F.TRF_HQ_TP_TAIL_index k) % n) % n

/-- A write of a host queue's registers (R233): `d` bytes from its first. -/
def writeHostQueue (k d : Nat) (v : Word) (s : State) : State :=
  let base := 0x380400 + 0x40 * k
  let run (s : State) : State := s.when (s.on (F.TRF_HQ_TP_CFG_en k)) (fun s => hostSome [] k (hostWaiting s k) s)
  if d = 0 ∨ d = 4 ∨ d = 8 then run (writeRing (base + 8) (base + d) v s)
  else if d = 0x0C then run (s.set (F.TRF_HQ_TP_HEAD_index k) (wordField v 0 12))
  else if d = 0x20 ∨ d = 0x24 ∨ d = 0x28 then
    let s := writeRing (base + 0x28) (base + d) v s
    deliverHost k (tabGet s.traffic.hosts k []).length s
  else if d = 0x30 then writeHostTail k (wordField v 0 12) s
  else writePlain (base + d) v s

/-- A write of a table DMA ring's registers (R209): `d` bytes from its first. -/
def writeDmaRing (r d : Nat) (v : Word) (s : State) : State :=
  let base := 0x300100 + 0x20 * r
  if d = 0x0C then writeDmaHead [] r v 8192 s
  else dmaSome [] 8192 (writeRing (base + 8) (base + d) v s)

/-- A write of SSE_TP_CFG (R190, R191): enabling takes the first candidate that is enabled and not lost; one that takes
the active candidate away changes the time parent, or leaves none (R248), DEDUCED, entry 131. -/
def writeTpCfg (v : Word) (s : State) : State :=
  let a := s.get F.SSE_TP_STATUS_active
  let s := writePlain 0x28005C v s
  let hold (cause : Nat) (s : State) : State := s.when (decide (a < 4 ∧ s.get F.TMB_REF_src = 2)) (enterHoldover cause)
  if s.get F.SSE_TP_CFG_en = 0 then hold 2 (s.set F.SSE_TP_STATUS_active 7)
  else if a < 4 ∧ bit (s.get F.SSE_TP_CFG_cand_en) a = true then s
  else
    match firstBelow 4 (fun i => bit (s.get F.SSE_TP_CFG_cand_en) i && !s.on (F.SSE_TP_CAND_lost i)) with
    | some i => hold 3 (takeParent i s)
    | none => if a < 4 then noParent s else s.set F.SSE_TP_STATUS_active 7

/-- A write of a mailbox ring's registers (R416). -/
def writeMailbox (off : Nat) (v : Word) (s : State) : State :=
  let s := if off < 0x5C010C then writeRing 0x5C0108 off v s
    else if 0x5C0120 ≤ off ∧ off < 0x5C012C then writeRing 0x5C0128 off v s
    else writePlain off v s
  pumpMail (s.tap.outbox.length + 1) s

/-- A write of the MSI-X table (R411, R415): an unmasked vector that is pending is sent. -/
def writeMsix (d : Nat) (v : Word) (s : State) : State :=
  if 0x400 ≤ d then s
  else
    let k := d / 16
    let e := tabGet s.tap.msix k {}
    let x := v.toNat
    let e := if d % 16 = 0 then { e with addr := e.addr / 2 ^ 32 * 2 ^ 32 + x }
      else if d % 16 = 4 then { e with addr := e.addr % 2 ^ 32 + x * 2 ^ 32 }
      else if d % 16 = 8 then { e with data := x }
      else { e with masked := x.testBit 0 }
    sendPending k { s with tap := { s.tap with msix := tabPut s.tap.msix k e } }

/-- A write of MON_CTL (R402, R404). -/
def writeMonCtl (v : Word) (s : State) : State :=
  let s := writePlain 0x5E0020 v s
  let s := { s with mon := { s.mon with privOff := s.on F.MON_CTL_priv_off } }
  s.when (v.toNat.testBit 0) endSession

/-- A lane pool's registers (R94): dropped where the plan defines no such pool, and LNE_POOL_FSK where the pool
is not SUN-FSK. -/
def writePool (off : Nat) (v : Word) (s : State) : State :=
  let p := (off - 0x1E2100) / 16
  match s.pools[p]? with
  | none => s
  | some x => if off % 16 = 8 ∧ x.format ≠ 0 then s else writePlain off v s

/-- The formats that have a lane pool, as bits of SRH_WIN_FMT (R82). -/
def formatBits (s : State) : Nat := maskOf ((upTo 3).filter (formatHasPool s))

/-- Writes of the always-on blocks. -/
def writeAon (initiator off : Nat) (v : Word) (s : State) : State :=
  if 0x100 ≤ off ∧ off < 0x180 then (if canOverflow ((off - 0x100) / 4) then writePlain off v s else s)
  else if 0x40020 ≤ off ∧ off < 0x4003C then writeBudget ((off - 0x40020) / 4) v s
  else if off = 0x40070 then writeDvfs v none s
  else if off = 0x40078 then writeAvsCfg v s
  else if off = 0x400B0 then writeBudCfg v s
  else if off = 0x40080 ∨ off = 0x40084 then writePlain off (v ||| 0x800#32) s
  else if 0x40100 ≤ off ∧ off < 0x40170 then writeForce ((off - 0x40100) / 4) v s
  else if off = 0x60020 then writeReadmit v s
  else if off = 0x60030 then writeInject initiator v s
  else if off = 0x61020 then writePlain off (v ||| 0x2#32) s
  else if off = 0x61024 then writeRrcCtl v s
  else if off = 0xA0020 ∨ off = 0xA0024 then writeGpio (decide (off = 0xA0024)) v s
  else if off = 0xA0030 ∨ off = 0xA0034 then writeCxPins (decide (off = 0xA0034)) v s
  else if 0x420100 ≤ off ∧ off < 0x420128 then writeClass ((off - 0x420100) / 4) v s
  else if off = 0x42002C then writeBrkCtl (decide (s.open 1 = 1)) [] v s.used
  else if off = 0x5A0000 then writeXspCmd initiator v s
  else if off = 0x5E0020 then writeMonCtl v s
  else writePlain off v s

/-- Writes of the radio blocks. -/
def writeRadio (off : Nat) (v : Word) (s : State) : State :=
  if off = 0x100000 then writeCnpClk v s
  else if 0x101000 ≤ off ∧ off < 0x102000 ∧ off % 0x100 = 0 then chainControl ((off - 0x101000) / 0x100) (writePlain off v s)
  else if 0x101000 ≤ off ∧ off < 0x102000 ∧ off % 0x100 = 0xC then
    writeSubMask (off - 4) off 0x3 F.CNP_STAT_chain_evt ⟨0x100010, 0x100014, 0x7, 8, 0x10⟩ v s
  else if 0x148000 ≤ off ∧ off < 0x14A000 then s.event F.GLB_STAT_acc_err F.GLB_EVCNT_acc_err_cnt
  else if 0x181000 ≤ off ∧ off < 0x181400 then writeLook off v s
  else if 0x1A0030 ≤ off ∧ off < 0x1A0040 then writePlain off (v &&& BitVec.ofNat 32 (formatBits s)) s
  else if 0x1C0000 ≤ off ∧ off < 0x1E2000 ∧ off % 0x100 = 0 then writeLneCtl ((off - 0x1C0000) / 0x100) v s
  else if 0x1E2100 ≤ off ∧ off < 0x1E2200 then writePool off v s
  else if 0x200020 ≤ off ∧ off < 0x200030 then writeCxCtl ((off - 0x200020) / 4) v s
  else if off = 0x200040 ∨ off = 0x200044 then writeGang ((off - 0x200040) / 4) v s
  else if 0x201000 ≤ off ∧ off < 0x201800 ∧ off % 0x100 = 0 then reviewAll (writeTxlCtl ((off - 0x201000) / 0x100) v s)
  else if 0x201000 ≤ off ∧ off < 0x201800 ∧ off % 0x100 = 0xC then writeTxlPa ((off - 0x201000) / 0x100) v s
  else if 0x201000 ≤ off ∧ off < 0x201800 ∧ off % 0x100 = 0x14 then writeCalReq ((off - 0x201000) / 0x100) v s
  else writePlain off v s

/-- Writes of the engine, the tables, the forwarder and traffic. -/
def writeNet (off : Nat) (v : Word) (s : State) : State :=
  if off = 0x280000 then reviewAll (writeSseCtl v s)
  else if off = 0x280004 ∨ (0x280028 ≤ off ∧ off < 0x280038) then writeSlotTiming off v s
  else if off = 0x280054 then writeHeartbeat s
  else if off = 0x28005C then writeTpCfg v s
  else if off = 0x2800A4 then writeLevTail v s
  else if 0x300100 ≤ off ∧ off < 0x300140 then writeDmaRing ((off - 0x300100) / 0x20) ((off - 0x300100) % 0x20) v s
  else if off = 0x340004 ∨ off = 0x340008 then writeSeed off v s
  else if off = 0x340024 then writePlain off (v &&& 0xFFFFFFFE#32) s
  else if 0x368000 ≤ off ∧ off < 0x370000 then writeSet off v s
  else if 0x380040 ≤ off ∧ off < 0x3800A0 ∧ off % 16 = 0 then writeReserve ((off - 0x380040) / 16) v s
  else if off = 0x3800B8 ∧ s.get F.TRF_SPILL_USED_used ≠ 0 then s
  else if 0x380400 ≤ off ∧ off < 0x380600 then writeHostQueue ((off - 0x380400) / 0x40) ((off - 0x380400) % 0x40) v s
  else if 0x381000 ≤ off ∧ off < 0x381C00 then writeShaper ((off - 0x381000) / 0x20) ((off - 0x381000) % 0x20 / 4) v s
  else if 0x388000 ≤ off ∧ off < 0x3A8000 then writeMeter ((off - 0x388000) / 0x20) ((off - 0x388000) % 0x20 / 4) v s
  else writePlain off v s

/-- A write of GRV_CFG (R351): router_id changes only while en is 0, and then the sets served here follow (R213). -/
def writeGroveCfg (v : Word) (s : State) : State :=
  if s.get F.GRV_CFG_en ≠ 0 then writePlain 0x460000 (wordSet v 0 6 (s.get F.GRV_CFG_router_id)) s
  else
    let t := writePlain 0x460000 v s
    each (upTo 4096) (fun set t => followSet (setServed s set) set t) t

/-! Schedule store. -/

/-- Writes of the key engine, updates, the grove and the ports; what a readback or a torn record gives is left
open. -/
def writeHigh (initiator off : Nat) (v : Word) (s : State) : State :=
  if 0x400030 ≤ off ∧ off < 0x400040 ∧ s.get F.HWD_BLOB_CFG_en ≠ 0 then s
  else if off = 0x400100 ∨ off = 0x400140 then writeHwdCmd [] ((off - 0x400100) / 0x40) v (decide (s.open 1 = 1)) s.used
  else if off = 0x440020 then writeGrfCtl v s
  else if off = 0x440030 then
    let was := s.on F.GRF_RELAY_CFG_stage
    let s := writePlain off v s
    s.when (!was && s.on F.GRF_RELAY_CFG_stage) checkStaging
  else if off = 0x460000 then writeGroveCfg v s
  else if off = 0x46000C then writeHbCfg v s
  else if 0x500000 ≤ off ∧ off < 0x540000 ∧ off % 0x10000 = 0 then writeEthCfg ((off - 0x500000) / 0x10000) v s
  else if off = 0x580038 then (if v.toNat.testBit 0 then programBoard (bit (s.open 2) 0) (bit (s.open 2) 1) s.used else s)
  else if 0x5C0100 ≤ off ∧ off < 0x5C0134 then writeMailbox off v s
  else if 0x5D0000 ≤ off ∧ off < 0x5E0000 then writeMsix (off - 0x5D0000) v s
  else writeAon initiator off v s

/-- What a word written to an offset does (R6 to R8, R24). -/
def applyWrite (initiator off : Nat) (v : Word) (s : State) : State :=
  match irqSources.find? (fun q => decide (q.mask = off)) with
  | some q => writeMask q v s
  | none =>
    if off = 0x2002C then reviewAll (writeLiveCtl v s)
    else if off < 0x80000 then writeAon initiator off v s
    else if off < 0x90000 then writeTmb off v s
    else if off < 0xA0000 then
      (if 0x91000 ≤ off ∧ off < 0x92000 ∧ (off - 0x91000) % 0x80 = 0x18 ∧ s.owner 4 ((off - 0x91000) / 0x80) = 0x0300
       then writeSubMask (off - 4) off 0x1FF F.TMU_STAT_unit_evt ⟨0x90010, 0x90014, 0x7, 33, 0x09⟩ v s
       else writeTmu off v s)
    else if off < 0x100000 then writeAon initiator off v s
    else if off < 0x240000 then writeRadio off v s
    else if off = 0x24002C then (if v.toNat.testBit 0 then programProfile (bit (s.open 2) 0) (bit (s.open 2) 1) s.used else s)
    else if off < 0x280000 then writePlain off v s
    else if off < 0x400000 then writeNet off v s
    else if off < 0x600000 then writeHigh initiator off v s
    else if 0x1000000 ≤ off ∧ off < 0x3400000 then s.event F.GLB_STAT_acc_err F.GLB_EVCNT_acc_err_cnt
    else s

/-! Accesses. -/

/-- An access whose domain lets it through: of a BAR0 offset, or of a DRAM word that had stalled. -/
def performAccess (a : Access) (s : State) : State :=
  if dramTag ≤ a.off then dramWord a s
  else if a.write then applyWrite a.initiator a.off a.value s
  else
    let (w, s) := applyRead a.off s
    s.emit (.read w)

/-- An access to BAR0 (R8, R372): outside every block it reads 0 or is dropped. -/
def access (a : Access) (s : State) : State :=
  if mapped a.off then gated a (performAccess a) s
  else if a.write then s
  else s.emit (.read 0#32)

/-- The STAT register at an offset with its MASK, and whether the block lets its flags through: those of the
blocks, of the chains and of the timer units (R26, R277). -/
def statSource (s : State) (off : Nat) : Option (IrqSource × Bool) :=
  match irqSources.find? (fun q => decide (q.stat = off)) with
  | some q => some (q, true)
  | none =>
    if 0x101000 ≤ off ∧ off < 0x102000 ∧ off % 0x100 = 8 then some (⟨off, off + 4, 0x3, 8, 0x10⟩, !s.on ⟨0x100014, 2, 1⟩)
    else if 0x91000 ≤ off ∧ off < 0x92000 ∧ (off - 0x91000) % 0x80 = 0x14 then some (⟨off, off + 4, 0x1FF, 33, 0x09⟩, !s.on ⟨0x90014, 2, 1⟩)
    else none

/-- A write of a STAT register in whose arbitration hardware sets the flags `race` (R27): the set wins, and an unmasked one that was
set before raises the interrupt again. -/
def writeRace (a : Access) (race : Word) (s : State) : State :=
  match statSource s a.off with
  | some (q, through) =>
    if gate s (decidingDomain s a.off) = .pass then
      let set := race &&& BitVec.ofNat 32 q.flags
      let won := a.value &&& set &&& statWord s a.off
      let again := through && decide (won &&& ~~~(s.reg q.mask) ≠ 0#32)
      let s := access { a with value := a.value &&& ~~~set } s
      (s.setReg a.off (s.reg a.off ||| set)).when again (raiseIrq q.vector q.block)
    else access a s
  | none => access a s

/-- REGISTER_WRITE (R6, R27): `race` names the flags of a STAT register that hardware sets in the same arbitration
as the write; the command that is their event comes before this one. -/
def execRegisterWrite (initiator off : Nat) (value race : Word) (s : State) : Host.Outcome State Fault Refusal :=
  run (writeRace ⟨initiator, off, true, value⟩ race) s

/-- SLEEPING_ACCESS (R372): an access to a domain that is not ON stalls or is fenced; one that finds its domain ON
completes. -/
def execSleepingAccess (initiator off : Nat) (write : Bool) (value : Word) (s : State) : Host.Outcome State Fault Refusal :=
  run (access ⟨initiator, off, write, value⟩) s

/-- UNMAPPED_ACCESS (R8). -/
def execUnmappedAccess (off : Nat) (write : Bool) (s : State) : Host.Outcome State Fault Refusal :=
  run (fun s => if mapped off then s else access ⟨0, off, write, 0#32⟩ s) s

/-- TABLE_WINDOW_WRITE (R24). -/
def execTableWindowWrite (initiator off : Nat) (value : Word) (s : State) : Host.Outcome State Fault Refusal :=
  run (fun s => if 0x1000000 ≤ off ∧ off < 0x3400000 then access ⟨initiator, off, true, value⟩ s else s) s

/-- A read of part of a word (R5): `n` bits from bit `lsb` of the aligned word, without any effect on the register. -/
def performNarrow (off lsb n : Nat) (s : State) : State :=
  (s.emit (.read (BitVec.ofNat 32 (bits (regRead s off).toNat lsb n)))).used

/-- A read of fewer bytes than a word (R5), behind the fence. -/
def narrowRead (initiator off lsb n : Nat) (s : State) : State :=
  let a := off - off % 4
  if mapped a then gatedAs (some (lsb, n)) ⟨initiator, a, false, 0#32⟩ (performNarrow a lsb n) s
  else s.emit (.read 0#32)

/-- PCIE_PARTIAL_WRITE (R5): a PCIe access with fewer than four byte enables; a write is dropped, a read returns
the whole aligned word. -/
def execPciePartialWrite (off : Nat) (write : Bool) (s : State) : Host.Outcome State Fault Refusal :=
  run (fun s => if write then s.event F.GLB_STAT_acc_err F.GLB_EVCNT_acc_err_cnt else narrowRead 0 off 0 32 s) s

/-- A bus-error exception of a Crown core. -/
def crownError (core : Nat) (s : State) : State := s.emit (.busError core)

/-- CROWN_NARROW_STORE (R5): a Crown-core access of 1, 2 or 4 bytes at a BAR0 offset that is no aligned word.  A
misaligned access and a narrow store are dropped with a bus error; a narrow load returns the addressed bytes of the
aligned word.  An aligned word is no such access, and nothing happens. -/
def execCrownNarrowStore (core off bytes : Nat) (store : Bool) (s : State) : Host.Outcome State Fault Refusal :=
  run (fromCore (core + 1) (fun s =>
    if off % bytes ≠ 0 then crownError core s
    else if 4 ≤ bytes then s
    else if store then crownError core s
    else narrowRead (core + 1) off (8 * (off % 4)) (8 * bytes) s)) s

/-- CROWN_WIDE_ACCESS (R5): a store is dropped, and a load changes no register of the core. -/
def execCrownWideAccess (core : Nat) (s : State) : Host.Outcome State Fault Refusal :=
  run (fromCore (core + 1) (crownError core)) s

/-- Whether a Crown address is in the Crown map (R25, R21): the TCM, the BAR0 view, and the usable DRAM. -/
def crownMapped (s : State) (a : Nat) : Bool :=
  (decide (0x10000000 ≤ a) && decide (a < 0x10000000 + (28 - planPb s) * 2 ^ 20))
  || (decide (0x20000000 ≤ a) && decide (a < 0x24000000))
  || (decide (0x1000000000 ≤ a) && decide (a < 0x1000000000 + s.dramSize))

/-- CROWN_UNMAPPED_ACCESS (R25). -/
def execCrownUnmappedAccess (core addr : Nat) (s : State) : Host.Outcome State Fault Refusal :=
  run (fromCore (core + 1) (fun s => if crownMapped s addr then s else crownError core s)) s

/-- An access that stalled is carried out in the form in which it came (R372, R5). -/
def performStalled (x : Stalled) (s : State) : State :=
  match x.narrow with
  | some (lsb, n) => fromCore x.acc.initiator (performNarrow x.acc.off lsb n) s
  | none => fromCore x.acc.initiator (performAccess x.acc) s

/-- DOMAIN_ON_REACHED (R365, R372): the domain is ON, and accesses that stalled on it complete in their order. -/
def execDomainOnReached (domain : Nat) (s : State) : Host.Outcome State Fault Refusal :=
  run (fun s =>
    let s := domainReached domain s
    if s.domOn domain then
      let mine := s.power.stalled.filter (fun x => decide (x.domain = domain))
      let s := { s with power := { s.power with stalled := s.power.stalled.filter (fun x => decide (x.domain ≠ domain)) } }
      review domain (each mine performStalled s)
    else s) s

/-! Rows of single registers. -/

/-- A register write of a row with its own name. -/
def regWrite (initiator off : Nat) (v : Word) (s : State) : State := access ⟨initiator, off, true, v⟩ s

/-- PROFILE_OTP_PROGRAM (R156). -/
def execProfileOtpProgram (initiator : Nat) (vpp readback : Bool) (s : State) : Host.Outcome State Fault Refusal :=
  run (fun s => gated ⟨initiator, 0x24002C, true, 1#32⟩ (programProfile vpp readback) s) s

/-- CNP_CLK_WRITE (R60). -/
def execCnpClkWrite (initiator : Nat) (value : Word) (s : State) : Host.Outcome State Fault Refusal :=
  run (regWrite initiator 0x100000 value) s

/-- SPC_LOOK_WRITE (R454): an element of the look vector of a beam of a window. -/
def execSpcLookWrite (initiator window beam element : Nat) (value : Word) (s : State) : Host.Outcome State Fault Refusal :=
  run (fun s => if 4 ≤ window ∨ 4 ≤ beam ∨ 16 ≤ element then s
    else regWrite initiator (0x181000 + 0x100 * window + 0x40 * beam + 4 * element) value s) s

/-- TXL_POWER_WRITE (R122): power, bg_cal and idle_us of a limb. -/
def execTxlPowerWrite (initiator limb : Nat) (value : Word) (s : State) : Host.Outcome State Fault Refusal :=
  run (fun s => if 8 ≤ limb then s else regWrite initiator (0x201000 + 0x100 * limb) value s) s

/-- CAL_FLUSH (R126): the other fields of TXL_CTL are written as they stand. -/
def execCalFlush (initiator limb : Nat) (s : State) : Host.Outcome State Fault Refusal :=
  run (fun s => if 8 ≤ limb then s
    else regWrite initiator (0x201000 + 0x100 * limb) (s.reg (0x201000 + 0x100 * limb) ||| 8#32) s) s

/-- CAL_REQUEST (R127). -/
def execCalRequest (initiator limb chan : Nat) (s : State) : Host.Outcome State Fault Refusal :=
  run (fun s => if 8 ≤ limb then s
    else regWrite initiator (0x201014 + 0x100 * limb) (BitVec.ofNat 32 (2 ^ 31 + chan % 2 ^ 15)) s) s

/-- GANG_WRITE (R134). -/
def execGangWrite (initiator group : Nat) (en : Bool) (s : State) : Host.Outcome State Fault Refusal :=
  run (fun s => if 2 ≤ group then s else regWrite initiator (0x200040 + 4 * group) (BitVec.ofNat 32 (b2n en)) s) s

/-- CX_ENABLE (R139). -/
def execCxEnable (initiator set : Nat) (en : Bool) (s : State) : Host.Outcome State Fault Refusal :=
  run (fun s => if 4 ≤ set then s else regWrite initiator (0x200020 + 4 * set) (BitVec.ofNat 32 (b2n en)) s) s

/-- PACE_UPDATE (R449, R375): the slowest monitor's pace and number; `avs` is what an AVSBus write that follows
ends with. -/
def execPaceUpdate (pace monitor : Nat) (avs : Option Nat) (s : State) : Host.Outcome State Fault Refusal :=
  run (fun s =>
    if s.board.porLow || s.board.resetLow then s
    else
      let s := (s.set F.GLB_PACE_min_pace (min pace 65535)).set F.GLB_PACE_mon_id monitor
      let s := if s.get F.GLB_PACE_min_pace < s.get F.GLB_PACE_THR_thr then
          s.event F.GLB_STAT_pace_low F.GLB_EVCNT_pace_low_cnt else s
      paceForOp avs { s with power := { s.power with paced := true } }) s

end Sys2Proof.Machine
end

