-- ==== Sys2Proof/Machine/Reset.lean ====
section
/-!
DEFINITION. Reset: what the release of POR_L and of RESET_L leaves (R9, R326, R337, R397, R404, R453), and the
rail monitors (R434).  The memories of a part that has been powered on hold nothing; RESET_L keeps memories that
are no registers, as it keeps every register of PD_AON (notes/assumptions/6).
-/

namespace Sys2Proof.Machine

/-- Whether an offset lies in a block of PD_AON (R23). -/
def aonOffset (off : Nat) : Bool := mapped off && decide (accessDomains off = [0])

/-- Whether a register keeps its contents across RESET_L (R9): those of PD_AON but for the budgets, and BRK_CTL and
the force fields, which `resetRegs` treats. -/
def keptOffset (off : Nat) : Bool :=
  aonOffset off && !(decide (0x40020 ≤ off) && decide (off < 0x4003C)) && decide (off ≠ 0x42002C)

/-- The registers after RESET_L (R9). -/
def resetRegs (s : State) : State :=
  let s : State := { s with
    regs := s.regs.filter (fun (o, _) => keptOffset o)
    rwoWritten := s.rwoWritten.filter keptOffset }
  each (upTo 28) (fun d s => if s.get (F.PWR_DOM_CFG_force d) = 0 then s else s.set (F.PWR_DOM_CFG_force d) 0) s

/-- The limbs' power amplifiers go off with the limbs, and their biases to the value of the reset settings (R137). -/
def paOff (s : State) : State :=
  each (upTo 8) (fun l s =>
    let was := paBias s l
    let s := s.when (s.on (F.TXL_STATUS_pa_en l)) (fun s => s.emit (.paEn l false))
    s.when (decide (was ≠ 0)) (fun s => s.emit (.paBias l 0))) s

/-- The pins of the time base go low (R252, R253). -/
def clocksOff (s : State) : State :=
  let s := s.when (s.time.ppsOn || s.on F.TMB_PPS_CFG_pol || unitDrivesPps s) (fun s => s.emit (.pps false))
  s.when (s.on F.TMB_SYNCE_active) (fun s => s.emit (.synce 0 16 false))

/-- The external LNAs are bypassed again: every LNA_CTL pin goes to the level of the reset settings (R53). -/
def lnaOff (s : State) : State :=
  each ((upTo 16).filter (fun n => (s.chain n).pin)) (fun n s => s.emit (.lna n false)) s

/-- Every domain ON, as at a release; PD_HOST is OFF while PERST_L is low (R364). -/
def domainsOn (s : State) : Tab Domain := if s.tap.perstLow then [(27, ⟨.off, false⟩)] else []

/-- The link stands down while PERST_L is low (R413). -/
def perstHeld (s : State) : State := if s.tap.perstLow then s.set F.TPR_LINK_pm 2 else s

/-- Units stay pruned through RESET_L (R385), and their blocks show it. -/
def showPruned (s : State) : State :=
  let lanes := (upTo 544).filter (fun n => s.pruned 1 n)
  let s := each lanes (fun n s => (s.setReg (0x1A2000 + 4 * n) 0x80000000#32).set (F.LNE_STATUS_state n) 6) s
  let s := each ((upTo 8).filter (fun l => s.pruned 3 l)) (fun l s => s.set (F.TXL_STATUS_state l) 8) s
  let s := each ((upTo 9).filter (fun i => s.pruned 4 i)) (fun i s => s.set (F.CHZ_SLICE_state i) 2) s
  let s := each ((upTo 4).filter (fun p => s.pruned 7 p)) (fun p s => s.set (F.ETH_STATUS_pruned p) 1) s
  let s := each ((upTo 8).filter (fun i => s.pruned 8 i)) (fun i s => s.set F.HWD_ENGINE_ccm (clrBit (s.get F.HWD_ENGINE_ccm) i)) s
  let s := each ((upTo 2).filter (fun i => s.pruned 9 i)) (fun i s => s.set F.HWD_ENGINE_kwp (clrBit (s.get F.HWD_ENGINE_kwp) i)) s
  let s := if s.pruned 10 0 then s.set F.SSE_PAIR_inst0 0 else s
  let s := if s.pruned 10 1 then s.set F.SSE_PAIR_inst1 0 else s
  s.set F.SSE_PAIR_single (b2n (s.pruned 10 0 != s.pruned 10 1))

/-- The domains that a BARK_HOLD or a BOOT_HALT keeps OFF (R326, R337). -/
def haltOff (halt : Nat) (s : State) : State :=
  let radio := (upTo 8).map (11 + ·)
  let ds := if halt ≠ 0 then [3, 4, 5, 6] ++ radio else if s.bark.hold then radio else []
  each ds (fun d s => s.setDom d ⟨.off, false⟩) s

/-- Release of RESET_L (R9): registers outside PD_AON and what stands behind them reset, a session ends, and
BARK_HOLD, BOOT_HALT, the ring, the pruned units, the pins, DRAM and the tables stay. -/
def resetL (s : State) : State :=
  let s := cutApply (cutTransition (cutUpdate (clocksOff (lnaOff (paOff (endSession s))))))
  let halt := s.get F.GRF_BOOT_halt
  let s : State := { s with
    power := { s.power with
      doms := domainsOn s, wakeHolds := [], cellHolds := [], stalled := [], crownIrqWaiting := [], budgetSet := false
      lateRates := [], paced := false }
    stand := {}, time := {}, canopy := {}, search := {}, traffic := {}, txl := {}, grove := {}, hwd := {}
    tmu := { sampled := s.board.gpioIn, seen := s.board.gpioIn }
    grf := { applying := s.grf.applying }, sse := {}
    tap := { perstLow := s.tap.perstLow }
    lanes := { faulted := s.lanes.faulted }
    rgp := { otp := s.rgp.otp, otpDead := s.rgp.otpDead, slots := s.rgp.slots }
    tables := { s.tables with lfsr := none, lastRing := 1 }
    prune := { s.prune with rowErrors := [], secRestarting := false, stopped := [] }
    bark := { hold := s.bark.hold, release := s.bark.release }
    mon := { s.mon with nonce := none } }
  let s := showStored (resetRegs s)
  haltOff halt (showPruned (perstHeld (s.set F.GRF_BOOT_halt halt)))

/-- A flush that was being copied when the part lost its power is torn (R399). -/
def showTorn (s : State) : State :=
  if s.ring.flushes.any (fun x => !x.2.valid) then s.set F.RRC_STAT_flush_fail 1 else s

/-- The sensors in their condition whose class is ALARM or ERASE. -/
def liveAlarm (s : State) : Bool := (upTo 10).any (fun i => bit (s.get F.BRK_STATUS_live) i && decide (2 ≤ barkClass s i false))

/-- POR_L takes the whole part (R9): OTP, MRAM, the flash, and what stands at the pins stay, and that it was in BARK_HOLD. -/
def clearPor (s : State) : State :=
  let s := cutApply (cutTransition (cutUpdate (clocksOff (lnaOff (paOff s)))))
  let live := s.get F.BRK_STATUS_live
  let s : State := { s with
    regs := [], rwoWritten := [], dram := []
    power := { doms := domainsOn s }
    stand := {}, time := {}, canopy := {}, search := {}, lanes := {}, traffic := {}, txl := {}, tables := {}, grove := {}
    tmu := { sampled := s.board.gpioIn, seen := s.board.gpioIn }
    hwd := {}, grf := { applying := s.grf.applying }, sse := {}, bark := { hold := s.bark.hold, release := s.bark.release }, mon := {}, prune := {}
    ring := { flushes := s.ring.flushes }
    tap := { perstLow := s.tap.perstLow }
    board := { s.board with flashOp := none, flashHeld := s.grf.applying.isSome, octal := false, flashMhz := 25, dqDrive := 0, dqOdt := 0 }
    rgp := { otp := s.rgp.otp, otpDead := s.rgp.otpDead, slots := s.rgp.slots } }
  let s := each (upTo 10) (fun i s => s.set (F.BRK_SENSOR_CFG_class i) (storedClass s i)) (showStored s)
  haltOff 0 (showTorn (showFlush (perstHeld (s.set F.BRK_STATUS_live live))))

/-- Release of POR_L (R9): the loops draw their seeds (R320), and a part that was in BARK_HOLD enters it again, once, while a
sensor of class ALARM or ERASE is in its condition, and else starts up normally (R326). -/
def resetPor (s : State) : State :=
  let s := clearPor s
  let hold := s.bark.hold
  let s : State := { s with bark := { release := s.bark.release + 1 }, power := { s.power with doms := domainsOn s } }
  if hold && liveAlarm s then enterHold s else s

/-- POR_L_RELEASE (R9). -/
def execPorLRelease (s : State) : Host.Outcome State Fault Refusal := run resetPor s

/-- RESET_L_RELEASE (R9). -/
def execResetLRelease (s : State) : Host.Outcome State Fault Refusal := run resetL s

/-- SUPPLY_MONITOR_TRIP (R434): VDD_AON (rail 0) acts as an assertion of POR_L, another rail as one of RESET_L;
the part stays in reset until every monitor reports good. -/
def execSupplyMonitorTrip (rail : Nat) (s : State) : Host.Outcome State Fault Refusal :=
  run (fun s =>
    let b := { s.board with suppliesGood := false }
    if rail = 0 then clearPor { s with board := { b with porLow := true } }
    else resetL { s with board := { b with resetLow := true } }) s

/-- SUPPLY_GOOD (R434): every monitor reports good, and a reset that a trip asserted is released. -/
def execSupplyGood (s : State) : Host.Outcome State Fault Refusal :=
  run (fun s =>
    let r := if s.board.porLow then resetPor s else if s.board.resetLow then resetL s else s
    { r with board := { r.board with suppliesGood := true, porLow := false, resetLow := false } }) s

end Sys2Proof.Machine
end

