-- ==== Sys2Proof/Machine/Monitor.lean ====
section
/-!
DEFINITION. The Preup monitor: its frames, commands and their gating, authentication and sessions (R401 to
R404).  A command's row is a whole frame with a good CRC; the response is the output `monitor` with its status
and payload.
-/

namespace Sys2Proof.Machine

/-! Frames (R401, R402). -/

/-- A response frame: 0x5A, its status, the length of its payload, the payload, and the CRC-16 over all but the first byte. -/
def monFrame (status : Nat) (payload : List Byte) : List Byte :=
  let l := leBytes 1 status ++ leBytes 2 payload.length ++ payload
  0x5A#8 :: l ++ leBytes 2 (crc16 l)

/-- A response. -/
def answer (status : Nat) (payload : List Byte) (s : State) : State := s.emit (.monitor (monFrame status payload))

/-- The commands of the monitor (R402). -/
def monCommands : List Nat := [1, 2, 3, 4, 5, 6, 0x10, 0x11, 0x12, 0x13, 0x14, 0x15, 0x16, 0x17, 0x18]

/-- Whether bytes are a request frame: 0xA5, a command, the length of the payload, the payload and two bytes of CRC. -/
def monRequest (l : List Byte) : Bool := decide (6 ≤ l.length) && decide (byteAt l 0 = 0xA5) && decide (l.length = 6 + leAt l 2 2)

/-- Whether the CRC-16 of a request frame stands: over its command, its length and its payload. -/
def monCrc (l : List Byte) : Bool := decide (leAt l (l.length - 2) 2 = crc16 ((l.take (l.length - 2)).drop 1))

/-- A valid frame arrives: no part of a frame waits, and a new rate stands. -/
def frameArrives (s : State) : State := { s with mon := { s.mon with partialFrame := false, baudPending := false } }

/-- A read-only command (R402): served in every state, in BARK_HOLD where `inHold` says so. -/
def readOnly (inHold : Bool) (f : State → State) (s : State) : State :=
  let s := frameArrives s
  if s.bark.hold && !inHold then answer 3 [] s else f s

/-- Why a privileged command is not carried out (R402 to R404): a status, or none. -/
def privBar (s : State) (cmd : Nat) : Option Nat :=
  if s.bark.hold || decide (s.get F.GRF_BOOT_halt ≠ 0) || s.mon.privOff || decide (lifecycle s = 5) then some 3
  else if lifecycle s ≤ 2 ∨ cmd = 0x10 then none
  else
    match s.mon.session with
    | none => some 4
    | some x => if cmd = 0x18 ∨ bit x.mask (cmd - 0x10) = true then none else some 3

/-- A privileged command is carried out (MON_STAT.priv_cmd, MON_CMD_CNT). -/
def privRuns (s : State) : State := (s.set F.MON_STAT_priv_cmd 1).inc F.MON_CMD_CNT_count

/-- A privileged command (R402). -/
def privileged (cmd : Nat) (f : State → State) (s : State) : State :=
  let s := frameArrives s
  match privBar s cmd with
  | some st => answer st [] s
  | none => f (privRuns s)

/-! Accesses of the monitor (R401): ordered like any others, initiator 6. -/

/-- The monitor reads a register; a fenced one reads the pattern of R372. -/
def monRead (off : Nat) (s : State) : Word × State :=
  if mapped off then
    match hwAccess (decidingDomain s off) 6 off false s with
    | (true, s) => applyRead off s
    | (false, s) => (0x0FF00FF0#32, s)
  else (0#32, s)

/-- The monitor writes a register. -/
def monWrite (off : Nat) (v : Word) (s : State) : State :=
  if mapped off then
    match hwAccess (decidingDomain s off) 6 off true s with
    | (true, s) => applyWrite 6 off v s
    | (false, s) => s
  else s

/-- An address beyond the usable DRAM (R412). -/
def bar2Beyond (s : State) : State := (s.set F.TPR_STAT_bar2_oor 1).inc F.TPR_BAR2_OOR_CNT_count

/-- The monitor reads a word of DRAM. -/
def monMemRead (addr : Nat) (s : State) : Word × State :=
  match hwAccess 26 6 (addr % 2 ^ 32) false s with
  | (true, s) => if s.dramOk addr 4 then (BitVec.ofNat 32 (s.dramNat addr 4), s) else (0#32, bar2Beyond s)
  | (false, s) => (0x0FF00FF0#32, s)

/-- The monitor writes a word of DRAM. -/
def monMemWrite (addr : Nat) (v : Word) (s : State) : State :=
  match hwAccess 26 6 (addr % 2 ^ 32) true s with
  | (true, s) => if s.dramOk addr 4 then s.dramWrite addr (leBytes 4 v.toNat) else bar2Beyond s
  | (false, s) => s

/-- Read `n` words, one after another. -/
def monReads (f : Nat → State → Word × State) (n addr : Nat) (s : State) : List Byte × State :=
  match n with
  | 0 => ([], s)
  | n + 1 =>
    let (w, s) := f addr s
    let (l, s) := monReads f n (addr + 4) s
    (leBytes 4 w.toNat ++ l, s)

/-- Write words, one after another. -/
def monWrites (f : Nat → Word → State → State) (ws : List Word) (addr : Nat) (s : State) : State :=
  match ws with
  | [] => s
  | w :: rest => monWrites f rest (addr + 4) (f addr w s)

/-! Read-only commands (R402). -/

/-- IDENT (R402): the device ID is zero while no root is selected. -/
def execIdent (s : State) : Host.Outcome State Fault Refusal :=
  run (readOnly true (fun s =>
    let s := wakeAllowed 2 s
    let w (off : Nat) : List Byte := leBytes 4 (regRead s off).toNat
    answer 0 (w 0 ++ w 0x420000 ++ w 0x440004 ++ w 0x420004 ++ leBytes 4 s.nv.boots
      ++ (if s.get F.HWD_STATUS_root = 0 then List.replicate 32 0#8 else deviceId s)) s)) s

/-- RR_INFO (R402): the RRC registers 0x006_1010 to 0x006_1044. -/
def execRrInfo (s : State) : Host.Outcome State Fault Refusal :=
  run (readOnly true (fun s =>
    answer 0 ((upTo 14).flatMap (fun k => leBytes 4 (regRead s (0x61010 + 4 * k)).toNat)) s)) s

/-- The events the monitor reads: of the live ring (src 0), or of the newest flush (R400). -/
def monEvents (s : State) (src : Nat) : Tab RrEvent :=
  if src = 0 then s.ring.events else match newestFlush s with | some f => f.events | none => []

/-- RR_READ (R402): an index that holds no event reads 32 zero bytes. -/
def execRrRead (index count src : Nat) (s : State) : Host.Outcome State Fault Refusal :=
  run (readOnly true (fun s =>
    if 4096 ≤ index ∨ count < 1 ∨ 32 < count ∨ 1 < src then answer 7 [] s
    else
      answer 0 ((upTo count).flatMap (fun k => match tabFind (monEvents s src) ((index + k) % 4096) with
        | some e => eventBytes e
        | none => List.replicate 32 0#8)) s)) s

/-- REG_READ (R402). -/
def execRegRead (off count : Nat) (s : State) : Host.Outcome State Fault Refusal :=
  run (readOnly false (fun s =>
    if count < 1 ∨ 64 < count ∨ off % 4 ≠ 0 then answer 7 [] s
    else
      let (l, s) := monReads monRead count off s
      answer 0 l s)) s

/-- CHALLENGE (R402): a nonce for AUTH, which the manual leaves open. -/
def execChallenge (s : State) : Host.Outcome State Fault Refusal :=
  run (readOnly false (fun s =>
    let s := wakeAllowed 2 s
    let n := s.random 32
    let s : State := { s.used with mon := { s.mon with nonce := some n, nonceTime := s.now } }
    answer 0 (n ++ deviceId s ++ leBytes 1 (lifecycle s)) s)) s

/-- SET_BAUD (R402): the response at the old rate, then the new rate. -/
def execSetBaud (rate : Nat) (s : State) : Host.Outcome State Fault Refusal :=
  run (readOnly false (fun s =>
    if [115200, 230400, 460800, 921600, 1500000, 3000000].contains rate then
      let s := (answer 0 [] s).set F.MON_BAUD_rate rate
      { s with mon := { s.mon with baudPending := true } }
    else answer 7 [] s)) s

/-- SET_BAUD_TIMEOUT (R402): no valid frame within 2 s at the new rate. -/
def execSetBaudTimeout (s : State) : Host.Outcome State Fault Refusal :=
  run (fun s =>
    if s.mon.baudPending then { s.set F.MON_BAUD_rate 115200 with mon := { s.mon with baudPending := false } } else s) s

/-! Authentication (R403). -/

/-- Whether a challenge record and its signature have their form. -/
def authFormat (h : List Byte) (len : Nat) : Bool :=
  decide (80 ≤ len) && decide (slice h 0 4 = [0x42#8, 0x58#8, 0x44#8, 0x43#8]) && decide (byteAt h 4 = 1) && decide (byteAt h 6 ≤ 1)
  && decide (byteAt h 7 = 0) && decide (1 ≤ leAt h 0x48 2) && decide (leAt h 0x48 2 ≤ 3600) && decide (leAt h 0x4C 4 = 0)
  && decide (len = 80 + sigLen (byteAt h 6))

/-- Whether the signature of a challenge record stands; a debug record is first authenticated with KS_10 (R304), and one that is
not verifies nothing (DESIGN CHOICE, notes/assumptions/170). -/
def authSigned (s : State) (h sig : List Byte) : Bool :=
  if byteAt h 6 = 0 then Config.xmssMtVerify Config.vendorKey h sig
  else match debugRecord s, slotKey s 10 with
    | some x, some k => decide (x.2 = debugTag k x.1) && Config.xmssVerify x.1 h sig
    | _, _ => false

/-- The checks of R403 before the signature, in their order: the status of the first that fails, 0 OK; `nonce` is that of the latest
CHALLENGE. -/
def authStatus (s : State) (nonce : Option (List Byte)) (l : List Byte) : Nat :=
  let h := l.take 80
  let signer := byteAt h 6
  if !authFormat h l.length then 7
  else if slice h 8 32 ≠ deviceId s ∨ byteAt h 5 ≠ lifecycle s then 7
  else if ¬((signer = 1 ∧ lifecycle s = 3) ∨ (signer = 0 ∧ lifecycle s = 4)) then 3
  else if nonce ≠ some (slice h 0x28 32) ∨ s.mon.nonceTime + 60000000000 < s.now then 7
  else if signer = 1 ∧ debugRecord s = none then 6
  else 0

/-- All the checks of R403: the signature is the last, and KS_10 is used for a debug record only there (R286). -/
def authResult (nonce : Option (List Byte)) (l : List Byte) (s : State) : Nat × State :=
  let st := authStatus s nonce l
  if st ≠ 0 then (st, s)
  else
    let s := if byteAt l 6 = 1 then (useSlot 10 13 none s).2 else s
    (if authSigned s (l.take 80) (l.drop 80) then 0 else 5, s)

/-- A failed AUTH: the eighth in a row locks it out. -/
def authFails (s : State) : State :=
  let s := (s.event F.MON_STAT_auth_fail F.MON_EVCNT_auth_fail_cnt).inc F.MON_AUTH_FAIL_CNT_count
  let n := s.mon.failures + 1
  let s : State := { s with mon := { s.mon with failures := n } }
  if 8 ≤ n ∧ s.mon.lockout = false then { s.set F.MON_STAT_lockout 1 with mon := { s.mon with lockout := true } } else s

/-- A session opens (R403, R404). -/
def openSession (h : List Byte) (s : State) : State :=
  let s := s.event F.MON_STAT_auth_ok F.MON_EVCNT_auth_ok_cnt
  { s with mon := { s.mon with
      failures := 0
      session := some ⟨leAt h 0x4A 2, byteAt h 6, s.now + leAt h 0x48 2 * 1000000000⟩ } }

/-- AUTH (R403, R404): it ends the session that stands and consumes its nonce. -/
def auth (l : List Byte) (s : State) : State :=
  let s := wakeAllowed 2 (endSession s)
  let nonce := s.mon.nonce
  let s : State := { s with mon := { s.mon with nonce := none } }
  let (st, s) := if s.mon.lockout then (8, s) else authResult nonce l s
  let s := ringNote 0x51 (leBytes 1 st ++ leBytes 1 (byteAt l 6)) false s
  answer st [] (if st = 0 then openSession (l.take 80) s else authFails s)

/-- AUTH (R403): the payload is the challenge record and its signature. -/
def execAuth (payload : List Byte) (s : State) : Host.Outcome State Fault Refusal :=
  run (privileged 0x10 (auth payload)) s

/-- AUTH_LOCKOUT_END (R403). -/
def execAuthLockoutEnd (s : State) : Host.Outcome State Fault Refusal :=
  run (fun s => { s with mon := { s.mon with lockout := false, failures := if s.mon.lockout then 0 else s.mon.failures } }) s

/-! Privileged commands (R402). -/

/-- REG_WRITE (R402). -/
def execRegWrite (off : Nat) (words : List Word) (s : State) : Host.Outcome State Fault Refusal :=
  run (privileged 0x11 (fun s =>
    if words = [] ∨ 64 < words.length ∨ off % 4 ≠ 0 then answer 7 [] s
    else answer 0 [] (monWrites monWrite words off s))) s

/-- MEM_READ (R402). -/
def execMemRead (addr count : Nat) (s : State) : Host.Outcome State Fault Refusal :=
  run (privileged 0x12 (fun s =>
    if count < 1 ∨ 256 < count ∨ addr % 4 ≠ 0 then answer 7 [] s
    else
      let (l, s) := monReads monMemRead count addr s
      answer 0 l s)) s

/-- MEM_WRITE (R402). -/
def execMemWrite (addr : Nat) (words : List Word) (s : State) : Host.Outcome State Fault Refusal :=
  run (privileged 0x13 (fun s =>
    if words = [] ∨ 256 < words.length ∨ addr % 4 ≠ 0 then answer 7 [] s
    else answer 0 [] (monWrites monMemWrite words addr s))) s

/-- A unit's word as PRN_READMIT and PRN_INJECT take it, with go. -/
def unitWord (cls inst : Nat) : Word := BitVec.ofNat 32 (2 ^ 31 + cls % 256 * 2 ^ 16 + inst % 65536)

/-- READMIT (R402, R393): PRN_READMIT_RESULT as it stands after the write; BUSY while a re-admission runs. -/
def execReadmit (cls inst : Nat) (s : State) : Host.Outcome State Fault Refusal :=
  run (privileged 0x14 (fun s =>
    let st := if s.prune.readmit.isSome then 9 else 0
    let s := writeReadmit (unitWord cls inst) s
    answer st (leBytes 4 (s.reg 0x60024).toNat) s)) s

/-- INJECT (R402, R394). -/
def execInject (cls inst : Nat) (s : State) : Host.Outcome State Fault Refusal :=
  run (privileged 0x15 (fun s =>
    answer (if unitCount cls ≤ inst then 7 else 0) [] (writeInject 6 (unitWord cls inst) s))) s

/-- RR_UNFREEZE (R402, R398). -/
def execRrUnfreeze (s : State) : Host.Outcome State Fault Refusal :=
  run (privileged 0x16 (fun s => answer 0 [] (writeRrcCtl (wordSet (s.reg 0x61024) 0 2 1) s))) s

/-- RESET (R402): the response, then a reset as by RESET_L. -/
def execReset (s : State) : Host.Outcome State Fault Refusal :=
  run (privileged 0x17 (fun s => resetL (answer 0 [] s))) s

/-- LOGOUT (R402, R404). -/
def execLogout (s : State) : Host.Outcome State Fault Refusal :=
  run (privileged 0x18 (fun s => answer 0 [] (endSession s))) s

/-! Events of the monitor. -/

/-- MON_FRAME_TIMEOUT (R401): 100 ms without a byte within a frame discard it. -/
def execMonFrameTimeout (s : State) : Host.Outcome State Fault Refusal :=
  run (fun s => { s with mon := { s.mon with partialFrame := false } }) s

/-- MON_BAD_CRC_FRAME (R401): a request frame that no command's own row stands for.  One with a bad CRC is answered with BAD_CRC, and
one of no command with UNKNOWN.  Bytes that are no request frame begin one that is not complete. -/
def execMonBadCrcFrame (frame : List Byte) (s : State) : Host.Outcome State Fault Refusal :=
  run (fun s =>
    if !monRequest frame then s
    else if !monCrc frame then answer 1 [] { s with mon := { s.mon with partialFrame := false } }
    else if monCommands.contains (byteAt frame 1) then s
    else answer 2 [] (frameArrives s)) s

/-- MON_RXD_START_BIT (R378): wake source 10, and a frame may begin. -/
def execMonRxdStartBit (s : State) : Host.Outcome State Fault Refusal :=
  run (fun s => wakeSource 10 0 0 { s with mon := { s.mon with partialFrame := true } }) s

/-- SESSION_EXPIRY (R404): session_s has elapsed. -/
def execSessionExpiry (s : State) : Host.Outcome State Fault Refusal :=
  run (fun s =>
    match s.mon.session with
    | some x => endSession (s.reach x.ends)
    | none => s) s

/-- MON_KILL (R404): a write of MON_CTL with kill, priv_off as it stands. -/
def execMonKill (initiator : Nat) (s : State) : Host.Outcome State Fault Refusal :=
  run (fun s => regWrite initiator 0x5E0020 (s.reg 0x5E0020 ||| 1#32) s) s

end Sys2Proof.Machine
end

