-- ==== Sys2Proof/Machine/Edge.lean ====
section
/-!
DEFINITION. The timeslot edge (R158): the ASN advances and all that waits for an edge applies; and the switch of
the regulatory profile at the first edge after its rewrap (R157).
-/

namespace Sys2Proof.Machine

/-- Re-admitted slot-engine instances rejoin at a timeslot edge (R192). -/
def edgeRejoin (s : State) : State :=
  each s.sse.rejoin (fun i s =>
    let s := s.set (if i = 0 then F.SSE_PAIR_inst0 else F.SSE_PAIR_inst1) 1
    s.set F.SSE_PAIR_single (b2n (s.on F.SSE_PAIR_inst0 != s.on F.SSE_PAIR_inst1))) { s with sse := { s.sse with rejoin := [] } }

/-- Windows near a frame that is still on air have no measurement in the timeslot that begins (R69). -/
def spoilRadiating (s : State) : State :=
  each (upTo 8) (fun l s =>
    match (s.limb l).air with
    | some a => if a.launched then each (windowsNear s (tiltedWord a.desc)) spoilWindow s else s
    | none => s) s

/-- The formats each window's searchers look for from this edge on (R82). -/
def edgeFormats (s : State) : State :=
  { s with search := { s.search with fmtInForce := (upTo 4).map (fun w => (w, s.get (F.SRH_WIN_FMT_fmt_en w))) } }

/-- A timeslot begins: the quiet map of the timeslot that ends (R70), the chains' settings and ladders (R57, R68,
R452), the spare slice (R67), a live re-stand (R46), the searchers' formats (R82), the posted cells (R86), the
engine (R192, R194), and the Crown cores that take a new image (R347). -/
def timeslotEdge (quiets : List QuietSample) (reports : List ChainSample) (s : State) : State :=
  let old := s.asn
  let s := (s.reach (slotStart s (old + 1))).setAsn (old + 1)
  let s := spoilRadiating (edgeSpare (edgeChains reports (edgeQmap old quiets s)))
  let s := edgeRestand (old + 1) s
  reviewAll (restartCrown (edgeAutopilot (edgeRejoin (movePosts (edgeFormats s)))))

/-- TIMESLOT_EDGE (R158): `quiets` are the mean powers measured in the bins in the timeslot that ends, `reports`
the chains' power reports. -/
def execTimeslotEdge (quiets : List QuietSample) (reports : List ChainSample) (s : State) : Host.Outcome State Fault Refusal :=
  run (timeslotEdge quiets reports) s

/-- PROFILE_SWITCH (R157): a committed replacement whose keys are rewrapped enters the gate and the measurement
register, and its generation becomes the only one. -/
def execProfileSwitch (s : State) : Host.Outcome State Fault Refusal :=
  run (fun s =>
    if s.rgp.pending.isSome && s.rgp.rewrapped then
      let s := switchProfile s
      commitGen (activateGen 2 (profileDigest s.rgp.inForce) s)
    else s) s

end Sys2Proof.Machine
end

