-- ==== Sys2Proof/Machine/Dispatch.lean ====
section
/-!
DEFINITION. The dispatch of commands: one arm per constructor of Instr.
-/

namespace Sys2Proof.Machine

def exec (i : Instr) (s : State) : Host.Outcome State Fault Refusal :=
  match i with
  | .porLRelease => Sys2Proof.Machine.execPorLRelease s
  | .resetLRelease => Sys2Proof.Machine.execResetLRelease s
  | .supplyMonitorTrip rail => Sys2Proof.Machine.execSupplyMonitorTrip rail s
  | .supplyGood => Sys2Proof.Machine.execSupplyGood s
  | .registerWrite initiator off value race => Sys2Proof.Machine.execRegisterWrite initiator off value race s
  | .pciePartialWrite off write => Sys2Proof.Machine.execPciePartialWrite off write s
  | .crownNarrowStore core off bytes store => Sys2Proof.Machine.execCrownNarrowStore core off bytes store s
  | .crownWideAccess core => Sys2Proof.Machine.execCrownWideAccess core s
  | .unmappedAccess off write => Sys2Proof.Machine.execUnmappedAccess off write s
  | .tableWindowWrite initiator off value => Sys2Proof.Machine.execTableWindowWrite initiator off value s
  | .fifoOverflow crossing count => Sys2Proof.Machine.execFifoOverflow crossing count s
  | .gapMark crossing inFrame => Sys2Proof.Machine.execGapMark crossing inFrame s
  | .paceUpdate pace monitor avs => Sys2Proof.Machine.execPaceUpdate pace monitor avs s
  | .stallWatchdogExpiry cls inst => Sys2Proof.Machine.execStallWatchdogExpiry cls inst s
  | .bootSequence puf training mib unreadable => Sys2Proof.Machine.execBootSequence puf training mib unreadable s
  | .liveRestandGo initiator persist atAsn => Sys2Proof.Machine.execLiveRestandGo initiator persist atAsn s
  | .liveRestandCancel initiator => Sys2Proof.Machine.execLiveRestandCancel initiator s
  | .restandVerifyDone => Sys2Proof.Machine.execRestandVerifyDone s
  | .restandArm => Sys2Proof.Machine.execRestandArm s
  | .lateLaneJoin lane => Sys2Proof.Machine.execLateLaneJoin lane s
  | .restandPersist => Sys2Proof.Machine.execRestandPersist s
  | .overloadDetect chain => Sys2Proof.Machine.execOverloadDetect chain s
  | .saturationStart chain => Sys2Proof.Machine.execSaturationStart chain s
  | .saturationEnd chain => Sys2Proof.Machine.execSaturationEnd chain s
  | .extLnaSettleEnd chain => Sys2Proof.Machine.execExtLnaSettleEnd chain s
  | .timeslotEdge quiets reports => Sys2Proof.Machine.execTimeslotEdge quiets reports s
  | .cnpClkWrite initiator value => Sys2Proof.Machine.execCnpClkWrite initiator value s
  | .samplingClockLock => Sys2Proof.Machine.execSamplingClockLock s
  | .cnvclkFail => Sys2Proof.Machine.execCnvclkFail s
  | .windowFilled window => Sys2Proof.Machine.execWindowFilled window s
  | .spareSliceLoaded => Sys2Proof.Machine.execSpareSliceLoaded s
  | .qmapStale bin group => Sys2Proof.Machine.execQmapStale bin group s
  | .covarianceBlock bin block => Sys2Proof.Machine.execCovarianceBlock bin block s
  | .blindWeightRecompute bin => Sys2Proof.Machine.execBlindWeightRecompute bin s
  | .spcLookWrite initiator window beam element value => Sys2Proof.Machine.execSpcLookWrite initiator window beam element value s
  | .partitionMismatch window reported => Sys2Proof.Machine.execPartitionMismatch window reported s
  | .preambleDetect d => Sys2Proof.Machine.execPreambleDetect d s
  | .laneArbiterRound pool => Sys2Proof.Machine.execLaneArbiterRound pool s
  | .laneRequestRefused stream => Sys2Proof.Machine.execLaneRequestRefused stream s
  | .delimiterFound lane received stamp m symbols => Sys2Proof.Machine.execDelimiterFound lane received stamp m symbols s
  | .phrDecode lane rx m symbols => Sys2Proof.Machine.execPhrDecode lane rx m symbols s
  | .eqReset lane symbols => Sys2Proof.Machine.execEqReset lane symbols s
  | .sfdWaitTimeout lane => Sys2Proof.Machine.execSfdWaitTimeout lane s
  | .lostSignal lane rx m symbols => Sys2Proof.Machine.execLostSignal lane rx m symbols s
  | .laneFrameComplete lane rx m symbols => Sys2Proof.Machine.execLaneFrameComplete lane rx m symbols s
  | .laneSelftest initiator lane => Sys2Proof.Machine.execLaneSelftest initiator lane s
  | .laneSelftestDone lane result durationUs => Sys2Proof.Machine.execLaneSelftestDone lane result durationUs s
  | .laneReadmit initiator lane => Sys2Proof.Machine.execLaneReadmit initiator lane s
  | .spareTestTimer bank => Sys2Proof.Machine.execSpareTestTimer bank s
  | .txlPowerWrite initiator limb value => Sys2Proof.Machine.execTxlPowerWrite initiator limb value s
  | .limbStandbyReached limb => Sys2Proof.Machine.execLimbStandbyReached limb s
  | .synthLock limb => Sys2Proof.Machine.execSynthLock limb s
  | .calibrationDone limb capCode loopGain => Sys2Proof.Machine.execCalibrationDone limb capCode loopGain s
  | .acquisitionFail limb => Sys2Proof.Machine.execAcquisitionFail limb s
  | .limbIdleTimeout limb => Sys2Proof.Machine.execLimbIdleTimeout limb s
  | .txDescriptorArrival limb => Sys2Proof.Machine.execTxDescriptorArrival limb s
  | .paEnRise limb => Sys2Proof.Machine.execPaEnRise limb s
  | .txRampStart limb held granted => Sys2Proof.Machine.execTxRampStart limb held granted s
  | .lockDeadline limb => Sys2Proof.Machine.execLockDeadline limb s
  | .txLaunch limb => Sys2Proof.Machine.execTxLaunch limb s
  | .txFrameEnd limb => Sys2Proof.Machine.execTxFrameEnd limb s
  | .txTailEnd limb => Sys2Proof.Machine.execTxTailEnd limb s
  | .paEnFall limb => Sys2Proof.Machine.execPaEnFall limb s
  | .txLockLost limb => Sys2Proof.Machine.execTxLockLost limb s
  | .calFlush initiator limb => Sys2Proof.Machine.execCalFlush initiator limb s
  | .calRequest initiator limb chan => Sys2Proof.Machine.execCalRequest initiator limb chan s
  | .bgCalStart limb => Sys2Proof.Machine.execBgCalStart limb s
  | .limbTempRead limb temp => Sys2Proof.Machine.execLimbTempRead limb temp s
  | .gangWrite initiator group en => Sys2Proof.Machine.execGangWrite initiator group en s
  | .gangLeaderTakeover group => Sys2Proof.Machine.execGangLeaderTakeover group s
  | .cxEnable initiator set en => Sys2Proof.Machine.execCxEnable initiator set en s
  | .cxRequest limb => Sys2Proof.Machine.execCxRequest limb s
  | .cxGntFall set_ => Sys2Proof.Machine.execCxGntFall set_ s
  | .dutyBucketAdvance range dwell => Sys2Proof.Machine.execDutyBucketAdvance range dwell s
  | .profileOtpProgram initiator vpp readback => Sys2Proof.Machine.execProfileOtpProgram initiator vpp readback s
  | .profileSwitch => Sys2Proof.Machine.execProfileSwitch s
  | .cellRead asn bodies => Sys2Proof.Machine.execCellRead asn bodies s
  | .frameJudge at_ => Sys2Proof.Machine.execFrameJudge at_ s
  | .keyCacheMiss lid ue => Sys2Proof.Machine.execKeyCacheMiss lid ue s
  | .cellMiss asn cell => Sys2Proof.Machine.execCellMiss asn cell s
  | .tpBeaconMiss asn cell => Sys2Proof.Machine.execTpBeaconMiss asn cell s
  | .txCompletion acked => Sys2Proof.Machine.execTxCompletion acked s
  | .levTailWrite initiator value => Sys2Proof.Machine.execLevTailWrite initiator value s
  | .resyncWaitExpiry lid => Sys2Proof.Machine.execResyncWaitExpiry lid s
  | .resyncBurst asn body => Sys2Proof.Machine.execResyncBurst asn body s
  | .fwHeartbeat initiator value => Sys2Proof.Machine.execFwHeartbeat initiator value s
  | .fwHeartbeatMiss => Sys2Proof.Machine.execFwHeartbeatMiss s
  | .apEnterRequest initiator => Sys2Proof.Machine.execApEnterRequest initiator s
  | .autopilotReduced => Sys2Proof.Machine.execAutopilotReduced s
  | .apResume initiator => Sys2Proof.Machine.execApResume initiator s
  | .dmaHeadAdvance initiator ring head done ue => Sys2Proof.Machine.execDmaHeadAdvance initiator ring head done ue s
  | .dmaLockTimeout ring rows => Sys2Proof.Machine.execDmaLockTimeout ring rows s
  | .ageSweep => Sys2Proof.Machine.execAgeSweep s
  | .lrnSeedWrite initiator word value => Sys2Proof.Machine.execLrnSeedWrite initiator word value s
  | .bghSetStage initiator set value => Sys2Proof.Machine.execBghSetStage initiator set value s
  | .bghSetCommit initiator set value => Sys2Proof.Machine.execBghSetCommit initiator set value s
  | .ethFrameRx port frame fcsOk stamp => Sys2Proof.Machine.execEthFrameRx port frame fcsOk stamp s
  | .spillFetch lid ue => Sys2Proof.Machine.execSpillFetch lid ue s
  | .portTransmitOpportunity port stamp => Sys2Proof.Machine.execPortTransmitOpportunity port stamp s
  | .hostqTpHeadAdvance initiator queue head done ue => Sys2Proof.Machine.execHostqTpHeadAdvance initiator queue head done ue s
  | .hostqThTailAdvance initiator queue tail => Sys2Proof.Machine.execHostqThTailAdvance initiator queue tail s
  | .trfReserveWrite initiator alloc value => Sys2Proof.Machine.execTrfReserveWrite initiator alloc value s
  | .shaperConfigWrite initiator shaper word value => Sys2Proof.Machine.execShaperConfigWrite initiator shaper word value s
  | .shaperCreditZero shaper => Sys2Proof.Machine.execShaperCreditZero shaper s
  | .meterConfigWrite initiator meter word value => Sys2Proof.Machine.execMeterConfigWrite initiator meter word value s
  | .tmbIncHiWrite initiator value => Sys2Proof.Machine.execTmbIncHiWrite initiator value s
  | .tmbIncCommit initiator value => Sys2Proof.Machine.execTmbIncCommit initiator value s
  | .tmbStep initiator => Sys2Proof.Machine.execTmbStep initiator s
  | .tmbRearm initiator force => Sys2Proof.Machine.execTmbRearm initiator force s
  | .tmbTrack initiator => Sys2Proof.Machine.execTmbTrack initiator s
  | .tmbHoldEnter initiator => Sys2Proof.Machine.execTmbHoldEnter initiator s
  | .tmbHoldExit initiator => Sys2Proof.Machine.execTmbHoldExit initiator s
  | .ppsInEdge => Sys2Proof.Machine.execPpsInEdge s
  | .ppsInLost => Sys2Proof.Machine.execPpsInLost s
  | .ppsCapRead initiator => Sys2Proof.Machine.execPpsCapRead initiator s
  | .ppsOutRise => Sys2Proof.Machine.execPpsOutRise s
  | .ppsOutEnd => Sys2Proof.Machine.execPpsOutEnd s
  | .synceResume => Sys2Proof.Machine.execSynceResume s
  | .tmuRunWrite initiator unit value => Sys2Proof.Machine.execTmuRunWrite initiator unit value s
  | .tmuCntWrite initiator unit top value => Sys2Proof.Machine.execTmuCntWrite initiator unit top value s
  | .tmuCntRead initiator unit => Sys2Proof.Machine.execTmuCntRead initiator unit s
  | .tmuOverflow unit => Sys2Proof.Machine.execTmuOverflow unit s
  | .tmuCompareMatch unit channel => Sys2Proof.Machine.execTmuCompareMatch unit channel s
  | .tmuCcvWrite initiator unit channel value => Sys2Proof.Machine.execTmuCcvWrite initiator unit channel value s
  | .tmuCapture unit channel => Sys2Proof.Machine.execTmuCapture unit channel s
  | .tmuCcvRead initiator unit channel => Sys2Proof.Machine.execTmuCcvRead initiator unit channel s
  | .tmuModeChange initiator unit channel value => Sys2Proof.Machine.execTmuModeChange initiator unit channel value s
  | .tmuLinkEvent => Sys2Proof.Machine.execTmuLinkEvent s
  | .tmuOutEnable initiator unit value => Sys2Proof.Machine.execTmuOutEnable initiator unit value s
  | .remaskTick late => Sys2Proof.Machine.execRemaskTick late s
  | .leafImport initiator channel slot ue => Sys2Proof.Machine.execLeafImport initiator channel slot ue s
  | .leafDerive initiator channel slot => Sys2Proof.Machine.execLeafDerive initiator channel slot s
  | .leafDrop initiator channel => Sys2Proof.Machine.execLeafDrop initiator channel s
  | .cacheFlush initiator channel => Sys2Proof.Machine.execCacheFlush initiator channel s
  | .random initiator channel => Sys2Proof.Machine.execRandom initiator channel s
  | .replicaWrap initiator channel slot ue => Sys2Proof.Machine.execReplicaWrap initiator channel slot ue s
  | .replicaImport initiator channel slot ue => Sys2Proof.Machine.execReplicaImport initiator channel slot ue s
  | .hwdCmdComplete channel ue => Sys2Proof.Machine.execHwdCmdComplete channel ue s
  | .sweepVisit ue => Sys2Proof.Machine.execSweepVisit ue s
  | .entropyFail => Sys2Proof.Machine.execEntropyFail s
  | .entropyRetest passes => Sys2Proof.Machine.execEntropyRetest passes s
  | .keyUpdate initiator channel => Sys2Proof.Machine.execKeyUpdate initiator channel s
  | .pubkeys initiator channel => Sys2Proof.Machine.execPubkeys initiator channel s
  | .witness initiator channel torn ue => Sys2Proof.Machine.execWitness initiator channel torn ue s
  | .rrExport initiator channel torn ue => Sys2Proof.Machine.execRrExport initiator channel torn ue s
  | .rrVerify initiator channel ue => Sys2Proof.Machine.execRrVerify initiator channel ue s
  | .signTokenRefill => Sys2Proof.Machine.execSignTokenRefill s
  | .barkSensorEvent sensor under seen => Sys2Proof.Machine.execBarkSensorEvent sensor under seen s
  | .barkEpisodeEnd sensor => Sys2Proof.Machine.execBarkEpisodeEnd sensor s
  | .barkClassWrite initiator sensor value => Sys2Proof.Machine.execBarkClassWrite initiator sensor value s
  | .barkPersist initiator => Sys2Proof.Machine.execBarkPersist initiator s
  | .lcNewNonce initiator => Sys2Proof.Machine.execLcNewNonce initiator s
  | .lifecycleTransition initiator vpp ue => Sys2Proof.Machine.execLifecycleTransition initiator vpp ue s
  | .lcProgramDone ok => Sys2Proof.Machine.execLcProgramDone ok s
  | .graftApply graft_ unreadable => Sys2Proof.Machine.execGraftApply graft_ unreadable s
  | .graftApplyDone => Sys2Proof.Machine.execGraftApplyDone s
  | .manChunk port frame stamp => Sys2Proof.Machine.execManChunk port frame stamp s
  | .piece port frame stamp => Sys2Proof.Machine.execPiece port frame stamp s
  | .want port frame stamp => Sys2Proof.Machine.execWant port frame stamp s
  | .done port frame stamp => Sys2Proof.Machine.execDone port frame stamp s
  | .relayWantTimer graft_ => Sys2Proof.Machine.execRelayWantTimer graft_ s
  | .pollenPiece payload => Sys2Proof.Machine.execPollenPiece payload s
  | .pollenWant payload => Sys2Proof.Machine.execPollenWant payload s
  | .pollenAnnounce payload => Sys2Proof.Machine.execPollenAnnounce payload s
  | .planGo initiator => Sys2Proof.Machine.execPlanGo initiator s
  | .planActivate => Sys2Proof.Machine.execPlanActivate s
  | .healthFail => Sys2Proof.Machine.execHealthFail s
  | .healthCheckEnd => Sys2Proof.Machine.execHealthCheckEnd s
  | .planCancel initiator => Sys2Proof.Machine.execPlanCancel initiator s
  | .crownConfirm initiator => Sys2Proof.Machine.execCrownConfirm initiator s
  | .graftDiscard initiator => Sys2Proof.Machine.execGraftDiscard initiator s
  | .helloTimer => Sys2Proof.Machine.execHelloTimer s
  | .hello port frame stamp => Sys2Proof.Machine.execHello port frame stamp s
  | .helloAck port frame stamp => Sys2Proof.Machine.execHelloAck port frame stamp s
  | .hbEnable initiator value => Sys2Proof.Machine.execHbEnable initiator value s
  | .heartbeatMark => Sys2Proof.Machine.execHeartbeatMark s
  | .heartbeat port frame stamp => Sys2Proof.Machine.execHeartbeat port frame stamp s
  | .own port frame stamp => Sys2Proof.Machine.execOwn port frame stamp s
  | .ownReq port frame stamp => Sys2Proof.Machine.execOwnReq port frame stamp s
  | .digest port frame stamp => Sys2Proof.Machine.execDigest port frame stamp s
  | .shadow port frame stamp => Sys2Proof.Machine.execShadow port frame stamp s
  | .shadowKey port frame stamp => Sys2Proof.Machine.execShadowKey port frame stamp s
  | .rank2AdoptTimer peer => Sys2Proof.Machine.execRank2AdoptTimer peer s
  | .budgetWrite initiator service value => Sys2Proof.Machine.execBudgetWrite initiator service value s
  | .domainIdleExpiry domain => Sys2Proof.Machine.execDomainIdleExpiry domain s
  | .domainEntryDone domain => Sys2Proof.Machine.execDomainEntryDone domain s
  | .domainOnReached domain => Sys2Proof.Machine.execDomainOnReached domain s
  | .domainForceWrite initiator domain value => Sys2Proof.Machine.execDomainForceWrite initiator domain value s
  | .sleepingAccess initiator off write value => Sys2Proof.Machine.execSleepingAccess initiator off write value s
  | .opRequest initiator value avs => Sys2Proof.Machine.execOpRequest initiator value avs s
  | .opVoltageSettled => Sys2Proof.Machine.execOpVoltageSettled s
  | .vcoreLoopTick avs => Sys2Proof.Machine.execVcoreLoopTick avs s
  | .avsRetry initiator => Sys2Proof.Machine.execAvsRetry initiator s
  | .linkUp port => Sys2Proof.Machine.execLinkUp port s
  | .linkDown port block fec clk hiBer => Sys2Proof.Machine.execLinkDown port block fec clk hiBer s
  | .ethCfgWrite initiator port value => Sys2Proof.Machine.execEthCfgWrite initiator port value s
  | .pcieL1Exit => Sys2Proof.Machine.execPcieL1Exit s
  | .perstAssert => Sys2Proof.Machine.execPerstAssert s
  | .perstRelease => Sys2Proof.Machine.execPerstRelease s
  | .wakeIn => Sys2Proof.Machine.execWakeIn s
  | .gpioWakeEdge pin rising => Sys2Proof.Machine.execGpioWakeEdge pin rising s
  | .wakeHoldExpiry code => Sys2Proof.Machine.execWakeHoldExpiry code s
  | .budWindowOpen => Sys2Proof.Machine.execBudWindowOpen s
  | .budWindowClose => Sys2Proof.Machine.execBudWindowClose s
  | .budDetect matched => Sys2Proof.Machine.execBudDetect matched s
  | .unitFault faults disagree => Sys2Proof.Machine.execUnitFault faults disagree s
  | .sramCorrectableError bank off => Sys2Proof.Machine.execSramCorrectableError bank off s
  | .bankCopyDone bank => Sys2Proof.Machine.execBankCopyDone bank s
  | .lockstepMismatch => Sys2Proof.Machine.execLockstepMismatch s
  | .prnReadmit initiator cls inst => Sys2Proof.Machine.execPrnReadmit initiator cls inst s
  | .readmitDone pass => Sys2Proof.Machine.execReadmitDone pass s
  | .prnInject initiator cls inst => Sys2Proof.Machine.execPrnInject initiator cls inst s
  | .rrcFreeze initiator => Sys2Proof.Machine.execRrcFreeze initiator s
  | .rrcUnfreeze initiator => Sys2Proof.Machine.execRrcUnfreeze initiator s
  | .pfailFall => Sys2Proof.Machine.execPfailFall s
  | .rrFlushDone => Sys2Proof.Machine.execRrFlushDone s
  | .ident => Sys2Proof.Machine.execIdent s
  | .rrInfo => Sys2Proof.Machine.execRrInfo s
  | .rrRead index count src => Sys2Proof.Machine.execRrRead index count src s
  | .regRead off count => Sys2Proof.Machine.execRegRead off count s
  | .challenge => Sys2Proof.Machine.execChallenge s
  | .setBaud rate => Sys2Proof.Machine.execSetBaud rate s
  | .setBaudTimeout => Sys2Proof.Machine.execSetBaudTimeout s
  | .auth payload => Sys2Proof.Machine.execAuth payload s
  | .regWrite off words => Sys2Proof.Machine.execRegWrite off words s
  | .memRead addr count => Sys2Proof.Machine.execMemRead addr count s
  | .memWrite addr words => Sys2Proof.Machine.execMemWrite addr words s
  | .readmit cls inst => Sys2Proof.Machine.execReadmit cls inst s
  | .inject cls inst => Sys2Proof.Machine.execInject cls inst s
  | .rrUnfreeze => Sys2Proof.Machine.execRrUnfreeze s
  | .reset => Sys2Proof.Machine.execReset s
  | .logout => Sys2Proof.Machine.execLogout s
  | .monFrameTimeout => Sys2Proof.Machine.execMonFrameTimeout s
  | .sessionExpiry => Sys2Proof.Machine.execSessionExpiry s
  | .monKill initiator => Sys2Proof.Machine.execMonKill initiator s
  | .authLockoutEnd => Sys2Proof.Machine.execAuthLockoutEnd s
  | .bar2Access offset write value => Sys2Proof.Machine.execBar2Access offset write value s
  | .msixCoalesceExpiry vector => Sys2Proof.Machine.execMsixCoalesceExpiry vector s
  | .mailboxHello => Sys2Proof.Machine.execMailboxHello s
  | .mailboxPing => Sys2Proof.Machine.execMailboxPing s
  | .mailboxHostService => Sys2Proof.Machine.execMailboxHostService s
  | .boardRecordProgram initiator vpp readback => Sys2Proof.Machine.execBoardRecordProgram initiator vpp readback s
  | .xspRead initiator => Sys2Proof.Machine.execXspRead initiator s
  | .xspProgram initiator => Sys2Proof.Machine.execXspProgram initiator s
  | .xspErase initiator => Sys2Proof.Machine.execXspErase initiator s
  | .xspSfdp initiator => Sys2Proof.Machine.execXspSfdp initiator s
  | .xspComplete deviceOk ue => Sys2Proof.Machine.execXspComplete deviceOk ue s
  | .pinGpioWrite initiator out value => Sys2Proof.Machine.execPinGpioWrite initiator out value s
  | .pinCxWrite initiator out value => Sys2Proof.Machine.execPinCxWrite initiator out value s
  | .pcieLinkDown => Sys2Proof.Machine.execPcieLinkDown s
  | .pcieL1Entry => Sys2Proof.Machine.execPcieL1Entry s
  | .pcieL0Reached gen width => Sys2Proof.Machine.execPcieL0Reached gen width s
  | .ethSignalDetect port => Sys2Proof.Machine.execEthSignalDetect port s
  | .monRxdStartBit => Sys2Proof.Machine.execMonRxdStartBit s
  | .monBadCrcFrame frame => Sys2Proof.Machine.execMonBadCrcFrame frame s
  | .pfailLRise => Sys2Proof.Machine.execPfailLRise s
  | .secRestartDone => Sys2Proof.Machine.execSecRestartDone s
  | .crownUnmappedAccess core addr => Sys2Proof.Machine.execCrownUnmappedAccess core addr s
  | .tapInstruction code => Sys2Proof.Machine.execTapInstruction code s
  | .schedulePreWake asn cell => Sys2Proof.Machine.execSchedulePreWake asn cell s
  | .lateCatchHoldEnd asn cell => Sys2Proof.Machine.execLateCatchHoldEnd asn cell s

end Sys2Proof.Machine
end

