-- ==== Sys2Proof/Machine/Tick.lean ====
section
/-!
DEFINITION. The tick: what the block does when no command waits (notes/assumptions/2).
-/

namespace Sys2Proof.Machine

/-- One time-island tick of the always-on counter: 491.52 MHz is 15,000 × 32.768 kHz (R241, R379). -/
def tickAon (s : State) : State :=
  if s.power.aonPart + 1 < 15000 then { s with power := { s.power with aonPart := s.power.aonPart + 1 } }
  else { s with power := { s.power with aonPart := 0, aonTicks := (s.power.aonTicks + 1) % 2 ^ 64 } }

/-- One period of the time-island clock passes: the always-on counter runs, and the time base while PD_TIME is ON
(R241); receive windows that open or close with it move the stored weights (R77), and lanes store what they decode (R110). -/
def execTick (s : State) : Host.Outcome State Fault Refusal :=
  run (fun s => storePsdus (movePosts ((tickAon s).when (s.domOn 1) tickTime))) s

end Sys2Proof.Machine
end

