-- ==== Sys2Proof/Safety.lean ====
section
/-!
DEFINITION. What claims say of a command: that it is carried out, what it leaves as it was, and when a step is safe.
-/

namespace Sys2Proof

open Machine

/-- The step from a state answers a next state: no fault and no refusal. -/
def Safe (s : State) : Prop := ∃ t, step s = .next t

/-- A command is carried out in a state, and the next state is as `P` says. -/
def Does (c : Instr) (s : State) (P : State → Prop) : Prop := ∃ t, exec c s = .next t ∧ P t

/-- A counter counts one more, up to its greatest value (R28). -/
abbrev Counts (f : Fld) (s t : State) : Prop := t.get f = min (s.get f + 1) (2 ^ f.width - 1)

/-- The status that an outcome stands for: 0, or that of the first failed check. -/
def statusOf {α : Type} : Except Nat α → Nat
  | .ok _ => 0
  | .error e => e

/-- A channel's command waits to be carried out as it completes: its operation and slot, the instant of its go and its place in line. -/
abbrev CommandDue (s : State) (c op slot w p : Nat) : Prop :=
  c < 2 ∧ s.prune.secRestarting = false ∧ s.secHalted = false ∧ tabFind s.hwd.runs c = some ⟨op, slot, false, true, 0, 0, none, w, p, []⟩

/-- The slots that the part uses for itself serve it, and none waits to come back (R286). -/
abbrev OwnSlots (s : State) (l : List Nat) (usage : Nat) : Prop := s.hwd.lost = [] ∧ ∀ i ∈ l, slotCheck s i usage none = none

/-- The registers that show flags of other registers, CNP_STAT and TMU_STAT (R277), follow them with every command. -/
def followers : List Nat := [0x100010, 0x90010]

/-- Every register but the named ones, and the two that follow others, reads as before. -/
def RegsBut (offs : List Nat) (s t : State) : Prop := ∀ off, off ∉ offs → off ∉ followers → t.reg off = s.reg off

/-- The registers whose reset values OTP, MRAM and the pins give (R9, R324, R328, R329, R399, R413). -/
def storedOffs : List Nat :=
  [F.BRK_LC_state.off, F.BRK_TAMPER_CNT_count.off, F.BRK_HOLD_CNT_count.off, F.BRK_STATUS_live.off, F.HWD_STATUS_locked.off,
    F.STP_SEQ_FLOOR_floor.off, F.RRC_FLUSH_valid.off, F.RRC_FLUSH_SEQ_flush_seq.off, F.RRC_STAT_flush_fail.off, F.TPR_LINK_pm.off]
  ++ (upTo 5).map (fun k => (F.GRF_FLOOR_security_ver (k + 1)).off) ++ (upTo 8).map (fun j => (F.BRK_LC_NONCE_bytes j).off)
  ++ (upTo 10).map (fun i => (F.BRK_SENSOR_CFG_class i).off)

/-- The parts of the state beside the registers.  What a command shows its surroundings and the interrupts it raises
(messages pending, domains waking for the Crown cores) are no part. -/
inductive Part where
  | queue | firstWrites | dram | power | stand | ring | prune | monitor | time | host | board | canopy | search | lanes
  | traffic | limbs | profile | tables | grove | timers | keys | stored | updates | engine | bark
  deriving DecidableEq, Repr

/-- A part of `t` is as in `s`; DRAM byte for byte. -/
def Part.same (p : Part) (s t : State) : Prop :=
  match p with
  | .queue => t.pending = s.pending
  | .firstWrites => t.rwoWritten = s.rwoWritten
  | .dram => ∀ a, memGet t.dram a = memGet s.dram a
  | .power => { t.power with doms := s.power.doms, crownIrqWaiting := s.power.crownIrqWaiting } = s.power
  | .stand => t.stand = s.stand
  | .ring => t.ring = s.ring
  | .prune => t.prune = s.prune
  | .monitor => t.mon = s.mon
  | .time => t.time = s.time
  | .host => { t.tap with pba := s.tap.pba } = s.tap
  | .board => t.board = s.board
  | .canopy => t.canopy = s.canopy
  | .search => t.search = s.search
  | .lanes => t.lanes = s.lanes
  | .traffic => t.traffic = s.traffic
  | .limbs => t.txl = s.txl
  | .profile => t.rgp = s.rgp
  | .tables => t.tables = s.tables
  | .grove => t.grove = s.grove
  | .timers => t.tmu = s.tmu
  | .keys => t.hwd = s.hwd
  | .stored => t.nv = s.nv
  | .updates => t.grf = s.grf
  | .engine => t.sse = s.sse
  | .bark => t.bark = s.bark

/-- Every part but the named ones is as before. -/
def PartsBut (ps : List Part) (s t : State) : Prop := ∀ p, p ∉ ps → p.same s t

/-- The frame of a command: the named registers and parts may change, nothing else does. -/
def Frame (offs : List Nat) (ps : List Part) (s t : State) : Prop := RegsBut offs s t ∧ PartsBut ps s t

/-- An untagged frame of a port carries a grove message of a type that meets R352 but perhaps for its tag; the port takes
it in, its VLAN is not metered and PD_MEM1 is ON. -/
abbrev MessageArrives (s : State) (type p : Nat) (l m : List Byte) (stamp : Nat) : Prop :=
  p < 4 ∧ portUp s p = true ∧ stamp / 256 ≤ s.now ∧ groveType s l = some type ∧ beAt l 12 2 = 0x86DD ∧ bit (beAt l 0 6) 40 = false
  ∧ ptpOf l = none ∧ l.length + 4 ≤ maxFrame s p ∧ carries s p (s.get (F.ETH_CFG_def_vlan p)) = true ∧ s.get (F.ETH_WAKE_CFG_en p) = 0
  ∧ s.get (F.TRF_VLAN_METER_en (s.get (F.ETH_CFG_def_vlan p))) = 0 ∧ s.domOn 8 = true
  ∧ s.domOn 9 = true ∧ canTake s 1 (ceilDiv l.length 256) = true
  ∧ (ipv6Of (l.drop 14)).drop 48 = m ∧ heard s (ipSrc (ipv6Of (l.drop 14))) m = true

/-- The body of a message, and whether its tag is that of the grove key (R351, R352). -/
abbrev bodyOf (m : List Byte) : List Byte := slice m 20 (leAt m 16 2)
abbrev tagGood (s : State) (m : List Byte) : Bool :=
  (groveKey s).any (fun key => decide (groveTag key (m.take (20 + leAt m 16 2)) = slice m (20 + leAt m 16 2) 16))

/-- The relay acts on a message of a graft with an index, `n` bytes and what follows the header of R342. -/
abbrev RelayHears (s : State) (m : List Byte) (id index n : Nat) (rest : List Byte) : Prop :=
  s.get F.GRF_CTL_relay_en = 1 ∧ stagingContested s = false ∧ byteAt (bodyOf m) 0 = byteAt m 0 ∧ byteAt (bodyOf m) 1 = 2
  ∧ 16 ≤ (bodyOf m).length ∧ relayUp s (byteAt m 3) = true ∧ leAt (bodyOf m) 4 4 = id ∧ leAt (bodyOf m) 8 4 = index
  ∧ leAt (bodyOf m) 12 4 = n ∧ (bodyOf m).drop 16 = rest

/-- The limbs whose TXL_STATUS shows a limb's state: itself, and for the leader of an active gang its members (R134). -/
def reports (s : State) (l : Nat) : List Nat :=
  match gangOf s l with
  | some g => if s.get (F.TXL_GANG_leader g) = l then gangMembers s g else [l]
  | none => [l]

/-- The TXL_STATUS registers of those limbs. -/
abbrev reportOffs (s : State) (l : Nat) : List Nat := (reports s l).map (fun m => (F.TXL_STATUS_state m).off)

/-- Messages sent, counted modulo 2^32. -/
abbrev Sent (n : Nat) (s t : State) : Prop := t.grove.txSeq = (s.grove.txSeq + n) % 2 ^ 32

/-- The interrupt levels noted are those of the flags and masks, and CNP_STAT and TMU_STAT show the flags they
follow (R26, R277). -/
abbrev LevelsAgree (s : State) : Prop :=
  s.irqLevel = irqLevels s ∧ s.get F.CNP_STAT_chain_evt = b2n (chainEvent s) ∧ s.get F.TMU_STAT_unit_evt = b2n (decide (unitSum s ≠ 0))

end Sys2Proof
end

