-- ==== Sys2Proof/Certificates/Slice0/Obligations.lean ====
section
/-!
DEFINITION. The statements about the part: what each command does, what it leaves as it was, and the rules that
hold of every step.
-/

open Sys2Proof Sys2Proof.Machine

/-- With a command at the front of the queue, the step answers what that command answers on the state with the rest of the
queue; the queue is the model’s own. -/
def Obligations.StepRunsFrontCommand : Prop :=
  ∀ (s : State) (c : Instr) (rest : List Instr), s.pending = c :: rest → step s = exec c { s with pending := rest }

/-- On an empty queue, with PD_TIME ON and no millisecond passing, a step adds TMB_INC to the time base, its fraction
carrying into the nanoseconds; that an idle step is one tick is the model’s choice (notes/assumptions/2). -/
def Obligations.IdleStepCountsTime : Prop :=
  ∀ s : State, s.pending = [] → s.domOn 1 = true → s.now % 1000000 + s.get F.TMB_INC_HI_int + 1 < 1000000 →
    s.get F.TMB_INC_HI_int < 16 → s.now + 17 < 2 ^ 64 → s.time.frac < 2 ^ 32 →
    ∃ t, step s = .next t ∧ t.time.ns * 2 ^ 32 + t.time.frac
      = s.time.ns * 2 ^ 32 + s.time.frac + s.get F.TMB_INC_HI_int * 2 ^ 32 + s.get F.TMB_INC_LO_frac

/-- From every state the step answers a next state: every command of the table has an effect. -/
def Obligations.EveryStepIsSafe : Prop :=
  ∀ s : State, Safe s

/-- If a state’s noted levels are those of its STAT and MASK registers, and CNP_STAT.chain_evt and TMU_STAT.unit_evt show
the flags of the chains and timer units, then so it is after any step. -/
def Obligations.StepKeepsInterruptLevels : Prop :=
  ∀ s t : State, LevelsAgree s → step s = .next t → LevelsAgree t

/-- The state after reset meets the invariant of StepKeepsInterruptLevels. -/
def Obligations.ResetInterruptLevels : Prop :=
  LevelsAgree State.reset

/-- Where GLB_STAT is clear and its acc_err unmasked, the host owns the block, vector 52 is unmasked and the link is in
L0, a partial PCIe write sends the MSI-X message of vector 52 with its address and data; where acc_err is masked,
and the command before cleared no flag, it sends none. -/
def Obligations.FlagRaisesMessage : Prop :=
  ∀ s : State,
    (∀ (off : Nat), LevelsAgree s → irqHigh s ⟨0x10, 0x14, 0x7, 52, 0x00⟩ = false → (s.reg 0x14).toNat.testBit 0 =
      false → s.owner 6 0 = 0x0800 → s.tap.funcMask = false → (tabGet s.tap.msix 52 {}).masked = false → s.get
      F.TPR_LINK_pm = 0 → Does (.pciePartialWrite off true) s (fun t => .msix 52 (tabGet s.tap.msix 52 {}).addr
      (tabGet s.tap.msix 52 {}).data ∈ t.out)) ∧
    (∀ (off : Nat), LevelsAgree s → s.cleared = [] → irqHigh s ⟨0x10, 0x14, 0x7, 52, 0x00⟩ = false → (s.reg
      0x14).toNat.testBit 0 = true → s.owner 6 0 = 0x0800 → Does (.pciePartialWrite off true) s (fun t => t.out = []))

/-- Of an initiator that is not pruned: a partial PCIe write sets GLB_STAT.acc_err and counts, and a partial PCIe read
returns the whole aligned word; a narrow store, a misaligned access, a wide access and an access outside the Crown
map raise a bus error of the core and are dropped; a narrow load returns the addressed bytes. Nothing else changes,
DRAM and the tables included. What a pruned core sends is discarded at its fence and counted. A write to a table
window is dropped and sets GLB_STAT.acc_err. -/
def Obligations.BusErrors : Prop :=
  ∀ s : State,
    (∀ (off : Nat), Does (.pciePartialWrite off true) s (fun t => t.get F.GLB_STAT_acc_err = 1 ∧ Counts
      F.GLB_EVCNT_acc_err_cnt s t ∧ Frame [0x10, 0x18] [] s t)) ∧
    (∀ (off : Nat), mapped (off - off % 4) = true → gate s (decidingDomain s (off - off % 4)) = .pass → Does
      (.pciePartialWrite off false) s (fun t => t.out.head? = some (.read (regRead s (off - off % 4))) ∧ Frame [] [] s
      t)) ∧
    (∀ (core off bytes : Nat), (off % bytes ≠ 0 ∨ bytes < 4) → coreFenced s (core + 1) = false → Does
      (.crownNarrowStore core off bytes true) s (fun t => t.out.head? = some (.busError core) ∧ Frame [] [] s t)) ∧
    (∀ (core off bytes : Nat), off % bytes ≠ 0 → coreFenced s (core + 1) = false → Does (.crownNarrowStore core off
      bytes false) s (fun t => t.out.head? = some (.busError core) ∧ Frame [] [] s t)) ∧
    (∀ (core off bytes : Nat), off % bytes = 0 → (bytes = 1 ∨ bytes = 2) → core < 4 → coreFenced s (core + 1) = false
      → mapped (off - off % 4) = true → gate s (decidingDomain s (off - off % 4)) = .pass → Does (.crownNarrowStore
      core off bytes false) s (fun t => t.out.head? = some (.read (BitVec.ofNat 32 ((regRead s (off - off % 4)).toNat
      / 2 ^ (8 * (off % 4)) % 2 ^ (8 * bytes)))) ∧ Frame [] [] s t)) ∧
    (∀ (core : Nat), coreFenced s (core + 1) = false → Does (.crownWideAccess core) s (fun t => t.out.head? = some
      (.busError core) ∧ Frame [] [] s t)) ∧
    (∀ (core addr : Nat), crownMapped s addr = false → coreFenced s (core + 1) = false → Does (.crownUnmappedAccess
      core addr) s (fun t => t.out.head? = some (.busError core) ∧ Frame [] [] s t)) ∧
    (∀ (core : Nat), core < 4 → s.pruned 5 core = true → Does (.crownWideAccess core) s (fun t => .busError core ∉
      t.out ∧ Counts F.PRN_FENCE_DROP_CNT_count s t ∧ t.get F.PRN_STAT_fence_drop = 1)) ∧
    (∀ (i off : Nat) (v : Word), 0x1000000 ≤ off → off < 0x3400000 → s.domOn (decidingDomain s off) = true →
      coreFenced s i = false → Does (.tableWindowWrite i off v) s (fun t => t.get F.GLB_STAT_acc_err = 1 ∧ Counts
      F.GLB_EVCNT_acc_err_cnt s t ∧ Frame [0x10, 0x18] [] s t))

/-- An access to an offset that belongs to no block: a read returns 0, a write changes nothing, and neither leaves an
error. An initiator is no pruned Crown core. -/
def Obligations.UnmappedOffsets : Prop :=
  ∀ s : State,
    (∀ (off : Nat), mapped off = false → Does (.unmappedAccess off false) s (fun t => t.out.head? = some (.read 0#32)
      ∧ Frame [] [] s t)) ∧
    (∀ (off : Nat), mapped off = false → Does (.unmappedAccess off true) s (fun t => Frame [] [] s t)) ∧
    (∀ (i off : Nat) (v r : Word), mapped off = false → coreFenced s i = false → Does (.registerWrite i off v r) s
      (fun t => Frame [] [] s t)) ∧
    (∀ (i off : Nat) (v : Word), mapped off = false → coreFenced s i = false → Does (.sleepingAccess i off false v) s
      (fun t => t.out.head? = some (.read 0#32) ∧ Frame [] [] s t))

/-- Of a register with no effect beyond its fields, an RW field takes the written bits, a W1C field loses the bits written
1, an RO field stays, an RWO field takes the bits once, and every bit of no field stays; and a register write of a
word of the regulatory block, PD_SEC ON and the initiator no pruned core, does so and changes nothing else. -/
def Obligations.FieldAccessTypes : Prop :=
  ∀ (s : State) (off : Nat) (v : Word) (r : RegRow) (ix : List Nat), regRow off = some (r, ix) →
    (∀ f ∈ r.fields,
      wordField ((writePlain off v s).reg off) f.lsb f.width =
        (match f.acc with
          | .rw => wordField v f.lsb f.width
          | .w1c => wordField (s.reg off &&& ~~~v) f.lsb f.width
          | .rwo => if s.rwoWritten.contains off then wordField (s.reg off) f.lsb f.width else wordField v f.lsb f.width
          | _ => wordField (s.reg off) f.lsb f.width)) ∧
    (∀ i < 32, (∀ f ∈ r.fields, ¬(f.lsb ≤ i ∧ i < f.lsb + f.width)) →
      ((writePlain off v s).reg off).toNat.testBit i = (s.reg off).toNat.testBit i) ∧
    (0x240000 ≤ off → off < 0x280000 → off ≠ 0x240010 → off ≠ 0x240014 → off ≠ 0x24002C → s.domOn 2 = true →
      ∀ (i : Nat) (x : Word), coreFenced s i = false →
        ∃ t, exec (.registerWrite i off v x) s = .next t ∧ t.reg off = (writePlain off v s).reg off ∧ Frame [off] [.firstWrites] s t)

/-- A write of GLB_PACE_THR sets its 16 bits and nothing else, and a write of a register of the regulatory block with no
effect beyond its fields acts on each field by its access type; a write of GLB_STAT clears acc_err where it is
written 1 and hardware does not set it in the same arbitration; where hardware does, it reads 1, and if it was set
before its interrupt is sent again (the operand that names such flags is the model’s own, notes/assumptions/135); a
write to a table window is dropped with GLB_STAT.acc_err, its row untouched. An initiator is no pruned Crown core. -/
def Obligations.RegisterWrites : Prop :=
  ∀ s : State,
    (∀ (i : Nat) (v r : Word), s.domOn 0 = true → coreFenced s i = false → Does (.registerWrite i 0x24 v r) s (fun t
      => t.get F.GLB_PACE_THR_thr = v.toNat % 65536 ∧ Frame [0x24] [] s t)) ∧
    (∀ (i : Nat) (v r : Word), s.domOn 0 = true → coreFenced s i = false → Does (.registerWrite i 0x10 v r) s (fun t
      => t.get F.GLB_STAT_acc_err = (if r.toNat.testBit 0 then 1 else if v.toNat.testBit 0 then 0 else s.get
      F.GLB_STAT_acc_err) ∧ Frame [0x10] [] s t)) ∧
    (∀ (i : Nat) (v r : Word), s.domOn 0 = true → s.get F.GLB_STAT_acc_err = 1 → s.get F.GLB_MASK_acc_err = 0 →
      v.toNat.testBit 0 = true → r.toNat.testBit 0 = true → s.owner 6 0 = 0x0800 → s.tap.funcMask = false → (tabGet
      s.tap.msix 52 {}).masked = false → s.get F.TPR_LINK_pm = 0 → coreFenced s i = false → Does (.registerWrite i
      0x10 v r) s (fun t => t.get F.GLB_STAT_acc_err = 1 ∧ .msix 52 (tabGet s.tap.msix 52 {}).addr (tabGet s.tap.msix
      52 {}).data ∈ t.out)) ∧
    (∀ (i off : Nat) (v r : Word), 0x240000 ≤ off → off < 0x280000 → off ≠ 0x240010 → off ≠ 0x240014 → off ≠ 0x24002C
      → s.domOn 2 = true → coreFenced s i = false → Does (.registerWrite i off v r) s (fun t => t.reg off =
      (writePlain off v s).reg off ∧ Frame [off] [.firstWrites] s t)) ∧
    (∀ (i off : Nat) (v : Word), 0x1000000 ≤ off → off < 0x2800000 → s.domOn 7 = true → coreFenced s i = false → Does
      (.tableWindowWrite i off v) s (fun t => t.get F.GLB_STAT_acc_err = 1 ∧ Counts F.GLB_EVCNT_acc_err_cnt s t ∧
      Frame [0x10, 0x18] [] s t)) ∧
    (∀ (i off : Nat) (v : Word), 0x2800000 ≤ off → off < 0x3400000 → s.domOn 8 = true → coreFenced s i = false → Does
      (.tableWindowWrite i off v) s (fun t => t.get F.GLB_STAT_acc_err = 1 ∧ Counts F.GLB_EVCNT_acc_err_cnt s t ∧
      Frame [0x10, 0x18] [] s t))

/-- Of a block in one domain: with the domain in RET, autowake on and no force, the access is kept and the domain starts
for ON; with the domain OFF it is fenced: a read returns the pattern, PWR_FENCE_STAT and PWR_FENCE_ADDR record it,
it is counted, and a Crown core takes a bus error; the addressed register keeps its value. An initiator is no pruned
Crown core. -/
def Obligations.SleepingAccess : Prop :=
  ∀ s : State,
    (∀ (i off d : Nat) (w : Bool) (v : Word), mapped off = true → accessDomains off = [d] → (s.dom d).st = .ret → s.on
      (F.PWR_DOM_CFG_autowake d) = true → s.get (F.PWR_DOM_CFG_force d) = 0 → coreFenced s i = false → Does
      (.sleepingAccess i off w v) s (fun t => t.power.stalled = s.power.stalled ++ [⟨d, ⟨i, off, w, v⟩, none⟩] ∧
      (t.dom d).st = .retToOn ∧ Frame [] [.power] s t)) ∧
    (∀ (i off d : Nat) (v : Word), mapped off = true → accessDomains off = [d] → (s.dom d).st = .off → i < 8 → d < 32
      → off < 2 ^ 32 → coreFenced s i = false → Does (.sleepingAccess i off false v) s (fun t => t.out.head? = some
      (.read 0x0FF00FF0#32) ∧ t.get F.PWR_FENCE_STAT_valid = 1 ∧ t.get F.PWR_FENCE_STAT_write = 0 ∧ t.get
      F.PWR_FENCE_STAT_initiator = i ∧ t.get F.PWR_FENCE_STAT_domain = d ∧ t.get F.PWR_FENCE_ADDR_addr = off ∧ Counts
      F.PWR_FENCE_CNT_count s t ∧ t.get F.PWR_STAT_fence = 1 ∧ (1 ≤ i ∧ i ≤ 4 → .busError (i - 1) ∈ t.out) ∧ Frame
      [0x40060, 0x40064, 0x40068, 0x40010, 0x40018] [] s t)) ∧
    (∀ (i off d : Nat) (v r : Word), mapped off = true → accessDomains off = [d] → (s.dom d).st = .off → i < 8 → d <
      32 → off < 2 ^ 32 → coreFenced s i = false → Does (.registerWrite i off v r) s (fun t => t.get
      F.PWR_FENCE_STAT_valid = 1 ∧ t.get F.PWR_FENCE_STAT_write = 1 ∧ t.get F.PWR_FENCE_STAT_initiator = i ∧ t.get
      F.PWR_FENCE_STAT_domain = d ∧ t.get F.PWR_FENCE_ADDR_addr = off ∧ Counts F.PWR_FENCE_CNT_count s t ∧ t.get
      F.PWR_STAT_fence = 1 ∧ (1 ≤ i ∧ i ≤ 4 → .busError (i - 1) ∈ t.out) ∧ Frame [0x40060, 0x40064, 0x40068, 0x40010,
      0x40018] [] s t))

/-- A discarding crossing counts the entries of an episode, sets GLB_STAT.fifo_ovf and writes one event; a gap mark within
an Ethernet frame counts the frame dropped once; a pace update shows the slowest monitor, and one below the
threshold sets pace_low. -/
def Obligations.Crossings : Prop :=
  ∀ s : State,
    (∀ (n k : Nat), canOverflow n = true → 1 ≤ k → ringProtected s (s.get F.RRC_HEAD_index) = false → Does
      (.fifoOverflow n k) s (fun t => t.get (F.GLB_FIFO_OVF_CNT_count n) = min (s.get (F.GLB_FIFO_OVF_CNT_count n) +
      k) (2 ^ 32 - 1) ∧ t.get F.GLB_STAT_fifo_ovf = 1 ∧ Counts F.GLB_EVCNT_fifo_ovf_cnt s t ∧ t.get F.RRC_HEAD_index =
      (s.get F.RRC_HEAD_index + 1) % 4096)) ∧
    (∀ (p : Nat), p < 4 → Does (.gapMark (14 + p) true) s (fun t => Counts (F.ETH_RX_DROP_CNT_count p) s t ∧ t.get
      (F.ETH_STAT_rx_drop p) = 1 ∧ RegsBut [(F.ETH_RX_DROP_CNT_count p).off, (F.ETH_STAT_rx_drop p).off] s t)) ∧
    (∀ (p : Nat), p < 4 → Does (.gapMark (14 + p) false) s (fun t => Frame [] [] s t)) ∧
    (∀ (pace m : Nat) (avs : Option Nat), s.board.porLow = false → s.board.resetLow = false → s.power.opPhase = .idle
      → pace < 65536 → m < 16 → s.get F.GLB_PACE_THR_thr ≤ pace → Does (.paceUpdate pace m avs) s (fun t => t.get
      F.GLB_PACE_min_pace = pace ∧ t.get F.GLB_PACE_mon_id = m ∧ Frame [0x20] [.power] s t)) ∧
    (∀ (pace m : Nat) (avs : Option Nat), s.board.porLow = false → s.board.resetLow = false → s.power.opPhase = .idle
      → m < 16 → pace < s.get F.GLB_PACE_THR_thr → Does (.paceUpdate pace m avs) s (fun t => t.get F.GLB_PACE_min_pace
      = pace ∧ t.get F.GLB_STAT_pace_low = 1 ∧ Counts F.GLB_EVCNT_pace_low_cnt s t))

/-- An overload that falls in no pause counts, sets its flag, and under AGC steps the ladder down by one; detection then
pauses for 100 ns after one that changes no gain, for 200 ns or the settle time of the external LNA it switches,
whichever is longer, after a step, and a detection in a pause counts for nothing; a saturation marks, excludes and
counts the chain once per episode, at ladder 0 or in fixed mode, and its end unmarks it; an LNA’s settle time ends;
the clock locks, and a lock of the source selected clears fell_back; CNVCLK’s failure falls back or stops the
converters; a change of source is taken with every chain disabled and refused otherwise. An initiator is no pruned
Crown core. -/
def Obligations.ReceiveChainEvents : Prop :=
  ∀ s : State,
    (∀ (n : Nat), n < 16 → delivers s n = true → detectionPaused s n = false → (s.chain n).gainMode = 1 → Does
      (.overloadDetect n) s (fun t => Counts (F.CNP_CH_OVL_CNT_count n) s t ∧ t.get (F.CNP_CH_STAT_ovl n) = 1 ∧ Counts
      F.CNP_EVCNT_ovl_cnt s t ∧ t.get (F.CNP_CH_STATUS_ladder n) = s.get (F.CNP_CH_STATUS_ladder n) ∧ (t.chain
      n).pauseTo = s.now + 100 ∧ Frame [(F.CNP_CH_OVL_CNT_count n).off, (F.CNP_CH_STAT_ovl n).off,
      F.CNP_EVCNT_ovl_cnt.off] [.canopy] s t)) ∧
    (∀ (n : Nat), n < 16 → delivers s n = true → detectionPaused s n = false → s.get (F.CNP_CH_STATUS_ladder n) = 0 →
      Does (.overloadDetect n) s (fun t => Counts (F.CNP_CH_OVL_CNT_count n) s t ∧ t.get (F.CNP_CH_STAT_ovl n) = 1 ∧
      Counts F.CNP_EVCNT_ovl_cnt s t ∧ t.get (F.CNP_CH_STATUS_ladder n) = 0 ∧ (t.chain n).pauseTo = s.now + 100)) ∧
    (∀ (n : Nat), n < 16 → delivers s n = true → detectionPaused s n = false → (s.chain n).gainMode = 0 → 0 < s.get
      (F.CNP_CH_STATUS_ladder n) → Does (.overloadDetect n) s (fun t => t.get (F.CNP_CH_STATUS_ladder n) = s.get
      (F.CNP_CH_STATUS_ladder n) - 1 ∧ Counts (F.CNP_CH_OVL_CNT_count n) s t ∧ t.get (F.CNP_CH_STAT_ovl n) = 1 ∧
      Counts F.CNP_EVCNT_ovl_cnt s t ∧ (t.chain n).pauseTo = s.now + (if s.get (F.CNP_CH_STATUS_ladder n) = 5 ∧
      (s.chain n).extMode = 1 then max 200 (50 * s.get (F.CNP_CH_EXT_settle n)) else 200) ∧ (∀ m < 16, m ≠ n → t.get
      (F.CNP_CH_STATUS_ladder m) = s.get (F.CNP_CH_STATUS_ladder m)))) ∧
    (∀ (n : Nat), detectionPaused s n = true → Does (.overloadDetect n) s (fun t => Frame [] [] s t)) ∧
    (∀ (n : Nat), n < 16 → delivers s n = true → s.get (F.CNP_CH_STATUS_saturated n) = 0 → (s.get
      (F.CNP_CH_STATUS_ladder n) = 0 ∨ (s.chain n).gainMode = 1) → Does (.saturationStart n) s (fun t => t.get
      (F.CNP_CH_STAT_sat n) = 1 ∧ t.get (F.CNP_CH_STATUS_saturated n) = 1 ∧ t.get (F.CNP_CH_STATUS_excluded n) = 1 ∧
      Counts F.CNP_EVCNT_sat_cnt s t)) ∧
    (∀ (n : Nat), s.get (F.CNP_CH_STATUS_saturated n) = 1 → Does (.saturationStart n) s (fun t => Frame [] [] s t)) ∧
    (∀ (n : Nat), n < 16 → Does (.saturationEnd n) s (fun t => t.get (F.CNP_CH_STATUS_saturated n) = 0 ∧ t.get
      (F.CNP_CH_STATUS_ladder n) = s.get (F.CNP_CH_STATUS_ladder n))) ∧
    (∀ (n : Nat), n < 16 → Does (.extLnaSettleEnd n) s (fun t => (t.chain n).settling = false ∧ t.get
      (F.CNP_CH_STATUS_ladder n) = s.get (F.CNP_CH_STATUS_ladder n))) ∧
    (s.canopy.stopped = false → s.get F.CNP_CLK_locked = 0 → Does (.samplingClockLock) s (fun t => t.get
      F.CNP_CLK_locked = 1 ∧ t.get F.CNP_CLK_fell_back = (if s.get F.CNP_CLK_active_src = s.get F.CNP_CLK_src then 0
      else s.get F.CNP_CLK_fell_back) ∧ RegsBut [F.CNP_CLK_locked.off] s t)) ∧
    (s.get F.CNP_CLK_active_src = 1 → s.canopy.stopped = false → s.get F.CNP_CLK_fallback = 1 → s.lanes.frames = [] →
      s.search.requests = [] → ringProtected s (s.get F.RRC_HEAD_index) = false → Does (.cnvclkFail) s (fun t => t.get
      F.CNP_CLK_active_src = 0 ∧ t.get F.CNP_CLK_fell_back = 1 ∧ t.get F.CNP_STAT_clk_fail = 1 ∧ Counts
      F.CNP_EVCNT_clk_fail_cnt s t ∧ t.get F.RRC_HEAD_index = (s.get F.RRC_HEAD_index + 1) % 4096)) ∧
    (s.get F.CNP_CLK_active_src = 1 → s.canopy.stopped = false → s.get F.CNP_CLK_fallback = 0 → s.lanes.frames = [] →
      s.search.requests = [] → Does (.cnvclkFail) s (fun t => t.canopy.stopped = true ∧ clockRuns t = false ∧ t.get
      F.CNP_STAT_clk_fail = 1 ∧ t.get F.CNP_CLK_fell_back = s.get F.CNP_CLK_fell_back ∧ Counts
      F.CNP_EVCNT_clk_fail_cnt s t ∧ (∀ w < 4, t.get (F.CHZ_WIN_CFG_filled w) = 0))) ∧
    (s.get F.CNP_CLK_active_src = 0 → Does (.cnvclkFail) s (fun t => Frame [] [] s t)) ∧
    (∀ (i : Nat) (v : Word), s.domOn 11 = true → (∀ n < 16, s.get (F.CNP_CH_CTL_enable n) = 0) → v.toNat.testBit 0 =
      true → (s.get F.CNP_CLK_src = 0 ∨ s.get F.CNP_CLK_fell_back = 1) → coreFenced s i = false → Does (.cnpClkWrite i
      v) s (fun t => t.get F.CNP_CLK_src = 1 ∧ t.get F.CNP_CLK_active_src = 1 ∧ t.get F.CNP_CLK_locked = 0 ∧
      t.canopy.stopped = false)) ∧
    (∀ (i n : Nat) (v : Word), s.domOn 11 = true → n < 16 → s.get (F.CNP_CH_CTL_enable n) = 1 → v.toNat.testBit 0 =
      true → (s.get F.CNP_CLK_src = 0 ∨ s.get F.CNP_CLK_fell_back = 1) → coreFenced s i = false → Does (.cnpClkWrite i
      v) s (fun t => t.get F.CNP_STAT_clk_refused = 1 ∧ Frame [F.CNP_STAT_clk_refused.off] [] s t))

/-- A filled window’s output is valid; the spare begins to fill for the slice it serves; an entry goes stale and counts;
of disagreeing partitions the one that reports an error, or the odd one, is pruned with cause 5 and counts; a
covariance block in which no stream of the bin was requesting or assigned enters the estimate; the blind weights of
the bin’s streams are computed again; a look-vector element waits, and element 15 commits. An initiator is no pruned
Crown core. -/
def Obligations.WindowsAndQuietMap : Prop :=
  ∀ s : State,
    (∀ (w : Nat), w < 4 → s.canopy.filling.contains w = true → clockRuns s = true → Does (.windowFilled w) s (fun t =>
      t.get (F.CHZ_WIN_CFG_filled w) = 1 ∧ t.canopy.filling.contains w = false)) ∧
    (∀ (i : Nat), s.canopy.spare = .loading i → i < 8 → s.domOn 17 = true → Does (.spareSliceLoaded) s (fun t =>
      t.canopy.spare = .filling i ∧ t.get (F.CHZ_SLICE_state 8) = 4 ∧ t.get (F.CHZ_SLICE_is_sub 8) = 1 ∧ t.get
      (F.CHZ_SLICE_serves 8) = i ∧ t.get (F.CHZ_SLICE_window 8) = i / 2 ∧ t.get (F.CHZ_SLICE_half 8) = i % 2 ∧ Frame
      [(F.CHZ_SLICE_state 8).off] [.canopy] s t)) ∧
    (∀ (b g : Nat), (s.qmap b g).state = 1 → max 1 (s.get F.CHZ_QMAP_CFG_stale_ts) ≤ (s.qmap b g).busy → Does
      (.qmapStale b g) s (fun t => (t.qmap b g).state = 2 ∧ (t.qmap b g).level = (s.qmap b g).level ∧ t.get
      F.CHZ_STAT_qmap_stale = 1 ∧ Counts F.CHZ_EVCNT_qmap_stale_cnt s t ∧ Frame [F.CHZ_STAT_qmap_stale.off,
      F.CHZ_EVCNT_qmap_stale_cnt.off] [.canopy] s t)) ∧
    (∀ (w i : Nat) (r : Option Nat), w < 4 → 2 * w + (r.getD 1) % 2 = i → s.pruned 4 i = false → s.canopy.spare ≠
      .serving i → s.canopy.spare ≠ .returning i → Does (.partitionMismatch w r) s (fun t => t.pruned 4 i = true ∧
      t.get F.PRN_LAST_class = 4 ∧ t.get F.PRN_LAST_instance = i ∧ t.get F.PRN_LAST_cause = 5 ∧ t.get
      F.SPC_STAT_part_mismatch = 1 ∧ Counts F.SPC_EVCNT_part_mismatch_cnt s t)) ∧
    (∀ (b : Nat) (x : List Rat), s.get (F.CHZ_BIN_valid b) = 1 → s.get (F.CHZ_WIN_CFG_filled (binWindow s b)) = 1 →
      binBusy s b = false → s.search.busyBins.contains b = false → b < 1024 → Does (.covarianceBlock b x) s (fun t =>
      tabGet t.search.covariance b [] = List.zipWith (fun o n => o + (n - o) / ((2 ^ max 1 (s.get F.SPC_CFG_beta) :
      Nat) : Rat)) (covarianceOf s b) x ∧ Frame [] [.search] s t)) ∧
    (∀ (b i : Nat), s.get (F.CHZ_BIN_valid b) = 1 → s.get (F.CHZ_WIN_CFG_filled (binWindow s b)) = 1 → i ∈ binStreams
      s b → Does (.blindWeightRecompute b) s (fun t => Frame [] [.search] s t ∧ tabGet t.search.blind i [] =
      blindWeight s b (s.get (F.SPC_STREAM_beam i)))) ∧
    (∀ (j w b e : Nat) (v : Word), w < 4 → b < 4 → e < 15 → gate s (decidingDomain s (0x181000 + 0x100 * w + 0x40 * b
      + 4 * e)) = .pass → coreFenced s j = false → Does (.spcLookWrite j w b e v) s (fun t => tabFind
      t.search.lookPending (0x181000 + 0x100 * w + 0x40 * b + 4 * e) = some v ∧ Frame [] [.search] s t)) ∧
    (∀ (j w b : Nat) (v : Word), w < 4 → b < 4 → gate s (decidingDomain s (0x181000 + 0x100 * w + 0x40 * b + 60)) =
      .pass → coreFenced s j = false → Does (.spcLookWrite j w b 15 v) s (fun t => t.reg (0x181000 + 0x100 * w + 0x40
      * b + 60) = v ∧ (∀ e < 15, ∀ x, tabFind s.search.lookPending (0x181000 + 0x100 * w + 0x40 * b + 4 * e) = some x
      → t.reg (0x181000 + 0x100 * w + 0x40 * b + 4 * e) = x)))

/-- A detection that nothing merges counts, records its SNR and becomes a request; one that merges with a stronger request
is suppressed and counted as merged, and one that merges with a weaker request takes its place; the arbiter grants a
free lane to the only request of a pool; a request not granted in time is dropped and counted as lane exhaustion. -/
def Obligations.SearchAndGrant : Prop :=
  ∀ s : State,
    (∀ (d : Detection) (p : Nat), detectable s d = true → d.stream < 2048 → kinOf s d = ([], []) → poolFor s d.format
      d.mode = some p → poolAwake s p = true → Does (.preambleDetect d) s (fun t => t.get
      (F.SRH_STREAM_STATUS_last_snr d.stream) = d.snr % 256 ∧ t.get (F.SRH_STREAM_STATUS_format d.stream) = d.format ∧
      t.get (F.SRH_STREAM_STATUS_det_cnt d.stream) = (s.get (F.SRH_STREAM_STATUS_det_cnt d.stream) + 1) % 2 ^
      (F.SRH_STREAM_STATUS_det_cnt d.stream).width ∧ t.get (F.SRH_STREAM_STATUS_state d.stream) = 2 ∧
      (t.search.requests.map LaneRequest.stream).contains d.stream = true ∧ Frame [(F.SRH_STREAM_STATUS_state
      d.stream).off] [.canopy, .search] s t)) ∧
    (∀ (d : Detection) (r : LaneRequest), detectable s d = true → d.stream < 2048 → kinOf s d = ([r], []) → d.snr <
      r.snr → frozen s d.stream = false → Does (.preambleDetect d) s (fun t => t.get (F.SRH_STREAM_STATUS_state
      d.stream) = 4 ∧ Counts F.SRH_MERGE_CNT_count s t ∧ t.search.requests = s.search.requests)) ∧
    (∀ (d : Detection) (r : LaneRequest) (p : Nat), detectable s d = true → d.stream < 2048 → r.stream < 2048 → kinOf
      s d = ([r], []) → r.snr < d.snr → frozen s r.stream = false → poolFor s d.format d.mode = some p → poolAwake s p
      = true → Does (.preambleDetect d) s (fun t => t.get (F.SRH_STREAM_STATUS_state d.stream) = 2 ∧ t.get
      (F.SRH_STREAM_STATUS_state r.stream) = 4 ∧ Counts F.SRH_MERGE_CNT_count s t ∧ t.search.requests.contains r =
      false ∧ (t.search.requests.map LaneRequest.stream).contains d.stream = true)) ∧
    (∀ (p : Nat) (r : LaneRequest), roundOrder s p = [r] → frozen s r.stream = false → r.pool = p → freeLanes s p ≠ []
      → (∀ n ∈ freeLanes s p, n < 544) → r.stream < 2048 → Does (.laneArbiterRound p) s (fun t => (∃ n ∈ freeLanes s
      p, t.get (F.SRH_LANE_MAP_busy n) = 1 ∧ t.get (F.LNE_STATUS_state n) = 1 ∧ (tabFind t.lanes.frames n).map
      LaneFrame.req = some r ∧ t.get (F.SRH_STREAM_STATUS_lane r.stream) = n) ∧ t.get (F.SRH_STREAM_STATUS_state
      r.stream) = 3 ∧ t.search.requests.contains r = false ∧ (r.catchClass ≠ 0 → Counts F.SRH_LATE_CNT_count s t))) ∧
    (∀ (i : Nat) (r : LaneRequest), s.search.requests = [r] → r.stream = i → (r.bankWait = false ∨ poolAwake s r.pool
      = true) → r.pool < 16 → Does (.laneRequestRefused i) s (fun t => t.search.requests = [] ∧ (r.catchClass = 0 →
      t.get F.SRH_STAT_sched_exh = 1) ∧ Counts F.SRH_EXH_CNT_count s t ∧ Counts (F.SRH_POOL_EXH_CNT_count r.pool) s t
      ∧ t.get F.SRH_STAT_exh = 1 ∧ Counts F.SRH_EVCNT_exh_cnt s t))

/-- A delimiter that matches ends the training, and its stamp and form are kept, and one that does not changes nothing; a
header is decoded, and a bad or unsupported one ends the frame with status 2 or 3; the equaliser adapts, and goes
back to its trained taps with the feedback at 0 where the error power of 32 symbols exceeds four times that of
training; a frame without a delimiter is abandoned and counted; a lost signal, a good, a failed and an unstored last
octet each end the frame with their status and release lane and stream; a lane that is not working has its output
discarded. The domain of the limb or lane is ON. -/
def Obligations.LaneFrames : Prop :=
  ∀ s : State,
    (∀ (n r x : Nat) (m : FrameMeasure) (l : List EqSymbol) (f : LaneFrame) (c : Bool), n < 544 → tabFind
      s.lanes.frames n = some f → f.found = false → delimiter f.req.format (bits f.fsk.toNat 0 1) r = some c → s.domOn
      (19 + n / 136) = true → Does (.delimiterFound n r x m l) s (fun t => (tabFind t.lanes.frames n).map (fun g =>
      (g.found, g.coded, g.sfdStamp, g.measure)) = some (true, c, x, m) ∧ (tabFind t.lanes.frames n).map (fun g =>
      g.equaliser.trained) = some (some (adapt true l f).equaliser.forward) ∧ t.get (F.LNE_STATUS_state n) = 2 ∧ Frame
      [(F.LNE_STATUS_state n).off] [.lanes] s t)) ∧
    (∀ (n r x : Nat) (m : FrameMeasure) (l : List EqSymbol) (f : LaneFrame), tabFind s.lanes.frames n = some f →
      delimiter f.req.format (bits f.fsk.toNat 0 1) r = none → Does (.delimiterFound n r x m l) s (fun t => Frame []
      [] s t)) ∧
    (∀ (n p len : Nat) (rx : List Int) (m : FrameMeasure) (l : List EqSymbol) (f : LaneFrame) (wh sh : Bool), n < 544
      → tabFind s.lanes.frames n = some f → f.found = true → f.phrKnown = false → phrOf f rx = p → modeSwitch
      f.req.format p = false → parseHeader f.req.format p = some (len, wh, sh) → s.domOn (19 + n / 136) = true → Does
      (.phrDecode n rx m l) s (fun t => (tabFind t.lanes.frames n).map (fun g => (g.phrKnown, g.phr, g.len,
      g.whitened, g.crc16)) = some (true, p, len, wh, sh) ∧ t.get (F.LNE_STATUS_state n) = 3 ∧ Frame
      [(F.LNE_STATUS_state n).off] [.lanes] s t)) ∧
    (∀ (n k : Nat) (rx : List Int) (m : FrameMeasure) (l : List EqSymbol) (f : LaneFrame), n < 544 → tabFind
      s.lanes.frames n = some f → f.found = true → f.phrKnown = false → headerStatus f.req.format (phrOf f rx) = some
      k → s.get (F.SRH_LANE_MAP_role n) = 1 → s.get (F.SRH_LANE_MAP_gen n) = f.gen → s.lanes.oldUcode = [] →
      f.req.stream < 2048 → s.domOn (19 + n / 136) = true → Does (.phrDecode n rx m l) s (fun t => tabFind
      t.lanes.frames n = none ∧ t.get (F.SRH_LANE_MAP_busy n) = 0 ∧ t.get (F.LNE_STATUS_state n) = 0 ∧ t.get
      (F.LNE_STATUS_last_status n) = k ∧ (t.lanes.delivered.getLast?).map RxDescriptor.status = some k ∧
      t.lanes.delivered.length = s.lanes.delivered.length + 1)) ∧
    (∀ (n : Nat) (l : List EqSymbol) (f : LaneFrame), tabFind s.lanes.frames n = some f → f.found = true → s.domOn (19
      + n / 136) = true → Does (.eqReset n l) s (fun t => tabFind t.lanes.frames n = some (adapt false l f) ∧ Frame []
      [.lanes] s t)) ∧
    (∀ (n : Nat) (x : EqSymbol) (q : Equaliser) (f : LaneFrame), tabFind s.lanes.frames n = some f → f.found = true →
      f.eqReset = false → eqSymbol f.eq.toNat false false x f.equaliser = q → q.trained.isSome = true →
      q.dataErr.length = 32 → q.trainErr ≠ [] → 4 * (q.trainErr.sum / q.trainErr.length) < q.dataErr.sum / 32 →
      s.domOn (19 + n / 136) = true → Does (.eqReset n [x]) s (fun t => (tabFind t.lanes.frames n).map
      LaneFrame.eqReset = some true ∧ (tabFind t.lanes.frames n).map (fun g => some g.equaliser.forward) = some
      q.trained ∧ (tabFind t.lanes.frames n).map (fun g => g.equaliser.back) = some (List.replicate 8 (0, 0)) ∧ Frame
      [] [.lanes] s t)) ∧
    (∀ (n : Nat) (f : LaneFrame), n < 544 → tabFind s.lanes.frames n = some f → f.found = false → s.lanes.oldUcode =
      [] → f.req.stream < 2048 → s.domOn (19 + n / 136) = true → Does (.sfdWaitTimeout n) s (fun t => tabFind
      t.lanes.frames n = none ∧ t.get (F.SRH_LANE_MAP_busy n) = 0 ∧ t.get (F.LNE_STATUS_state n) = 0 ∧ Counts
      (F.LNE_NOSFD_CNT_count n) s t ∧ Counts F.LNE_EVCNT_nosfd_cnt s t ∧ t.lanes.delivered = s.lanes.delivered ∧
      f.req.stamp + 25600000 ≤ 256 * t.now)) ∧
    (∀ (n : Nat) (rx : List Int) (m : FrameMeasure) (l : List EqSymbol) (f : LaneFrame), n < 544 → tabFind
      s.lanes.frames n = some f → f.found = true → s.get (F.SRH_LANE_MAP_role n) = 1 → s.get (F.SRH_LANE_MAP_gen n) =
      f.gen → s.lanes.oldUcode = [] → f.req.stream < 2048 → s.domOn (19 + n / 136) = true → Does (.lostSignal n rx m
      l) s (fun t => tabFind t.lanes.frames n = none ∧ t.get (F.SRH_LANE_MAP_busy n) = 0 ∧ t.get (F.LNE_STATUS_state
      n) = 0 ∧ t.get (F.LNE_STATUS_last_status n) = 4 ∧ Counts F.LNE_EVCNT_lost_cnt s t ∧
      (t.lanes.delivered.getLast?).map RxDescriptor.status = some 4 ∧ t.lanes.delivered.length =
      s.lanes.delivered.length + 1)) ∧
    (∀ (n : Nat) (rx : List Int) (m : FrameMeasure) (l : List EqSymbol) (f : LaneFrame), n < 544 → tabFind
      s.lanes.frames n = some f → f.phrKnown = true → s.get (F.SRH_LANE_MAP_role n) = 1 → s.get (F.SRH_LANE_MAP_gen n)
      = f.gen → s.lanes.oldUcode = [] → f.req.stream < 2048 → f.noBuffer = false → ceilDiv f.len 256 ≤ f.cells.length
      → fcsHolds f.crc16 (psduOf f rx) = true → s.domOn (19 + n / 136) = true → Does (.laneFrameComplete n rx m l) s
      (fun t => tabFind t.lanes.frames n = none ∧ t.get (F.SRH_LANE_MAP_busy n) = 0 ∧ t.get (F.LNE_STATUS_state n) = 0
      ∧ t.get (F.LNE_STATUS_last_status n) = 0 ∧ (t.lanes.delivered.getLast?).map (fun d => (d.status, d.psdu, d.seq))
      = some (0, psduOf f rx, s.lanes.nextSeq))) ∧
    (∀ (n : Nat) (rx : List Int) (m : FrameMeasure) (l : List EqSymbol) (f : LaneFrame), n < 544 → tabFind
      s.lanes.frames n = some f → f.phrKnown = true → s.get (F.SRH_LANE_MAP_role n) = 1 → s.get (F.SRH_LANE_MAP_gen n)
      = f.gen → s.lanes.oldUcode = [] → f.req.stream < 2048 → f.noBuffer = false → ceilDiv f.len 256 ≤ f.cells.length
      → fcsHolds f.crc16 (psduOf f rx) = false → s.domOn (19 + n / 136) = true → Does (.laneFrameComplete n rx m l) s
      (fun t => tabFind t.lanes.frames n = none ∧ t.get (F.SRH_LANE_MAP_busy n) = 0 ∧ t.get (F.LNE_STATUS_state n) = 0
      ∧ t.get (F.LNE_STATUS_last_status n) = 1 ∧ Counts (F.LNE_CRC_CNT_count n) s t ∧ (t.lanes.delivered.getLast?).map
      (fun d => (d.status, d.seq)) = some (1, s.lanes.nextSeq) ∧ (f.cfg.toNat.testBit 31 = false →
      (t.lanes.delivered.getLast?).map (fun d => (d.psdu, d.cells)) = some ([], [])))) ∧
    (∀ (n : Nat) (rx : List Int) (m : FrameMeasure) (l : List EqSymbol) (f : LaneFrame), n < 544 → tabFind
      s.lanes.frames n = some f → f.phrKnown = true → s.get (F.SRH_LANE_MAP_role n) = 1 → s.get (F.SRH_LANE_MAP_gen n)
      = f.gen → s.lanes.oldUcode = [] → f.req.stream < 2048 → f.noBuffer = true → s.domOn (19 + n / 136) = true → Does
      (.laneFrameComplete n rx m l) s (fun t => tabFind t.lanes.frames n = none ∧ t.get (F.SRH_LANE_MAP_busy n) = 0 ∧
      t.get (F.LNE_STATUS_state n) = 0 ∧ t.get (F.LNE_STATUS_last_status n) = 6 ∧ (t.lanes.delivered.getLast?).map
      (fun d => (d.status, d.psdu, d.cells)) = some (6, [], []))) ∧
    (∀ (n : Nat) (rx : List Int) (m : FrameMeasure) (l : List EqSymbol), n < 544 → tabFind s.lanes.frames n = none →
      s.get (F.SRH_LANE_MAP_role n) ≠ 1 → s.domOn (19 + n / 136) = true → Does (.laneFrameComplete n rx m l) s (fun t
      => Counts F.SRH_GEN_DISCARD_CNT_count s t ∧ t.get F.SRH_STAT_gen_discard = 1 ∧ Counts F.PRN_FENCE_DROP_CNT_count
      s t ∧ t.lanes = { s.lanes with fenced := tabErase s.lanes.fenced n }))

/-- A self-test of a spare or pruned lane starts and is refused on a working one; a passing test gives the lane its role
back; a failing one is counted and prunes a spare with cause 3; a pruned lane with a passing result becomes a spare;
the bank timer tests its next spare. An initiator is no pruned Crown core. The domain of the limb or lane is ON. -/
def Obligations.LaneTests : Prop :=
  ∀ s : State,
    (∀ (i n : Nat), n < 544 → s.domOn (19 + n / 136) = true → (s.get (F.SRH_LANE_MAP_role n) = 0 ∨ s.get
      (F.SRH_LANE_MAP_role n) = 2) → coreFenced s i = false → Does (.laneSelftest i n) s (fun t => t.get
      (F.SRH_LANE_MAP_role n) = 3 ∧ t.get (F.LNE_ST_RESULT_result n) = 1 ∧ t.get (F.LNE_STATUS_state n) = 5 ∧ tabFind
      t.lanes.tests n = some .software)) ∧
    (∀ (i n : Nat), n < 544 → s.domOn (19 + n / 136) = true → s.get (F.SRH_LANE_MAP_role n) = 1 → coreFenced s i =
      false → Does (.laneSelftest i n) s (fun t => t.get (F.LNE_ST_RESULT_result n) = 8 ∧ t.get (F.SRH_LANE_MAP_role
      n) = 1 ∧ t.lanes = s.lanes)) ∧
    (∀ (n us : Nat) (b : SelfTestBy), n < 544 → tabFind s.lanes.tests n = some b → tabGet s.lanes.oldRole n 0 < 4 → us
      < 65536 → s.domOn (19 + n / 136) = true → Does (.laneSelftestDone n 2 us) s (fun t => t.get
      (F.LNE_ST_RESULT_result n) = 2 ∧ t.get (F.LNE_ST_RESULT_duration_us n) = us ∧ t.get (F.SRH_LANE_MAP_role n) =
      tabGet s.lanes.oldRole n 0 ∧ t.get F.LNE_STAT_selftest_done = 1 ∧ tabFind t.lanes.tests n = none)) ∧
    (∀ (n us : Nat), n < 544 → tabFind s.lanes.tests n = some .timer → tabGet s.lanes.oldRole n 0 = 0 → ringProtected
      s (s.get F.RRC_HEAD_index) = false → s.domOn (19 + n / 136) = true → Does (.laneSelftestDone n 3 us) s (fun t =>
      t.pruned 1 n = true ∧ t.get (F.SRH_LANE_MAP_role n) = 2 ∧ t.get (F.LNE_PRUNE_CAUSE_cause n) = 3 ∧ Counts
      F.LNE_EVCNT_selftest_fail_cnt s t ∧ Counts F.PRN_EVCNT_prune_cnt s t)) ∧
    (∀ (i n : Nat), n < 544 → s.domOn (19 + n / 136) = true → s.get (F.SRH_LANE_MAP_role n) = 2 → s.get
      (F.LNE_ST_RESULT_result n) = 2 → s.lanes.faulted.contains n = false → s.lanes.oldUcode = [] → coreFenced s i =
      false → Does (.laneReadmit i n) s (fun t => t.pruned 1 n = false ∧ t.get (F.SRH_LANE_MAP_role n) = 0 ∧ t.get
      (F.LNE_STATUS_state n) = 0)) ∧
    (∀ (b n : Nat), b < 4 → s.get F.LNE_SPARE_TEST_period_s ≠ 0 → s.domOn (19 + b) = true → s.lanes.tests = [] →
      (spareTurn s b).head? = some n → n < 544 → Does (.spareTestTimer b) s (fun t => tabFind t.lanes.tests n = some
      .timer ∧ t.get (F.SRH_LANE_MAP_role n) = 3 ∧ t.get (F.LNE_STATUS_state n) = 5))

/-- Of a limb that follows no other in a gang and has nothing queued: power takes it from OFF to STANDBY and off again, a
lock makes it READY, a full acquisition writes the channel’s entry and settles, a failed one is counted and returns
it to STANDBY, and the third within 10 s prunes it; idling returns it to STANDBY too, a background calibration takes
it to the requested channel; of any limb, a flush clears the store, a request for a calibration is kept, and a
reading of the temperature shows in TXL_STATUS. An initiator is no pruned Crown core. The domain of the limb or lane
is ON. -/
def Obligations.LimbSynthesiser : Prop :=
  ∀ s : State,
    (∀ (i l : Nat) (v : Word), l < 8 → follows s l = false → l ∈ reports s l → s.domOn (15 + l / 4) = true → limbCode
      s l = 0 → v.toNat.testBit 0 = true → coreFenced s i = false → Does (.txlPowerWrite i l v) s (fun t => limbCode t
      l = 1 ∧ (t.limb l).waking = true ∧ t.get (F.TXL_CTL_power l) = 1 ∧ t.get (F.TXL_CTL_idle_us l) = v.toNat /
      65536)) ∧
    (∀ (i l : Nat) (v : Word), l < 8 → follows s l = false → l ∈ reports s l → s.domOn (15 + l / 4) = true → limbCode
      s l = 4 → v.toNat.testBit 0 = false → (s.limb l).queue = [] → coreFenced s i = false → Does (.txlPowerWrite i l
      v) s (fun t => limbCode t l = 0 ∧ t.get (F.TXL_STATUS_locked l) = 0 ∧ t.get (F.TXL_CTL_power l) = 0)) ∧
    (∀ (l : Nat), l < 8 → (s.limb l).waking = true → (s.limb l).queue = [] → s.domOn (15 + l / 4) = true → Does
      (.limbStandbyReached l) s (fun t => (t.limb l).waking = false ∧ limbCode t l = limbCode s l ∧ Frame
      [(F.TXL_STATUS_state l).off] [.limbs] s t)) ∧
    (∀ (l : Nat), l < 8 → follows s l = false → l ∈ reports s l → limbCode s l = 2 → (s.limb l).bg = none → (s.limb
      l).offPending = false → (s.limb l).queue = [] → s.domOn (15 + l / 4) = true → Does (.synthLock l) s (fun t =>
      limbCode t l = 4 ∧ t.get (F.TXL_STATUS_locked l) = 1 ∧ Frame (reportOffs s l) [] s t)) ∧
    (∀ (l c g e : Nat), l < 8 → follows s l = false → l ∈ reports s l → limbCode s l = 3 → (s.limb l).bg = none →
      entryFor s l (s.limb l).chan = e → e < 512 → (s.limb l).chan < 2 ^ 15 → c < 1024 → g < 256 → s.domOn (15 + l /
      4) = true → Does (.calibrationDone l c g) s (fun t => limbCode t l = 2 ∧ t.get (F.TXL_CAL_ENTRY_HI_entry_hi l e)
      / 2 ^ 16 = 2 ^ 15 + (s.limb l).chan ∧ t.get (F.TXL_CAL_ENTRY_HI_entry_hi l e) % 16 = c / 64 ∧ t.get
      (F.TXL_CAL_ENTRY_LO_entry_lo l e) / 2 ^ 26 = c % 64 ∧ t.get (F.TXL_CAL_ENTRY_LO_entry_lo l e) / 2 ^ 18 % 256 =
      g)) ∧
    (∀ (l : Nat), l < 8 → follows s l = false → l ∈ reports s l → limbCode s l = 3 → (s.limb l).bg = none →
      threeWithin ((s.limb l).acqFails ++ [s.now]) s.now = false → s.domOn (15 + l / 4) = true → Does
      (.acquisitionFail l) s (fun t => limbCode t l = 1 ∧ t.get F.TXL_STAT_cal_fail = 1 ∧ Counts
      F.TXL_EVCNT_cal_fail_cnt s t ∧ (t.limb l).acqFails = (s.limb l).acqFails ++ [s.now])) ∧
    (∀ (l : Nat), l < 8 → gangOf s l = none → limbCode s l = 2 → threeWithin ((s.limb l).acqFails ++ [s.now]) s.now =
      true → s.domOn (15 + l / 4) = true → Does (.acquisitionFail l) s (fun t => limbCode t l = 8 ∧ t.pruned 3 l =
      true ∧ t.get F.PRN_LAST_class = 3 ∧ t.get F.PRN_LAST_instance = l ∧ t.get F.PRN_LAST_cause = 6)) ∧
    (∀ (l : Nat), l < 8 → follows s l = false → l ∈ reports s l → limbCode s l = 4 → (s.limb l).queue = [] → s.get
      (F.TXL_CTL_idle_us l) ≠ 0 → s.domOn (15 + l / 4) = true → Does (.limbIdleTimeout l) s (fun t => limbCode t l = 1
      ∧ t.get (F.TXL_STATUS_locked l) = 0 ∧ Frame (reportOffs s l) [] s t)) ∧
    (∀ (l : Nat) (c : Nat) (a : Bool), l < 8 → follows s l = false → l ∈ reports s l → s.on (F.TXL_CTL_bg_cal l) =
      true → (limbCode s l = 1 ∨ limbCode s l = 4) → (s.limb l).waking = false → (s.limb l).queue = [] → (s.limb
      l).air = none → bgCandidates s l = [(c, a)] → s.domOn (15 + l / 4) = true → Does (.bgCalStart l) s (fun t =>
      limbCode t l = 3 ∧ t.get (F.TXL_STATUS_locked l) = 0 ∧ t.get (F.TXL_FREQ_fw l) = wordOf100k c % 2 ^
      (F.TXL_FREQ_fw l).width ∧ (t.limb l).bg = some ⟨c, decide (limbCode s l = 4), s.get (F.TXL_FREQ_fw l), (s.limb
      l).chan, a⟩)) ∧
    (∀ (i l : Nat), l < 8 → s.domOn (15 + l / 4) = true → coreFenced s i = false → Does (.calFlush i l) s (fun t =>
      calEntries t l = [] ∧ t.get (F.TXL_STATUS_cal_entries l) = 0 ∧ t.get (F.TXL_CTL_idle_us l) = s.get
      (F.TXL_CTL_idle_us l) ∧ t.get (F.TXL_CTL_power l) = s.get (F.TXL_CTL_power l))) ∧
    (∀ (i l c : Nat), l < 8 → s.domOn (15 + l / 4) = true → 4100 ≤ c → c ≤ 25000 → coreFenced s i = false → Does
      (.calRequest i l c) s (fun t => c ∈ (t.limb l).requests ∧ t.get (F.TXL_CAL_REQ_pending l) = 1 ∧ t.get
      (F.TXL_CAL_REQ_chan_100k l) = c)) ∧
    (∀ (l : Nat) (x : Int), l < 8 → s.domOn (15 + l / 4) = true → Does (.limbTempRead l x) s (fun t => t.get
      (F.TXL_STATUS_temp_c l) = unsigned 8 x ∧ Frame [(F.TXL_STATUS_state l).off] [] s t))

/-- Of a limb that follows no other in a gang: a descriptor that arrives joins the queue in launch order or is turned away
with its status; PA_EN of a radiating limb rises for the head frame its en_lead ahead and falls its en_lag after it,
PA_BIAS stepping with it; at ramp start the frame takes the air, its launch at the DAC sample nearest its launch
time, or, in a ramp that starts late, at the first sample 4 µs on; without its octets in the buffer it completes
with status 2, without its grant with status 3, and where the gate refuses it with status 6; a passed lock deadline
completes it with status 1; the launch radiates the PPDU from every radiating limb at its drive level and weight;
the frame ends, and after the tail completes with its status and lateness, the limb in the frame’s return state
STANDBY or READY. The domain of the limb or lane is ON. -/
def Obligations.LimbFrames : Prop :=
  ∀ s : State,
    (∀ (l : Nat) (d : TxDesc), l < 8 → s.txl.crossing.find? (fun e => decide (e.limb = l)) = some d → arrivalStatus s
      { d with arrival := limbCode s l } = none → (s.limb l).queue.length < 4 → (s.limb l).offPending = false → (∀ e ∈
      (s.limb l).queue, e.launch ≤ d.launch) → Does (.txDescriptorArrival l) s (fun t => (t.limb l).queue = (s.limb
      l).queue ++ [{ d with arrival := limbCode s l }] ∧ t.txl.crossing = s.txl.crossing.erase d ∧ t.txl.done =
      s.txl.done)) ∧
    (∀ (l : Nat) (d b : TxDesc), l < 8 → s.txl.crossing.find? (fun e => decide (e.limb = l)) = some d → arrivalStatus
      s { d with arrival := limbCode s l } = none → (s.limb l).queue = [b] → d.launch < b.launch → overlaps s l (d,
      d.launch) b = false → (s.limb l).offPending = false → Does (.txDescriptorArrival l) s (fun t => (t.limb l).queue
      = [{ d with arrival := limbCode s l }, b] ∧ t.txl.done = s.txl.done)) ∧
    (∀ (l c : Nat) (d : TxDesc), l < 8 → s.txl.crossing.find? (fun e => decide (e.limb = l)) = some d → arrivalStatus
      s { d with arrival := limbCode s l } = some c → Does (.txDescriptorArrival l) s (fun t => t.txl.done =
      s.txl.done ++ [⟨{ d with arrival := limbCode s l }, c, 0, 0, 0⟩] ∧ Counts (F.TXL_MISS_CNT_count l) s t ∧ (t.limb
      l).queue = (s.limb l).queue)) ∧
    (∀ (l m : Nat) (d : TxDesc) (q : List TxDesc), m < 8 → leaderOf s m = l → (s.limb l).queue = d :: q → (s.limb
      l).air = none → readyFor s l d = true → m ∈ radiating s d → s.domOn (15 + m / 4) = true → Does (.paEnRise m) s
      (fun t => t.get (F.TXL_STATUS_pa_en m) = 1 ∧ (s.get (F.TXL_STATUS_pa_en m) = 0 → .paEn m true ∈ t.out ∧ .paBias
      m (s.get (F.TXL_PA_bias_on m)) ∈ t.out) ∧ rampStart d ≤ t.now + 250 * s.get (F.TXL_PA_en_lead m) ∧ Frame
      [(F.TXL_STATUS_pa_en m).off] [] (s.reach (rampStart d - paLead s m)) t)) ∧
    (∀ (l : Nat), l < 8 → follows s l = false → l ∈ reports s l → limbCode s l ≤ 4 → s.get (F.TXL_STATUS_pa_en l) = 1
      → paBridges s l = false → s.domOn (15 + l / 4) = true → Does (.paEnFall l) s (fun t => t.get (F.TXL_STATUS_pa_en
      l) = 0 ∧ .paEn l false ∈ t.out ∧ .paBias l (s.get (F.TXL_PA_bias_off l)) ∈ t.out ∧ (∀ a, (s.limb l).tailEnd =
      some a → (s.limb l).air = none → a + 250 * s.get (F.TXL_PA_en_lag l) ≤ t.now ∧ Frame [(F.TXL_STATUS_pa_en
      l).off] [] (s.reach (a + paLag s l)) t) ∧ ((s.limb l).tailEnd = none → Frame [(F.TXL_STATUS_pa_en l).off] [] s
      t))) ∧
    (∀ (l : Nat) (g : Bool) (d : TxDesc) (q : List TxDesc), l < 8 → follows s l = false → l ∈ reports s l → d.limb = l
      → (s.limb l).queue = d :: q → (s.limb l).air = none → readyFor s l d = true → rampTurn s l d = true → s.now ≤
      rampStart d → (coexSet s d = none ∨ g = true) → refusalCause (s.reach (rampStart d)) d = none → s.domOn (15 + l
      / 4) = true → Does (.txRampStart l true g) s (fun t => limbCode t l = 5 ∧ (t.limb l).queue = q ∧ ((t.limb
      l).air.map (fun a => (a.desc, a.rampAt, a.members, a.launched, a.status))) = some (d, rampStart d, maskOf
      (radiating s d), false, 0) ∧ (∀ a, (t.limb l).air = some a → d.launch ≤ a.actual + 521 ∧ a.actual ≤ d.launch +
      521))) ∧
    (∀ (l : Nat) (g : Bool) (d : TxDesc) (q : List TxDesc), l < 8 → follows s l = false → l ∈ reports s l → d.limb = l
      → (s.limb l).queue = d :: q → (s.limb l).air = none → readyFor s l d = true → rampTurn s l d = true → rampStart
      d < s.now → s.now ≤ lockDeadline s d → (coexSet s d = none ∨ g = true) → refusalCause s d = none → s.domOn (15 +
      l / 4) = true → Does (.txRampStart l true g) s (fun t => limbCode t l = 5 ∧ (t.limb l).queue = q ∧ ((t.limb
      l).air.map (fun a => (a.desc, a.rampAt, a.members))) = some (d, s.now, maskOf (radiating s d)) ∧ (∀ a, (t.limb
      l).air = some a → (s.now + 4000) * 256 ≤ a.actual ∧ a.actual < (s.now + 4000) * 256 + 1042))) ∧
    (∀ (l : Nat) (h g : Bool) (d : TxDesc), l < 8 → follows s l = false → l ∈ reports s l → d.limb = l → (s.limb
      l).queue = [d] → (s.limb l).air = none → readyFor s l d = true → rampTurn s l d = true → s.now ≤ lockDeadline s
      d → (h = false ∨ (coexSet s d).isSome = true ∧ g = false) → s.domOn (15 + l / 4) = true → Does (.txRampStart l h
      g) s (fun t => t.txl.done = s.txl.done ++ [⟨d, (if h then 3 else 2), 0, 0, 0⟩] ∧ (t.limb l).queue = [] ∧ (t.limb
      l).air = none ∧ Counts (F.TXL_MISS_CNT_count l) s t ∧ (h = false → t.get F.TXL_STAT_late_data = 1) ∧ (h = true →
      t.get F.TXL_STAT_cx_denied = 1))) ∧
    (∀ (l c : Nat) (g : Bool) (d : TxDesc), l < 8 → follows s l = false → l ∈ reports s l → d.limb = l → (s.limb
      l).queue = [d] → (s.limb l).air = none → readyFor s l d = true → rampTurn s l d = true → s.now ≤ rampStart d →
      (coexSet s d = none ∨ g = true) → refusalCause (s.reach (rampStart d)) d = some c → s.domOn (15 + l / 4) = true
      → Does (.txRampStart l true g) s (fun t => t.txl.done = s.txl.done ++ [⟨d, 6, 0, 0, 0⟩] ∧ (t.limb l).queue = []
      ∧ (t.limb l).air = none ∧ Counts (F.TXL_MISS_CNT_count l) s t)) ∧
    (∀ (l : Nat) (d : TxDesc), l < 8 → follows s l = false → l ∈ reports s l → d.limb = l → (s.limb l).queue = [d] →
      (s.limb l).air = none → readyFor s l d = false → s.domOn (15 + l / 4) = true → Does (.lockDeadline l) s (fun t
      => t.txl.done = s.txl.done ++ [⟨d, 1, 0, 0, 0⟩] ∧ t.get F.TXL_STAT_late_lock = 1 ∧ Counts
      F.TXL_EVCNT_late_lock_cnt s t ∧ (t.limb l).queue = [] ∧ lockDeadline s d ≤ t.now)) ∧
    (∀ (l : Nat) (a : OnAir), l < 8 → follows s l = false → l ∈ reports s l → limbCode s l = 5 → (s.limb l).air = some
      a → s.domOn (15 + l / 4) = true → Does (.txLaunch l) s (fun t => limbCode t l = 6 ∧ (t.limb l).air = some
      { a with launched := true } ∧ a.actual / 256 ≤ t.now ∧ Frame (reportOffs s l) [.limbs, .canopy] (s.reach
      (a.actual / 256)) t ∧ (∀ m ∈ onesOf a.members 8, .air m (memberDrive s a.desc m) (scaledWeight s a.desc m) (ppdu
      a.desc) ∈ t.out))) ∧
    (∀ (l : Nat) (a : OnAir), l < 8 → follows s l = false → l ∈ reports s l → limbCode s l = 6 → (s.limb l).air = some
      a → s.domOn (15 + l / 4) = true → Does (.txFrameEnd l) s (fun t => limbCode t l = 7 ∧ a.actual / 256 + ppduTime
      a.desc * 1000 / 3 ≤ t.now ∧ Frame (reportOffs s l) [] (s.reach (a.actual / 256 + ppduTime a.desc * 1000 / 3))
      t)) ∧
    (∀ (l : Nat) (a : OnAir), l < 8 → follows s l = false → l ∈ reports s l → limbCode s l = 7 → (s.limb l).air = some
      a → a.desc.limb = l → a.status = 0 → a.desc.ret = 1 → (s.limb l).queue = [] → (s.limb l).offPending = false →
      (s.limb l).waking = false → a.launched = true → s.domOn (15 + l / 4) = true → Does (.txTailEnd l) s (fun t =>
      limbCode t l = 1 ∧ (t.limb l).air = none ∧ t.txl.done = s.txl.done ++ [⟨a.desc, 0, a.members, (a.actual -
      a.desc.launch) / 256, a.actual⟩] ∧ Counts (F.TXL_SENT_CNT_count l) s t)) ∧
    (∀ (l : Nat) (a : OnAir), l < 8 → follows s l = false → l ∈ reports s l → limbCode s l = 7 → (s.limb l).air = some
      a → a.desc.limb = l → a.status = 0 → a.desc.ret = 0 → (s.limb l).queue = [] → (s.limb l).offPending = false →
      s.get (F.TXL_STATUS_locked l) = 1 → s.domOn (15 + l / 4) = true → Does (.txTailEnd l) s (fun t => limbCode t l =
      4 ∧ (t.limb l).air = none ∧ t.get (F.TXL_STATUS_locked l) = 1 ∧ Counts (F.TXL_SENT_CNT_count l) s t))

/-- A lock lost on air ends the frame with status 5 and is counted and recorded in the ring; a group of idle limbs is
ganged or let go and a busy one refuses; the next member of a gang takes its queue over; an enabled coexistence set
is active where its pins are owned, and a conflict elsewhere; a frame’s request raises CX_REQ; a grant that falls
ends the set’s frame with status 4 where TXL_CX_CFG.abort is set, and counts where it is not. An initiator is no
pruned Crown core. The domain of the limb or lane is ON. -/
def Obligations.LimbTrouble : Prop :=
  ∀ s : State,
    (∀ (l : Nat) (a : OnAir), l < 8 → follows s l = false → l ∈ reports s l → limbCode s l = 6 → (s.limb l).air = some
      a → ringProtected s (s.get F.RRC_HEAD_index) = false → s.domOn (15 + l / 4) = true → Does (.txLockLost l) s (fun
      t => limbCode t l = 7 ∧ t.get (F.TXL_STATUS_locked l) = 0 ∧ (t.limb l).air = some { a with status := 5 } ∧ t.get
      F.TXL_STAT_lock_lost = 1 ∧ Counts F.TXL_EVCNT_lock_lost_cnt s t ∧ (tabFind t.ring.events (s.get
      F.RRC_HEAD_index)).map RrEvent.code = some 0x12 ∧ (tabFind t.ring.events (s.get F.RRC_HEAD_index)).map
      RrEvent.unit = some l)) ∧
    (∀ (i g : Nat) (ms : List Nat), g < 2 → (s.domOn 15 = true ∨ s.domOn 16 = true) → s.get (F.TXL_GANG_en g) = 0 → (∀
      k < 4, limbCode s (4 * g + k) ≤ 1 ∧ (s.limb (4 * g + k)).queue = []) → (upTo 4).filter (fun k => !s.pruned 3 (4
      * g + k)) = ms → ms ≠ [] → coreFenced s i = false → Does (.gangWrite i g true) s (fun t => t.get (F.TXL_GANG_en
      g) = 1 ∧ t.get (F.TXL_GANG_members g) = maskOf ms ∧ t.get (F.TXL_GANG_leader g) = 4 * g + ms.headD 0 ∧ t.get
      (F.TXL_GANG_active g) = 1 ∧ (∀ k ∈ ms, limbCode t (4 * g + k) = limbCode s (4 * g + ms.headD 0)) ∧ Frame
      ((F.TXL_GANG_en g).off :: [0, 1, 2, 3].map (fun k => (F.TXL_STATUS_state (4 * g + k)).off)) [] s t)) ∧
    (∀ (i g k : Nat) (b : Bool), g < 2 → k < 4 → (s.domOn 15 = true ∨ s.domOn 16 = true) → s.get (F.TXL_GANG_en g) ≠
      b2n b → 1 < limbCode s (4 * g + k) → coreFenced s i = false → Does (.gangWrite i g b) s (fun t => t.get
      F.TXL_STAT_gang_refused = 1 ∧ Frame [F.TXL_STAT_gang_refused.off] [] s t)) ∧
    (∀ (i g : Nat), g < 2 → (s.domOn 15 = true ∨ s.domOn 16 = true) → s.get (F.TXL_GANG_en g) = 1 → (∀ k < 4, limbCode
      s (4 * g + k) ≤ 1 ∧ (s.limb (4 * g + k)).queue = []) → coreFenced s i = false → Does (.gangWrite i g false) s
      (fun t => t.reg (0x200040 + 4 * g) = 0#32 ∧ (∀ k < 4, limbCode t (4 * g + k) = (if follows s (4 * g + k) then
      s.get (F.TXL_CTL_power (4 * g + k)) else limbCode s (4 * g + k))) ∧ Frame ((F.TXL_GANG_en g).off :: [0, 1, 2,
      3].map (fun k => (F.TXL_STATUS_state (4 * g + k)).off)) [] s t)) ∧
    (∀ (g m : Nat) (ms : List Nat), g < 2 → s.txl.takeover.contains g = true → gangMembers s g = m :: ms → m ≠ s.get
      (F.TXL_GANG_leader g) → (s.limb m).offPending = false → Does (.gangLeaderTakeover g) s (fun t => t.get
      (F.TXL_GANG_leader g) = m ∧ t.txl.takeover.contains g = false ∧ (t.limb m).queue = (s.limb (s.get
      (F.TXL_GANG_leader g))).queue)) ∧
    (∀ (i w : Nat), w < 4 → (s.domOn 15 = true ∨ s.domOn 16 = true) → contested s 3 (0x0400 + w) [3 * w, 3 * w + 1, 3
      * w + 2] = none → coreFenced s i = false → Does (.cxEnable i w true) s (fun t => t.get (F.TXL_CX_CTL_en w) = 1 ∧
      t.get (F.TXL_CX_CTL_active w) = 1 ∧ Frame [(F.TXL_CX_CTL_en w).off] [] s t)) ∧
    (∀ (i w p : Nat), w < 4 → (s.domOn 15 = true ∨ s.domOn 16 = true) → contested s 3 (0x0400 + w) [3 * w, 3 * w + 1,
      3 * w + 2] = some p → coreFenced s i = false → Does (.cxEnable i w true) s (fun t => t.get (F.TXL_CX_CTL_en w) =
      1 ∧ t.get (F.TXL_CX_CTL_active w) = 0 ∧ t.get F.TXL_STAT_conflict = 1 ∧ t.get F.STP_STAT_conflict = 1 ∧ Counts
      F.STP_EVCNT_conflict_cnt s t)) ∧
    (∀ (i w : Nat), w < 4 → (s.domOn 15 = true ∨ s.domOn 16 = true) → coreFenced s i = false → Does (.cxEnable i w
      false) s (fun t => t.get (F.TXL_CX_CTL_en w) = 0 ∧ t.get (F.TXL_CX_CTL_active w) = 0 ∧ Frame [(F.TXL_CX_CTL_en
      w).off] [] s t)) ∧
    (∀ (l w : Nat) (d : TxDesc) (q : List TxDesc), l < 8 → (s.limb l).queue = d :: q → coexSet s d = some w → (s.limb
      l).cx = [] → coexHolds s w = [] → Does (.cxRequest l) s (fun t => (t.limb l).cx = [⟨d.launch, w, d.cxPri⟩] ∧
      d.launch / 256 ≤ t.now + max 5 (s.get F.TXL_CX_CFG_lead_us) * 1000 ∧ t.get (F.TXL_STATUS_cx_req l) = 1 ∧ .cxReq
      w true ∈ t.out ∧ (d.cxPri = true → .cxPri w true ∈ t.out))) ∧
    (∀ (l w : Nat) (a : OnAir), l < 8 → (∀ m < 8, gangOf s m = none) → (limbCode s l = 5 ∨ limbCode s l = 6) → (s.limb
      l).air = some a → coexSet s a.desc = some w → s.get F.TXL_CX_CFG_abort = 1 → Does (.cxGntFall w) s (fun t =>
      limbCode t l = 7 ∧ (t.limb l).air = some { a with status := 4 })) ∧
    (∀ (l w : Nat) (a : OnAir), l < 8 → (∀ m < 8, m ≠ l → (s.limb m).air = none) → (limbCode s l = 5 ∨ limbCode s l =
      6) → (s.limb l).air = some a → coexSet s a.desc = some w → s.get F.TXL_CX_CFG_abort = 0 → Does (.cxGntFall w) s
      (fun t => Counts F.TXL_EVCNT_cx_cnt s t ∧ Frame [F.TXL_EVCNT_cx_cnt.off] [] s t))

/-- A new bucket of a range’s duty account, or of its dwell accounts, begins at its boundary and buckets out of reach are
dropped, those of other ranges kept; where the staged profile is valid and VPP_OTP present, programming writes it to
OTP once and, read back, puts it in force with no replacement held, and otherwise sets otp_fail; a committed
replacement whose keys are rewrapped enters force and clears pending. An initiator is no pruned Crown core. -/
def Obligations.ProfileAndDuty : Prop :=
  ∀ s : State,
    (∀ (r len : Nat), dutyBucket s.rgp.inForce r = len → 0 < len → Does (.dutyBucketAdvance r false) s (fun t =>
      (s.now / len + 1) * len ≤ t.now ∧ (unitsQuiet s = true → t.now = (s.now / len + 1) * len) ∧ (∀ x ∈ tabGet
      t.rgp.duty r [], s.now / len + 1 ≤ x.1 + 16) ∧ t.rgp.dwell = s.rgp.dwell ∧ t.rgp.inForce = s.rgp.inForce ∧ (∀ q,
      q ≠ r → tabGet t.rgp.duty q [] = tabGet s.rgp.duty q []))) ∧
    (∀ (r len : Nat), dwellBucket s.rgp.inForce r = len → 0 < len → Does (.dutyBucketAdvance r true) s (fun t =>
      (s.now / len + 1) * len ≤ t.now ∧ (unitsQuiet s = true → t.now = (s.now / len + 1) * len) ∧ t.rgp.duty =
      s.rgp.duty ∧ t.rgp.inForce = s.rgp.inForce ∧ (∀ k, dwellFirst s.rgp.inForce r ≤ k → k < dwellFirst s.rgp.inForce
      r + dwellCount s.rgp.inForce r → ∀ x ∈ tabGet t.rgp.dwell k [], s.now / len + 1 ≤ x.1 + 16) ∧ (∀ k, k <
      dwellFirst s.rgp.inForce r ∨ dwellFirst s.rgp.inForce r + dwellCount s.rgp.inForce r ≤ k → tabGet t.rgp.dwell k
      [] = tabGet s.rgp.dwell k []))) ∧
    (∀ (i : Nat) (v b : Bool) (p : List Byte), s.domOn 2 = true → s.get F.BRK_LC_state ≤ 1 → s.rgp.otp = [] → s.dramOk
      (s.pair F.RGP_OTP_ADDR_LO_addr F.RGP_OTP_ADDR_HI_addr / 16 * 16) 512 = true → s.dramRead (s.pair
      F.RGP_OTP_ADDR_LO_addr F.RGP_OTP_ADDR_HI_addr / 16 * 16) 512 = p → coreFenced s i = false → Does
      (.profileOtpProgram i v b) s (fun t => t.rgp.otp = (if v && profileValid p then p else []) ∧ t.rgp.otpDead = (if
      v && profileValid p then !b else s.rgp.otpDead) ∧ t.get F.RGP_STAT_otp_done = (if v && b && profileValid p then
      1 else s.get F.RGP_STAT_otp_done) ∧ t.get F.RGP_STAT_otp_fail = (if v && b && profileValid p then s.get
      F.RGP_STAT_otp_fail else 1) ∧ (v = true → b = true → profileValid p = true → s.rgp.slots = [] → t.rgp.inForce =
      p ∧ t.get F.RGP_PROFILE_source = 1))) ∧
    (∀ (i : Nat) (v b : Bool), s.domOn 2 = true → s.get F.BRK_LC_state ≤ 1 → s.rgp.otp ≠ [] → coreFenced s i = false →
      Does (.profileOtpProgram i v b) s (fun t => t.get F.RGP_STAT_otp_fail = 1 ∧ Frame [F.RGP_STAT_otp_fail.off] [] s
      t)) ∧
    (∀ (k : Nat) (x : ProfileSlot), s.rgp.pending = some k → s.rgp.rewrapped = true → tabFind s.rgp.slots k = some x →
      Does (.profileSwitch) s (fun t => t.rgp.inForce = x.bytes ∧ t.rgp.pending = none ∧ t.rgp.rewrapped = false ∧
      t.get F.RGP_STAT_switched = 1 ∧ t.get F.RGP_PROFILE_pending = 0 ∧ t.rgp.slots = s.rgp.slots))

/-- A descriptor with another status than OK goes to firmware; a fresh acknowledgement frame from a dedicated cell’s
ACTIVE leaf updates its row and clears its misses; a missed expect cell counts a miss of the leaf; a missed parent
beacon counts, and the third loses the parent to the next candidate or, without one, to holdover; completions of
EACKs are counted, an acknowledged data frame leaves its queue, and one without an acknowledgement has used an
attempt. -/
def Obligations.SlotEngineJudges : Prop :=
  ∀ s : State,
    (∀ (x : Nat) (d : RxDescriptor) (q : List RxDescriptor), s.lanes.delivered = d :: q → engineUp s = true → d.status
      ≠ 0 → s.cellsLost d.cells = false → Does (.frameJudge x) s (fun t => t.lanes.delivered = q ∧ .toFirmware 0x28
      (descriptorBytes d) ∈ t.out ∧ x ≤ t.now ∧ t.tables = s.tables)) ∧
    (∀ (x a i lid : Nat) (d : RxDescriptor) (c : CellUse) (q : List RxDescriptor) (h : MacHeader) (src : MacAddr),
      s.lanes.delivered = d :: q → engineUp s = true → d.status = 0 → readHeader (macBytes d) = some h → h.type = 2 →
      h.secured = false → h.src = some src → d.cell = some (a, i) → s.cellsLost d.cells = false → d.cellUse = some c →
      c.lid = lid → lid ≠ 0 → c.shared = false → leafHas s lid src = true → leafState s lid = 2 → d.catchClass = 0 →
      bit d.flags 5 = false → Does (.frameJudge x) s (fun t => leafWord t lid 14 = d.asn % 2 ^ 32 ∧ leafMisses t lid =
      0 ∧ leafState t lid = 2 ∧ t.lanes.delivered = q ∧ t.sse.expects.contains (a, i, lid) = false)) ∧
    (∀ (a c lid : Nat), s.sse.expects = [(a, c, lid)] → leafState s lid = 2 → leafMisses s lid < 2 → Does (.cellMiss a
      c) s (fun t => leafMisses t lid = leafMisses s lid + 1 ∧ leafState t lid = 2 ∧ t.sse.expects = [])) ∧
    (∀ (a c lid : Nat), s.sse.expects = [(a, c, lid)] → leafState s lid = 2 → leafMisses s lid = 2 → Does (.cellMiss a
      c) s (fun t => leafMisses t lid = 3 ∧ leafState t lid = 3)) ∧
    (∀ (a c i : Nat), s.sse.parents = [(a, c, i)] → s.get F.SSE_TP_STATUS_active = i → s.get F.SSE_TP_STATUS_misses <
      2 → Does (.tpBeaconMiss a c) s (fun t => t.get F.SSE_TP_STATUS_misses = s.get F.SSE_TP_STATUS_misses + 1 ∧ t.get
      F.SSE_TP_STATUS_active = i ∧ t.sse.parents = [] ∧ Frame [F.SSE_TP_STATUS_active.off] [.engine] s t)) ∧
    (∀ (a c i : Nat), i < 4 → s.sse.parents = [(a, c, i)] → s.get F.SSE_TP_STATUS_active = i → s.get
      F.SSE_TP_STATUS_misses = 2 → nextParent (s.set (F.SSE_TP_CAND_lost i) 1) i = none → s.get F.TMB_REF_src ≠ 2 →
      Does (.tpBeaconMiss a c) s (fun t => t.get (F.SSE_TP_CAND_lost i) = 1 ∧ t.get F.SSE_TP_STATUS_active = 7 ∧ t.get
      F.SSE_TP_STATUS_holdover = 1 ∧ t.get F.SSE_STAT_tp_lost = 1 ∧ Counts F.SSE_EVCNT_tp_lost_cnt s t)) ∧
    (∀ (a c i j : Nat), i < 4 → s.sse.parents = [(a, c, i)] → s.get F.SSE_TP_STATUS_active = i → s.get
      F.SSE_TP_STATUS_misses = 2 → nextParent (s.set (F.SSE_TP_CAND_lost i) 1) i = some j → Does (.tpBeaconMiss a c) s
      (fun t => t.get (F.SSE_TP_CAND_lost i) = 1 ∧ t.get F.SSE_TP_STATUS_active = j ∧ t.get F.SSE_TP_STATUS_misses = 0
      ∧ t.get F.SSE_STAT_tp_lost = 1 ∧ Counts F.SSE_EVCNT_tp_lost_cnt s t)) ∧
    (∀ (b : Bool) (x : TxDone) (q : List TxDone), s.txl.done = x :: q → x.status = 0 → x.desc.tag % 8 = 3 → Does
      (.txCompletion b) s (fun t => Counts F.SSE_ACK_CNT_count s t ∧ t.txl.done = q ∧ Frame [F.SSE_ACK_CNT_count.off]
      [.limbs] s t)) ∧
    (∀ (x : TxDone) (q : List TxDone) (f : VqFrame) (fs : List VqFrame), s.txl.done = x :: q → x.status = 0 →
      x.desc.tag % 8 < 2 → vqueue s (x.desc.tag / 8) = f :: fs → Does (.txCompletion true) s (fun t => vqueue t
      (x.desc.tag / 8) = fs ∧ t.txl.done = q)) ∧
    (∀ (x : TxDone) (q : List TxDone) (f : VqFrame) (fs : List VqFrame), s.txl.done = x :: q → (x.status = 0 ∨
      x.status = 4 ∨ x.status = 5) → x.desc.tag % 8 < 2 → vqueue s (x.desc.tag / 8) = f :: fs → f.broadcast = false →
      f.attempts < s.get F.SSE_SHARED_CFG_max_retries → Does (.txCompletion false) s (fun t => vqueue t (x.desc.tag /
      8) = { f with attempts := f.attempts + 1, taken := false } :: fs ∧ t.txl.done = q ∧ (x.status ≠ 0 → Counts
      F.SSE_MISS_CNT_count s t)))

/-- A read timeslot is noted; a due receive cell is posted to the searchers on its bin; a cell’s domains are woken ahead
and held, and let go after the late-catch hold; a leaf that stays DRIFTED falls due and its burst begins. -/
def Obligations.SlotEngineSchedule : Prop :=
  ∀ s : State,
    (∀ (a : Nat) (bodies : List (Nat × List Byte)), engineUp s = true → s.get F.SSE_CTL_run = 1 → s.asn < a →
      s.sse.read ≤ a → a < 2 ^ 40 → s.domOn 7 = true → (∀ h < 64, s.get (F.SSE_SF0_en h) = 0) → Does (.cellRead a
      bodies) s (fun t => t.sse.read = a + 1 ∧ t.search = s.search ∧ t.txl = s.txl ∧ Frame [] [.engine] s t)) ∧
    (∀ (a b : Nat) (c : Cell) (bodies : List (Nat × List Byte)), engineUp s = true → s.get F.SSE_CTL_run = 1 → s.asn <
      a → s.sse.read ≤ a → a < 2 ^ 40 → s.domOn 7 = true → s.sse.spans = [] → s.get (F.SSE_SF0_en 0) = 1 → (∀ h < 64,
      h ≠ 0 → s.get (F.SSE_SF0_en h) = 0) → frameCells s a 0 = [(c, true)] → c.tx = false → c.rx = true → c.lid = 0 →
      c.tp = 0 → (cellChan s a c).format < 3 → binOf s (cellChan s a c).freq = some b → Does (.cellRead a bodies) s
      (fun t => (t.search.posts.map (fun p => (p.asn, p.cell, p.bin))).contains (a, c.index, b) = true ∧
      t.canopy.cellChans = s.canopy.cellChans ++ (upTo c.span).map (fun i => (a + i, (cellChan s a c).freq)) ∧
      t.sse.expects = s.sse.expects)) ∧
    (∀ (a c : Nat) (ds : List Nat), cellDomains s a c = some ds → Does (.schedulePreWake a c) s (fun t =>
      t.power.cellHolds.contains ⟨holdKey a c, ds⟩ = true ∧ (∀ d ∈ ds, (t.dom d).st ≠ .off ∧ (t.dom d).st ≠ .ret) ∧
      Frame [] [.power] s t)) ∧
    (∀ (a c : Nat) (p : RxPost), s.search.posts = [p] → p.asn = a → p.cell = c → p.stream = none → s.now ≤ p.opens →
      p.opens ≤ p.closes → Does (.lateCatchHoldEnd a c) s (fun t => t.search.posts = [] ∧ p.closes + spanNs s ≤ t.now
      ∧ (unitsQuiet s = true → t.now = max s.now (p.closes + spanNs s)) ∧ (t.power.cellHolds.any (fun h => decide
      (h.key = holdKey a c))) = false)) ∧
    (∀ (l : Nat), leafState s l = 4 → Does (.resyncWaitExpiry l) s (fun t => t.sse.resync.any (fun r => decide (r.lid
      = l) && r.due) = true ∧ (leafWord s l 19 + clamp 1 600 (s.get F.SSE_RESYNC_WAIT_wait_s)) * 1000000000 ≤ t.now ∧
      Frame [] [.engine] (s.reach ((leafWord s l 19 + clamp 1 600 (s.get F.SSE_RESYNC_WAIT_wait_s)) * 1000000000)) t)) ∧
    (∀ (a l : Nat) (body : List Byte), engineUp s = true → s.get F.SSE_CTL_run = 1 → s.get F.SSE_AP_reduced = 0 →
      s.asn < a → a < s.sse.read → s.sse.bursts ≤ a → leafState s l = 4 → s.sse.resync = [⟨l, true, none, 0⟩] → Does
      (.resyncBurst a body) s (fun t => Counts F.SSE_RESYNC_CNT_count s t ∧ (t.sse.resync.map ResyncLeaf.last) = [some
      (slotStart s a)]))

/-- A write of SSE_LEV_TAIL moves the tail and the leaf_event flag follows; a heartbeat is noted; a missed one and a
request ask for autopilot at the next edge, a resume with a fresh heartbeat asks for its end; 60 s after entry it is
reduced and bursts stop. An initiator is no pruned Crown core. -/
def Obligations.SlotEngineAutopilot : Prop :=
  ∀ s : State,
    (∀ (i : Nat) (v : Word), s.domOn 23 = true → coreFenced s i = false → Does (.levTailWrite i v) s (fun t => t.get
      F.SSE_LEV_TAIL_index = v.toNat % 1024 ∧ t.get F.SSE_STAT_leaf_event = b2n (s.get F.SSE_LEV_HEAD_index ≠ v.toNat
      % 1024) ∧ Frame [F.SSE_LEV_TAIL_index.off, F.SSE_STAT_leaf_event.off] [] s t)) ∧
    (∀ (i : Nat) (v : Word), s.domOn 23 = true → coreFenced s i = false → Does (.fwHeartbeat i v) s (fun t =>
      t.sse.beat = some s.now ∧ t.sse.hbFrom = some s.now ∧ Frame [] [.engine] s t)) ∧
    (∀ (b : Nat), engineUp s = true → heartbeatRequired s = true → s.sse.hbFrom = some b → Does (.fwHeartbeatMiss) s
      (fun t => t.sse.apWanted = true ∧ b + heartbeatNs s ≤ t.now ∧ Frame [] [.engine] (s.reach (b + heartbeatNs s))
      t)) ∧
    (∀ (i : Nat), s.domOn 23 = true → s.get F.SSE_AP_active = 0 → coreFenced s i = false → Does (.apEnterRequest i) s
      (fun t => t.sse.apWanted = true ∧ t.get F.SSE_CTL_run = s.get F.SSE_CTL_run ∧ t.get F.SSE_AP_active = 0 ∧ Frame
      [F.SSE_CTL_run.off] [.engine] s t)) ∧
    (∀ (i b : Nat), s.domOn 23 = true → s.get F.SSE_AP_active = 1 → s.sse.beat = some b → s.now ≤ b + heartbeatNs s →
      coreFenced s i = false → Does (.apResume i) s (fun t => t.sse.resumeWanted = true ∧ t.get F.SSE_CTL_run = s.get
      F.SSE_CTL_run ∧ Frame [F.SSE_CTL_run.off] [.engine] s t)) ∧
    (s.get F.SSE_AP_active = 1 → s.get F.SSE_AP_reduced = 0 → ringProtected s (s.get F.RRC_HEAD_index) = false → Does
      (.autopilotReduced) s (fun t => t.get F.SSE_AP_reduced = 1 ∧ t.get F.SSE_STAT_ap_reduced = 1 ∧ t.sse.apSince +
      60000000000 ≤ t.now ∧ (∀ r ∈ t.sse.resync, r.left = 0) ∧ (tabFind t.ring.events (s.get F.RRC_HEAD_index)).map
      RrEvent.code = some 0x20 ∧ (tabFind t.ring.events (s.get F.RRC_HEAD_index)).map (fun e => e.data.head?) = some
      (some 1#8)))

/-- With no live re-stand and no spare slice under way, TIMESLOT_EDGE advances the ASN by one modulo 2^40, moves the time
base to the start of the timeslot at least, and takes the windows’ formats; autopilot that is wanted begins, and one
that a resume ends is over. -/
def Obligations.TimeslotBegins : Prop :=
  ∀ s : State,
    (∀ (q : List QuietSample) (r : List ChainSample), s.stand.phase = .idle → s.canopy.spare = .standby → Does
      (.timeslotEdge q r) s (fun t => t.asn = (s.asn + 1) % 2 ^ 40 ∧ slotStart s (s.asn + 1) ≤ t.now ∧ (unitsQuiet s =
      true → t.now = max s.now (slotStart s (s.asn + 1))) ∧ t.sse.apWanted = false ∧ t.sse.resumeWanted = false ∧ (∀ w
      < 4, tabGet t.search.fmtInForce w 0 = s.get (F.SRH_WIN_FMT_fmt_en w)))) ∧
    (∀ (q : List QuietSample) (r : List ChainSample), s.stand.phase = .idle → s.canopy.spare = .standby → s.get
      F.SSE_AP_active = 0 → s.sse.apWanted = true → engineUp s = true → Does (.timeslotEdge q r) s (fun t => t.get
      F.SSE_AP_active = 1 ∧ t.get F.SSE_STAT_ap = 1 ∧ t.sse.apSince = t.now)) ∧
    (∀ (q : List QuietSample) (r : List ChainSample), s.stand.phase = .idle → s.canopy.spare = .standby → s.get
      F.SSE_AP_active = 1 → s.sse.resumeWanted = true → Does (.timeslotEdge q r) s (fun t => t.get F.SSE_AP_active = 0
      ∧ t.get F.SSE_AP_reduced = 0))

/-- A READ of one cell of the schedule store puts the cell’s 8 bytes at the buffer, writes the done word with status OK
and one row, advances the tail and counts; when its locks time out first, the done word says LOCK_TIMEOUT with the
rows done, and the time-out is counted as an error. An initiator is no pruned Crown core. -/
def Obligations.TableDma : Prop :=
  ∀ s : State,
    (∀ (j r h i b m : Nat), r < 2 → s.domOn 7 = true → s.domOn 8 = true → s.domOn 26 = true → s.get (F.LFT_DMA_CFG_en
      r) = 1 → s.dramOk (dmaAddr s r) 32 = true → dmaDesc (s.dramRead (dmaAddr s r) 32) = ⟨1, 2, 1, i, b, m⟩ → i <
      524288 → s.dramOk b 8 = true → (b + 8 ≤ dmaAddr s r ∨ dmaAddr s r + 32 ≤ b) → h < 4096 → dmaWaits s (1 - r) =
      false → s.get (F.LFT_DMA_TAIL_index r) % dmaSize s r ≠ h % dmaSize s r → coreFenced s j = false → Does
      (.dmaHeadAdvance j r h 1 []) s (fun t => t.dramRead b 8 = rowOf s 2 i ∧ t.dramNat (dmaAddr s r + 28) 4 = 2 ^ 31
      + 2 ^ 19 ∧ t.get (F.LFT_DMA_TAIL_index r) = (s.get (F.LFT_DMA_TAIL_index r) + 1) % dmaSize s r ∧ t.get
      (F.LFT_DMA_HEAD_index r) = h ∧ t.get F.LFT_STAT_dma_done = 1 ∧ Counts F.LFT_DMA_DONE_CNT_count s t ∧ t.tables =
      { s.tables with lastRing := r } ∧ Frame [(F.LFT_DMA_HEAD_index r).off, (F.LFT_DMA_TAIL_index r).off,
      F.LFT_STAT_dma_done.off, F.LFT_DMA_DONE_CNT_count.off] [.dram] s t)) ∧
    (∀ (r k i b m : Nat), r < 2 → s.domOn 7 = true → s.domOn 8 = true → s.domOn 26 = true → s.dramOk (dmaAddr s r) 32
      = true → dmaDesc (s.dramRead (dmaAddr s r) 32) = ⟨1, 2, 1, i, b, m⟩ → i < 524288 → s.dramOk b 8 = true → (b + 8
      ≤ dmaAddr s r ∨ dmaAddr s r + 32 ≤ b) → dmaHolds s r = true → Does (.dmaLockTimeout r k) s (fun t => t.dramNat
      (dmaAddr s r + 28) 4 = 2 ^ 31 + 5 * 2 ^ 24 + min 1 k * 2 ^ 19 ∧ t.get (F.LFT_DMA_TAIL_index r) = (s.get
      (F.LFT_DMA_TAIL_index r) + 1) % dmaSize s r ∧ t.get F.LFT_STAT_lock_timeout = 1 ∧ t.get F.LFT_STAT_dma_err = 1 ∧
      Counts F.LFT_LOCK_TO_CNT_count s t ∧ Counts F.LFT_EVCNT_lock_to_cnt s t ∧ Counts F.LFT_EVCNT_dma_err_cnt s t ∧
      t.tables = { s.tables with lastRing := r }))

/-- The ager clears the hit bit of an entry or counts its age up, and removes an entry of age 3 where its class is
removed; the seed is written while the table is empty and refused otherwise; a set’s word +4 waits until word +0
commits both, and without one waiting word +0 alone changes. An initiator is no pruned Crown core. -/
def Obligations.LearningAndSets : Prop :=
  ∀ s : State,
    (∀ (n : Nat) (e : LearnEntry), n < 262144 → s.domOn 8 = true → tabFind s.tables.learn n = some e →
      (s.tables.learn.map Prod.fst).Nodup → s.prune.poisoned = [] → e.valid = true → e.static = false → e.hit = false
      → e.age < 3 → Does (.ageSweep) s (fun t => learnEntry t n =
      { e with ctl := withHitAge e.ctl false (e.age + 1) })) ∧
    (∀ (n : Nat) (e : LearnEntry), n < 262144 → s.domOn 8 = true → tabFind s.tables.learn n = some e →
      (s.tables.learn.map Prod.fst).Nodup → s.prune.poisoned = [] → e.valid = true → e.static = false → e.hit = true →
      Does (.ageSweep) s (fun t => learnEntry t n = { e with ctl := withHitAge e.ctl false e.age })) ∧
    (∀ (n : Nat) (e : LearnEntry), n < 262144 → s.domOn 8 = true → s.tables.learn = [(n, e)] → s.prune.poisoned = [] →
      e.valid = true → e.static = false → e.hit = false → e.age = 3 → s.get (F.LRN_CLASS_CFG_age_remove (b2n
      e.leafClass)) = 1 → Does (.ageSweep) s (fun t => (learnEntry t n).valid = false ∧ Counts F.LRN_AGED_CNT_count s
      t)) ∧
    (∀ (i k : Nat) (v : Word), s.domOn 24 = true → learnUsed s = 0 → coreFenced s i = false → Does (.lrnSeedWrite i k
      v) s (fun t => t.reg (0x340004 + 4 * (k % 2)) = v ∧ Frame [0x340004 + 4 * (k % 2)] [] s t)) ∧
    (∀ (i k : Nat) (v : Word), s.domOn 24 = true → learnUsed s ≠ 0 → coreFenced s i = false → Does (.lrnSeedWrite i k
      v) s (fun t => t.get F.LRN_STAT_seed_refused = 1 ∧ Frame [F.LRN_STAT_seed_refused.off] [] s t)) ∧
    (∀ (i n : Nat) (v : Word), n < 4096 → s.domOn 24 = true → coreFenced s i = false → Does (.bghSetStage i n v) s
      (fun t => tabFind t.grove.staged n = some v ∧ Frame [] [.grove] s t)) ∧
    (∀ (i n : Nat) (v w : Word), n < 4096 → s.domOn 24 = true → tabFind s.grove.staged n = some w → coreFenced s i =
      false → Does (.bghSetCommit i n v) s (fun t => t.get (F.BGH_SET0_epoch n) = v.toNat ∧ t.reg (0x368004 + 8 * n) =
      w &&& 0xC000003F#32 ∧ tabFind t.grove.staged n = none)) ∧
    (∀ (i n : Nat) (v : Word), n < 4096 → s.domOn 24 = true → tabFind s.grove.staged n = none → coreFenced s i = false
      → Does (.bghSetCommit i n v) s (fun t => t.get (F.BGH_SET0_epoch n) = v.toNat ∧ t.reg (0x368004 + 8 * n) = s.reg
      (0x368004 + 8 * n)))

/-- A reserve that fits the packet buffer, or lowers the present one, takes its value and another is refused; a write of a
shaper’s words, with no frame waiting for the host, takes effect and starts its credit anew, at 0 or at hi_credit,
and one that enables it on a queue above 103 or taken by another is refused; a shaper with negative credit and an
empty queue reaches credit 0; a write of a meter’s words fills its buckets. An initiator is no pruned Crown core. -/
def Obligations.TrafficConfig : Prop :=
  ∀ s : State,
    (∀ (i k : Nat) (v : Word), k < 6 → s.domOn 24 = true → ((((upTo 6).filter (fun j => j ≠ k)).map (fun j => s.get
      (F.TRF_POOL_RES_reserve j))).sum + v.toNat % 2 ^ 17 ≤ s.get F.TRF_CELLS_cells ∨ v.toNat % 2 ^ 17 ≤ s.get
      (F.TRF_POOL_RES_reserve k)) → coreFenced s i = false → Does (.trfReserveWrite i k v) s (fun t => t.get
      (F.TRF_POOL_RES_reserve k) = v.toNat % 2 ^ 17 ∧ Frame [(F.TRF_POOL_RES_reserve k).off] [] s t)) ∧
    (∀ (i k : Nat) (v : Word), k < 6 → s.domOn 24 = true → s.get (F.TRF_POOL_RES_reserve k) < v.toNat % 2 ^ 17 → s.get
      F.TRF_CELLS_cells < (((upTo 6).filter (fun j => j ≠ k)).map (fun j => s.get (F.TRF_POOL_RES_reserve j))).sum +
      v.toNat % 2 ^ 17 → coreFenced s i = false → Does (.trfReserveWrite i k v) s (fun t => t.get
      F.TRF_STAT_cfg_refused = 1 ∧ Frame [F.TRF_STAT_cfg_refused.off] [] s t)) ∧
    (∀ (i n k : Nat) (v : Word), n < 96 → s.domOn 24 = true → 1 ≤ k → k ≤ 4 → (∀ q < 8, tabGet s.traffic.hosts q [] =
      []) → coreFenced s i = false → Does (.shaperConfigWrite i n k v) s (fun t => t.reg (0x381000 + 0x20 * n + 4 * k)
      = v ∧ (tabGet t.traffic.shapers n {}).credit = (if s.get (F.TRF_SHP0_reset_mode n) = 1 then (t.get
      (F.TRF_SHP3_hi_credit n) : Int) * 256 else 0) ∧ t.get (F.TRF_SHP5_credit n) = (if s.get (F.TRF_SHP0_reset_mode
      n) = 1 then t.get (F.TRF_SHP3_hi_credit n) else 0) ∧ (tabGet t.traffic.shapers n {}).updated = s.now)) ∧
    (∀ (i n : Nat) (v : Word), n < 96 → s.domOn 24 = true → (wordField v 31 1 = 0 ∨ (wordField v 0 7 ≤ 103 ∧ ∀ j < 96,
      j ≠ n → ¬(s.get (F.TRF_SHP0_en j) = 1 ∧ s.get (F.TRF_SHP0_queue j) = wordField v 0 7))) → (∀ q < 8, tabGet
      s.traffic.hosts q [] = []) → coreFenced s i = false → Does (.shaperConfigWrite i n 0 v) s (fun t => t.get
      (F.TRF_SHP0_en n) = wordField v 31 1 ∧ t.get (F.TRF_SHP0_queue n) = wordField v 0 7 ∧ (tabGet t.traffic.shapers
      n {}).credit = (if t.get (F.TRF_SHP0_reset_mode n) = 1 then (s.get (F.TRF_SHP3_hi_credit n) : Int) * 256 else 0)
      ∧ (tabGet t.traffic.shapers n {}).updated = s.now)) ∧
    (∀ (i n : Nat) (v : Word), n < 96 → s.domOn 24 = true → wordField v 31 1 = 1 → (103 < wordField v 0 7 ∨ (upTo
      96).any (fun j => decide (j ≠ n ∧ s.get (F.TRF_SHP0_en j) = 1 ∧ s.get (F.TRF_SHP0_queue j) = wordField v 0 7)) =
      true) → coreFenced s i = false → Does (.shaperConfigWrite i n 0 v) s (fun t => t.get F.TRF_STAT_cfg_refused = 1
      ∧ Frame [F.TRF_STAT_cfg_refused.off] [] s t)) ∧
    (∀ (n : Nat) (x : ShaperState), n < 96 → s.get (F.TRF_SHP0_en n) = 1 → tabGet s.traffic.shapers n {} = x →
      x.credit < 0 → s.get (F.TRF_SHP1_idle_slope n) ≠ 0 → queueHolds s (s.get (F.TRF_SHP0_queue n)) = false → Does
      (.shaperCreditZero n) s (fun t => (tabGet t.traffic.shapers n {}).credit = 0 ∧ max x.updated x.sendingTo +
      ceilDiv ((-x.credit).toNat * 1000000) (s.get (F.TRF_SHP1_idle_slope n) * 256) ≤ t.now ∧ t.get (F.TRF_SHP5_credit
      n) = 0)) ∧
    (∀ (i m k : Nat) (v : Word), m < 4096 → k ≤ 4 → s.domOn 24 = true → coreFenced s i = false → Does
      (.meterConfigWrite i m k v) s (fun t => t.reg (0x388000 + 0x20 * m + 4 * k) = (writePlain (0x388000 + 0x20 * m +
      4 * k) v s).reg (0x388000 + 0x20 * m + 4 * k) ∧ tabGet t.traffic.meters m {} = ⟨t.get (F.TRF_METER2_cbs m) *
      8000000, max (t.get (F.TRF_METER3_pbs m)) (t.get (F.TRF_METER2_cbs m)) * 8000000, s.now⟩ ∧ Frame [0x388000 +
      0x20 * m + 4 * k] [.traffic] s t))

/-- A port whose locks hold comes up and one that loses block lock goes down with its queues dropped; a change of mode
takes effect with the link down; a frame with a bad FCS is counted and dropped; a PTP frame for the host is queued
to it; a port sends the frame its choice names, tagged or not, with its FCS and counts it; a signal at a sleeping
port wakes the part. An initiator is no pruned Crown core. -/
def Obligations.PortsAndFrames : Prop :=
  ∀ s : State,
    (∀ (p : Nat), p < 4 → portMode s p = true → s.domOn 25 = true → s.pruned 7 p = false → s.get (F.ETH_STATUS_link_up
      p) = 0 → Does (.linkUp p) s (fun t => t.get (F.ETH_STATUS_link_up p) = 1 ∧ t.get (F.ETH_STATUS_block_lock p) = 1
      ∧ t.get (F.ETH_STATUS_fec_lock p) = b2n (portFec s p) ∧ t.get (F.ETH_STAT_link_change p) = 1 ∧ Counts
      (F.ETH_EVCNT_link_cnt p) s t)) ∧
    (∀ (p : Nat) (f c h : Bool), p < 4 → s.get (F.ETH_STATUS_link_up p) = 1 → Does (.linkDown p false f c h) s (fun t
      => t.get (F.ETH_STATUS_link_up p) = 0 ∧ t.get (F.ETH_STATUS_block_lock p) = 0 ∧ t.get (F.ETH_STATUS_fec_lock p)
      = b2n f ∧ t.get (F.ETH_STATUS_hi_ber p) = b2n h ∧ t.get (F.ETH_STAT_link_change p) = 1 ∧ Counts
      (F.ETH_EVCNT_link_cnt p) s t ∧ (upTo 8).all (fun q => (tabGet t.traffic.ports (8 * p + q) []).isEmpty) = true)) ∧
    (∀ (i p : Nat) (v : Word), p < 4 → s.domOn 25 = true → v.toNat % 4 ≠ s.get (F.ETH_CFG_mode p) → s.get
      (F.ETH_STATUS_link_up p) = 1 → coreFenced s i = false → Does (.ethCfgWrite i p v) s (fun t => t.get
      (F.ETH_CFG_mode p) = v.toNat % 4 ∧ t.get (F.ETH_STATUS_link_up p) = 0 ∧ t.get (F.ETH_STATUS_block_lock p) = 0 ∧
      t.get (F.ETH_STAT_link_change p) = 1 ∧ Counts (F.ETH_EVCNT_link_cnt p) s t)) ∧
    (∀ (p : Nat) (l : List Byte) (x : Nat), p < 4 → portUp s p = true → 14 ≤ l.length → Does (.ethFrameRx p l false x)
      s (fun t => Counts (F.ETH_RX_FRAMES_count p) s t ∧ Counts (F.ETH_FCS_ERR_CNT_count p) s t ∧ t.get
      (F.ETH_STAT_fcs_err p) = 1 ∧ t.traffic = s.traffic ∧ (∀ q m, .ethernet q m ∉ t.out))) ∧
    (∀ (p : Nat) (l : List Byte) (x : Nat), p < 4 → portUp s p = true → 14 ≤ l.length → l.length + 4 ≤ maxFrame s p →
      beAt l 12 2 = 0x88F7 → s.get (F.TMB_PTP_PORT_mode p) = 0 → carries s p (s.get (F.ETH_CFG_def_vlan p)) = true →
      s.get (F.ETH_WAKE_CFG_en p) = 0 → s.domOn 9 = true → canTake s 1 (ceilDiv l.length 256) = true → canTake s 5
      (ceilDiv l.length 256) = true → s.get (F.TRF_POOL_USED_used 1) = 0 → tabGet s.traffic.hosts (s.get
      F.TMB_PTP_CFG_q) [] = [] → s.get (F.TRF_HQ_TH_CFG_en (s.get F.TMB_PTP_CFG_q)) = 0 → Does (.ethFrameRx p l true
      x) s (fun t => Counts (F.ETH_RX_FRAMES_count p) s t ∧ (tabGet t.traffic.hosts (s.get F.TMB_PTP_CFG_q) []).map
      HostFrame.frame = [l] ∧ (tabGet t.traffic.hosts (s.get F.TMB_PTP_CFG_q) []).map HostFrame.stamp = [(x + s.getInt
      (F.TMB_PTP_ADJ_rx_adj p) * 256).toNat])) ∧
    (∀ (p q x : Nat) (b : Bool) (f : PortFrame) (rest : List PortFrame) (l : List Byte), p < 4 → q < 8 → portUp s p =
      true → x / 256 ≤ s.now → portChoice s p = some (q, b) → tabGet s.traffic.ports (8 * p + q) [] = f :: rest →
      s.cellsLost f.cells = false → ptpOf f.frame = none → (if leavesUntagged s p f.vlan f.tagged then f.frame else
      f.frame.take 12 ++ [0x81#8, 0#8] ++ beBytes 2 (f.pcp * 2 ^ 13 + f.dei * 2 ^ 12 + f.vlan) ++ f.frame.drop 12) = l
      → Does (.portTransmitOpportunity p x) s (fun t => .ethernet p (l ++ leBytes 4 (crc32 l)) ∈ t.out ∧ Counts
      (F.ETH_TX_FRAMES_count p) s t ∧ (tabGet t.traffic.ports (8 * p + q) []).map PortFrame.frame = rest.map
      PortFrame.frame)) ∧
    (∀ (p : Nat), p < 4 → s.domOn 25 = false → s.get F.PWR_WAKE_EN_en % 2 = 1 → Does (.ethSignalDetect p) s (fun t =>
      t.get F.PWR_WAKE_LAST_code = 1 ∧ t.get F.PWR_WAKE_LAST_domain = 25 ∧ t.get F.PWR_WAKE_LAST_detail = p ∧ t.get
      F.PWR_STAT_wake = 1 ∧ Counts F.PWR_EVCNT_wake_cnt s t ∧ t.power.wakeHolds.contains 1 = true))

/-- A to-part descriptor for a leaf puts its frame in the leaf’s queue, its status in DRAM and advances the tail; a posted
buffer takes the frame that waits for the host; a spilled head frame comes back on chip with its bytes from DRAM,
its slot freed. An initiator is no pruned Crown core. -/
def Obligations.HostQueuesAndSpill : Prop :=
  ∀ s : State,
    (∀ (j k h n l len a : Nat), k < 8 → h < 4096 → s.domOn 24 = true → s.domOn 26 = true → s.domOn 9 = true → s.get
      (F.TRF_HQ_TP_CFG_en k) = 1 → ringSize (s.get (F.TRF_HQ_TP_CFG_log2_size k)) = n → s.get (F.TRF_HQ_TP_TAIL_index
      k) % n ≠ h % n → s.pair (F.TRF_HQ_TP_BASE_LO_addr k) (F.TRF_HQ_TP_BASE_HI_addr k) / 32 * 32 + 32 * (s.get
      (F.TRF_HQ_TP_TAIL_index k) % n) = a → s.dramOk a 32 = true → byteAt (s.dramRead a 32) 0 = 1 → byteAt (s.dramRead
      a 32) 1 = 1 → leAt (s.dramRead a 32) 2 2 = len → leAt (s.dramRead a 32) 16 4 % 2 ^ 17 = l → l ≠ 0 → s.dramOk
      (leAt (s.dramRead a 32) 8 8 / 16 * 16) len = true → vqueue s l = [] → canTake s 2 (ceilDiv len 256) = true →
      canTake s 3 (ceilDiv len 256) = true → s.get (F.TRF_POOL_USED_used 2) = 0 → coreFenced s j = false → Does
      (.hostqTpHeadAdvance j k h 1 []) s (fun t => (vqueue t l).map VqFrame.payload = [s.dramRead (leAt (s.dramRead a
      32) 8 8 / 16 * 16) len] ∧ (vqueue t l).map VqFrame.cls = [byteAt (s.dramRead a 32) 4 % 64] ∧ byteAt (t.dramRead
      a 32) 6 = 0 ∧ t.get (F.TRF_HQ_TP_TAIL_index k) = (s.get (F.TRF_HQ_TP_TAIL_index k) % n + 1) % n)) ∧
    (∀ (j k x n a : Nat) (f : HostFrame), k < 8 → x < 4096 → s.domOn 24 = true → s.get (F.TRF_HQ_TH_CFG_en k) = 1 →
      tabGet s.traffic.hosts k [] = [f] → ringSize (s.get (F.TRF_HQ_TH_CFG_log2_size k)) = n → s.get
      (F.TRF_HQ_TH_HEAD_index k) % n ≠ x % n → s.pair (F.TRF_HQ_TH_BASE_LO_addr k) (F.TRF_HQ_TH_BASE_HI_addr k) / 32 *
      32 + 32 * (s.get (F.TRF_HQ_TH_HEAD_index k) % n) = a → s.dramOk (leAt (s.dramRead a 32) 8 8) f.frame.length =
      true → (leAt (s.dramRead a 32) 8 8 + f.frame.length ≤ a ∨ a + 32 ≤ leAt (s.dramRead a 32) 8 8) → coreFenced s j
      = false → Does (.hostqThTailAdvance j k x) s (fun t => tabGet t.traffic.hosts k [] = [] ∧ t.get
      (F.TRF_HQ_TH_HEAD_index k) = (s.get (F.TRF_HQ_TH_HEAD_index k) % n + 1) % n ∧ t.get (F.TRF_HQ_TH_TAIL_index k) =
      x ∧ t.dramRead (leAt (s.dramRead a 32) 8 8) f.frame.length = f.frame ∧ t.dramRead a 32 = hostDescriptor
      (s.dramRead a 32) f.kind f.frame.length k f.stamp)) ∧
    (∀ (l k : Nat) (f : VqFrame), vqueue s l = [f] → f.spilled = some k → s.domOn 9 = true → s.domOn 26 = true →
      canTake s 3 (ceilDiv f.payload.length 256) = true → s.dramOk (spillAddr s k) (min 2560 f.payload.length) = true
      → Does (.spillFetch l []) s (fun t => (vqueue t l).map VqFrame.payload = [s.dramRead (spillAddr s k) (min 2560
      f.payload.length)] ∧ (vqueue t l).map VqFrame.spilled = [none] ∧ t.traffic.slots.contains k = false))

/-- A write of TMB_INC_HI waits; the write of TMB_INC_LO commits both where the increment is in range and the holdover
mode allows it, and is otherwise refused with the pending HI discarded and the increment as it was. An initiator is
no pruned Crown core. -/
def Obligations.TimeBaseIncrement : Prop :=
  ∀ s : State,
    (∀ (i : Nat) (v : Word), s.domOn 1 = true → coreFenced s i = false → Does (.tmbIncHiWrite i v) s (fun t =>
      t.time.pendingHi = some (v.toNat % 256) ∧ t.get F.TMB_INC_HI_int = s.get F.TMB_INC_HI_int ∧ Frame [] [.time] s
      t)) ∧
    (∀ (i h : Nat) (v : Word), s.domOn 1 = true → s.time.pendingHi = some h → incAccepted s (h * 2 ^ 32 + v.toNat) =
      true → coreFenced s i = false → Does (.tmbIncCommit i v) s (fun t => t.get F.TMB_INC_HI_int = h ∧ t.get
      F.TMB_INC_LO_frac = v.toNat ∧ t.time.pendingHi = none ∧ Frame [F.TMB_INC_HI_int.off, F.TMB_INC_LO_frac.off]
      [.time] s t)) ∧
    (∀ (i : Nat) (v : Word), s.domOn 1 = true → s.time.pendingHi = none → incAccepted s (s.get F.TMB_INC_HI_int * 2 ^
      32 + v.toNat) = true → coreFenced s i = false → Does (.tmbIncCommit i v) s (fun t => t.get F.TMB_INC_HI_int =
      s.get F.TMB_INC_HI_int ∧ t.get F.TMB_INC_LO_frac = v.toNat)) ∧
    (∀ (i : Nat) (v : Word), s.domOn 1 = true → incAccepted s (s.time.pendingHi.getD (s.get F.TMB_INC_HI_int) * 2 ^ 32
      + v.toNat) = false → coreFenced s i = false → Does (.tmbIncCommit i v) s (fun t => t.get F.TMB_STAT_inc_refused
      = 1 ∧ t.time.pendingHi = none ∧ t.time.ns = s.time.ns ∧ Frame [F.TMB_STAT_inc_refused.off] [.time] s t))

/-- A step in ACQUIRE, if guarded not beyond the jump limit, adds its signed nanoseconds to the time base, the fraction
unchanged, and moves to TRACK; in another state, or beyond that limit in guarded ACQUIRE, it is refused and counted;
rearm, track, hold_enter and hold_exit move the state as R245 says. An initiator is no pruned Crown core. -/
def Obligations.TimeBaseState : Prop :=
  ∀ s : State,
    (∀ (i : Nat) (d : Int), s.domOn 1 = true → s.get F.TMB_STATE_state = 0 → signed 64 (s.pair F.TMB_STEP_LO_step
      F.TMB_STEP_HI_step) = d → (s.get F.TMB_STATE_guarded = 0 ∨ d.natAbs ≤ s.get F.TMB_JUMP_LIMIT_limit_ns) →
      coreFenced s i = false → Does (.tmbStep i) s (fun t => (t.now : Int) = ((s.now : Int) + d) % 2 ^ 64 ∧
      t.time.frac = s.time.frac ∧ t.get F.TMB_STATE_state = 1 ∧ t.get F.TMB_STAT_step_done = 1 ∧ t.get
      F.TMB_INC_LO_frac = s.get F.TMB_INC_LO_frac)) ∧
    (∀ (i : Nat), s.domOn 1 = true → s.get F.TMB_STATE_state ≠ 0 → coreFenced s i = false → Does (.tmbStep i) s (fun t
      => t.get F.TMB_STAT_step_refused = 1 ∧ Counts F.TMB_EVCNT_step_refused_cnt s t ∧ Frame
      [F.TMB_STAT_step_refused.off, F.TMB_EVCNT_step_refused_cnt.off] [] s t)) ∧
    (∀ (i : Nat), s.domOn 1 = true → s.get F.TMB_STATE_state = 0 → s.get F.TMB_STATE_guarded = 1 → s.get
      F.TMB_JUMP_LIMIT_limit_ns < (signed 64 (s.pair F.TMB_STEP_LO_step F.TMB_STEP_HI_step)).natAbs → coreFenced s i =
      false → Does (.tmbStep i) s (fun t => t.get F.TMB_STAT_jump_refused = 1 ∧ Counts F.TMB_EVCNT_jump_refused_cnt s
      t ∧ Frame [F.TMB_STAT_jump_refused.off, F.TMB_EVCNT_jump_refused_cnt.off] [] s t)) ∧
    (∀ (i : Nat) (b : Bool), s.domOn 1 = true → coreFenced s i = false → Does (.tmbRearm i b) s (fun t => t.get
      F.TMB_STATE_state = 0 ∧ t.get F.TMB_STATE_guarded = b2n (!b && modeGuards s && s.time.unfollowed) ∧ Frame
      [F.TMB_STATE_state.off] [.time] s t)) ∧
    (∀ (i : Nat), s.domOn 1 = true → s.get F.TMB_STATE_state = 0 → coreFenced s i = false → Does (.tmbTrack i) s (fun
      t => t.get F.TMB_STATE_state = 1 ∧ t.get F.TMB_STATE_guarded = 0 ∧ Frame [F.TMB_STATE_state.off] [] s t)) ∧
    (∀ (i : Nat), s.domOn 1 = true → s.get F.TMB_STATE_state ≠ 2 → coreFenced s i = false → Does (.tmbHoldEnter i) s
      (fun t => t.get F.TMB_STATE_state = 2 ∧ t.get F.TMB_STATE_hold_cause = 1 ∧ t.get F.TMB_STAT_holdover = 1 ∧
      Counts F.TMB_EVCNT_holdover_cnt s t)) ∧
    (∀ (i : Nat), s.domOn 1 = true → s.get F.TMB_STATE_state = 2 → coreFenced s i = false → Does (.tmbHoldEnter i) s
      (fun t => Frame [] [] s t)) ∧
    (∀ (i : Nat), s.domOn 1 = true → s.get F.TMB_STATE_state = 2 → coreFenced s i = false → Does (.tmbHoldExit i) s
      (fun t => t.get F.TMB_STATE_state = 1 ∧ Frame [F.TMB_STATE_state.off] [] s t))

/-- An edge of PPS_IN is captured with NEW and its sequence, and OVR where the last was not read; a lost input is flagged;
reading the capture clears NEW; PPS_OUT rises and ends at its instants with its polarity; SYNCE_OUT resumes. An
initiator is no pruned Crown core. -/
def Obligations.PulsesAndSyncE : Prop :=
  ∀ s : State,
    (s.get F.TMB_PPS_CFG_in_en = 1 → Does (.ppsInEdge) s (fun t => t.pair F.TMB_PPS_CAP_LO_ns F.TMB_PPS_CAP_HI_ns =
      s.now % 2 ^ 64 ∧ t.get F.TMB_PPS_CAP_ST_new = 1 ∧ t.get F.TMB_PPS_CAP_ST_seq = (s.get F.TMB_PPS_CAP_ST_seq + 1)
      % 2 ^ F.TMB_PPS_CAP_ST_seq.width ∧ t.get F.TMB_PPS_CAP_ST_ovr = (if s.get F.TMB_PPS_CAP_ST_new = 1 ∨
      s.time.ppsGap = true then 1 else s.get F.TMB_PPS_CAP_ST_ovr) ∧ t.time.ppsLast = s.now)) ∧
    (s.get F.TMB_PPS_CFG_in_en = 1 → s.get F.TMB_REF_src = 1 → s.get F.TMB_STATE_state = 1 → Does (.ppsInLost) s (fun
      t => t.get F.TMB_STAT_pps_lost = 1 ∧ s.time.ppsLast + 1500000000 ≤ t.now ∧ t.get F.TMB_STATE_state = 2 ∧ t.get
      F.TMB_STATE_hold_cause = 4)) ∧
    (∀ (i : Nat), s.domOn 1 = true → coreFenced s i = false → Does (.ppsCapRead i) s (fun t => .read (s.reg 0x80058) ∈
      t.out ∧ t.get F.TMB_PPS_CAP_ST_new = 0 ∧ t.get F.TMB_PPS_CAP_ST_seq = s.get F.TMB_PPS_CAP_ST_seq ∧ Frame
      [F.TMB_PPS_CAP_ST_new.off] [] s t)) ∧
    (ppsDrives s = true → Does (.ppsOutRise) s (fun t => t.time.ppsOn = true ∧ t.time.ppsRise = nextRise s ∧ .pps
      (!s.on F.TMB_PPS_CFG_pol) ∈ t.out ∧ nextRise s ≤ t.now ∧ Frame [] [.time] (s.reach (nextRise s).toNat) t)) ∧
    (s.time.ppsOn = true → s.owner 2 0 = 0x0200 → Does (.ppsOutEnd) s (fun t => t.time.ppsOn = false ∧ .pps (s.on
      F.TMB_PPS_CFG_pol) ∈ t.out ∧ s.time.ppsRise + ppsWidth s ≤ t.now ∧ Frame [] [.time] (s.reach (s.time.ppsRise +
      ppsWidth s).toNat) t)) ∧
    (∀ (p : Nat), s.get F.TMB_SYNCE_port = p → s.get F.TMB_SYNCE_en = 1 → s.owner 2 1 = 0x0201 → s.get
      (F.ETH_STATUS_link_up p) = 1 → Does (.synceResume) s (fun t => t.get F.TMB_SYNCE_active = 1 ∧ t.get
      (F.ETH_STATUS_rx_clk_lock p) = 1 ∧ Frame [F.TMB_SYNCE_active.off, (F.ETH_STATUS_rx_clk_lock p).off] [] s t))

/-- Setting run clears the prescaler, sets the gate and keeps the counter; the counter and top are written while run is 0
and refused while it is 1; a read gives the counter; the count at top takes the counter to 0 with its flag and
count; a RESET and a GATE link event act on their target. An initiator is no pruned Crown core. -/
def Obligations.TimerUnitsCount : Prop :=
  ∀ s : State,
    (∀ (i u : Nat) (v : Word), u < 32 → s.domOn 1 = true → s.owner 4 u = 0x0300 → s.get (F.TMU_CTL_run u) = 0 →
      wordField v (F.TMU_CTL_run u).lsb 1 = 1 → coreFenced s i = false → Does (.tmuRunWrite i u v) s (fun t => t.get
      (F.TMU_CTL_run u) = 1 ∧ t.get (F.TMU_STATUS_gate_open u) = (if hasGate s u then wordField v (F.TMU_CTL_gate_init
      u).lsb 1 else 1) ∧ prescOf t u = (0, (prescOf s u).2) ∧ t.get (F.TMU_CNT_count u) = s.get (F.TMU_CNT_count u))) ∧
    (∀ (i u : Nat) (b : Bool) (v : Word), u < 32 → s.domOn 1 = true → s.owner 4 u = 0x0300 → s.get (F.TMU_CTL_run u) =
      0 → coreFenced s i = false → Does (.tmuCntWrite i u b v) s (fun t => t.get (F.TMU_CNT_count u) = (if b then
      s.get (F.TMU_CNT_count u) else v.toNat) ∧ t.get (F.TMU_TOP_top u) = (if b then v.toNat else s.get (F.TMU_TOP_top
      u)) ∧ Frame [(F.TMU_CNT_count u).off, (F.TMU_TOP_top u).off] [] s t)) ∧
    (∀ (i u : Nat) (b : Bool) (v : Word), u < 32 → s.domOn 1 = true → s.owner 4 u = 0x0300 → s.get (F.TMU_CTL_run u) =
      1 → coreFenced s i = false → Does (.tmuCntWrite i u b v) s (fun t => t.get F.TMU_STAT_cnt_refused = 1 ∧ Counts
      F.TMU_EVCNT_cnt_refused_cnt s t ∧ Frame [F.TMU_STAT_cnt_refused.off, F.TMU_EVCNT_cnt_refused_cnt.off] [] s t)) ∧
    (∀ (i u : Nat), u < 32 → s.domOn 1 = true → s.tmu.links = [] → coreFenced s i = false → Does (.tmuCntRead i u) s
      (fun t => .read (s.reg (0x9100C + 0x80 * u)) ∈ t.out ∧ Frame [] [] s t)) ∧
    (∀ (u : Nat), u < 32 → unitCounts s u = true → hasClock s u = true → s.get (F.TMU_CNT_count u) = s.get
      (F.TMU_TOP_top u) → Does (.tmuOverflow u) s (fun t => t.get (F.TMU_CNT_count u) = 0 ∧ (t.reg (0x91014 + 0x80 *
      u)).toNat.testBit 0 = true ∧ Counts (F.TMU_UEVCNT_ovf_cnt u) s t ∧ (s.get (F.TMU_CTL_oneshot u) = 1 → t.get
      (F.TMU_CTL_run u) = 0))) ∧
    (∀ (u : Nat) (m : LinkMsg), u < 32 → s.tmu.links = [m] → m.dst = u → m.action = 1 → m.age ≠ 0 → Does
      (.tmuLinkEvent) s (fun t => t.get (F.TMU_CNT_count u) = 0 ∧ t.tmu.links = [] ∧ prescOf t u = (0, (prescOf s
      u).2) ∧ Frame [(F.TMU_CNT_count u).off] [.timers] s t)) ∧
    (∀ (u : Nat) (m : LinkMsg), u < 32 → s.tmu.links = [m] → m.dst = u → m.action = 0 → m.age ≠ 0 → Does
      (.tmuLinkEvent) s (fun t => t.get (F.TMU_STATUS_gate_open u) = 1 - s.get (F.TMU_STATUS_gate_open u) ∧
      t.tmu.links = [] ∧ Frame [(F.TMU_STATUS_gate_open u).off] [.timers] s t))

/-- A count that reaches a compare value sets its flag; a capture latches the counter with new, seq, flag and count; a
compare write is taken and ignored in capture mode; a read of a capture clears new; an output with its pin drives
its level and one without is a conflict. An initiator is no pruned Crown core. -/
def Obligations.TimerChannels : Prop :=
  ∀ s : State,
    (∀ (u k : Nat), u < 32 → k < 4 → unitCounts s u = true → hasClock s u = true → afterCount s u = s.get
      (F.TMU_CCV_value u k) → s.get (F.TMU_CH_CFG_mode u k) = 1 → s.get (F.TMU_CH_CFG_en u k) = 1 → s.get
      (F.TMU_CCV_value u k) ≤ s.get (F.TMU_TOP_top u) → Does (.tmuCompareMatch u k) s (fun t => t.get (F.TMU_CNT_count
      u) = s.get (F.TMU_CCV_value u k) ∧ (t.reg (0x91014 + 0x80 * u)).toNat.testBit (1 + k) = true)) ∧
    (∀ (u k : Nat), u < 32 → k < 4 → captures s u k = true → s.tmu.links = [] → Does (.tmuCapture u k) s (fun t =>
      t.get (F.TMU_CCV_value u k) = s.get (F.TMU_CNT_count u) ∧ t.get (F.TMU_CH_ST_new u k) = 1 ∧ t.get
      (F.TMU_CH_ST_seq u k) = (s.get (F.TMU_CH_ST_seq u k) + 1) % 2 ^ (F.TMU_CH_ST_seq u k).width ∧ (s.get
      (F.TMU_CH_ST_new u k) = 1 → t.get (F.TMU_CH_ST_ovr u k) = 1) ∧ Counts (F.TMU_UEVCNT_cap_cnt u) s t ∧ (t.reg
      (0x91014 + 0x80 * u)).toNat.testBit (5 + k) = true)) ∧
    (∀ (i u k : Nat) (v : Word), u < 32 → s.domOn 1 = true → s.owner 4 u = 0x0300 → k < 4 → s.get (F.TMU_CH_CFG_mode u
      k) ≠ 2 → coreFenced s i = false → Does (.tmuCcvWrite i u k v) s (fun t => t.get (F.TMU_CCV_value u k) = v.toNat
      ∧ t.get (F.TMU_CNT_count u) = s.get (F.TMU_CNT_count u))) ∧
    (∀ (i u k : Nat) (v : Word), u < 32 → s.domOn 1 = true → s.owner 4 u = 0x0300 → k < 4 → s.get (F.TMU_CH_CFG_mode u
      k) = 2 → coreFenced s i = false → Does (.tmuCcvWrite i u k v) s (fun t => Frame [] [] s t)) ∧
    (∀ (i u k : Nat), u < 32 → k < 4 → s.domOn 1 = true → s.get (F.TMU_CH_CFG_mode u k) = 2 → coreFenced s i = false →
      Does (.tmuCcvRead i u k) s (fun t => .read (s.reg (F.TMU_CCV_value u k).off) ∈ t.out ∧ t.get (F.TMU_CH_ST_new u
      k) = 0 ∧ Frame [(F.TMU_CH_ST_new u k).off] [] s t)) ∧
    (∀ (i u p : Nat) (v : Word), u < 32 → s.domOn 1 = true → s.owner 4 u = 0x0300 → wordField v (F.TMU_OUT_en u).lsb 1
      = 1 → wordField v (F.TMU_OUT_pin u).lsb (F.TMU_OUT_pin u).width = p → p < 32 → s.owner 1 p = 0x0300 + u →
      coreFenced s i = false → Does (.tmuOutEnable i u v) s (fun t => t.get (F.TMU_OUT_en u) = 1 ∧ .pin p (t.on
      (F.TMU_STATUS_level u) != t.on (F.TMU_OUT_pol u)) ∈ t.out ∧ Frame [(F.TMU_OUT_en u).off] [] s t)) ∧
    (∀ (i u p : Nat) (v : Word), u < 32 → s.domOn 1 = true → s.owner 4 u = 0x0300 → wordField v (F.TMU_OUT_en u).lsb 1
      = 1 → wordField v (F.TMU_OUT_pin u).lsb (F.TMU_OUT_pin u).width = p → p < 32 → s.owner 1 p ≠ 0x0300 + u →
      coreFenced s i = false → Does (.tmuOutEnable i u v) s (fun t => t.get F.TMU_STAT_conflict = 1 ∧ t.get
      F.TMU_CONFLICT_conflict = (s.owner 1 p * 2 ^ 16 + 2 ^ 8 + p) % 2 ^ 32 ∧ Counts F.TMU_EVCNT_conflict_cnt s t ∧ (∀
      q h, .pin q h ∉ t.out)))

/-- After any write to TMU_CH_CFG, by its own command or by a register write, a channel whose mode has changed has new,
ovr, seq and TMU_CCV 0. An initiator is no pruned Crown core. -/
def Obligations.CaptureModeClears : Prop :=
  ∀ s : State,
    (∀ (i u k : Nat) (v : Word), u < 32 → k < 4 → coreFenced s i = false → Does (.tmuModeChange i u k v) s (fun t =>
      (t.get (F.TMU_CH_CFG_mode u k) ≠ s.get (F.TMU_CH_CFG_mode u k) → t.get (F.TMU_CH_ST_new u k) = 0 ∧ t.get
      (F.TMU_CH_ST_ovr u k) = 0 ∧ t.get (F.TMU_CH_ST_seq u k) = 0 ∧ t.get (F.TMU_CCV_value u k) = 0))) ∧
    (∀ (i u k : Nat) (v r : Word), u < 32 → k < 4 → coreFenced s i = false → Does (.registerWrite i (F.TMU_CH_CFG_mode
      u k).off v r) s (fun t => (t.get (F.TMU_CH_CFG_mode u k) ≠ s.get (F.TMU_CH_CFG_mode u k) → t.get
      (F.TMU_CH_ST_new u k) = 0 ∧ t.get (F.TMU_CH_ST_ovr u k) = 0 ∧ t.get (F.TMU_CH_ST_seq u k) = 0 ∧ t.get
      (F.TMU_CCV_value u k) = 0))) ∧
    (∀ (i u k : Nat) (v : Word), u < 32 → s.domOn 1 = true → s.owner 4 u = 0x0300 → k < 4 → coreFenced s i = false →
      Does (.tmuModeChange i u k v) s (fun t => t.get (F.TMU_CH_CFG_mode u k) = wordField v (F.TMU_CH_CFG_mode u
      k).lsb (F.TMU_CH_CFG_mode u k).width))

/-- A go of LEAF_DROP, LEAF_DERIVE, LEAF_IMPORT or REPLICA_IMPORT on an idle channel is kept, and the command acts as it
completes, which is the model’s choice (notes/assumptions/45). Completing with Heartwood unlocked, rooted and
measured, and the part’s own slots in use: LEAF_DROP writes the leaf’s blobs not in use and drops its cached key;
LEAF_DERIVE writes the derived key’s blob with the next serial; LEAF_IMPORT writes the key that the transport key
unwraps, or ends with BLOB_BAD; REPLICA_IMPORT reports the blobs it carried, and so does REPLICA_WRAP at its go;
CACHE_FLUSH empties the cache. An initiator is no pruned Crown core. -/
def Obligations.LeafKeyCommands : Prop :=
  ∀ s : State,
    (∀ (i c : Nat), c < 2 → s.domOn 2 = true → s.get (F.HWD_CMD_busy c) = 0 → s.pruned 11 0 = false →
      s.prune.secRestarting = false → s.secHalted = false → coreFenced s i = false → Does (.cacheFlush i c) s (fun t
      => t.get (F.HWD_CMD_busy c) = 1 ∧ t.get (F.HWD_CMD_RESULT_done c) = 0 ∧ t.hwd.cache = [] ∧ t.get
      F.HWD_CACHE_USED_entries = 0 ∧ (tabFind t.hwd.runs c).map HwdRun.op = some 4 ∧ (tabFind t.hwd.runs c).map
      HwdRun.waiting = some false ∧ (tabFind t.hwd.runs c).map HwdRun.status = some 0)) ∧
    (∀ (i c : Nat), c < 2 → s.domOn 2 = true → s.get (F.HWD_CMD_busy c) = 0 → s.pruned 11 0 = false → otherSigning s c
      = none → coreFenced s i = false → Does (.leafDrop i c) s (fun t => t.get (F.HWD_CMD_busy c) = 1 ∧ t.get
      (F.HWD_CMD_RESULT_done c) = 0 ∧ tabFind t.hwd.runs c = some ⟨3, 0, false, true, 0, 0, none, s.now, 0, []⟩ ∧
      Frame [(F.HWD_CMD_busy c).off, (F.HWD_CMD_RESULT_done c).off] [.keys] s t)) ∧
    (∀ (c l w p : Nat), CommandDue s c 3 0 w p → s.get (F.HWD_CMD_ARG_lid c) = l → l ≠ 0 → leafBar s = none → s.domOn
      26 = true → (∀ g ∈ writtenGens s, s.dramOk (blobAddr s g l) 64 = true) → Does (.hwdCmdComplete c []) s (fun t =>
      (∀ g ∈ writtenGens s, t.dramRead (blobAddr s g l) 64 = List.replicate 64 0#8) ∧ cached t l = none ∧ t.get
      (F.HWD_CMD_RESULT_status c) = 0 ∧ t.get (F.HWD_CMD_busy c) = 0 ∧ t.get (F.HWD_CMD_RESULT_done c) = 1)) ∧
    (∀ (i c k : Nat), c < 2 → s.domOn 2 = true → s.get (F.HWD_CMD_busy c) = 0 → s.pruned 11 0 = false → otherSigning s
      c = none → k < 64 → coreFenced s i = false → Does (.leafDerive i c k) s (fun t => t.get (F.HWD_CMD_busy c) = 1 ∧
      t.get (F.HWD_CMD_RESULT_done c) = 0 ∧ tabFind t.hwd.runs c = some ⟨2, k, false, true, 0, 0, none, s.now, 0, []⟩
      ∧ Frame [(F.HWD_CMD_busy c).off, (F.HWD_CMD_RESULT_done c).off] [.keys] s t)) ∧
    (∀ (c l k g w p : Nat), CommandDue s c 2 k w p → measured s = true → s.get (F.HWD_CMD_ARG_lid c) = l → l ≠ 0 →
      leafBar s = none → s.domOn 26 = true → s.hwd.lost = [] → k < 64 → slotCheck s k 2 (some c) = none → (∀ h ∈
      writtenGens s, slotCheck s (2 + h) 9 none = none) → g ∈ writtenGens s → (∀ h ∈ writtenGens s, s.dramOk (blobAddr
      s h l) 64 = true ∧ (h = g ∨ blobAddr s h l + 64 ≤ blobAddr s g l ∨ blobAddr s g l + 64 ≤ blobAddr s h l)) → Does
      (.hwdCmdComplete c []) s (fun t => t.get (F.HWD_CMD_busy c) = 0 ∧ t.get (F.HWD_CMD_RESULT_done c) = 1 ∧
      t.dramRead (blobAddr s g l) 64 = blobBytes ((slotKey s (2 + g)).getD []) (blobHeader (g + 6) (s.get
      (F.HWD_CMD_ARG_key_index c)) l (s.get F.HWD_BLOB_SERIAL_serial)) ((derive256 ((slotKey s k).getD []) (beBytes 8
      (leafWord s l 2 + leafWord s l 3 * 2 ^ 32)) "BX7160 LEAF").take 16) ∧ t.get F.HWD_BLOB_SERIAL_serial = (s.get
      F.HWD_BLOB_SERIAL_serial + 1) % 2 ^ 32 ∧ cached t l = none ∧ t.get (F.HWD_CMD_RESULT_status c) = 0)) ∧
    (∀ (i c k : Nat), c < 2 → s.domOn 2 = true → s.get (F.HWD_CMD_busy c) = 0 → s.pruned 11 0 = false → otherSigning s
      c = none → k < 64 → coreFenced s i = false → Does (.leafImport i c k []) s (fun t => t.get (F.HWD_CMD_busy c) =
      1 ∧ t.get (F.HWD_CMD_RESULT_done c) = 0 ∧ tabFind t.hwd.runs c = some ⟨1, k, false, true, 0, 0, none, s.now, 0,
      []⟩ ∧ Frame [(F.HWD_CMD_busy c).off, (F.HWD_CMD_RESULT_done c).off] [.keys] s t)) ∧
    (∀ (c l k g w p : Nat) (x : List Byte), CommandDue s c 1 k w p → measured s = true → s.get (F.HWD_CMD_ARG_lid c) =
      l → l ≠ 0 → leafBar s = none → s.domOn 26 = true → s.hwd.lost = [] → k < 64 → slotCheck s k 1 (some c) = none →
      (∀ h ∈ writtenGens s, slotCheck s (2 + h) 9 none = none) → g ∈ writtenGens s → (∀ h ∈ writtenGens s, s.dramOk
      (blobAddr s h l) 64 = true ∧ (h = g ∨ blobAddr s h l + 64 ≤ blobAddr s g l ∨ blobAddr s g l + 64 ≤ blobAddr s h
      l)) → s.dramOk (cmdBuf s c) 24 = true → s.dramRead (cmdBuf s c) 24 = x → Does (.hwdCmdComplete c []) s (fun t =>
      t.get (F.HWD_CMD_busy c) = 0 ∧ t.get (F.HWD_CMD_RESULT_done c) = 1 ∧ t.get (F.HWD_CMD_RESULT_status c) = (match
      Config.kwpUnwrap ((slotKey s k).getD []) x with | some y => if y.length = 16 then 0 else 8 | none => 8) ∧ (∀ y,
      Config.kwpUnwrap ((slotKey s k).getD []) x = some y → y.length = 16 → t.dramRead (blobAddr s g l) 64 = blobBytes
      ((slotKey s (2 + g)).getD []) (blobHeader (g + 2) (s.get (F.HWD_CMD_ARG_key_index c)) l (s.get
      F.HWD_BLOB_SERIAL_serial)) y))) ∧
    (∀ (i c l k n : Nat) (bs : List (List Byte)), c < 2 → s.domOn 2 = true → s.get (F.HWD_CMD_busy c) = 0 → s.pruned
      11 0 = false → s.prune.secRestarting = false → s.secHalted = false → measured s = true → s.get
      (F.HWD_CMD_ARG_lid c) = l → l ≠ 0 → n ≠ 0 → l + n ≤ 131072 → s.get (F.HWD_CMD_CNT_count c) = n → leafBar s =
      none → s.domOn 26 = true → s.hwd.lost = [] → k < 64 → slotCheck s k 3 (some c) = none → s.dramOk (cmdBuf s c) 32
      = true → (wrapReplicas [] (derive256 ((slotKey s k).getD []) (s.dramRead (cmdBuf s c) 32) "BX7160 REPLICA") l n
      s).1 = bs → coreFenced s i = false → Does (.replicaWrap i c k []) s (fun t => t.get (F.HWD_CMD_busy c) = 1 ∧
      t.get (F.HWD_CMD_RESULT_done c) = 0 ∧ (tabFind t.hwd.runs c).map (fun r => (r.status, r.items, r.out)) = some
      (if bs.length = n then stOk else if bs = [] then stBlobBad else stPartial, bs.length, some (cmdBuf s c + 32,
      bs.flatten)))) ∧
    (∀ (i c k : Nat), c < 2 → s.domOn 2 = true → s.get (F.HWD_CMD_busy c) = 0 → s.pruned 11 0 = false → otherSigning s
      c = none → k < 64 → coreFenced s i = false → Does (.replicaImport i c k []) s (fun t => t.get (F.HWD_CMD_busy c)
      = 1 ∧ t.get (F.HWD_CMD_RESULT_done c) = 0 ∧ tabFind t.hwd.runs c = some ⟨7, k, false, true, 0, 0, none, s.now,
      0, []⟩ ∧ Frame [(F.HWD_CMD_busy c).off, (F.HWD_CMD_RESULT_done c).off] [.keys] s t)) ∧
    (∀ (c k n w p : Nat) (x : List Byte), CommandDue s c 7 k w p → measured s = true → s.get (F.HWD_CMD_CNT_count c) =
      n → n ≠ 0 → leafBar s = none → s.domOn 26 = true → s.hwd.lost = [] → k < 64 → slotCheck s k 3 (some c) = none →
      s.dramOk (cmdBuf s c) (64 * n) = true → s.dramRead (cmdBuf s c) (64 * n) = x → Does (.hwdCmdComplete c []) s
      (fun t => t.get (F.HWD_CMD_busy c) = 0 ∧ t.get (F.HWD_CMD_RESULT_done c) = 1 ∧ t.get (F.HWD_CMD_RESULT_items c)
      = min (importReplicas (derive256 ((slotKey s k).getD []) (digestReg s) "BX7160 REPLICA") (pieces 64 n x) s).1
      8191))

/-- RANDOM puts its bytes aside for the buffer; a completed command releases its output and its result, frees the channel
and is counted; a go on a busy channel reads BUSY, and one that needs the measurements waits for them; while the
security cores are halted or restart no command completes. An initiator is no pruned Crown core. -/
def Obligations.CommandCompletion : Prop :=
  ∀ s : State,
    (∀ (i c n : Nat), c < 2 → s.domOn 2 = true → s.get (F.HWD_CMD_busy c) = 0 → s.pruned 11 0 = false →
      s.prune.secRestarting = false → s.secHalted = false → s.get (F.HWD_CMD_CNT_count c) = n → 1 ≤ n → n ≤ 4096 →
      s.get F.HWD_DRBG_healthy = 1 → coreFenced s i = false → Does (.random i c) s (fun t => t.get (F.HWD_CMD_busy c)
      = 1 ∧ t.get (F.HWD_CMD_RESULT_done c) = 0 ∧ (tabFind t.hwd.runs c).map HwdRun.status = some 0 ∧ (tabFind
      t.hwd.runs c).map HwdRun.items = some n ∧ (tabFind t.hwd.runs c).map HwdRun.out = some (some (cmdBuf s c,
      s.random n)))) ∧
    (∀ (c : Nat) (r : HwdRun) (a : Nat) (x : List Byte), c < 2 → tabFind s.hwd.runs c = some r → s.prune.secRestarting
      = false → s.secHalted = false → r.waiting = false → r.out = some (a, x) → r.status < 128 → r.items < 8192 →
      s.domOn 26 = true → s.dramOk a x.length = true → Does (.hwdCmdComplete c []) s (fun t => t.dramRead a x.length =
      x ∧ t.get (F.HWD_CMD_RESULT_done c) = 1 ∧ t.get (F.HWD_CMD_RESULT_status c) = r.status ∧ t.get
      (F.HWD_CMD_RESULT_items c) = r.items ∧ t.get (F.HWD_CMD_busy c) = 0 ∧ Counts (F.HWD_CMD_DONE_CNT_count c) s t ∧
      t.get F.HWD_STAT_cmd_done = 1 ∧ tabFind t.hwd.runs c = none ∧ Frame [(F.HWD_CMD_busy c).off,
      (F.HWD_CMD_RESULT_done c).off, (F.HWD_CMD_DONE_CNT_count c).off, F.HWD_STAT_cmd_done.off] [.keys, .dram] s t)) ∧
    (∀ (i c k : Nat), c < 2 → s.domOn 2 = true → s.get (F.HWD_CMD_busy c) = 1 → coreFenced s i = false → Does
      (.leafDerive i c k) s (fun t => t.get (F.HWD_CMD_RESULT_status c) = 11 ∧ Frame [(F.HWD_CMD_RESULT_status c).off]
      [] s t)) ∧
    (∀ (i c : Nat) (b : Bool), c < 2 → s.domOn 2 = true → s.get (F.HWD_CMD_busy c) = 0 → s.pruned 11 0 = false →
      s.prune.secRestarting = false → s.secHalted = false → measured s = false → otherSigning s c = none → coreFenced
      s i = false → Does (.witness i c b []) s (fun t => t.get (F.HWD_CMD_busy c) = 1 ∧ t.get (F.HWD_CMD_RESULT_done
      c) = 0 ∧ tabFind t.hwd.runs c = some ⟨18, 0, b, true, 0, 0, none, s.now, 0, []⟩)) ∧
    (∀ (c : Nat) (r : HwdRun), c < 2 → (s.secHalted = true ∨ s.prune.secRestarting = true) → tabFind s.hwd.runs c =
      some r → Does (.hwdCmdComplete c []) s (fun t => Frame [] [] s t))

/-- A miss is counted and caches the key its blob opens to; re-masking changes no key; a failed entropy source marks the
DRBG and a passed retest clears it; the sweep visits LID after LID and after the last one is done. With a healthy
DRBG a new transition nonce is drawn, kept and shown. -/
def Obligations.KeyCacheAndMasks : Prop :=
  ∀ s : State,
    (∀ (l g : Nat), cached s l = none → s.get F.HWD_STATUS_locked = 0 → kwpAlive s = true → s.get F.HWD_BLOB_CFG_en =
      1 → s.domOn 26 = true → s.hwd.lost = [] → activeGen s = some g → slotCheck s (2 + g) 9 none = none → s.dramOk
      (blobAddr s g l) 64 = true → Does (.keyCacheMiss l []) s (fun t => Counts F.HWD_CACHE_MISS_CNT_count s t ∧
      (cached t l).isSome = (openBlob s ((slotKey s (2 + g)).getD []) g l (s.dramRead (blobAddr s g l) 64)).isSome ∧
      t.hwd.prefetch.contains l = false)) ∧
    (∀ (k : Nat) (x : Shares) (b : Bool), s.domOn 2 = true → s.get F.HWD_DRBG_healthy = 1 → tabFind s.hwd.keys k =
      some x → x.a.length ≤ 32 → x.b.length = x.a.length → Does (.remaskTick b) s (fun t => slotKey t k = slotKey s k
      ∧ (b = true → Counts F.HWD_EVCNT_remask_late_cnt s t) ∧ Frame (if b then [F.HWD_STAT_remask_late.off,
      F.HWD_EVCNT_remask_late_cnt.off] else []) [.keys] s t)) ∧
    (Does (.entropyFail) s (fun t => t.get F.HWD_STAT_entropy_fail = 1 ∧ t.get F.HWD_DRBG_healthy = 0 ∧ Frame
      [F.HWD_STAT_entropy_fail.off, F.HWD_DRBG_healthy.off] [.updates] s t)) ∧
    (∀ (b : Bool), Does (.entropyRetest b) s (fun t => t.get F.HWD_DRBG_healthy = (if b then 1 else s.get
      F.HWD_DRBG_healthy) ∧ Frame [F.HWD_DRBG_healthy.off] [] s t)) ∧
    (∀ (g h l : Nat), s.get F.HWD_GEN_sweep = 1 → activeGen s = some g → firstBelow 2 (fun n => decide (genState s n =
      1)) = some h → kwpAlive s = true → s.get F.HWD_STATUS_locked = 0 → s.secHalted = false → s.hwd.lost = [] →
      slotCheck s (2 + g) 9 none = none → slotCheck s (2 + h) 9 none = none → s.get F.HWD_BLOB_CFG_en = 1 → s.domOn 26
      = true → s.get F.HWD_SWEEP_POS_lid = l → l + 1 < 131072 → s.dramOk (blobAddr s g l) 64 = true → s.dramOk
      (blobAddr s h l) 64 = true → bit (byteAt (s.dramRead (blobAddr s g l) 64) 1) 1 = false → Does (.sweepVisit []) s
      (fun t => t.get F.HWD_SWEEP_POS_lid = l + 1 ∧ t.dramRead (blobAddr s h l) 64 = List.replicate 64 0#8 ∧ t.get
      F.HWD_GEN_sweep = 1 ∧ Frame [F.HWD_SWEEP_POS_lid.off] [.dram] s t)) ∧
    (∀ (g h : Nat), s.get F.HWD_GEN_sweep = 1 → activeGen s = some g → firstBelow 2 (fun n => decide (genState s n =
      1)) = some h → kwpAlive s = true → s.get F.HWD_STATUS_locked = 0 → s.secHalted = false → s.hwd.lost = [] →
      slotCheck s (2 + g) 9 none = none → slotCheck s (2 + h) 9 none = none → s.get F.HWD_SWEEP_POS_lid = 131071 →
      s.rgp.pending ≠ none → Does (.sweepVisit []) s (fun t => t.get F.HWD_GEN_sweep = 2 ∧ t.get F.HWD_STAT_sweep_done
      = 1 ∧ t.rgp.rewrapped = true)) ∧
    (∀ (i : Nat), s.domOn 0 = true → s.domOn 2 = true → s.get F.HWD_DRBG_healthy = 1 → coreFenced s i = false → Does
      (.lcNewNonce i) s (fun t => t.get F.BRK_LC_state = s.get F.BRK_LC_state ∧ t.bark = s.bark ∧ t.hwd = s.hwd ∧ t.nv
      = { s.nv with lcNonce := s.random 32 } ∧ t.get (F.BRK_LC_NONCE_bytes 7) = leAt (s.random 32) 28 4))

/-- A WITNESS and an RR_EXPORT each take one token and one index; the Witness buffer is the statement and its signature;
RR_VERIFY answers whether the tag of the record matches; PUBKEYS gives the keys and the device ID; tokens are
refilled at the rate of HWD_SIGN_CFG.rate up to 64, one at least with each refill. An initiator is no pruned Crown
core. -/
def Obligations.SignaturesAndExports : Prop :=
  ∀ s : State,
    (∀ (i c : Nat) (b : Bool) (x : List Byte), c < 2 → s.domOn 2 = true → s.get (F.HWD_CMD_busy c) = 0 → s.pruned 11 0
      = false → s.prune.secRestarting = false → s.secHalted = false → measured s = true → s.get F.HWD_SIGN_CFG_tokens
      ≠ 0 → s.hwd.nextIdx < s.hwd.resvIdx → s.hwd.nextIdx < 2 ^ 40 → keyBar s = none → otherSigning s c = none →
      s.domOn 26 = true → OwnSlots s [5, 6, 7] 11 → s.dramOk (cmdBuf s c) 32 = true → s.dramRead (cmdBuf s c) 32 = x →
      coreFenced s i = false → Does (.witness i c b []) s (fun t => t.get F.HWD_SIGN_CFG_tokens = s.get
      F.HWD_SIGN_CFG_tokens - 1 ∧ t.hwd.nextIdx = s.hwd.nextIdx + 1 ∧ t.hwd.resvIdx = s.hwd.resvIdx ∧ (tabFind
      t.hwd.runs c).map HwdRun.out = some (some (cmdBuf s c, statement s s.hwd.nextIdx x ++ signature s s.hwd.nextIdx
      (statement s s.hwd.nextIdx x))))) ∧
    (∀ (i c : Nat) (b : Bool), c < 2 → s.domOn 2 = true → s.get (F.HWD_CMD_busy c) = 0 → s.pruned 11 0 = false →
      s.prune.secRestarting = false → s.secHalted = false → measured s = true → s.get F.HWD_SIGN_CFG_tokens ≠ 0 →
      s.hwd.nextIdx < s.hwd.resvIdx → s.hwd.nextIdx < 2 ^ 40 → keyBar s = none → otherSigning s c = none → s.domOn 26
      = true → OwnSlots s [5, 6, 7] 11 → OwnSlots s [4] 10 → s.dramOk (cmdBuf s c) 32 = true → s.get
      (F.HWD_CMD_CNT_count c) ≤ 4096 → coreFenced s i = false → Does (.rrExport i c b []) s (fun t => t.get
      F.HWD_SIGN_CFG_tokens = s.get F.HWD_SIGN_CFG_tokens - 1 ∧ t.hwd.nextIdx = s.hwd.nextIdx + 1 ∧ (tabFind
      t.hwd.runs c).map HwdRun.items = some (newestEvents s (if s.get (F.HWD_CMD_CNT_count c) = 0 then 4096 else s.get
      (F.HWD_CMD_CNT_count c))).1.length)) ∧
    (∀ (i c : Nat) (b : Bool), c < 2 → s.domOn 2 = true → s.get (F.HWD_CMD_busy c) = 0 → s.pruned 11 0 = false →
      s.prune.secRestarting = false → s.secHalted = false → measured s = true → s.domOn 26 = true → keyBar s = none →
      otherSigning s c = none → OwnSlots s [5, 6, 7] 11 → s.dramOk (cmdBuf s c) 32 = true → s.get
      F.HWD_SIGN_CFG_tokens = 0 → coreFenced s i = false → Does (.witness i c b []) s (fun t => t.get
      F.HWD_SIG_STAT_sign_rate = 1 ∧ Counts F.HWD_SIG_EVCNT_rate_cnt s t ∧ t.hwd.nextIdx = s.hwd.nextIdx ∧ (tabFind
      t.hwd.runs c).map HwdRun.status = some stRate)) ∧
    (∀ (i c n : Nat) (x : List Byte), c < 2 → s.domOn 2 = true → s.get (F.HWD_CMD_busy c) = 0 → s.pruned 11 0 = false
      → s.prune.secRestarting = false → s.secHalted = false → measured s = true → s.domOn 26 = true → keyBar s = none
      → OwnSlots s [4] 10 → s.dramOk (cmdBuf s c) 128 = true → leAt (s.dramRead (cmdBuf s c) 128) 6 2 = n → s.dramOk
      (cmdBuf s c) (160 + 32 * n) = true → s.dramRead (cmdBuf s c) (160 + 32 * n) = x → coreFenced s i = false → Does
      (.rrVerify i c []) s (fun t => t.get (F.HWD_CMD_busy c) = 1 ∧ t.get (F.HWD_CMD_RESULT_done c) = 0 ∧ (tabFind
      t.hwd.runs c).map HwdRun.status = some (if x.drop (128 + 32 * n) = exportTag s (x.take (128 + 32 * n)) then stOk
      else stBadSig))) ∧
    (∀ (i c : Nat), c < 2 → s.domOn 2 = true → s.get (F.HWD_CMD_busy c) = 0 → s.pruned 11 0 = false →
      s.prune.secRestarting = false → s.secHalted = false → rootIndex s ≠ 0 → OwnSlots s [8, 9] 12 → coreFenced s i =
      false → Does (.pubkeys i c) s (fun t => t.get (F.HWD_CMD_busy c) = 1 ∧ t.get (F.HWD_CMD_RESULT_done c) = 0 ∧
      (tabFind t.hwd.runs c).map HwdRun.out = some (some (cmdBuf s c, fit 68 (identityKey s) ++ fit 1568
      (Config.publicKey 1 (mlkemSeeds s)) ++ deviceId s)))) ∧
    (∀ (n : Nat), n = max 1 ((s.now - s.hwd.refilled) / tokenPeriod s) → s.hwd.refilled + tokenPeriod s ≤ s.now → Does
      (.signTokenRefill) s (fun t => t.get F.HWD_SIGN_CFG_tokens = min 64 (s.get F.HWD_SIGN_CFG_tokens + n) ∧
      t.hwd.refilled = s.hwd.refilled + n * tokenPeriod s ∧ Frame [F.HWD_SIGN_CFG_tokens.off] [.keys] s t)) ∧
    (s.now < s.hwd.refilled + tokenPeriod s → s.hwd.refilled ≤ s.now → Does (.signTokenRefill) s (fun t => t.get
      F.HWD_SIGN_CFG_tokens = min 64 (s.get F.HWD_SIGN_CFG_tokens + 1) ∧ t.hwd.refilled = s.hwd.refilled + tokenPeriod
      s ∧ s.hwd.refilled + tokenPeriod s ≤ t.now))

/-- A KEY_UPDATE is in progress from its go and changes neither the counter nor anything kept until it completes; a second
one beside it is BUSY; a message whose header is not well formed completes with BAD_FORMAT and is counted; an UNLOCK
whose checks pass unlocks Heartwood and takes the message’s counter as it completes, and one that fails a check
completes with that check’s status and changes neither. That the message is checked and committed as the command
completes is the model’s choice (notes/assumptions/45). An initiator is no pruned Crown core. -/
def Obligations.KeyUpdateMessages : Prop :=
  ∀ s : State,
    (∀ (i c : Nat), c < 2 → s.domOn 2 = true → s.get (F.HWD_CMD_busy c) = 0 → s.pruned 11 0 = false →
      s.prune.secRestarting = false → s.secHalted = false → (tabFind s.hwd.runs (1 - c)).map HwdRun.op ≠ some 16 →
      otherSigning s c = none → coreFenced s i = false → Does (.keyUpdate i c) s (fun t => t.get (F.HWD_CMD_busy c) =
      1 ∧ t.get (F.HWD_CMD_RESULT_done c) = 0 ∧ tabFind t.hwd.runs c = some ⟨16, 0, false, true, 0, 0, none, s.now, 0,
      []⟩ ∧ kuCounter t = kuCounter s ∧ t.nv = s.nv)) ∧
    (∀ (i c : Nat), c < 2 → s.domOn 2 = true → s.get (F.HWD_CMD_busy c) = 0 → s.pruned 11 0 = false →
      s.prune.secRestarting = false → s.secHalted = false → (tabFind s.hwd.runs (1 - c)).map HwdRun.op = some 16 →
      coreFenced s i = false → Does (.keyUpdate i c) s (fun t => t.get (F.HWD_CMD_busy c) = 1 ∧ t.get
      (F.HWD_CMD_RESULT_done c) = 0 ∧ (tabFind t.hwd.runs c).map HwdRun.status = some stBusy ∧ t.nv = s.nv)) ∧
    (∀ (c m w p : Nat) (h : List Byte), c < 2 → s.domOn 2 = true → s.prune.secRestarting = false → s.secHalted = false
      → measured s = true → tabFind s.hwd.runs c = some ⟨16, m, false, true, 0, 0, none, w, p, []⟩ → rootIndex s ≠ 0 →
      s.get F.HWD_STATUS_locked = 0 → s.domOn 26 = true → s.dramOk (cmdBuf s c) 64 = true → s.dramRead (cmdBuf s c) 64
      = h → kuFormat h = none → Does (.hwdCmdComplete c []) s (fun t => t.get (F.HWD_CMD_RESULT_done c) = 1 ∧ t.get
      (F.HWD_CMD_RESULT_status c) = stBadFormat ∧ t.get F.HWD_SIG_STAT_ku_refused = 1 ∧ Counts
      F.HWD_SIG_EVCNT_ku_refused_cnt s t ∧ kuCounter t = kuCounter s)) ∧
    (∀ (c m w p : Nat) (h x : List Byte) (k : KuKind), c < 2 → s.domOn 2 = true → s.prune.secRestarting = false →
      s.secHalted = false → measured s = true → tabFind s.hwd.runs c = some ⟨16, m, false, true, 0, 0, none, w, p, []⟩
      → rootIndex s ≠ 0 → s.domOn 26 = true → s.dramOk (cmdBuf s c) 2892 = true → s.dramRead (cmdBuf s c) 64 = h →
      s.dramRead (cmdBuf s c) 2892 = x → kuFormat h = some k → byteAt h 5 = 5 → byteAt h 6 = 1 → Does (.hwdCmdComplete
      c []) s (fun t => t.get F.HWD_STATUS_locked = (if (kuChecks s h [] (slice x 64 8) (x.drop 72) (x.take 72)
      k).isOk then 0 else s.get F.HWD_STATUS_locked) ∧ kuCounter t = (if (kuChecks s h [] (slice x 64 8) (x.drop 72)
      (x.take 72) k).isOk then leAt h 0x28 8 else kuCounter s) ∧ t.get (F.HWD_CMD_RESULT_status c) = statusOf
      (kuChecks s h [] (slice x 64 8) (x.drop 72) (x.take 72) k) ∧ t.nv.locked = (if (kuChecks s h [] (slice x 64 8)
      (x.drop 72) (x.take 72) k).isOk then false else s.nv.locked))) ∧
    (∀ (i c : Nat) (h x : List Byte) (k : KuKind), c < 2 → s.domOn 2 = true → s.get (F.HWD_CMD_busy c) = 0 → s.pruned
      11 0 = false → s.prune.secRestarting = false → s.secHalted = false → measured s = true → rootIndex s ≠ 0 →
      s.domOn 26 = true → (tabFind s.hwd.runs (1 - c)).map HwdRun.op ≠ some 16 → s.dramOk (cmdBuf s c) 2892 = true →
      s.dramRead (cmdBuf s c) 64 = h → s.dramRead (cmdBuf s c) 2892 = x → kuFormat h = some k → byteAt h 5 = 5 →
      byteAt h 6 = 1 → coreFenced s i = false → Does (.keyUpdate i c) s (fun t => Does (.hwdCmdComplete c []) t (fun u
      => u.get F.HWD_STATUS_locked = (if (kuChecks t h [] (slice x 64 8) (x.drop 72) (x.take 72) k).isOk then 0 else
      t.get F.HWD_STATUS_locked) ∧ u.get (F.HWD_CMD_RESULT_status c) = statusOf (kuChecks t h [] (slice x 64 8)
      (x.drop 72) (x.take 72) k))))

/-- A NOTICE event starts an episode, counts and is recorded in BRK_LAST; an ALARM or ERASE at start-up enters BARK_HOLD;
an ALARM while the part runs empties the key cache, and an ERASE locks Heartwood too; the end of an episode clears
its live bit; a class is written, a lower one in DEPLOYED refused, and the classes are persisted. An initiator is no
pruned Crown core. A transition request that passes its checks begins to program, and no tamper event waiting, the
end of the programming shows the state to come and keeps the present one. -/
def Obligations.TamperSensors : Prop :=
  ∀ s : State,
    (∀ (n : Nat) (b : Bool) (l : List Bool), n < 10 → sensorMet s n l = true → barkClass s n b = 1 → s.get
      (F.BRK_SENSOR_CFG_episode n) = 0 → s.bark.lc = none → Does (.barkSensorEvent n b l) s (fun t => t.get
      (F.BRK_SENSOR_CFG_episode n) = 1 ∧ bit (t.get F.BRK_STATUS_live) n = true ∧ Counts (F.BRK_SENSOR_CNT_count n) s
      t ∧ Counts F.BRK_EVCNT_notice_cnt s t ∧ t.get F.BRK_STAT_notice = 1 ∧ t.get F.BRK_LAST_sensor = n ∧ t.get
      F.BRK_LAST_class = 1 ∧ t.nv.tampers = s.nv.tampers ∧ t.hwd = s.hwd)) ∧
    (∀ (n k : Nat) (b : Bool) (l : List Bool), n < 10 → sensorMet s n l = true → barkClass s n b = k → 2 ≤ k → s.get
      (F.BRK_SENSOR_CFG_episode n) = 0 → s.bark.lc = none → s.get F.BRK_CTL_boot_done = 0 → s.bark.hold = false → Does
      (.barkSensorEvent n b l) s (fun t => t.bark.hold = true ∧ t.nv.holds = s.nv.holds + 1 ∧ t.nv.tampers =
      s.nv.tampers + 1 ∧ t.mon.session = none ∧ t.get F.BRK_LAST_class = k ∧ t.get F.BRK_LAST_context = 1)) ∧
    (∀ (n : Nat) (b : Bool) (l : List Bool), n < 10 → sensorMet s n l = true → barkClass s n b = 3 → s.get
      (F.BRK_SENSOR_CFG_episode n) = 0 → s.bark.lc = none → s.get F.BRK_CTL_boot_done = 1 → s.domOn 2 = true → Does
      (.barkSensorEvent n b l) s (fun t => t.hwd.cache = [] ∧ t.get F.HWD_CACHE_USED_entries = 0 ∧ t.get
      F.HWD_STATUS_locked = 1 ∧ t.nv.locked = true ∧ t.get F.BRK_STATUS_erase_lock = 1 ∧ t.nv.tampers = s.nv.tampers +
      1)) ∧
    (∀ (n : Nat) (b : Bool) (l : List Bool), n < 10 → sensorMet s n l = true → barkClass s n b = 2 → s.get
      (F.BRK_SENSOR_CFG_episode n) = 0 → s.bark.lc = none → s.get F.BRK_CTL_boot_done = 1 → s.domOn 2 = true → Does
      (.barkSensorEvent n b l) s (fun t => t.hwd.cache = [] ∧ t.get F.HWD_CACHE_USED_entries = 0 ∧ t.nv.locked =
      s.nv.locked ∧ t.get F.BRK_STATUS_erase_lock = s.get F.BRK_STATUS_erase_lock ∧ t.nv.tampers = s.nv.tampers + 1)) ∧
    (∀ (n : Nat), n < 10 → Does (.barkEpisodeEnd n) s (fun t => bit (t.get F.BRK_STATUS_live) n = false ∧ t.get
      (F.BRK_SENSOR_CFG_episode n) = 0 ∧ t.get (F.BRK_SENSOR_CFG_class n) = s.get (F.BRK_SENSOR_CFG_class n) ∧ Frame
      [F.BRK_STATUS_live.off, (F.BRK_SENSOR_CFG_episode n).off] [] s t)) ∧
    (∀ (i n : Nat) (v : Word), n < 10 → s.domOn 0 = true → lifecycle s ≠ 3 → coreFenced s i = false → Does
      (.barkClassWrite i n v) s (fun t => t.get (F.BRK_SENSOR_CFG_class n) = v.toNat % 4 ∧ Frame
      [(F.BRK_SENSOR_CFG_class n).off] [] s t)) ∧
    (∀ (i n : Nat) (v : Word), n < 10 → s.domOn 0 = true → lifecycle s = 3 → v.toNat % 4 < s.get
      (F.BRK_SENSOR_CFG_class n) → coreFenced s i = false → Does (.barkClassWrite i n v) s (fun t => t.get
      F.BRK_STAT_cfg_refused = 1 ∧ Frame [F.BRK_STAT_cfg_refused.off] [] s t)) ∧
    (∀ (i : Nat), s.domOn 0 = true → lifecycle s ≠ 3 → coreFenced s i = false → Does (.barkPersist i) s (fun t =>
      (upTo 10).all (fun n => decide (storedClass t n = s.get (F.BRK_SENSOR_CFG_class n))) = true ∧ Frame [] [.stored]
      s t)) ∧
    (∀ (i a : Nat) (b : Bool) (h : List Byte), s.domOn 0 = true → s.domOn 26 = true → s.bark.lc = none → s.pair
      F.BRK_LC_ADDR_LO_addr F.BRK_LC_ADDR_HI_addr / 16 * 16 = a → s.dramOk a (72 + 9893) = true → s.dramRead a 72 = h
      → coreFenced s i = false → Does (.lifecycleTransition i b []) s (fun t => (lcStatus s b h (s.dramRead (a + 72)
      (sigLen (byteAt h 7))) = 0 → t.bark = { s.bark with lc := some (byteAt h 6) } ∧ t.get F.BRK_LC_RESULT_done = 0 ∧
      t.get F.BRK_STAT_lc_refused = s.get F.BRK_STAT_lc_refused) ∧ (lcStatus s b h (s.dramRead (a + 72) (sigLen
      (byteAt h 7))) ≠ 0 → t.bark = s.bark ∧ t.get F.BRK_LC_RESULT_done = 1 ∧ t.get F.BRK_LC_RESULT_status = lcStatus
      s b h (s.dramRead (a + 72) (sigLen (byteAt h 7))) ∧ t.get F.BRK_STAT_lc_refused = 1) ∧ t.rgp = s.rgp)) ∧
    (∀ (x : Nat), s.bark.lc = some x → (x = 2 ∨ x = 3 ∨ x = 5) → s.bark.waiting = [] → Does (.lcProgramDone true) s
      (fun t => t.bark = { s.bark with lc := none } ∧ t.get F.BRK_LC_RESULT_done = 1 ∧ t.get F.BRK_LC_RESULT_status =
      0 ∧ t.get F.BRK_STAT_lc_done = 1 ∧ leNat (otpRead t (0x0E80 + 4 * (x - 1)) 4) = 0xFFFFFFFF ∧ t.get F.BRK_LC_next
      = otpState t ∧ t.get F.BRK_LC_state = s.get F.BRK_LC_state ∧ t.mon.session = none))

/-- A new nonce is drawn and shown, or with an unhealthy DRBG the nonce stays (the model’s choice); while one programs,
another request is BUSY; a request that passes the checks of R331 begins to program, and any other ends with the
status of the first failed check and is counted; the programmed word moves the state that OTP holds, and programming
that fails is refused with status 7, the state staying until a reset. When programming begins, and what a failure
leaves in OTP, is free (notes/assumptions/136). An initiator is no pruned Crown core. -/
def Obligations.LifecycleTransitions : Prop :=
  ∀ s : State,
    (∀ (i : Nat), s.domOn 0 = true → s.domOn 2 = true → s.get F.HWD_DRBG_healthy = 1 → coreFenced s i = false → Does
      (.lcNewNonce i) s (fun t => t.nv.lcNonce = s.random 32 ∧ (∀ j < 8, t.get (F.BRK_LC_NONCE_bytes j) = leAt
      (s.random 32) (4 * j) 4) ∧ t.get F.BRK_LC_state = s.get F.BRK_LC_state)) ∧
    (∀ (i a : Nat) (b : Bool) (h : List Byte), s.domOn 0 = true → s.domOn 26 = true → s.bark.lc = none → s.pair
      F.BRK_LC_ADDR_LO_addr F.BRK_LC_ADDR_HI_addr / 16 * 16 = a → s.dramOk a (72 + 9893) = true → s.dramRead a 72 = h
      → coreFenced s i = false → Does (.lifecycleTransition i b []) s (fun t => t.bark.lc = (if lcStatus s b h
      (s.dramRead (a + 72) (sigLen (byteAt h 7))) = 0 then some (byteAt h 6) else none) ∧ t.get F.BRK_LC_RESULT_done =
      (if lcStatus s b h (s.dramRead (a + 72) (sigLen (byteAt h 7))) = 0 then 0 else 1) ∧ (lcStatus s b h (s.dramRead
      (a + 72) (sigLen (byteAt h 7))) ≠ 0 → t.get F.BRK_LC_RESULT_status = lcStatus s b h (s.dramRead (a + 72) (sigLen
      (byteAt h 7))) ∧ t.get F.BRK_STAT_lc_refused = 1 ∧ t.nv = s.nv ∧ t.rgp = s.rgp) ∧ t.get
      F.BRK_EVCNT_lc_refused_cnt = (if lcStatus s b h (s.dramRead (a + 72) (sigLen (byteAt h 7))) = 0 then s.get
      F.BRK_EVCNT_lc_refused_cnt else min (s.get F.BRK_EVCNT_lc_refused_cnt + 1) 255))) ∧
    (∀ (i : Nat) (b : Bool) (u : List Nat), s.domOn 0 = true → s.bark.lc ≠ none → coreFenced s i = false → Does
      (.lifecycleTransition i b u) s (fun t => t.get F.BRK_LC_RESULT_status = 9 ∧ t.get F.BRK_STAT_lc_refused = 1 ∧
      Counts F.BRK_EVCNT_lc_refused_cnt s t ∧ t.bark = s.bark ∧ t.nv = s.nv ∧ t.get F.BRK_LC_state = s.get
      F.BRK_LC_state)) ∧
    (∀ (i : Nat), s.domOn 0 = true → s.domOn 2 = true → s.get F.HWD_DRBG_healthy = 0 → coreFenced s i = false → Does
      (.lcNewNonce i) s (fun t => t.nv = s.nv ∧ t.get F.BRK_LC_state = s.get F.BRK_LC_state)) ∧
    (∀ (x : Nat), s.bark.lc = some x → 1 ≤ x → x ≤ 5 → s.bark.waiting = [] → (needsRoot x s = false ∨ s.get
      F.HWD_DRBG_healthy = 1) → Does (.lcProgramDone true) s (fun t => t.bark.lc = none ∧ t.get F.BRK_LC_RESULT_done =
      1 ∧ t.get F.BRK_LC_RESULT_status = 0 ∧ t.get F.BRK_STAT_lc_done = 1 ∧ leNat (otpRead t (0x0E80 + 4 * (x - 1)) 4)
      = 0xFFFFFFFF ∧ x ≤ otpState t ∧ t.get F.BRK_LC_next = otpState t ∧ t.get F.BRK_LC_state = s.get F.BRK_LC_state ∧
      t.mon.session = none)) ∧
    (∀ (x : Nat), s.bark.lc = some x → s.bark.waiting = [] → x < 8 → (needsRoot x s = false ∨ s.get F.HWD_DRBG_healthy
      = 1) → Does (.lcProgramDone false) s (fun t => t.bark.lc = none ∧ t.get F.BRK_LC_RESULT_status = 7 ∧ t.get
      F.BRK_LC_RESULT_to = x ∧ t.get F.BRK_STAT_lc_refused = 1 ∧ Counts F.BRK_EVCNT_lc_refused_cnt s t ∧ t.get
      F.BRK_LC_state = s.get F.BRK_LC_state))

/-- A boot is counted and ends with boot_done or in BOOT_HALT; a SCRAPPED part halts with 5, a failed reconstruction with
1, a missing SEED2 image with 2, and one whose DRAM does not train does not come up; a part in reset, in BARK_HOLD,
in BOOT_HALT or booted does not boot. A plan that is ready starts with the Prepare of its first step, one that may
not is refused, one of no types is done at once; cancel ends a step not activated and leaves an activated one to
run; confirm is noted in a CROWN step; discard drops the staged grafts; security cores that are halted start no plan
(the model’s choice, notes/assumptions/174). An initiator is no pruned Crown core. -/
def Obligations.BootAndPlans : Prop :=
  ∀ s : State,
    (∀ (k : List (List Byte)) (c : Bool) (m : List Nat) (u : List (Nat × Nat)), mayBoot s = true → Does (.bootSequence
      k c m u) s (fun t => t.nv.boots = s.nv.boots + 1 ∧ t.get F.BRK_LC_state = otpState s ∧ t.get F.BRK_LC_next =
      otpState s ∧ (t.get F.BRK_CTL_boot_done = 1 ↔ t.get F.GRF_BOOT_halt = 0) ∧ t.get F.GRF_BOOT_halt ≤ 5 ∧ (otpState
      s = 5 → t.get F.GRF_BOOT_halt = 5) ∧ (c = false → t.get F.GRF_BOOT_halt ≠ 0) ∧ (otpState s ≠ 5 → reconstructed k
      s = none → otpState s ≠ 0 ∨ blank s 0x0C00 32 = false → t.get F.GRF_BOOT_halt = 1))) ∧
    (∀ (k : List (List Byte)) (c : Bool) (m : List Nat) (u : List (Nat × Nat)), mayBoot s = true → otpState s ≠ 5 →
      u.contains (1, 0) = true → u.contains (1, 1) = true → Does (.bootSequence k c m u) s (fun t => t.get
      F.GRF_BOOT_halt = (if (reconstructed k s).isSome || (decide (otpState s = 0) && blank s 0x0C00 32) then 2 else
      1) ∧ t.get F.HWD_STATUS_dus_ok = (if (reconstructed k s).isSome then 1 else s.get F.HWD_STATUS_dus_ok) ∧ t.get
      F.BRK_CTL_boot_done = 0 ∧ [3, 4, 5, 6, 11, 12, 13, 14].all (fun d => decide ((t.dom d).st = .off)) = true)) ∧
    (∀ (k : List (List Byte)) (c : Bool) (m : List Nat) (u : List (Nat × Nat)), mayBoot s = false → Does
      (.bootSequence k c m u) s (fun t => Frame [] [] s t)) ∧
    (∀ (i y : Nat) (l r : List Nat), s.domOn 2 = true → s.secHalted = false → planBusy s = false → (onesOf (s.get
      F.GRF_PLAN_types) 5).map (· + 1) = l → l.find? (fun t => !bit (s.get F.GRF_READY_types) (t - 1)) = none →
      l.find? (fun t => decide (manSecurity (manifestStaged s t) < s.get (F.GRF_FLOOR_security_ver t))) = none →
      l.contains 2 = false → planOrder s l = some (y :: r) → coreFenced s i = false → Does (.planGo i) s (fun t =>
      t.get F.GRF_STATUS_phase = 1 ∧ t.get F.GRF_STATUS_type = y ∧ t.get F.GRF_RESULT_code = 0 ∧ t.grf.plan.map (fun p
      => (p.type, p.rest, p.activated)) = some (y, r, false) ∧ t.get F.HWD_GEN_sweep = 1)) ∧
    (∀ (i : Nat), s.domOn 2 = true → s.secHalted = false → planBusy s = true → coreFenced s i = false → Does (.planGo
      i) s (fun t => t.get F.GRF_STAT_plan_refused = 1 ∧ Counts F.GRF_EVCNT_refused_cnt s t ∧ t.get F.GRF_RESULT_code
      = 5 ∧ t.get F.GRF_RESULT_type = 0 ∧ t.grf.plan = s.grf.plan ∧ t.nv = s.nv)) ∧
    (∀ (i : Nat), s.domOn 2 = true → s.secHalted = false → planBusy s = false → s.get F.GRF_PLAN_types = 0 →
      coreFenced s i = false → Does (.planGo i) s (fun t => t.get F.GRF_STAT_plan_done = 1 ∧ t.grf.plan = none ∧ t.nv
      = s.nv)) ∧
    (∀ (i : Nat) (p : PlanRun), s.domOn 2 = true → s.secHalted = false → s.grf.plan = some p → p.activated = false →
      p.type < 8 → coreFenced s i = false → Does (.planCancel i) s (fun t => t.grf.plan = none ∧ t.get
      F.GRF_RESULT_code = 8 ∧ t.get F.GRF_RESULT_type = p.type ∧ t.get F.GRF_STATUS_phase = 0 ∧ t.get F.HWD_GEN_sweep
      = 0)) ∧
    (∀ (i : Nat) (p : PlanRun), s.domOn 2 = true → s.secHalted = false → s.grf.plan = some p → p.activated = true →
      coreFenced s i = false → Does (.planCancel i) s (fun t => t.grf.plan = some { p with cancelled := true } ∧ t.nv
      = s.nv ∧ t.hwd = s.hwd)) ∧
    (∀ (i : Nat) (p : PlanRun), s.domOn 2 = true → s.secHalted = false → s.grf.plan = some p → p.activated = true →
      p.type = 5 → coreFenced s i = false → Does (.crownConfirm i) s (fun t => t.grf.plan = some
      { p with confirmed := true } ∧ t.nv = s.nv ∧ t.hwd = s.hwd)) ∧
    (∀ (i : Nat), s.domOn 2 = true → s.secHalted = false → s.grf.plan = none → s.grf.applying = none → coreFenced s i
      = false → Does (.graftDiscard i) s (fun t => t.nv.grafts = [] ∧ t.get F.GRF_READY_types = 0 ∧ t.grf = s.grf)) ∧
    (∀ (i : Nat), s.domOn 2 = true → s.secHalted = true → coreFenced s i = false → Does (.planGo i) s (fun t => t.grf
      = s.grf ∧ t.nv = s.nv ∧ t.get F.GRF_STATUS_phase = s.get F.GRF_STATUS_phase))

/-- Activation moves the slot in one record and shows phase 3; a SEED2 step then awaits its reset; a health failure rolls
the step back with code 7; the health check’s end commits a step that shows no failure, and the next step, if any,
begins, and rolls back one that does, a CROWN step not confirmed among them; a graft whose pieces are all held is
applied into the inactive slot and marks its type ready. -/
def Obligations.StepsOfAPlan : Prop :=
  ∀ s : State,
    (∀ (p : PlanRun), s.grf.plan = some p → p.activated = false → s.get F.HWD_GEN_sweep = 2 → 2 ≤ p.type → p.type ≤ 5
      → p.oldSlot < 2 → Does (.planActivate) s (fun t => t.get F.GRF_STATUS_phase = 3 ∧ t.get F.GRF_STATUS_type =
      p.type ∧ t.grf.plan = some { p with activated := true, ends := s.now + 120000000000 } ∧ t.nv.openStep = some
      p.type ∧ bootRec t p.type = ⟨1 - p.oldSlot, 1 - p.oldSlot, false, 0⟩ ∧ t.get (F.GRF_SLOT_active p.type) = 1 -
      p.oldSlot ∧ t.get (F.GRF_SLOT_committed p.type) = 0 ∧ bit (t.get F.GRF_READY_types) (p.type - 1) = false)) ∧
    (∀ (p : PlanRun), s.grf.plan = some p → p.activated = false → s.get F.HWD_GEN_sweep = 2 → p.type = 1 → p.oldSlot <
      2 → Does (.planActivate) s (fun t => t.get F.GRF_STATUS_phase = 6 ∧ t.get F.GRF_STATUS_type = 1 ∧ t.grf.plan =
      none ∧ t.grf.seed2Waiting = true ∧ (bootRec t 1).nextBoot = 1 - p.oldSlot ∧ (bootRec t 1).committed = false ∧
      (bootRec t 1).active = (bootRec s 1).active ∧ t.nv.openStep = some 1)) ∧
    (∀ (p : PlanRun), s.grf.plan = some p → p.activated = true → 2 ≤ p.type → p.type ≤ 5 → Does (.healthFail) s (fun t
      => t.grf.plan = none ∧ t.get F.GRF_RESULT_code = 7 ∧ t.get F.GRF_RESULT_type = p.type ∧ t.get F.GRF_STATUS_phase
      = 0 ∧ t.get F.GRF_STAT_rolled_back = 1 ∧ Counts F.GRF_EVCNT_rollback_cnt s t ∧ t.nv.openStep = none ∧ bootRec t
      p.type = ⟨p.oldSlot, p.oldSlot, true, 0⟩ ∧ bit (t.get F.GRF_READY_types) (p.type - 1) = true)) ∧
    (∀ (p : PlanRun) (y : Nat), s.grf.plan = some p → p.activated = true → p.rest = [] → p.type = y → 2 ≤ y → y ≤ 5 →
      stepFailed p (s.reach p.ends) = false → p.oldSlot < 2 → Does (.healthCheckEnd) s (fun t => p.ends ≤ t.now ∧
      t.grf.plan = none ∧ t.get F.GRF_STAT_plan_done = 1 ∧ t.get F.GRF_RESULT_code = 0 ∧ t.get F.GRF_STATUS_phase = 0
      ∧ t.nv.openStep = none ∧ bootRec t y = ⟨1 - p.oldSlot, 1 - p.oldSlot, true, 0⟩ ∧ tabGet s.nv.floors y 0 ≤ tabGet
      t.nv.floors y 0)) ∧
    (∀ (p : PlanRun) (y z : Nat) (r : List Nat), s.grf.plan = some p → p.activated = true → p.rest = z :: r →
      p.cancelled = false → p.type = y → 2 ≤ y → y ≤ 5 → stepFailed p (s.reach p.ends) = false → p.oldSlot < 2 → z < 8
      → Does (.healthCheckEnd) s (fun t => t.get F.GRF_STATUS_phase = 1 ∧ t.get F.GRF_STATUS_type = z ∧ t.grf.plan.map
      (fun q => (q.type, q.rest, q.activated)) = some (z, r, false) ∧ bootRec t y = ⟨1 - p.oldSlot, 1 - p.oldSlot,
      true, 0⟩)) ∧
    (∀ (p : PlanRun) (y : Nat), s.grf.plan = some p → p.activated = true → p.type = y → 2 ≤ y → y ≤ 5 → (stepFailed p
      (s.reach p.ends) = true ∨ (y = 5 ∧ p.confirmed = false)) → Does (.healthCheckEnd) s (fun t => p.ends ≤ t.now ∧
      t.grf.plan = none ∧ t.get F.GRF_RESULT_code = 7 ∧ t.get F.GRF_RESULT_type = y ∧ t.get F.GRF_STAT_rolled_back = 1
      ∧ bootRec t y = ⟨p.oldSlot, p.oldSlot, true, 0⟩)) ∧
    (∀ (k : Nat) (u : Bool), s.grf.applying = none → s.board.flashOp = none → allHeld (graft s k) = true → manPart
      (graft s k).manifest = 0x7160 → byteAt (graft s k).manifest 0x0A ≤ s.get F.GLB_ID_stepping → planHas s (manType
      (graft s k).manifest) = false → manFull (graft s k).manifest = true → 1 ≤ manType (graft s k).manifest → manType
      (graft s k).manifest ≤ 5 → Does (.graftApply k u) s (fun t => t.grf.applying = some k ∧ t.board.flashHeld = true
      ∧ bit (t.get F.GRF_READY_types) (manType (graft s k).manifest - 1) = false ∧ Frame [F.GRF_READY_types.off]
      [.updates, .board] s t)) ∧
    (∀ (k y : Nat) (l : Option (List Byte)) (d : Bool), s.grf.applying = some k → manType (graft s k).manifest = y → 1
      ≤ y → y ≤ 5 → ((l.bind (fun x => (imageSlot s y (1 - (bootRec s y).active)).map (fun z => decide (page (graft s
      k).manifest.length + x.length ≤ z.2)))).getD false) = d → applyDelta (graft s k).manifest (graftDelta (graft s
      k)) (((activeImage s y).map Image.bytes).getD []) = l → Does (.graftApplyDone) s (fun t => t.grf.applying = none
      ∧ t.board.flashHeld = false ∧ t.get F.GRF_STAT_staged = (if d then 1 else s.get F.GRF_STAT_staged) ∧ bit (t.get
      F.GRF_READY_types) (y - 1) = (d || bit (s.get F.GRF_READY_types) (y - 1)) ∧ t.get F.GRF_RESULT_code = (if d then
      s.get F.GRF_RESULT_code else 10) ∧ t.nv = s.nv ∧ (∀ x a n, l = some x → imageSlot s y (1 - (bootRec s y).active)
      = some (a, n) → d = true → flashRead t (a + page (graft s k).manifest.length) x.length = x)))

/-- A message that meets the rules is accepted if its tag is right, its sequence is noted, and else it is dropped and
counted: HELLO is answered, HELLO_ACK makes the peer UP or INCOMPATIBLE, HEARTBEAT ends a run of misses, a newer OWN
entry moves the set, and OWN, OWN_REQ, DIGEST, SHADOW and SHADOW_KEY are queued to the host. -/
def Obligations.GroveMessages : Prop :=
  ∀ s : State,
    (∀ (p x : Nat) (l m : List Byte), MessageArrives s 0x01 p l m x → Does (.hello p l x) s (fun t => t.get
      (F.GRV_PEER_SEQ_seq (byteAt m 3)) = (if tagGood s m then leAt m 12 4 else s.get (F.GRV_PEER_SEQ_seq (byteAt m
      3))) ∧ (tagGood s m = false → Counts F.GRV_DROP_CNT_count s t ∧ Counts F.GRV_EVCNT_tag_fail_cnt s t ∧ t.get
      F.GRV_STAT_tag_fail = 1) ∧ Sent (if tagGood s m then (if peerState s (byteAt m 3) = 1 then 2 else 1) else 0) s t
      ∧ peerState t (byteAt m 3) = peerState s (byteAt m 3))) ∧
    (∀ (p x : Nat) (l m : List Byte) (v : Nat), MessageArrives s 0x02 p l m x → byteAt (bodyOf m) 0 = v → v < 4 → Does
      (.helloAck p l x) s (fun t => t.get (F.GRV_PEER_SEQ_seq (byteAt m 3)) = (if tagGood s m then leAt m 12 4 else
      s.get (F.GRV_PEER_SEQ_seq (byteAt m 3))) ∧ (tagGood s m = false → Counts F.GRV_DROP_CNT_count s t ∧ Counts
      F.GRV_EVCNT_tag_fail_cnt s t ∧ t.get F.GRV_STAT_tag_fail = 1) ∧ peerState t (byteAt m 3) = (if tagGood s m then
      (if v = 0 then 3 else 1) else peerState s (byteAt m 3)) ∧ (tagGood s m = true → v ≠ 0 → t.get
      (F.GRV_PEER_STATUS_ver (byteAt m 3)) = v ∧ t.get (F.GRV_PEER_STATUS_misses (byteAt m 3)) = 0 ∧ t.get
      F.GRV_STAT_contact = 1) ∧ (tagGood s m = true → v = 0 → t.get F.GRV_STAT_incompatible = 1))) ∧
    (∀ (p x : Nat) (l m : List Byte), MessageArrives s 0x03 p l m x → Does (.heartbeat p l x) s (fun t => t.get
      (F.GRV_PEER_SEQ_seq (byteAt m 3)) = (if tagGood s m then leAt m 12 4 else s.get (F.GRV_PEER_SEQ_seq (byteAt m
      3))) ∧ (tagGood s m = false → Counts F.GRV_DROP_CNT_count s t ∧ Counts F.GRV_EVCNT_tag_fail_cnt s t ∧ t.get
      F.GRV_STAT_tag_fail = 1) ∧ t.get F.GRV_HB_RX_CNT_count = (if tagGood s m then min (s.get F.GRV_HB_RX_CNT_count +
      1) (2 ^ 32 - 1) else s.get F.GRV_HB_RX_CNT_count) ∧ t.get (F.GRV_PEER_STATUS_misses (byteAt m 3)) = (if tagGood
      s m then 0 else s.get (F.GRV_PEER_STATUS_misses (byteAt m 3))) ∧ (t.peer (byteAt m 3)).beat = (tagGood s m ||
      (s.peer (byteAt m 3)).beat))) ∧
    (∀ (p x : Nat) (l m : List Byte) (n e : Nat), MessageArrives s 0x04 p l m x → leAt (bodyOf m) 0 2 = 1 → 12 ≤
      (bodyOf m).length → leAt (bodyOf m) 4 2 = n → n < 4096 → leAt (bodyOf m) 8 4 = e → s.get (F.BGH_SET0_epoch n) <
      e → Does (.own p l x) s (fun t => t.get (F.GRV_PEER_SEQ_seq (byteAt m 3)) = (if tagGood s m then leAt m 12 4
      else s.get (F.GRV_PEER_SEQ_seq (byteAt m 3))) ∧ (tagGood s m = false → Counts F.GRV_DROP_CNT_count s t ∧ Counts
      F.GRV_EVCNT_tag_fail_cnt s t ∧ t.get F.GRV_STAT_tag_fail = 1) ∧ t.get (F.BGH_SET0_epoch n) = (if tagGood s m
      then e else s.get (F.BGH_SET0_epoch n)) ∧ (tagGood s m = true → t.get (F.BGH_SET1_owner n) = byteAt m 3 ∧ t.get
      (F.BGH_SET1_valid n) = (if bit (byteAt (bodyOf m) 6) 0 then 0 else 1) ∧ t.get F.GRV_STAT_own_rx = 1) ∧ (tagGood
      s m = true → t.get (F.BGH_SET1_standby n) = b2n (s.on (F.BGH_SET1_valid n) && decide (s.get (F.BGH_SET1_owner n)
      = routerId s))))) ∧
    (∀ (p x : Nat) (l m : List Byte) (q : Nat), MessageArrives s 0x05 p l m x → canTake s 5 (ceilDiv l.length 256) =
      true → s.get (F.TRF_POOL_USED_used 1) = 0 → s.get F.GRV_CFG_q = q → tabGet s.traffic.hosts q [] = [] → s.get
      (F.TRF_HQ_TH_CFG_en q) = 0 → Does (.ownReq p l x) s (fun t => t.get (F.GRV_PEER_SEQ_seq (byteAt m 3)) = (if
      tagGood s m then leAt m 12 4 else s.get (F.GRV_PEER_SEQ_seq (byteAt m 3))) ∧ (tagGood s m = false → Counts
      F.GRV_DROP_CNT_count s t ∧ Counts F.GRV_EVCNT_tag_fail_cnt s t ∧ t.get F.GRV_STAT_tag_fail = 1) ∧ (tabGet
      t.traffic.hosts q []).map HostFrame.frame = (if tagGood s m then [l] else []))) ∧
    (∀ (p x : Nat) (l m : List Byte) (q : Nat), MessageArrives s 0x06 p l m x → canTake s 5 (ceilDiv l.length 256) =
      true → s.get (F.TRF_POOL_USED_used 1) = 0 → s.get F.GRV_CFG_q = q → tabGet s.traffic.hosts q [] = [] → s.get
      (F.TRF_HQ_TH_CFG_en q) = 0 → s.get (F.GRV_PEER_STATUS_ver (byteAt m 3)) ≠ 1 → Does (.digest p l x) s (fun t =>
      t.get (F.GRV_PEER_SEQ_seq (byteAt m 3)) = (if tagGood s m then leAt m 12 4 else s.get (F.GRV_PEER_SEQ_seq
      (byteAt m 3))) ∧ (tagGood s m = false → Counts F.GRV_DROP_CNT_count s t ∧ Counts F.GRV_EVCNT_tag_fail_cnt s t ∧
      t.get F.GRV_STAT_tag_fail = 1) ∧ (tabGet t.traffic.hosts q []).map HostFrame.frame = (if tagGood s m then [l]
      else []))) ∧
    (∀ (p x : Nat) (l m : List Byte) (q : Nat), MessageArrives s 0x07 p l m x → canTake s 5 (ceilDiv l.length 256) =
      true → s.get (F.TRF_POOL_USED_used 1) = 0 → s.get F.GRV_CFG_q = q → tabGet s.traffic.hosts q [] = [] → s.get
      (F.TRF_HQ_TH_CFG_en q) = 0 → s.get (F.GRV_PEER_STATUS_ver (byteAt m 3)) ≠ 1 → Does (.shadow p l x) s (fun t =>
      t.get (F.GRV_PEER_SEQ_seq (byteAt m 3)) = (if tagGood s m then leAt m 12 4 else s.get (F.GRV_PEER_SEQ_seq
      (byteAt m 3))) ∧ (tagGood s m = false → Counts F.GRV_DROP_CNT_count s t ∧ Counts F.GRV_EVCNT_tag_fail_cnt s t ∧
      t.get F.GRV_STAT_tag_fail = 1) ∧ (tabGet t.traffic.hosts q []).map HostFrame.frame = (if tagGood s m then [l]
      else []))) ∧
    (∀ (p x : Nat) (l m : List Byte) (q : Nat), MessageArrives s 0x08 p l m x → canTake s 5 (ceilDiv l.length 256) =
      true → s.get (F.TRF_POOL_USED_used 1) = 0 → s.get F.GRV_CFG_q = q → tabGet s.traffic.hosts q [] = [] → s.get
      (F.TRF_HQ_TH_CFG_en q) = 0 → s.get (F.GRV_PEER_STATUS_ver (byteAt m 3)) ≠ 1 → Does (.shadowKey p l x) s (fun t
      => t.get (F.GRV_PEER_SEQ_seq (byteAt m 3)) = (if tagGood s m then leAt m 12 4 else s.get (F.GRV_PEER_SEQ_seq
      (byteAt m 3))) ∧ (tagGood s m = false → Counts F.GRV_DROP_CNT_count s t ∧ Counts F.GRV_EVCNT_tag_fail_cnt s t ∧
      t.get F.GRV_STAT_tag_fail = 1) ∧ (tabGet t.traffic.hosts q []).map HostFrame.frame = (if tagGood s m then [l]
      else []))) ∧
    (∀ (p x : Nat) (l m : List Byte), MessageArrives s 0x08 p l m x → s.get (F.GRV_PEER_STATUS_ver (byteAt m 3)) = 1 →
      Does (.shadowKey p l x) s (fun t => t.get (F.GRV_PEER_SEQ_seq (byteAt m 3)) = (if tagGood s m then leAt m 12 4
      else s.get (F.GRV_PEER_SEQ_seq (byteAt m 3))) ∧ (tagGood s m = false → Counts F.GRV_DROP_CNT_count s t ∧ Counts
      F.GRV_EVCNT_tag_fail_cnt s t ∧ t.get F.GRV_STAT_tag_fail = 1) ∧ (tagGood s m = true → Counts
      F.GRV_DROP_CNT_count s t)))

/-- With a right tag, a manifest chunk is kept until the manifest is whole; a piece whose path leads to the root is kept
and one whose path does not is counted; the pieces a WANT asks for are sent; DONE is noted; and when no piece has
come for want_ms the missing ones are asked for upstream. -/
def Obligations.ChainRelay : Prop :=
  ∀ s : State,
    (∀ (p x : Nat) (l m : List Byte) (k i n : Nat) (d : List Byte) (c : List Byte), MessageArrives s 0x40 p l m x →
      RelayHears s m k i n d → (graft s k).manifest = [] → i < 4 → n ≤ 4096 → ((upTo 4).map (fun j => tabGet (tabPut
      (graft s k).chunks i (d.take n)) j [])).flatten = c → c.length ≠ manLength c → Does (.manChunk p l x) s (fun t
      => t.get (F.GRV_PEER_SEQ_seq (byteAt m 3)) = (if tagGood s m then leAt m 12 4 else s.get (F.GRV_PEER_SEQ_seq
      (byteAt m 3))) ∧ (tagGood s m = false → Counts F.GRV_DROP_CNT_count s t ∧ Counts F.GRV_EVCNT_tag_fail_cnt s t ∧
      t.get F.GRV_STAT_tag_fail = 1) ∧ tabFind (graft t k).chunks i = (if tagGood s m then some (d.take n) else
      tabFind (graft s k).chunks i) ∧ (tagGood s m = true → t.get F.GRF_GRAFT_ID_graft_id = k ∧ (graft t k).from_ =
      byteAt m 3 ∧ (graft t k).progress = s.now))) ∧
    (∀ (p x : Nat) (l m : List Byte) (k i n : Nat) (d : List Byte) (b : Bool), MessageArrives s 0x41 p l m x →
      RelayHears s m k i n d → (graft s k).manifest ≠ [] → tabFind (graft s k).pieces i = none → pieceGood (graft s
      k).manifest i (slice d (32 * byteAt (bodyOf m) 3) n) (pieces 32 (byteAt (bodyOf m) 3) (d.take (32 * byteAt
      (bodyOf m) 3))) = b → Does (.piece p l x) s (fun t => t.get (F.GRV_PEER_SEQ_seq (byteAt m 3)) = (if tagGood s m
      then leAt m 12 4 else s.get (F.GRV_PEER_SEQ_seq (byteAt m 3))) ∧ (tagGood s m = false → Counts
      F.GRV_DROP_CNT_count s t ∧ Counts F.GRV_EVCNT_tag_fail_cnt s t ∧ t.get F.GRV_STAT_tag_fail = 1) ∧ tabFind (graft
      t k).pieces i = (if tagGood s m && b then some (slice d (32 * byteAt (bodyOf m) 3) n) else none) ∧ (tagGood s m
      = true → b = true → t.get F.GRF_GRAFT_ID_graft_id = k ∧ t.get F.GRF_PROGRESS_held = ((graft s k).pieces.length +
      1) % 2 ^ 32) ∧ (tagGood s m = true → b = false → Counts F.GRF_PIECE_BAD_CNT_count s t ∧ t.get
      F.GRF_STAT_piece_bad = 1))) ∧
    (∀ (p x : Nat) (l m : List Byte) (k i n : Nat) (d : List Byte) (h : Nat), MessageArrives s 0x42 p l m x →
      RelayHears s m k i n d → s.get (F.GRV_PEER_CFG_en (byteAt m 3)) = 1 → ((upTo (8 * (d.take n).length)).filter
      (fun j => bit (byteAt (d.take n) (j / 8)) (j % 8) && (tabFind (graft s k).pieces (i + j)).isSome)).length = h →
      Does (.want p l x) s (fun t => t.get (F.GRV_PEER_SEQ_seq (byteAt m 3)) = (if tagGood s m then leAt m 12 4 else
      s.get (F.GRV_PEER_SEQ_seq (byteAt m 3))) ∧ (tagGood s m = false → Counts F.GRV_DROP_CNT_count s t ∧ Counts
      F.GRV_EVCNT_tag_fail_cnt s t ∧ t.get F.GRV_STAT_tag_fail = 1) ∧ Sent (if tagGood s m then (if peerState s
      (byteAt m 3) = 1 then h else 0) else 0) s t ∧ t.nv = s.nv)) ∧
    (∀ (p x : Nat) (l m : List Byte) (k i n : Nat) (d : List Byte), MessageArrives s 0x43 p l m x → RelayHears s m k i
      n d → Does (.done p l x) s (fun t => t.get (F.GRV_PEER_SEQ_seq (byteAt m 3)) = (if tagGood s m then leAt m 12 4
      else s.get (F.GRV_PEER_SEQ_seq (byteAt m 3))) ∧ (tagGood s m = false → Counts F.GRV_DROP_CNT_count s t ∧ Counts
      F.GRV_EVCNT_tag_fail_cnt s t ∧ t.get F.GRV_STAT_tag_fail = 1) ∧ tabFind t.grf.doneBy (byteAt m 3) = (if tagGood
      s m then some i else tabFind s.grf.doneBy (byteAt m 3)))) ∧
    (∀ (k f w : Nat), s.get F.GRF_CTL_relay_en = 1 → stagingContested s = false → ((upTo (pieceCount (graft s
      k).manifest)).filter (fun i => (tabFind (graft s k).pieces i).isNone)).head? = some f → s.get
      F.GRF_RELAY_CFG_want_ms = w → w ≠ 0 → (groveKey s).isSome = true → s.get (F.HWD_SLOT_EXP_expiry (s.get
      F.GRV_CFG_slot)) = 0 → Does (.relayWantTimer k) s (fun t => (graft s k).progress + w * 1000000 ≤ t.now ∧ (graft
      t k).progress = t.now ∧ (graft t k).pieces = (graft s k).pieces ∧ (graft t k).manifest = (graft s k).manifest ∧
      Sent ((upTo 64).filter (fun r => relayUp s r && relayReach s r)).length s t))

/-- A PIECE whose length and check are right, of an object whose manifest is still to come, is kept and counted, and one
whose check fails changes nothing; a WANT is answered with the pieces held; an ANNOUNCE of an object not held begins
it and asks for its pieces. -/
def Obligations.PollenFrames : Prop :=
  ∀ s : State,
    (∀ (l d : List Byte) (k j n : Nat), s.get F.GRF_CTL_pollen_en = 1 → byteAt l 0 = 0xF7 → byteAt l 1 = 1 → leAt l 2
      4 = k → leAt l 6 4 = j → byteAt l 10 = n → n ≠ 0 → n = min 96 ((graft s k).objLen - 96 * j) → 13 + n ≤ l.length
      → slice l 11 n = d → leAt l (11 + n) 2 = crc16 d → (graft s k).manifest = [] → tabFind (graft s k).small 0 =
      none → j ≠ 0 → tabFind (graft s k).small j = none → Does (.pollenPiece l) s (fun t => tabFind (graft t k).small
      j = some d ∧ Counts F.GRF_POLLEN_CNT_count s t ∧ t.get F.GRF_GRAFT_ID_graft_id = k ∧ t.get F.GRF_PROGRESS_held =
      ((graft s k).small.length + 1) % 2 ^ 32 ∧ (graft t k).objLen = (graft s k).objLen)) ∧
    (∀ (l : List Byte), leAt l (11 + byteAt l 10) 2 ≠ crc16 (slice l 11 (byteAt l 10)) → Does (.pollenPiece l) s (fun
      t => Frame [] [] s t)) ∧
    (∀ (l : List Byte) (k f : Nat), s.get F.GRF_CTL_pollen_en = 1 → byteAt l 0 = 0xF7 → byteAt l 1 = 2 → leAt l 2 4 =
      k → leAt l 6 4 = f → Does (.pollenWant l) s (fun t => t.grf.pollenOut = s.grf.pollenOut ++ ((upTo (min 512 (leAt
      l 10 2))).filter (fun j => bit (byteAt l (12 + j / 8)) (j % 8))).filterMap (fun j => (pollenPiece (graft s k) (f
      + j)).map (fun d => [0xF7#8, 0x01#8] ++ leBytes 4 k ++ leBytes 4 (f + j) ++ leBytes 1 d.length ++ d ++ leBytes 2
      (crc16 d))) ∧ Frame [] [.updates] s t)) ∧
    (∀ (l : List Byte) (k n : Nat), s.get F.GRF_CTL_pollen_en = 1 → byteAt l 0 = 0xF7 → byteAt l 1 = 3 → l.length = 24
      → leAt l 2 4 = k → leAt l 6 4 = n → n ≠ 0 → (graft s k).objLen = 0 → allHeld (graft s k) = false → stagingUsed s
      k + n ≤ stagingSize s → Does (.pollenAnnounce l) s (fun t => (graft t k).objLen = n ∧ (graft t k).progress =
      s.now ∧ t.get F.GRF_GRAFT_ID_graft_id = k ∧ t.get F.GRF_PROGRESS_held = 0))

/-- hb_en starts heartbeats on the first timer unit that Heartbeat owns, programmed to count the period in milliseconds
(the registers’ values are the model’s choice, notes/assumptions/155), and records a conflict if none; at a mark an
UP peer not heard gains a miss and is declared DEAD at the limit; HELLO goes to peers that are not in contact; the
second-rank delay makes an adoption due. An initiator is no pruned Crown core. -/
def Obligations.GroveTimers : Prop :=
  ∀ s : State,
    (∀ (i u : Nat) (v : Word), s.domOn 24 = true → wordField v 31 1 = 1 → firstBelow 32 (fun k => decide (s.owner 4 k
      = 0x0500)) = some u → coreFenced s i = false → Does (.hbEnable i v) s (fun t => t.grove.unit = some u ∧ t.get
      F.GRV_HB_CFG_hb_en = 1 ∧ t.get F.GRV_HB_CFG_misses = wordField v 16 4 ∧ t.get F.GRV_HB_CFG_period_ms = wordField
      v 0 16 ∧ t.get (F.TMU_CTL_run u) = 1 ∧ t.get (F.TMU_CTL_src u) = 1 ∧ t.get (F.TMU_TOP_top u) = clamp 10 500
      (wordField v 0 16) - 1 ∧ t.get (F.TMU_CNT_count u) = 0 ∧ t.grove.marked = false ∧ Frame
      ([F.GRV_HB_CFG_hb_en.off, (F.TMU_CTL_run u).off, (F.TMU_PRESC_div u).off, (F.TMU_TOP_top u).off,
      (F.TMU_CNT_count u).off, (F.TMU_STATUS_gate_open u).off] ++ s.grove.unit.toList.map (fun w => (F.TMU_CTL_run
      w).off)) [.grove, .timers] s t)) ∧
    (∀ (i : Nat) (v : Word), s.domOn 24 = true → wordField v 31 1 = 1 → firstBelow 32 (fun u => decide (s.owner 4 u =
      0x0500)) = none → coreFenced s i = false → Does (.hbEnable i v) s (fun t => t.grove.unit = none ∧ t.get
      F.GRV_STAT_conflict = 1 ∧ t.get F.STP_STAT_conflict = 1 ∧ Counts F.STP_EVCNT_conflict_cnt s t)) ∧
    (∀ (r : Nat), beats s = true → atMark s = true → r < 64 → s.get (F.GRV_PEER_CFG_en r) = 1 → peerState s r = 1 →
      (s.peer r).beat = false → s.get (F.GRV_PEER_STATUS_misses r) + 1 < missLimit s → Does (.heartbeatMark) s (fun t
      => peerState t r = 1 ∧ t.get (F.GRV_PEER_STATUS_misses r) = s.get (F.GRV_PEER_STATUS_misses r) + 1 ∧ (t.peer
      r).beat = false)) ∧
    (∀ (r : Nat), beats s = true → atMark s = true → r < 64 → s.get (F.GRV_PEER_CFG_en r) = 1 → peerState s r = 1 →
      (s.peer r).beat = false → missLimit s ≤ s.get (F.GRV_PEER_STATUS_misses r) + 1 → Does (.heartbeatMark) s (fun t
      => peerState t r = 2 ∧ t.get F.GRV_STAT_peer_dead = 1 ∧ s.get F.GRV_EVCNT_dead_cnt ≤ t.get F.GRV_EVCNT_dead_cnt
      ∧ (s.get (F.GRV_PEER_CFG_spare_rank r) = 1 → t.get F.GRV_STAT_adopt_due = 1 ∧ (if r < 32 then bit (t.get
      F.GRV_ADOPT_DUE_LO_due) r else bit (t.get F.GRV_ADOPT_DUE_HI_due) (r - 32)) = true))) ∧
    (∀ (r : Nat), beats s = true → atMark s = true → r < 64 → s.get (F.GRV_PEER_CFG_en r) = 1 → peerState s r = 1 →
      (s.peer r).beat = true → (useGroveKey s).1 = none → Does (.heartbeatMark) s (fun t => peerState t r = 1 ∧
      (t.peer r).beat = false ∧ t.get (F.GRV_PEER_STATUS_misses r) = s.get (F.GRV_PEER_STATUS_misses r) ∧ t.get
      F.GRV_STAT_tag_fail = 1 ∧ Counts F.GRV_EVCNT_tag_fail_cnt s t)) ∧
    (beats s = true → atMark s = true → (useGroveKey s).1.isSome = true → (∀ r < 64, peerState s r = 1 → (s.peer
      r).beat = true) → Does (.heartbeatMark) s (fun t => Sent (peersIn s 1).length s t ∧ t.get F.GRV_HB_TX_CNT_count
      = min (s.get F.GRV_HB_TX_CNT_count + (peersIn s 1).length) (2 ^ 32 - 1))) ∧
    (∀ (r : Nat), s.get F.GRV_CFG_en = 1 → r < 64 → s.get (F.GRV_PEER_CFG_en r) = 1 → (peerState s r = 0 ∨ peerState s
      r = 2) → Does (.helloTimer) s (fun t => (t.peer r).helloAt = some s.now ∧ peerState t r = peerState s r)) ∧
    (∀ (r a : Nat) (l : List (Nat × Nat)), r < 64 → s.grove.rank2.find? (fun (q, _, _) => decide (q = r)) = some (r,
      a, l) → l.any (fun (n, e) => decide (s.get (F.BGH_SET0_epoch n) ≤ e)) = true → Does (.rank2AdoptTimer r) s (fun
      t => a ≤ t.now ∧ (if r < 32 then bit (t.get F.GRV_ADOPT_DUE_LO_due) r else bit (t.get F.GRV_ADOPT_DUE_HI_due) (r
      - 32)) = true ∧ t.get F.GRV_STAT_adopt_due = 1 ∧ t.grove.rank2.find? (fun (q, _, _) => decide (q = r)) = none ∧
      Frame [F.GRV_ADOPT_DUE_LO_due.off, F.GRV_ADOPT_DUE_HI_due.off, F.GRV_STAT_adopt_due.off] [.grove] (s.reach a)
      t))

/-- A budget write is kept and starts the policy; a force is kept, or refused below a floor or a hold; a forced ON domain
begins its entry; an idle domain leaves for its wanted state; an entry ends in RET, or in OFF with its contents
lost, and a wake that waits is served; a returning domain is ON; a wake hold ends. An initiator is no pruned Crown
core. -/
def Obligations.DomainPolicy : Prop :=
  ∀ s : State,
    (∀ (i k : Nat) (v : Word), s.domOn 0 = true → k < 7 → coreFenced s i = false → Does (.budgetWrite i k v) s (fun t
      => t.get (F.PWR_BUDGET_us k) = v.toNat % 2 ^ 24 ∧ t.power.budgetSet = true ∧ t.power.wakeHolds =
      s.power.wakeHolds)) ∧
    (∀ (i d : Nat) (v : Word), s.domOn 0 = true → 1 ≤ d → d ≤ 26 → forceRefused s d (wordField v 4 2) = false →
      coreFenced s i = false → Does (.domainForceWrite i d v) s (fun t => t.get (F.PWR_DOM_CFG_force d) = wordField v
      4 2 ∧ t.get (F.PWR_DOM_CFG_floor d) = s.get (F.PWR_DOM_CFG_floor d))) ∧
    (∀ (i d : Nat) (v : Word), s.domOn 0 = true → 1 ≤ d → d ≤ 26 → forceRefused s d (wordField v 4 2) = true →
      coreFenced s i = false → Does (.domainForceWrite i d v) s (fun t => t.get F.PWR_STAT_force_refused = 1 ∧ t.get
      (F.PWR_DOM_CFG_force d) = s.get (F.PWR_DOM_CFG_force d) ∧ Frame [F.PWR_STAT_force_refused.off,
      F.PWR_EVCNT_op_refused_cnt.off] [] s t)) ∧
    (∀ (i d : Nat) (v : Word), s.domOn 0 = true → 1 ≤ d → d ≤ 26 → s.domOn d = true → wordField v 4 2 = 1 →
      forceRefused s d 1 = false → barredByHold s d = false → coreFenced s i = false → Does (.domainForceWrite i d v)
      s (fun t => (t.dom d).st = .toOff)) ∧
    (∀ (d w : Nat), 1 ≤ d → d ≤ 26 → s.domOn d = true → wanted s d = w → w ≠ 2 → Does (.domainIdleExpiry d) s (fun t
      => (t.dom d).st = (if w = 0 then .toOff else .toRet))) ∧
    (∀ (d : Nat), 1 ≤ d → d ≤ 26 → (s.dom d).st = .toRet → (s.dom d).wake = false → wanted s d = 1 → LevelsAgree s →
      Does (.domainEntryDone d) s (fun t => s.regs = t.regs ∧ t.power = { s.power with doms := t.power.doms } ∧ t.dram
      = s.dram ∧ (barredByHold s d = false → (t.dom d).st = .ret))) ∧
    (∀ (d : Nat), 1 ≤ d → d ≤ 26 → (s.dom d).st = .toRet → (s.dom d).wake = true → Does (.domainEntryDone d) s (fun t
      => (t.dom d).st = .retToOn)) ∧
    ((s.dom 26).st = .toOff → (s.dom 26).wake = false → wanted s 26 = 0 → Does (.domainEntryDone 26) s (fun t =>
      (t.dom 26).st = .off ∧ t.dram = [] ∧ t.get F.DDR_SIZE_mib = s.get F.DDR_SIZE_mib)) ∧
    (∀ (d : Nat), d ≤ 26 → ((s.dom d).st = .retToOn ∨ (s.dom d).st = .offToOn) → s.get (F.PWR_DOM_CFG_force d) = 0 →
      s.power.stalled = [] → Does (.domainOnReached d) s (fun t => t.domOn d = true ∧ t.power.stalled = [])) ∧
    (∀ (c : Nat), Does (.wakeHoldExpiry c) s (fun t => t.power.wakeHolds = s.power.wakeHolds.filter (fun x => decide
      (x ≠ c))))

/-- A lower operating point is in force at once with its floor; a higher one first raises the rail, then waits for the
pace; a point the part cannot run at, or a rail that does not answer, refuses it; the loop steps the rail by 5 mV
inside its band; retry clears the failure. An initiator is no pruned Crown core. -/
def Obligations.OperatingPoints : Prop :=
  ∀ s : State,
    (∀ (i op : Nat) (v : Word) (a : Option Nat), s.domOn 0 = true → s.power.opPhase = .idle → op < 4 → wordField v 0 2
      = op → opRefused s op = false → op ≤ s.get F.PWR_DVFS_op_now → coreFenced s i = false → Does (.opRequest i v a)
      s (fun t => t.get F.PWR_DVFS_op_req = op ∧ t.get F.PWR_DVFS_op_now = op ∧ t.get F.PWR_DVFS_busy = 0 ∧ t.get
      F.PWR_VCORE_floor_mv = opFloor op ∧ t.get F.PWR_STAT_op_done = 1 ∧ t.power.opPhase = .idle)) ∧
    (∀ (i op : Nat) (v : Word), s.domOn 0 = true → s.power.opPhase = .idle → op < 4 → wordField v 0 2 = op → opRefused
      s op = false → s.get F.PWR_DVFS_op_now < op → s.power.avsFailed = false → s.get F.PWR_VCORE_applied_mv < opFloor
      op → coreFenced s i = false → Does (.opRequest i v none) s (fun t => t.get F.PWR_DVFS_busy = 1 ∧ t.get
      F.PWR_DVFS_op_now = s.get F.PWR_DVFS_op_now ∧ t.get F.PWR_VCORE_applied_mv = opFloor op ∧ t.power.opPhase =
      .raiseSettling op ∧ .avsWrite (s.get F.PWR_AVS_CFG_rail) (opFloor op) ∈ t.out ∧ Frame [F.PWR_DVFS_op_req.off,
      F.PWR_VCORE_applied_mv.off] [.power] s t)) ∧
    (∀ (i op e : Nat) (v : Word), s.domOn 0 = true → s.power.opPhase = .idle → op < 4 → wordField v 0 2 = op →
      opRefused s op = false → s.get F.PWR_DVFS_op_now < op → s.power.avsFailed = false → s.get F.PWR_VCORE_applied_mv
      < opFloor op → coreFenced s i = false → Does (.opRequest i v (some e)) s (fun t => t.get F.PWR_STAT_avs_fail = 1
      ∧ Counts F.PWR_EVCNT_avs_fail_cnt s t ∧ t.get F.PWR_STAT_op_refused = 1 ∧ t.get F.PWR_VCORE_applied_mv = s.get
      F.PWR_VCORE_applied_mv ∧ t.power.avsFailed = true ∧ t.power.opPhase = .idle)) ∧
    (∀ (i op : Nat) (v : Word) (a : Option Nat), s.domOn 0 = true → s.power.opPhase = .idle → op < 4 → wordField v 0 2
      = op → opRefused s op = true → coreFenced s i = false → Does (.opRequest i v a) s (fun t => t.get
      F.PWR_STAT_op_refused = 1 ∧ Counts F.PWR_EVCNT_op_refused_cnt s t ∧ Frame [F.PWR_DVFS_op_req.off,
      F.PWR_STAT_op_refused.off, F.PWR_EVCNT_op_refused_cnt.off] [] s t)) ∧
    (∀ (op : Nat), s.power.opPhase = .raiseSettling op → Does (.opVoltageSettled) s (fun t => t.power.opPhase =
      .raisePace op ∧ Frame [] [.power] s t)) ∧
    (vcoreLoops s = true → s.power.opPhase = .idle → s.get F.GLB_PACE_min_pace < s.get F.PWR_AVS_CFG_pace_tgt → s.get
      F.PWR_VCORE_applied_mv < 850 → Does (.vcoreLoopTick none) s (fun t => t.get F.PWR_VCORE_applied_mv = min 850
      (s.get F.PWR_VCORE_applied_mv + 5) ∧ t.get F.PWR_VCORE_floor_mv = s.get F.PWR_VCORE_floor_mv ∧ Frame
      [F.PWR_VCORE_applied_mv.off] [] s t)) ∧
    (vcoreLoops s = true → s.power.opPhase = .idle → s.get F.PWR_AVS_CFG_pace_tgt + 96 < s.get F.GLB_PACE_min_pace →
      s.get F.PWR_VCORE_floor_mv < s.get F.PWR_VCORE_applied_mv → Does (.vcoreLoopTick none) s (fun t => t.get
      F.PWR_VCORE_applied_mv = max (s.get F.PWR_VCORE_floor_mv) (s.get F.PWR_VCORE_applied_mv - 5) ∧ Frame
      [F.PWR_VCORE_applied_mv.off] [] s t)) ∧
    (∀ (i : Nat), s.domOn 0 = true → coreFenced s i = false → Does (.avsRetry i) s (fun t => t.power.avsFailed = false
      ∧ Frame [F.PWR_AVS_CFG_retry.off] [.power] s t ∧ t.get F.PWR_AVS_CFG_pace_tgt = s.get F.PWR_AVS_CFG_pace_tgt))

/-- An enabled source that acts is recorded with its domain and detail, is counted and holds its domains; WAKE_L follows
where the host asks and the link is not in L0; the bud watcher’s window opens and closes, and 56 matching chips
count and wake. -/
def Obligations.WakeSources : Prop :=
  ∀ s : State,
    (bit (s.get F.PWR_WAKE_EN_en) 4 = true → s.now < 2 ^ 64 → Does (.wakeIn) s (fun t => t.get F.PWR_WAKE_LAST_code =
      5 ∧ t.get F.PWR_WAKE_LAST_domain = 0 ∧ t.get F.PWR_WAKE_LAST_detail = 0 ∧ t.get F.PWR_STAT_wake = 1 ∧
      t.power.wakeHolds.contains 5 = true ∧ Counts F.PWR_EVCNT_wake_cnt s t ∧ t.pair F.PWR_WAKE_TS_LO_ns
      F.PWR_WAKE_TS_HI_ns = (if s.domOn 1 then s.now else 0) ∧ t.get F.PWR_WAKE_AON_ticks = s.power.aonTicks % 2 ^ 32
      ∧ (bit (s.get F.PWR_WAKE_HOST_host) 4 = true → s.get F.TPR_LINK_pm ≠ 0 → t.power.wakeL = true ∧ .wakeL ∈
      t.out))) ∧
    (∀ (q : Nat) (r : Bool), bit (s.get F.PWR_WAKE_EN_en) 8 = true → q < 32 → bit (s.get F.PWR_GPIO_WAKE_pins) q =
      true → bit (s.get F.PWR_GPIO_POL_pol) q = !r → Does (.gpioWakeEdge q r) s (fun t => t.get F.PWR_WAKE_LAST_code =
      9 ∧ t.get F.PWR_WAKE_LAST_domain = 0 ∧ t.get F.PWR_WAKE_LAST_detail = q ∧ t.get F.PWR_STAT_wake = 1 ∧
      t.power.wakeHolds.contains 9 = true ∧ bit t.board.gpioIn q = r)) ∧
    (∀ (n : Nat), bit (s.get F.PWR_WAKE_EN_en) 6 = true → s.get F.PWR_BUD_CFG_en = 1 → (s.power.budOpen = true ∨
      budContinuous s = true) → 56 ≤ n → n ≤ 64 → Does (.budDetect n) s (fun t => t.get F.PWR_WAKE_LAST_code = 7 ∧
      t.get F.PWR_WAKE_LAST_domain = 11 + s.get F.PWR_BUD_CFG_chain / 4 ∧ t.get F.PWR_WAKE_LAST_detail = n ∧ t.get
      F.PWR_STAT_wake = 1 ∧ t.power.wakeHolds.contains 7 = true ∧ Counts F.PWR_BUD_CNT_count s t ∧ Counts
      F.PWR_EVCNT_wake_cnt s t)) ∧
    (∀ (n : Nat), n < 56 → Does (.budDetect n) s (fun t => Frame [] [] s t)) ∧
    (s.get F.PWR_BUD_CFG_en = 1 → budContinuous s = false → Does (.budWindowOpen) s (fun t => t.power.budOpen = true ∧
      Frame [] [.power] s t)) ∧
    (Does (.budWindowClose) s (fun t => t.power.budOpen = false ∧ Frame [] [.power] s t))

/-- go captures the container and verifies it, or is refused with BUSY; a container that fails a check ends the re-stand
with its code; with the domains ON the drain timeslot is the next or the one asked for, unless that has passed;
cancel before the swap ends it with CANCELLED, a planner’s too; a late lane joins its pool; a persisted plan marks
its slot. An initiator is no pruned Crown core. -/
def Obligations.LiveRestands : Prop :=
  ∀ s : State,
    (∀ (i n : Nat) (p q : Bool), s.domOn 2 = true → s.get F.STP_STAT_busy = 0 → s.get F.STP_LOAD_LEN_len = n → s.domOn
      26 = true → s.dramOk (s.pair F.STP_LOAD_ADDR_LO_addr F.STP_LOAD_ADDR_HI_addr / 16 * 16) n = true → coreFenced s
      i = false → Does (.liveRestandGo i p q) s (fun t => t.stand.phase = .verify ∧ t.get F.STP_STAT_busy = 1 ∧ t.get
      F.STP_RESULT_phase = 1 ∧ t.get F.STP_LIVE_CTL_persist = b2n p ∧ t.get F.STP_LIVE_CTL_at_asn = b2n q ∧
      t.stand.persist = p ∧ t.stand.atAsn = q ∧ t.stand.planner = false ∧ t.stand.staged = s.dramRead (s.pair
      F.STP_LOAD_ADDR_LO_addr F.STP_LOAD_ADDR_HI_addr / 16 * 16) n ∧ t.stand.inForce = s.stand.inForce)) ∧
    (∀ (i : Nat) (p q : Bool), s.domOn 2 = true → s.get F.STP_STAT_busy = 1 → coreFenced s i = false → Does
      (.liveRestandGo i p q) s (fun t => t.get F.STP_RESULT_code = 13 ∧ t.get F.STP_STAT_refused = 1 ∧ Counts
      F.STP_EVCNT_refuse_cnt s t ∧ t.stand = s.stand)) ∧
    (∀ (i : Nat), s.domOn 2 = true → (s.stand.phase = .verify ∨ s.stand.phase = .prepare ∨ s.stand.phase = .armed ∨
      s.stand.phase = .drain) → coreFenced s i = false → Does (.liveRestandCancel i) s (fun t => t.get
      F.STP_RESULT_code = 15 ∧ t.get F.STP_STAT_busy = 0 ∧ t.stand.phase = .idle ∧ t.stand.inForce = s.stand.inForce ∧
      t.stand.shadow = none ∧ Counts F.STP_EVCNT_refuse_cnt s t)) ∧
    (∀ (k : Nat) (l : List Byte), s.stand.phase = .verify → s.stand.staged = l → planResult s (if s.stand.planner then
      .planner else .live) l (if s.stand.planner then l.length else s.get F.STP_LOAD_LEN_len) = k → k < 256 → Does
      (.restandVerifyDone) s (fun t => (k ≠ 0 → t.stand.phase = .idle ∧ t.get F.STP_RESULT_code = k ∧ t.get
      F.STP_STAT_busy = 0 ∧ t.get F.STP_STAT_refused = 1) ∧ (k = 0 → t.stand.phase = .prepare ∧ t.stand.shadow = some
      (parsePlan l)) ∧ t.stand.inForce = s.stand.inForce)) ∧
    (s.stand.phase = .prepare → (restandDomains s).all s.domOn = true → s.stand.atAsn = false → Does (.restandArm) s
      (fun t => t.stand.phase = .armed ∧ t.stand.drainAsn = s.asn + 1 ∧ t.get F.STP_RESULT_phase = 3 ∧ Frame
      [F.STP_RESULT_phase.off] [.stand] s t)) ∧
    (∀ (a : Nat), s.stand.phase = .prepare → (restandDomains s).all s.domOn = true → s.stand.atAsn = true → s.pair
      F.STP_LIVE_ASN_LO_asn F.STP_LIVE_ASN_HI_asn = a → Does (.restandArm) s (fun t => (a ≤ s.asn + 1 → t.stand.phase
      = .idle ∧ t.get F.STP_RESULT_code = 14 ∧ t.get F.STP_STAT_refused = 1) ∧ (s.asn + 1 < a → t.stand.phase = .armed
      ∧ t.stand.drainAsn = a - 1))) ∧
    (∀ (n t0 : Nat), n < 544 → s.stand.lateLanes.find? (fun x => decide (x.1 = n)) = some (n, t0) → tabFind
      s.lanes.frames n = none → s.get (F.SRH_LANE_MAP_role n) ≠ 2 → s.get (F.SRH_LANE_MAP_role n) ≠ 3 → Does
      (.lateLaneJoin n) s (fun t => t.reg (0x1A2000 + 4 * n) = laneWord t0 ∧ t.get (F.LNE_STATUS_state n) = 0 ∧
      t.stand.lateLanes.find? (fun x => decide (x.1 = n)) = none ∧ Frame [0x1A2000 + 4 * n, (F.LNE_STATUS_state
      n).off] [.stand] s t)) ∧
    (s.stand.phase = .persisting → Does (.restandPersist) s (fun t => t.stand.phase = .done ∧ t.get
      F.STP_STAT_persisted = 1 ∧ t.get F.STP_STAT_busy = 0 ∧ t.get F.STP_RESULT_code = 0 ∧ bootRec t 2 = ⟨1 - (bootRec
      s 2).active, 1 - (bootRec s 2).active, true, 0⟩ ∧ t.get F.STP_SEQ_FLOOR_floor = max (s.get
      F.STP_PLAN_SEQ_plan_seq) (s.get F.STP_SEQ_FLOOR_floor) ∧ t.stand.inForce = s.stand.inForce))

/-- A unit that faults is pruned, counted and recorded with its cause, and a fault of a pruned one is only counted; of two
in one arbitration the one of the lower class is pruned first, and of a disagreeing engine pair the instance that
reports the error, or instance 1; a stall has cause 2 and an injection cause 7; a bank’s spare takes its addresses
once the copy is done; a row is spared at the threshold; a lockstep mismatch restarts the security cores, after
which a key update cut short is discarded, and the third within 60 s prunes them; a pruned unit is re-admitted by a
passed self-test, the security cores never. An initiator is no pruned Crown core. The monitor’s permitted READMIT
begins a re-admission and its INJECT prunes the named unit with cause 7. -/
def Obligations.ContainmentFaults : Prop :=
  ∀ s : State,
    (∀ (f : UnitFault) (b : Bool), f.inst < unitCount f.cls → s.pruned f.cls f.inst = false → f.cause < 16 → (f.cls =
      10 → f.cause ≠ 5) → Does (.unitFault [f] b) s (fun t => t.pruned f.cls f.inst = true ∧ t.get F.PRN_LAST_class =
      f.cls ∧ t.get F.PRN_LAST_instance = f.inst ∧ t.get F.PRN_LAST_cause = f.cause ∧ t.get F.PRN_STAT_prune = 1 ∧
      Counts F.PRN_EVCNT_prune_cnt s t ∧ (b = true → t.get F.RRC_FREEZE_frozen = 1))) ∧
    (∀ (f g : UnitFault), f.inst < unitCount f.cls → s.pruned f.cls f.inst = false → g.inst < unitCount g.cls →
      s.pruned g.cls g.inst = false → f.cls < g.cls → g.cls < 10 → f.cause < 16 → g.cause < 16 → Does (.unitFault [g,
      f] false) s (fun t => t.pruned f.cls f.inst = true ∧ t.pruned g.cls g.inst = true ∧ t.get F.PRN_LAST_class =
      g.cls ∧ t.get F.PRN_LAST_instance = g.inst)) ∧
    (∀ (f : UnitFault) (i : Nat), f.cls = 10 → f.cause = 5 → f.inst < 2 → s.get F.SSE_PAIR_inst0 = 1 → s.get
      F.SSE_PAIR_inst1 = 1 → (if f.words.contains 0 then 0 else 1) = i → (f.words.contains 0 = true → f.words.contains
      1 = false) → Does (.unitFault [f] false) s (fun t => t.pruned 10 i = true ∧ t.get F.SSE_PAIR_single = 1 ∧ t.get
      F.SSE_STAT_pair_mismatch = 1 ∧ Counts F.SSE_EVCNT_pair_mismatch_cnt s t ∧ t.get F.PRN_LAST_instance = i ∧ t.get
      F.PRN_LAST_cause = 5 ∧ engineUp t = engineUp s)) ∧
    (∀ (f : UnitFault), f.inst < unitCount f.cls → s.pruned f.cls f.inst = true → f.cls ≠ 1 → s.prune.readmit ≠ some
      (f.cls, f.inst) → Does (.unitFault [f] false) s (fun t => Counts F.PRN_FENCE_DROP_CNT_count s t ∧ Frame
      [F.PRN_FENCE_DROP_CNT_count.off] [] s t)) ∧
    (∀ (c i : Nat), i < unitCount c → s.pruned c i = false → Does (.stallWatchdogExpiry c i) s (fun t => t.pruned c i
      = true ∧ t.get F.PRN_LAST_cause = 2 ∧ t.get F.PRN_LAST_class = c ∧ t.get F.PRN_LAST_instance = i ∧ Counts
      F.PRN_EVCNT_prune_cnt s t)) ∧
    (∀ (b p : Nat) (w : List PoisonRange), b < 288 → s.prune.bankCopy = [(b, w)] → s.get (F.PRN_SPARE_BANK_in_use
      (bankGroup b)) = 0 → tabGet s.prune.groupSpare (bankGroup b) (288 + bankGroup b) = p → p ≠ b → s.pruned 6 p =
      false → serving s b ≠ 0 → Does (.bankCopyDone b) s (fun t => t.prune.bankCopy = [] ∧ serving t p = serving s b ∧
      serving t b = 0 ∧ t.get (F.PRN_SPARE_BANK_in_use (bankGroup b)) = 1 ∧ t.get (F.PRN_SPARE_BANK_serves (bankGroup
      b)) = (serving s b - 1) % 512 ∧ t.prune.poisoned = s.prune.poisoned ++ w)) ∧
    (∀ (b o : Nat), b < 296 → o < 262144 → tabGet s.prune.rowErrors (b * 512 + o / 512) 0 + 1 < max 1 (s.get
      F.PRN_CE_CFG_thr) → Does (.sramCorrectableError b o) s (fun t => Counts F.PRN_CE_CNT_count s t ∧ tabGet
      t.prune.rowErrors (b * 512 + o / 512) 0 = tabGet s.prune.rowErrors (b * 512 + o / 512) 0 + 1 ∧ Frame
      [F.PRN_CE_CNT_count.off] [.prune] s t)) ∧
    (∀ (b o : Nat), b < 296 → o < 262144 → max 1 (s.get F.PRN_CE_CFG_thr) ≤ tabGet s.prune.rowErrors (b * 512 + o /
      512) 0 + 1 → tabGet s.prune.rowsSpared b 0 < 16 → Does (.sramCorrectableError b o) s (fun t => Counts
      F.PRN_CE_CNT_count s t ∧ Counts F.PRN_ROW_SPARE_CNT_count s t ∧ t.get F.PRN_STAT_row_spare = 1 ∧ tabGet
      t.prune.rowsSpared b 0 = tabGet s.prune.rowsSpared b 0 + 1 ∧ t.pruned 6 b = s.pruned 6 b)) ∧
    (s.pruned 11 0 = false → (s.prune.mismatchTimes.filter (fun a => decide (s.now ≤ a + 60000000000))).length < 2 →
      Does (.lockstepMismatch) s (fun t => t.prune.secRestarting = true ∧ t.pruned 11 0 = false)) ∧
    (s.pruned 11 0 = false → 2 ≤ (s.prune.mismatchTimes.filter (fun a => decide (s.now ≤ a + 60000000000))).length →
      Does (.lockstepMismatch) s (fun t => t.pruned 11 0 = true ∧ t.prune.secRestarting = false ∧ t.get
      F.PRN_LAST_class = 11 ∧ t.get F.PRN_LAST_cause = 5)) ∧
    (s.nv.kuOpen = false → Does (.secRestartDone) s (fun t => t.prune = { s.prune with secRestarting := false } ∧
      Frame [] [.prune] s t)) ∧
    (s.nv.kuOpen = true → Does (.secRestartDone) s (fun t => t.prune = { s.prune with secRestarting := false } ∧ t.nv
      = { s.nv with kuOpen := false } ∧ t.get F.HWD_SIG_STAT_ku_recovered = 1 ∧ Frame
      [F.HWD_SIG_STAT_ku_recovered.off] [.prune, .stored] s t)) ∧
    (∀ (j c i : Nat), s.domOn 0 = true → 2 ≤ c → i < unitCount c → s.prune.readmit = none → s.pruned c i = true →
      coreFenced s j = false → Does (.prnReadmit j c i) s (fun t => t.get F.PRN_READMIT_busy = 1 ∧ t.get
      F.PRN_READMIT_RESULT_done = 0 ∧ t.get F.PRN_READMIT_class = c ∧ t.get F.PRN_READMIT_instance = i ∧
      t.prune.readmit = some (c, i) ∧ Frame [F.PRN_READMIT_busy.off, F.PRN_READMIT_RESULT_done.off] [.prune] s t)) ∧
    (∀ (j c i : Nat), s.domOn 0 = true → c < 256 → i < unitCount c → s.prune.readmit = none → s.pruned c i = false →
      coreFenced s j = false → Does (.prnReadmit j c i) s (fun t => t.get F.PRN_READMIT_RESULT_status = 1 ∧ t.get
      F.PRN_READMIT_RESULT_done = 1 ∧ t.prune.readmit = none)) ∧
    (∀ (c i : Nat) (b : Bool), s.prune.readmit = some (c, i) → 2 ≤ c → c < 11 → i < unitCount c → s.pruned c i = true
      → Does (.readmitDone b) s (fun t => t.prune.readmit = none ∧ t.pruned c i = !b ∧ t.get F.PRN_READMIT_busy = 0 ∧
      t.get F.PRN_READMIT_RESULT_done = 1 ∧ t.get F.PRN_READMIT_RESULT_status = (if b then 0 else 2) ∧ t.get
      F.PRN_READMIT_RESULT_class = c ∧ t.get F.PRN_READMIT_RESULT_instance = i ∧ (b = true → t.get
      F.PRN_STAT_readmit_done = 1) ∧ (b = false → t.get F.PRN_STAT_readmit_fail = 1 ∧ Counts
      F.PRN_EVCNT_readmit_fail_cnt s t))) ∧
    (∀ (b : Bool), s.prune.readmit = some (11, 0) → s.pruned 11 0 = true → Does (.readmitDone b) s (fun t =>
      t.prune.readmit = none ∧ t.pruned 11 0 = true ∧ t.get F.PRN_READMIT_busy = 0 ∧ t.get F.PRN_READMIT_RESULT_status
      = 2 ∧ t.get F.PRN_STAT_readmit_fail = 1)) ∧
    (∀ (j c i : Nat), s.domOn 0 = true → lifecycle s ≤ 2 → i < unitCount c → s.pruned c i = false → coreFenced s j =
      false → Does (.prnInject j c i) s (fun t => t.pruned c i = true ∧ t.get F.PRN_LAST_class = c ∧ t.get
      F.PRN_LAST_instance = i ∧ t.get F.PRN_LAST_cause = 7)) ∧
    (∀ (j c i : Nat), s.domOn 0 = true → 2 < lifecycle s → (j ≠ 6 ∨ s.mon.session = none) → c < 256 → i < 65536 →
      coreFenced s j = false → Does (.prnInject j c i) s (fun t => t.get F.PRN_STAT_inject_refused = 1 ∧ t.get
      F.PRN_INJECT_class = c ∧ t.get F.PRN_INJECT_instance = i ∧ Frame [F.PRN_INJECT_class.off,
      F.PRN_STAT_inject_refused.off] [] s t)) ∧
    (∀ (c i : Nat), privBar s 0x14 = none → 2 ≤ c → i < unitCount c → s.prune.readmit = none → s.pruned c i = true →
      Does (.readmit c i) s (fun t => t.prune.readmit = some (c, i) ∧ t.get F.PRN_READMIT_busy = 1 ∧ t.pruned c i =
      true)) ∧
    (∀ (c i : Nat), privBar s 0x15 = none → (lifecycle s ≤ 2 ∨ s.mon.session ≠ none) → i < unitCount c → s.pruned c i
      = false → Does (.inject c i) s (fun t => t.pruned c i = true ∧ t.get F.PRN_LAST_class = c ∧ t.get
      F.PRN_LAST_instance = i ∧ t.get F.PRN_LAST_cause = 7))

/-- freeze protects the ring at its newest event and unfreeze lifts it; PFAIL_L low writes its event and copies the ring
to MRAM once, the copy’s end makes it the newest flush, and the part runs on when PFAIL_L rises. An initiator is no
pruned Crown core. The monitor’s permitted RR_UNFREEZE lifts the freeze as unfreeze does. -/
def Obligations.RingAndPowerLoss : Prop :=
  ∀ s : State,
    (∀ (i : Nat), s.domOn 0 = true → s.get F.RRC_FREEZE_frozen = 0 → coreFenced s i = false → Does (.rrcFreeze i) s
      (fun t => t.get F.RRC_FREEZE_frozen = 1 ∧ t.get F.RRC_FREEZE_f = (s.get F.RRC_HEAD_index + 4095) % 4096 ∧ t.get
      F.RRC_STAT_frozen = 1 ∧ t.ring.events = s.ring.events ∧ t.get F.RRC_CTL_page = s.get F.RRC_CTL_page ∧ t.get
      F.RRC_CTL_src = s.get F.RRC_CTL_src ∧ Frame [F.RRC_FREEZE_f.off, F.RRC_STAT_frozen.off] [.ring] s t)) ∧
    (∀ (i : Nat), s.domOn 0 = true → coreFenced s i = false → Does (.rrcUnfreeze i) s (fun t => t.get
      F.RRC_FREEZE_frozen = 0 ∧ t.ring.protCount = 0 ∧ t.ring.events = s.ring.events ∧ Frame [F.RRC_FREEZE_f.off]
      [.ring] s t)) ∧
    (s.ring.copying = none → s.ring.sinceFlush = true → s.get F.RRC_FREEZE_frozen = 0 → ringProtected s (s.get
      F.RRC_HEAD_index) = false → Does (.pfailFall) s (fun t => t.board.pfailLow = true ∧ (tabFind t.ring.events
      (s.get F.RRC_HEAD_index)).map RrEvent.code = some 0x50 ∧ t.get F.RRC_FREEZE_frozen = 1 ∧ t.get F.RRC_FREEZE_f =
      s.get F.RRC_HEAD_index ∧ t.get F.RRC_SEQ_seq = (s.get F.RRC_SEQ_seq + 1) % 2 ^ 32 ∧ t.ring.copying.isSome = true
      ∧ t.ring.sinceFlush = false)) ∧
    (∀ (k : Nat) (f : RrFlush), s.ring.copying = some k → s.ring.flushes = [(k, f)] → k < 2 → f.magic = [0x42#8,
      0x58#8, 0x52#8, 0x46#8] → f.version = 1 → Does (.rrFlushDone) s (fun t => t.ring.copying = none ∧ t.get
      F.RRC_STAT_flushed = 1 ∧ Counts F.RRC_EVCNT_flush_cnt s t ∧ t.get F.RRC_FLUSH_valid = 1 ∧ t.get F.RRC_FLUSH_slot
      = k ∧ t.get F.RRC_FLUSH_head = f.head % 4096 ∧ t.get F.RRC_FLUSH_SEQ_flush_seq = f.flushSeq % 2 ^ 32 ∧
      t.ring.flushes = [(k, { f with crc := f.sum })])) ∧
    (Does (.pfailLRise) s (fun t => t.board.pfailLow = false ∧ Frame [] [.board] s t)) ∧
    (privBar s 0x16 = none → Does (.rrUnfreeze) s (fun t => t.get F.RRC_FREEZE_frozen = 0 ∧ t.ring.protCount = 0 ∧
      t.ring.events = s.ring.events))

/-- With no lifecycle transition and no key update under way: POR_L leaves every register at its reset value but those
that OTP, MRAM and the pins give, the memories and the state behind the registers empty, and OTP, MRAM and the flash
as they were, and a part in BARK_HOLD stays there while a sensor of class ALARM or ERASE is in its condition;
RESET_L does so for what lies outside PD_AON, keeps PD_AON’s registers but for boot_done, the budgets and the force
fields, and keeps BARK_HOLD, the ring, the pruned units, the tables and DRAM; either ends a monitor session. A rail
that trips resets the part, VDD_AON as POR_L and another as RESET_L, and holds it until every monitor is good, which
releases the reset that was asserted. The monitor’s permitted RESET answers and resets as RESET_L does. -/
def Obligations.Resets : Prop :=
  ∀ s : State,
    (s.bark.lc = none → (∀ x ∈ s.hwd.runs, x.2.op ≠ 16) → s.bark.hold = false → Does (.porLRelease) s (fun t => t.dram
      = [] ∧ t.tables = {} ∧ t.mon = {} ∧ t.hwd = {} ∧ t.lanes = {} ∧ t.prune = {} ∧ t.bark =
      { release := s.bark.release + 1 } ∧ t.stand = {} ∧ t.canopy = {} ∧ t.search = {} ∧ t.traffic = {} ∧ t.txl = {} ∧
      t.sse = {} ∧ t.time = {} ∧ t.tmu = {} ∧ t.grove = {} ∧ t.nv = s.nv ∧ t.rgp.otp = s.rgp.otp ∧ t.rgp.slots =
      s.rgp.slots ∧ t.board.flash = s.board.flash ∧ t.ring.flushes = s.ring.flushes ∧ t.ring.events = [] ∧ t.pending =
      s.pending ∧ t.get F.BRK_CTL_boot_done = 0 ∧ t.get F.BRK_LC_state = otpState s ∧ (∀ d < 27, t.domOn d = true) ∧
      t.tap.perstLow = s.tap.perstLow ∧ bit (t.get F.BRK_STATUS_live) 0 = bit (s.get F.BRK_STATUS_live) 0 ∧ (∀ i < 10,
      t.get (F.BRK_SENSOR_CFG_class i) = storedClass s i % 4) ∧ (∀ off, off ∉ storedOffs → off ∉ followers → t.reg off
      = regReset off))) ∧
    (∀ (i c : Nat), s.bark.lc = none → (∀ x ∈ s.hwd.runs, x.2.op ≠ 16) → s.bark.hold = true → i < 10 → bit (s.get
      F.BRK_STATUS_live) i = true → storedClass s i = c → 2 ≤ c → c < 4 → Does (.porLRelease) s (fun t => t.bark.hold
      = true ∧ t.nv.holds = s.nv.holds + 1 ∧ t.dram = [] ∧ t.get F.BRK_CTL_boot_done = 0 ∧ t.mon.session = none ∧ (∀ d
      < 8, (t.dom (11 + d)).st = .off) ∧ mayBoot t = false)) ∧
    (s.bark.lc = none → (∀ x ∈ s.hwd.runs, x.2.op ≠ 16) → s.bark.hold = true → (∀ i < 10, bit (s.get
      F.BRK_STATUS_live) i = false) → Does (.porLRelease) s (fun t => t.bark.hold = false ∧ t.nv = s.nv ∧ t.dram = []
      ∧ t.get F.BRK_CTL_boot_done = 0 ∧ t.mon.session = none ∧ (∀ d < 27, t.domOn d = true))) ∧
    (s.bark.lc = none → (∀ x ∈ s.hwd.runs, x.2.op ≠ 16) → Does (.resetLRelease) s (fun t => t.stand = {} ∧ t.canopy =
      {} ∧ t.search = {} ∧ t.traffic = {} ∧ t.txl = {} ∧ t.sse = {} ∧ t.time = {} ∧ t.tmu = {} ∧ t.grove = {} ∧ t.hwd
      = {} ∧ t.dram = s.dram ∧ t.nv = s.nv ∧ t.pending = s.pending ∧ t.mon.session = none ∧ t.ring = s.ring ∧ t.board
      = s.board ∧ t.bark = { hold := s.bark.hold } ∧ t.prune.serves = s.prune.serves ∧ t.tables.learn = s.tables.learn
      ∧ t.tables.leaf = s.tables.leaf ∧ t.tables.cells = s.tables.cells ∧ t.get F.BRK_CTL_boot_done = 0 ∧ t.get
      F.GRF_BOOT_halt = s.get F.GRF_BOOT_halt ∧ t.rgp.otp = s.rgp.otp ∧ t.rgp.slots = s.rgp.slots ∧ (∀ k < 7, t.get
      (F.PWR_BUDGET_us k) = 0) ∧ (∀ d < 28, t.get (F.PWR_DOM_CFG_force d) = 0 ∧ t.get (F.PWR_DOM_CFG_floor d) = s.get
      (F.PWR_DOM_CFG_floor d)) ∧ (∀ c i, i < unitCount c → t.pruned c i = s.pruned c i) ∧ (∀ off, keptOffset off =
      true → off ∉ storedOffs → off ∉ F.MON_STATUS_session.off :: (upTo 28).map (fun d => (F.PWR_DOM_CFG_force d).off)
      → t.reg off = s.reg off))) ∧
    (s.bark.lc = none → (∀ x ∈ s.hwd.runs, x.2.op ≠ 16) → (∀ c < 12, ∀ i < unitCount c, s.pruned c i = false) → Does
      (.resetLRelease) s (fun t => (∀ off, keptOffset off = false → off ∉ storedOffs → off ∉ followers → off ≠
      F.GRF_BOOT_halt.off → t.reg off = regReset off) ∧ (s.bark.hold = false → s.get F.GRF_BOOT_halt = 0 → ∀ d < 27,
      t.domOn d = true))) ∧
    (∀ (r : Nat), r ≠ 0 → Does (.supplyMonitorTrip r) s (fun t => t.board =
      { s.board with suppliesGood := false, resetLow := true } ∧ mayBoot t = false ∧ t.stand = {} ∧ t.dram = s.dram ∧
      t.ring = s.ring ∧ t.mon.session = none ∧ t.bark.hold = s.bark.hold ∧ t.get F.BRK_CTL_boot_done = 0)) ∧
    (Does (.supplyMonitorTrip 0) s (fun t => t.board.suppliesGood = false ∧ t.board.porLow = true ∧ mayBoot t = false
      ∧ t.stand = {} ∧ t.dram = [] ∧ t.mon.session = none ∧ t.ring.events = [] ∧ t.get F.BRK_CTL_boot_done = 0)) ∧
    (s.board.porLow = true → Does (.supplyGood) s (fun t => t.board.suppliesGood = true ∧ t.board.porLow = false ∧
      t.board.resetLow = false ∧ t.dram = [] ∧ t.stand = {} ∧ t.mon.session = none ∧ t.get F.BRK_CTL_boot_done = 0 ∧
      (s.bark.hold = false → t.bark.hold = false))) ∧
    (s.board.porLow = false → s.board.resetLow = true → Does (.supplyGood) s (fun t => t.board =
      { s.board with suppliesGood := true, resetLow := false } ∧ t.dram = s.dram ∧ t.ring = s.ring ∧ t.stand = {} ∧
      t.mon.session = none ∧ t.bark.hold = s.bark.hold ∧ t.get F.BRK_CTL_boot_done = 0)) ∧
    (s.board.porLow = false → s.board.resetLow = false → Does (.supplyGood) s (fun t => t.board =
      { s.board with suppliesGood := true } ∧ Frame [] [.board] s t)) ∧
    (privBar s 0x17 = none → Does (.reset) s (fun t => .monitor (monFrame 0 []) ∈ t.out ∧ t.stand = {} ∧ t.canopy = {}
      ∧ t.search = {} ∧ t.txl = {} ∧ t.mon.session = none ∧ t.dram = s.dram ∧ t.get F.BRK_CTL_boot_done = 0))

/-- IDENT, RR_INFO and RR_READ answer in every state with what the registers and the ring hold; REG_READ answers the
registers’ words in order; CHALLENGE gives a nonce and keeps it; SET_BAUD takes a listed rate after its answer, and
falls back to 115,200; in BARK_HOLD the others are not permitted. A permitted LOGOUT, MON_CTL.kill and the end of
its time end a session; an AUTH with the vendor’s signature on a good challenge record opens one and another answers
its status; the lockout ends. -/
def Obligations.MonitorReads : Prop :=
  ∀ s : State,
    (Does (.ident) s (fun t => .monitor (monFrame 0 (leBytes 4 (regRead s 0).toNat ++ leBytes 4 (regRead s
      0x420000).toNat ++ leBytes 4 (regRead s 0x440004).toNat ++ leBytes 4 (regRead s 0x420004).toNat ++ leBytes 4
      s.nv.boots ++ (if s.get F.HWD_STATUS_root = 0 then List.replicate 32 0#8 else deviceId s))) ∈ t.out ∧ RegsBut []
      s t)) ∧
    (Does (.rrInfo) s (fun t => .monitor (monFrame 0 ((upTo 14).flatMap (fun k => leBytes 4 (regRead s (0x61010 + 4 *
      k)).toNat))) ∈ t.out ∧ Frame [] [.monitor] s t)) ∧
    (∀ (i n : Nat), i < 4096 → 1 ≤ n → n ≤ 32 → Does (.rrRead i n 0) s (fun t => .monitor (monFrame 0 ((upTo
      n).flatMap (fun k => ((tabFind s.ring.events ((i + k) % 4096)).map eventBytes).getD (List.replicate 32 0#8)))) ∈
      t.out ∧ Frame [] [.monitor] s t)) ∧
    (∀ (i n x : Nat), (4096 ≤ i ∨ n = 0 ∨ 32 < n ∨ 1 < x) → Does (.rrRead i n x) s (fun t => .monitor (monFrame 7 [])
      ∈ t.out ∧ Frame [] [.monitor] s t)) ∧
    (∀ (o n : Nat), s.bark.hold = false → 1 ≤ n → n ≤ 64 → o % 4 = 0 → Does (.regRead o n) s (fun t => (∃ l, l.length
      = 4 * n ∧ .monitor (monFrame 0 l) ∈ t.out))) ∧
    (∀ (o : Nat), s.bark.hold = false → o % 4 = 0 → mapped o = true → s.domOn (decidingDomain s o) = true → Does
      (.regRead o 1) s (fun t => .monitor (monFrame 0 (leBytes 4 (applyRead o (frameArrives
      { s with out := [] })).1.toNat)) ∈ t.out)) ∧
    (∀ (o n : Nat), s.bark.hold = false → (n = 0 ∨ 64 < n ∨ o % 4 ≠ 0) → Does (.regRead o n) s (fun t => .monitor
      (monFrame 7 []) ∈ t.out ∧ Frame [] [.monitor] s t)) ∧
    (∀ (o n : Nat), s.bark.hold = true → Does (.regRead o n) s (fun t => .monitor (monFrame 3 []) ∈ t.out ∧ Frame []
      [.monitor] s t)) ∧
    (s.bark.hold = false → Does (.challenge) s (fun t => t.mon.nonce = some (s.random 32) ∧ t.mon.nonceTime = s.now ∧
      .monitor (monFrame 0 (s.random 32 ++ deviceId s ++ leBytes 1 (lifecycle s))) ∈ t.out ∧ RegsBut [] s t)) ∧
    (∀ (r : Nat), s.bark.hold = false → [115200, 230400, 460800, 921600, 1500000, 3000000].contains r = true → Does
      (.setBaud r) s (fun t => t.get F.MON_BAUD_rate = r ∧ t.mon.baudPending = true ∧ .monitor (monFrame 0 []) ∈ t.out
      ∧ Frame [F.MON_BAUD_rate.off] [.monitor] s t)) ∧
    (∀ (r : Nat), s.bark.hold = false → [115200, 230400, 460800, 921600, 1500000, 3000000].contains r = false → Does
      (.setBaud r) s (fun t => .monitor (monFrame 7 []) ∈ t.out ∧ Frame [] [.monitor] s t)) ∧
    (s.mon.baudPending = true → Does (.setBaudTimeout) s (fun t => t.get F.MON_BAUD_rate = 115200 ∧ t.mon.baudPending
      = false ∧ Frame [F.MON_BAUD_rate.off] [.monitor] s t)) ∧
    (Does (.monFrameTimeout) s (fun t => t.mon = { s.mon with partialFrame := false } ∧ Frame [] [.monitor] s t)) ∧
    (∀ (l : List Byte), monRequest l = true → monCrc l = false → Does (.monBadCrcFrame l) s (fun t => .monitor
      (monFrame 1 []) ∈ t.out ∧ t.mon = { s.mon with partialFrame := false } ∧ Frame [] [.monitor] s t)) ∧
    (∀ (l : List Byte), monRequest l = true → monCrc l = true → monCommands.contains (byteAt l 1) = false → Does
      (.monBadCrcFrame l) s (fun t => .monitor (monFrame 2 []) ∈ t.out ∧ Frame [] [.monitor] s t)) ∧
    (∀ (l : List Byte), monRequest l = false → Does (.monBadCrcFrame l) s (fun t => Frame [] [] s t)) ∧
    (bit (s.get F.PWR_WAKE_EN_en) 9 = true → Does (.monRxdStartBit) s (fun t => t.get F.PWR_WAKE_LAST_code = 10 ∧
      t.get F.PWR_WAKE_LAST_domain = 0 ∧ t.get F.PWR_WAKE_LAST_detail = 0 ∧ t.get F.PWR_STAT_wake = 1 ∧
      t.power.wakeHolds.contains 10 = true ∧ t.mon.partialFrame = true ∧ Counts F.PWR_EVCNT_wake_cnt s t)) ∧
    (privBar s 0x18 = none → Does (.logout) s (fun t => .monitor (monFrame 0 []) ∈ t.out ∧ t.mon.session = none ∧
      t.get F.MON_STATUS_session = 0)) ∧
    (∀ (i : Nat), s.domOn 0 = true → s.get F.MON_CTL_priv_off = 0 → s.mon.privOff = false → coreFenced s i = false →
      Does (.monKill i) s (fun t => t.mon.session = none ∧ t.get F.MON_STATUS_session = 0 ∧ t.mon.privOff = false)) ∧
    (∀ (x : MonSession), s.mon.session = some x → Does (.sessionExpiry) s (fun t => t.mon.session = none ∧ t.get
      F.MON_STATUS_session = 0 ∧ x.ends ≤ t.now)) ∧
    (∀ (l : List Byte), privBar s 0x10 = none → s.mon.lockout = false → authStatus s s.mon.nonce l = 0 → byteAt l 6 =
      0 → Does (.auth l) s (fun t => t.mon.nonce = none ∧ (Config.xmssMtVerify Config.vendorKey (l.take 80) (l.drop
      80) = true → .monitor (monFrame 0 []) ∈ t.out ∧ t.mon.session = some ⟨leAt l 0x4A 2, byteAt l 6, s.now + leAt l
      0x48 2 * 1000000000⟩) ∧ (Config.xmssMtVerify Config.vendorKey (l.take 80) (l.drop 80) = false → .monitor
      (monFrame 5 []) ∈ t.out ∧ t.mon.session = none))) ∧
    (s.mon.lockout = true → Does (.authLockoutEnd) s (fun t => t.mon.lockout = false ∧ t.mon.failures = 0 ∧ Frame []
      [.monitor] s t))

/-- A privileged command that is not permitted answers its status and changes nothing but the monitor’s own state, and a
permitted one is counted: REG_WRITE and MEM_WRITE write, MEM_READ reads, READMIT and INJECT act as the registers do,
RR_UNFREEZE lifts the freeze, RESET answers and then resets as RESET_L does (what a reset leaves of memories and
activity is the model’s choice, notes/assumptions/6), LOGOUT and MON_CTL.kill end the session, and AUTH, whose
checks are those of R403, opens one or fails, the eighth failure in a row locking it out. An initiator is no pruned
Crown core. -/
def Obligations.MonitorPrivileged : Prop :=
  ∀ s : State,
    (∀ (k : Nat) (l : List Byte), privBar s 0x10 = some k → Does (.auth l) s (fun t => .monitor (monFrame k []) ∈
      t.out ∧ Frame [] [.monitor] s t)) ∧
    (∀ (k o : Nat) (w : List Word), privBar s 0x11 = some k → Does (.regWrite o w) s (fun t => .monitor (monFrame k
      []) ∈ t.out ∧ Frame [] [.monitor] s t)) ∧
    (∀ (k a n : Nat), privBar s 0x12 = some k → Does (.memRead a n) s (fun t => .monitor (monFrame k []) ∈ t.out ∧
      Frame [] [.monitor] s t)) ∧
    (∀ (k a : Nat) (w : List Word), privBar s 0x13 = some k → Does (.memWrite a w) s (fun t => .monitor (monFrame k
      []) ∈ t.out ∧ Frame [] [.monitor] s t)) ∧
    (∀ (k c i : Nat), privBar s 0x14 = some k → Does (.readmit c i) s (fun t => .monitor (monFrame k []) ∈ t.out ∧
      Frame [] [.monitor] s t)) ∧
    (∀ (k c i : Nat), privBar s 0x15 = some k → Does (.inject c i) s (fun t => .monitor (monFrame k []) ∈ t.out ∧
      Frame [] [.monitor] s t)) ∧
    (∀ (k : Nat), privBar s 0x16 = some k → Does (.rrUnfreeze) s (fun t => .monitor (monFrame k []) ∈ t.out ∧ Frame []
      [.monitor] s t)) ∧
    (∀ (k : Nat), privBar s 0x17 = some k → Does (.reset) s (fun t => .monitor (monFrame k []) ∈ t.out ∧ Frame []
      [.monitor] s t)) ∧
    (∀ (k : Nat), privBar s 0x18 = some k → Does (.logout) s (fun t => .monitor (monFrame k []) ∈ t.out ∧ Frame []
      [.monitor] s t)) ∧
    (∀ (o : Nat) (w : List Word), privBar s 0x11 = none → w ≠ [] → w.length ≤ 64 → o % 4 = 0 → Does (.regWrite o w) s
      (fun t => .monitor (monFrame 0 []) ∈ t.out)) ∧
    (∀ (v : Word), privBar s 0x11 = none → s.domOn 2 = true → Does (.regWrite 0x20020 [v]) s (fun t => t.get
      F.STP_LOAD_ADDR_LO_addr = v.toNat ∧ .monitor (monFrame 0 []) ∈ t.out ∧ Counts F.MON_CMD_CNT_count s t ∧ t.get
      F.MON_STAT_priv_cmd = 1 ∧ Frame [0x20020, F.MON_CMD_CNT_count.off, F.MON_STAT_priv_cmd.off] [.monitor] s t)) ∧
    (∀ (a n : Nat), privBar s 0x12 = none → 1 ≤ n → n ≤ 256 → a % 4 = 0 → s.domOn 26 = true → s.dramOk a (4 * n) =
      true → Does (.memRead a n) s (fun t => .monitor (monFrame 0 (s.dramRead a (4 * n))) ∈ t.out ∧ Counts
      F.MON_CMD_CNT_count s t ∧ t.get F.MON_STAT_priv_cmd = 1 ∧ Frame [F.MON_CMD_CNT_count.off,
      F.MON_STAT_priv_cmd.off] [.monitor] s t)) ∧
    (∀ (a : Nat) (w : List Word), privBar s 0x13 = none → w ≠ [] → w.length ≤ 256 → a % 4 = 0 → s.domOn 26 = true →
      s.dramOk a (4 * w.length) = true → Does (.memWrite a w) s (fun t => t.dramRead a (4 * w.length) = w.flatMap (fun
      x => leBytes 4 x.toNat) ∧ .monitor (monFrame 0 []) ∈ t.out ∧ Counts F.MON_CMD_CNT_count s t ∧ t.get
      F.MON_STAT_priv_cmd = 1 ∧ Frame [F.MON_CMD_CNT_count.off, F.MON_STAT_priv_cmd.off] [.monitor, .dram] s t ∧ (∀ b,
      b < a ∨ a + 4 * w.length ≤ b → memGet t.dram b = memGet s.dram b))) ∧
    (∀ (c i : Nat), privBar s 0x14 = none → 2 ≤ c → i < unitCount c → s.prune.readmit = none → s.pruned c i = true →
      Does (.readmit c i) s (fun t => t.prune.readmit = some (c, i) ∧ t.get F.PRN_READMIT_busy = 1 ∧ .monitor
      (monFrame 0 (leBytes 4 (t.reg 0x60024).toNat)) ∈ t.out ∧ Counts F.MON_CMD_CNT_count s t ∧ t.get
      F.MON_STAT_priv_cmd = 1)) ∧
    (∀ (c i : Nat), privBar s 0x15 = none → (lifecycle s ≤ 2 ∨ s.mon.session ≠ none) → i < unitCount c → s.pruned c i
      = false → Does (.inject c i) s (fun t => t.pruned c i = true ∧ t.get F.PRN_LAST_class = c ∧ t.get
      F.PRN_LAST_cause = 7 ∧ .monitor (monFrame 0 []) ∈ t.out ∧ Counts F.MON_CMD_CNT_count s t ∧ t.get
      F.MON_STAT_priv_cmd = 1)) ∧
    (privBar s 0x16 = none → Does (.rrUnfreeze) s (fun t => t.get F.RRC_FREEZE_frozen = 0 ∧ t.ring.protCount = 0 ∧
      .monitor (monFrame 0 []) ∈ t.out ∧ Counts F.MON_CMD_CNT_count s t ∧ t.get F.MON_STAT_priv_cmd = 1 ∧ Frame
      [F.RRC_FREEZE_f.off, F.MON_CMD_CNT_count.off, F.MON_STAT_priv_cmd.off] [.monitor, .ring] s t)) ∧
    (privBar s 0x17 = none → Does (.reset) s (fun t => .monitor (monFrame 0 []) ∈ t.out ∧ t.stand.inForce = none ∧
      t.hwd.keys = [] ∧ t.mon.session = none ∧ t.dram = s.dram ∧ t.get F.BRK_CTL_boot_done = 0 ∧ Counts
      F.MON_CMD_CNT_count s t ∧ t.get F.MON_STAT_priv_cmd = 1)) ∧
    (privBar s 0x18 = none → Does (.logout) s (fun t => .monitor (monFrame 0 []) ∈ t.out ∧ t.mon.session = none ∧
      t.get F.MON_STATUS_session = 0 ∧ Counts F.MON_CMD_CNT_count s t ∧ t.get F.MON_STAT_priv_cmd = 1)) ∧
    (∀ (k : Nat) (l : List Byte), privBar s 0x10 = none → (if s.mon.lockout then 8 else authStatus s s.mon.nonce l) =
      k → k ≠ 0 → Does (.auth l) s (fun t => .monitor (monFrame k []) ∈ t.out ∧ t.mon.nonce = none ∧ t.mon.session =
      none ∧ t.mon.failures = s.mon.failures + 1 ∧ Counts F.MON_AUTH_FAIL_CNT_count s t ∧ t.get F.MON_STAT_auth_fail =
      1 ∧ (8 ≤ s.mon.failures + 1 → t.mon.lockout = true) ∧ Counts F.MON_CMD_CNT_count s t ∧ t.get F.MON_STAT_priv_cmd
      = 1)) ∧
    (∀ (l : List Byte), privBar s 0x10 = none → s.mon.lockout = false → authStatus s s.mon.nonce l = 0 → byteAt l 6 =
      0 → Does (.auth l) s (fun t => ((Config.xmssMtVerify Config.vendorKey (l.take 80) (l.drop 80)) = false →
      .monitor (monFrame 5 []) ∈ t.out) ∧ ((Config.xmssMtVerify Config.vendorKey (l.take 80) (l.drop 80)) = false →
      t.mon.nonce = none) ∧ ((Config.xmssMtVerify Config.vendorKey (l.take 80) (l.drop 80)) = false → t.mon.session =
      none) ∧ ((Config.xmssMtVerify Config.vendorKey (l.take 80) (l.drop 80)) = false → t.mon.failures =
      s.mon.failures + 1) ∧ ((Config.xmssMtVerify Config.vendorKey (l.take 80) (l.drop 80)) = false → Counts
      F.MON_AUTH_FAIL_CNT_count s t) ∧ ((Config.xmssMtVerify Config.vendorKey (l.take 80) (l.drop 80)) = false → t.get
      F.MON_STAT_auth_fail = 1) ∧ ((Config.xmssMtVerify Config.vendorKey (l.take 80) (l.drop 80)) = false → 8 ≤
      s.mon.failures + 1 → t.mon.lockout = true) ∧ Counts F.MON_CMD_CNT_count s t ∧ t.get F.MON_STAT_priv_cmd = 1 ∧
      ((Config.xmssMtVerify Config.vendorKey (l.take 80) (l.drop 80)) = true → .monitor (monFrame 0 []) ∈ t.out) ∧
      ((Config.xmssMtVerify Config.vendorKey (l.take 80) (l.drop 80)) = true → t.mon.nonce = none) ∧
      ((Config.xmssMtVerify Config.vendorKey (l.take 80) (l.drop 80)) = true → t.mon.session = some ⟨leAt l 0x4A 2,
      byteAt l 6, s.now + leAt l 0x48 2 * 1000000000⟩) ∧ ((Config.xmssMtVerify Config.vendorKey (l.take 80) (l.drop
      80)) = true → t.mon.failures = 0) ∧ ((Config.xmssMtVerify Config.vendorKey (l.take 80) (l.drop 80)) = true →
      Counts F.MON_EVCNT_auth_ok_cnt s t))) ∧
    (∀ (l : List Byte), privBar s 0x10 = none → s.mon.lockout = false → authStatus s s.mon.nonce l = 0 → byteAt l 6 =
      1 → s.hwd.lost.contains 10 = false → slotCheck s 10 13 none = none → Does (.auth l) s (fun t => ((authSigned s
      (l.take 80) (l.drop 80)) = false → .monitor (monFrame 5 []) ∈ t.out) ∧ ((authSigned s (l.take 80) (l.drop 80)) =
      false → t.mon.nonce = none) ∧ ((authSigned s (l.take 80) (l.drop 80)) = false → t.mon.session = none) ∧
      ((authSigned s (l.take 80) (l.drop 80)) = false → t.mon.failures = s.mon.failures + 1) ∧ ((authSigned s (l.take
      80) (l.drop 80)) = false → Counts F.MON_AUTH_FAIL_CNT_count s t) ∧ ((authSigned s (l.take 80) (l.drop 80)) =
      false → t.get F.MON_STAT_auth_fail = 1) ∧ ((authSigned s (l.take 80) (l.drop 80)) = false → 8 ≤ s.mon.failures +
      1 → t.mon.lockout = true) ∧ Counts F.MON_CMD_CNT_count s t ∧ t.get F.MON_STAT_priv_cmd = 1 ∧ ((authSigned s
      (l.take 80) (l.drop 80)) = true → .monitor (monFrame 0 []) ∈ t.out) ∧ ((authSigned s (l.take 80) (l.drop 80)) =
      true → t.mon.nonce = none) ∧ ((authSigned s (l.take 80) (l.drop 80)) = true → t.mon.session = some ⟨leAt l 0x4A
      2, byteAt l 6, s.now + leAt l 0x48 2 * 1000000000⟩) ∧ ((authSigned s (l.take 80) (l.drop 80)) = true →
      t.mon.failures = 0) ∧ ((authSigned s (l.take 80) (l.drop 80)) = true → Counts F.MON_EVCNT_auth_ok_cnt s t))) ∧
    (s.mon.lockout = true → Does (.authLockoutEnd) s (fun t => t.mon.lockout = false ∧ t.mon.failures = 0 ∧ Frame []
      [.monitor] s t)) ∧
    (∀ (x : MonSession), s.mon.session = some x → Does (.sessionExpiry) s (fun t => t.mon.session = none ∧ t.get
      F.MON_STATUS_session = 0 ∧ x.ends ≤ t.now ∧ Frame [F.MON_STATUS_session.off] [.monitor] (s.reach x.ends) t)) ∧
    (∀ (i : Nat), s.domOn 0 = true → s.get F.MON_CTL_priv_off = 0 → s.mon.privOff = false → coreFenced s i = false →
      Does (.monKill i) s (fun t => t.mon.session = none ∧ t.get F.MON_STATUS_session = 0 ∧ t.mon.privOff = false))

/-- PERST_L or a lost link resets Taproot and takes PD_HOST OFF; L1 and L0 move PD_HOST with the link, and L0 sends what
is pending; a BAR2 access reaches one word of DRAM or is out of range; a HELLO agrees on a version or is refused, a
PING is answered with its payload, and a request for firmware is passed on or turned away. The monitor’s permitted
REG_WRITE writes its register, and its MEM_READ and MEM_WRITE read and write the words of DRAM. -/
def Obligations.HostLink : Prop :=
  ∀ s : State,
    (Does (.perstAssert) s (fun t => t.tap.perstLow = true ∧ t.get F.TPR_LINK_pm = 2 ∧ (t.dom 27).st = .off ∧
      t.tap.msix = [] ∧ t.tap.outbox = [] ∧ t.get F.TPR_MB_VER_valid = 0 ∧ t.get (F.LFT_DMA_CFG_en 0) = 0)) ∧
    (s.tap.perstLow = true → bit (s.get F.PWR_WAKE_EN_en) 3 = true → Does (.perstRelease) s (fun t => t.tap.perstLow =
      false ∧ t.get F.PWR_WAKE_LAST_code = 4 ∧ t.get F.PWR_WAKE_LAST_domain = 27 ∧ t.get F.PWR_WAKE_LAST_detail = 0 ∧
      t.get F.PWR_STAT_wake = 1 ∧ t.power.wakeHolds.contains 4 = true ∧ Counts F.PWR_EVCNT_wake_cnt s t ∧ (bit (s.get
      F.PWR_WAKE_HOST_host) 3 = false → t.power.wakeL = false))) ∧
    (Does (.pcieLinkDown) s (fun t => t.tap.perstLow = s.tap.perstLow ∧ t.get F.TPR_LINK_pm = 2 ∧ (t.dom 27).st = .off
      ∧ t.tap.msix = [] ∧ t.get F.TPR_MB_VER_valid = 0 ∧ t.get (F.LFT_DMA_CFG_en 0) = 0)) ∧
    (s.get F.TPR_LINK_pm = 0 → s.tap.perstLow = false → LevelsAgree s → Does (.pcieL1Entry) s (fun t => t.get
      F.TPR_LINK_pm = 1 ∧ (t.dom 27).st = .ret ∧ Frame [F.TPR_LINK_pm.off] [] s t)) ∧
    (s.get F.TPR_LINK_pm = 1 → (s.dom 27).st = .ret → bit (s.get F.PWR_WAKE_EN_en) 2 = true → Does (.pcieL1Exit) s
      (fun t => (t.dom 27).st = .retToOn ∧ t.get F.PWR_WAKE_LAST_code = 3 ∧ t.get F.PWR_WAKE_LAST_domain = 27 ∧ t.get
      F.PWR_WAKE_LAST_detail = 0 ∧ t.get F.PWR_STAT_wake = 1 ∧ t.power.wakeHolds.contains 3 = true ∧ Counts
      F.PWR_EVCNT_wake_cnt s t)) ∧
    (∀ (g w : Nat), s.tap.perstLow = false → trains g w = true → Does (.pcieL0Reached g w) s (fun t => t.get
      F.TPR_LINK_pm = 0 ∧ t.get F.TPR_LINK_gen = g ∧ t.get F.TPR_LINK_width = w ∧ t.domOn 27 = true ∧ t.power.wakeL =
      false)) ∧
    (∀ (g w v : Nat), s.tap.perstLow = false → trains g w = true → v < 64 → s.tap.pba.contains v = true → (tabGet
      s.tap.msix v {}).masked = false → s.tap.funcMask = false → Does (.pcieL0Reached g w) s (fun t => .msix v (tabGet
      s.tap.msix v {}).addr (tabGet s.tap.msix v {}).data ∈ t.out)) ∧
    (∀ (v : Nat), s.tap.gapRunning.contains v = true → s.tap.coalesced.contains v = false → Does (.msixCoalesceExpiry
      v) s (fun t => t.tap.gapRunning = s.tap.gapRunning.filter (fun x => decide (x ≠ v)) ∧ Frame [] [.host] s t)) ∧
    (∀ (v : Nat), s.tap.gapRunning.contains v = true → s.tap.coalesced.contains v = true → s.owner 6 (vectorBlock v) =
      0x0800 → s.get F.TPR_LINK_pm = 0 → (tabGet s.tap.msix v {}).masked = false → s.tap.funcMask = false → Does
      (.msixCoalesceExpiry v) s (fun t => .msix v (tabGet s.tap.msix v {}).addr (tabGet s.tap.msix v {}).data ∈ t.out
      ∧ t.tap.gapRunning.contains v = decide (s.get F.TPR_COAL_us ≠ 0) ∧ t.tap.coalesced.contains v = false)) ∧
    (∀ (o a : Nat) (v : Word), s.domOn 27 = true → s.domOn 26 = true → s.get F.TPR_BAR2_WIN_win * 2 ^ 32 + o % 2 ^ 32
      / 4 * 4 = a → s.dramOk a 4 = true → Does (.bar2Access o true v) s (fun t => t.dramNat a 4 = v.toNat ∧ Frame []
      [.dram] s t ∧ (∀ b, b < a ∨ a + 4 ≤ b → memGet t.dram b = memGet s.dram b))) ∧
    (∀ (o a : Nat) (v : Word), s.domOn 27 = true → s.domOn 26 = true → s.get F.TPR_BAR2_WIN_win * 2 ^ 32 + o % 2 ^ 32
      / 4 * 4 = a → s.dramOk a 4 = true → Does (.bar2Access o false v) s (fun t => .read (BitVec.ofNat 32 (s.dramNat a
      4)) ∈ t.out ∧ Frame [] [] s t)) ∧
    (∀ (o a : Nat) (b : Bool) (v : Word), s.domOn 27 = true → s.domOn 26 = true → s.get F.TPR_BAR2_WIN_win * 2 ^ 32 +
      o % 2 ^ 32 / 4 * 4 = a → s.dramOk a 4 = false → Does (.bar2Access o b v) s (fun t => t.get F.TPR_STAT_bar2_oor =
      1 ∧ Counts F.TPR_BAR2_OOR_CNT_count s t ∧ (b = false → .read 0#32 ∈ t.out) ∧ Frame [F.TPR_STAT_bar2_oor.off,
      F.TPR_BAR2_OOR_CNT_count.off] [] s t)) ∧
    (∀ (a x y : Nat) (m : List Byte), s.domOn 26 = true → mailFront s = some a → s.dramOk a 256 = true → s.dramRead a
      256 = m → leAt m 2 2 = 1 → leAt m 4 2 ≤ 240 → chooseVersion (helloOffers (m.drop 16)) = some (x, y) → s.get
      F.TPR_MB_TH_CFG_en = 0 → Does (.mailboxHello) s (fun t => t.get F.TPR_MB_VER_valid = 1 ∧ t.get
      F.TPR_MB_VER_major = x ∧ t.get F.TPR_MB_VER_minor = y % 256 ∧ t.tap.outbox.take (s.tap.outbox.length + 1) =
      s.tap.outbox ++ [mailSlot (byteAt m 0) (byteAt m 1) (leAt m 2 2) 1 0 (leAt m 8 4) ([BitVec.ofNat 8 x,
      BitVec.ofNat 8 y, 0#8, 0#8])] ∧ t.get F.TPR_MB_TP_TAIL_index = (s.get F.TPR_MB_TP_TAIL_index % mailSlots (s.get
      F.TPR_MB_TP_CFG_log2_size) + 1) % mailSlots (s.get F.TPR_MB_TP_CFG_log2_size))) ∧
    (∀ (a : Nat) (m : List Byte), s.domOn 26 = true → mailFront s = some a → s.dramOk a 256 = true → s.dramRead a 256
      = m → leAt m 2 2 = 1 → leAt m 4 2 ≤ 240 → chooseVersion (helloOffers (m.drop 16)) = none → s.get
      F.TPR_MB_TH_CFG_en = 0 → Does (.mailboxHello) s (fun t => t.get F.TPR_MB_VER_valid = 0 ∧ t.get
      F.TPR_STAT_mb_version = 1 ∧ t.tap.outbox.take (s.tap.outbox.length + 1) = s.tap.outbox ++ [mailSlot (byteAt m 0)
      (byteAt m 1) (leAt m 2 2) 1 1 (leAt m 8 4) ([0#8, 0#8, 0#8, 0#8])] ∧ t.get F.TPR_MB_TP_TAIL_index = (s.get
      F.TPR_MB_TP_TAIL_index % mailSlots (s.get F.TPR_MB_TP_CFG_log2_size) + 1) % mailSlots (s.get
      F.TPR_MB_TP_CFG_log2_size))) ∧
    (∀ (a h n : Nat) (m : List Byte), s.domOn 26 = true → mailFront s = some a → s.dramOk a 256 = true → s.dramRead a
      256 = m → leAt m 2 2 = 2 → leAt m 4 2 ≤ 240 → s.get F.TPR_MB_VER_valid = 1 → byteAt m 0 = s.get
      F.TPR_MB_VER_major → s.get F.TPR_MB_TH_CFG_en = 1 → s.tap.outbox = [] → mailSlots (s.get
      F.TPR_MB_TH_CFG_log2_size) = n → s.get F.TPR_MB_TH_HEAD_index % n = h → (h + 1) % n ≠ s.get
      F.TPR_MB_TH_TAIL_index % n → s.dramOk (s.pair F.TPR_MB_TH_BASE_LO_addr F.TPR_MB_TH_BASE_HI_addr + 256 * h) 256 =
      true → Does (.mailboxPing) s (fun t => t.dramRead (s.pair F.TPR_MB_TH_BASE_LO_addr F.TPR_MB_TH_BASE_HI_addr +
      256 * h) 256 = mailSlot (byteAt m 0) (byteAt m 1) 2 1 0 (leAt m 8 4) (slice m 16 (leAt m 4 2)) ∧ t.get
      F.TPR_MB_TH_HEAD_index = (h + 1) % n ∧ t.tap.outbox = [] ∧ t.get F.TPR_MB_TP_TAIL_index = (s.get
      F.TPR_MB_TP_TAIL_index % mailSlots (s.get F.TPR_MB_TP_CFG_log2_size) + 1) % mailSlots (s.get
      F.TPR_MB_TP_CFG_log2_size))) ∧
    (∀ (a : Nat) (m : List Byte), s.domOn 26 = true → mailFront s = some a → s.dramOk a 256 = true → s.dramRead a 256
      = m → 0x1000 ≤ leAt m 2 2 → leAt m 2 2 ≤ 0x7FFF → mailRefusal m s = none → Does (.mailboxHostService) s (fun t
      => .toFirmware 0x5C m ∈ t.out ∧ t.dram = s.dram ∧ t.get F.TPR_MB_TP_TAIL_index = (s.get F.TPR_MB_TP_TAIL_index %
      mailSlots (s.get F.TPR_MB_TP_CFG_log2_size) + 1) % mailSlots (s.get F.TPR_MB_TP_CFG_log2_size))) ∧
    (∀ (a k : Nat) (m : List Byte), s.domOn 26 = true → mailFront s = some a → s.dramOk a 256 = true → s.dramRead a
      256 = m → leAt m 2 2 ≠ 1 → leAt m 2 2 ≠ 2 → mailRefusal m s = some k → s.get F.TPR_MB_TH_CFG_en = 0 → Does
      (.mailboxHostService) s (fun t => t.tap.outbox.take (s.tap.outbox.length + 1) = s.tap.outbox ++ [mailSlot
      (byteAt m 0) (byteAt m 1) (leAt m 2 2) 1 k (leAt m 8 4) ([])] ∧ t.get F.TPR_MB_TP_TAIL_index = (s.get
      F.TPR_MB_TP_TAIL_index % mailSlots (s.get F.TPR_MB_TP_CFG_log2_size) + 1) % mailSlots (s.get
      F.TPR_MB_TP_CFG_log2_size) ∧ (k = 1 → t.get F.TPR_STAT_mb_version = 1))) ∧
    (∀ (v : Word), privBar s 0x11 = none → s.domOn 2 = true → Does (.regWrite 0x20020 [v]) s (fun t => t.get
      F.STP_LOAD_ADDR_LO_addr = v.toNat ∧ .monitor (monFrame 0 []) ∈ t.out)) ∧
    (∀ (a n : Nat), privBar s 0x12 = none → 1 ≤ n → n ≤ 256 → a % 4 = 0 → s.domOn 26 = true → s.dramOk a (4 * n) =
      true → Does (.memRead a n) s (fun t => .monitor (monFrame 0 (s.dramRead a (4 * n))) ∈ t.out ∧ t.dram = s.dram)) ∧
    (∀ (a : Nat) (w : List Word), privBar s 0x13 = none → w ≠ [] → w.length ≤ 256 → a % 4 = 0 → s.domOn 26 = true →
      s.dramOk a (4 * w.length) = true → Does (.memWrite a w) s (fun t => t.dramRead a (4 * w.length) = w.flatMap (fun
      x => leBytes 4 x.toNat) ∧ .monitor (monFrame 0 []) ∈ t.out))

/-- A flash command starts when the port is free and the lifecycle permits it, and its end moves its bytes or reports the
failure; a valid board record is programmed once; a DIR or OUT bit follows the write on a pin that GPIO owns, only
clears on another, and setting that one is a conflict; the TAP takes its instruction, EXTEST not from DEPLOYED on.
An initiator is no pruned Crown core. -/
def Obligations.BoardAndPins : Prop :=
  ∀ s : State,
    (∀ (i : Nat), s.domOn 0 = true → s.board.flashHeld = false → s.board.flashOp = none → coreFenced s i = false →
      Does (.xspRead i) s (fun t => t.get F.XSP_CMD_busy = 1 ∧ t.get F.XSP_CMD_op = 0 ∧ t.get F.XSP_RESULT_done = 0 ∧
      t.board.flashOp = some ⟨0, s.get F.XSP_ADDR_addr, s.get F.XSP_LEN_len, s.pair F.XSP_BUF_LO_addr
      F.XSP_BUF_HI_addr⟩ ∧ t.board.flash = s.board.flash ∧ Frame [F.XSP_CMD_busy.off, F.XSP_RESULT_done.off] [.board]
      s t)) ∧
    (∀ (i : Nat), s.domOn 0 = true → s.board.flashHeld = false → s.board.flashOp = none → (lifecycle s ≤ 2 ∨ i = 6) →
      coreFenced s i = false → Does (.xspProgram i) s (fun t => t.get F.XSP_CMD_busy = 1 ∧ t.get F.XSP_CMD_op = 1 ∧
      t.get F.XSP_RESULT_done = 0 ∧ t.board.flashOp = some ⟨1, s.get F.XSP_ADDR_addr, s.get F.XSP_LEN_len, s.pair
      F.XSP_BUF_LO_addr F.XSP_BUF_HI_addr⟩ ∧ t.board.flash = s.board.flash ∧ Frame [F.XSP_CMD_busy.off,
      F.XSP_RESULT_done.off] [.board] s t)) ∧
    (∀ (i : Nat), s.domOn 0 = true → s.board.flashHeld = false → s.board.flashOp = none → (lifecycle s ≤ 2 ∨ i = 6) →
      coreFenced s i = false → Does (.xspErase i) s (fun t => t.get F.XSP_CMD_busy = 1 ∧ t.get F.XSP_CMD_op = 2 ∧
      t.get F.XSP_RESULT_done = 0 ∧ t.board.flashOp = some ⟨2, s.get F.XSP_ADDR_addr, s.get F.XSP_LEN_len, s.pair
      F.XSP_BUF_LO_addr F.XSP_BUF_HI_addr⟩ ∧ t.board.flash = s.board.flash ∧ Frame [F.XSP_CMD_busy.off,
      F.XSP_RESULT_done.off] [.board] s t)) ∧
    (∀ (i : Nat), s.domOn 0 = true → s.board.flashHeld = false → s.board.flashOp = none → coreFenced s i = false →
      Does (.xspSfdp i) s (fun t => t.get F.XSP_CMD_busy = 1 ∧ t.get F.XSP_CMD_op = 3 ∧ t.get F.XSP_RESULT_done = 0 ∧
      t.board.flashOp = some ⟨3, s.get F.XSP_ADDR_addr, s.get F.XSP_LEN_len, s.pair F.XSP_BUF_LO_addr
      F.XSP_BUF_HI_addr⟩ ∧ t.board.flash = s.board.flash ∧ Frame [F.XSP_CMD_busy.off, F.XSP_RESULT_done.off] [.board]
      s t)) ∧
    (∀ (i : Nat), s.domOn 0 = true → s.board.flashHeld = false → s.board.flashOp = none → 2 < lifecycle s → i ≠ 6 →
      coreFenced s i = false → Does (.xspProgram i) s (fun t => t.get F.XSP_RESULT_status = 1 ∧ t.get
      F.XSP_RESULT_done = 1 ∧ t.get F.XSP_STAT_err = 1 ∧ t.board = s.board)) ∧
    (∀ (i : Nat), s.domOn 0 = true → (s.board.flashHeld = true ∨ s.board.flashOp ≠ none) → coreFenced s i = false →
      Does (.xspErase i) s (fun t => t.get F.XSP_RESULT_status = 2 ∧ t.get F.XSP_RESULT_done = 1 ∧ t.get
      F.XSP_STAT_err = 1 ∧ t.board = s.board)) ∧
    (∀ (r : FlashOp), s.board.flashOp = some r → r.op = 0 → s.domOn 26 = true → s.dramOk r.buf r.len = true → Does
      (.xspComplete true []) s (fun t => t.get F.XSP_CMD_busy = 0 ∧ t.get F.XSP_RESULT_done = 1 ∧ t.get
      F.XSP_STAT_done = 1 ∧ t.board.flashOp = none ∧ t.get F.XSP_RESULT_status = 0 ∧ t.dramRead r.buf r.len =
      flashRead s r.addr r.len ∧ t.board.flash = s.board.flash)) ∧
    (∀ (r : FlashOp), s.board.flashOp = some r → r.op = 1 → s.domOn 26 = true → s.dramOk r.buf r.len = true → Does
      (.xspComplete true []) s (fun t => t.get F.XSP_CMD_busy = 0 ∧ t.get F.XSP_RESULT_done = 1 ∧ t.get
      F.XSP_STAT_done = 1 ∧ t.board.flashOp = none ∧ t.get F.XSP_RESULT_status = 0 ∧ flashRead t r.addr r.len =
      s.dramRead r.buf r.len ∧ t.dram = s.dram)) ∧
    (∀ (r : FlashOp) (a : Nat), s.board.flashOp = some r → r.op = 2 → r.addr ≤ a → a < r.addr + r.len → Does
      (.xspComplete true []) s (fun t => t.get F.XSP_CMD_busy = 0 ∧ t.get F.XSP_RESULT_done = 1 ∧ t.get
      F.XSP_STAT_done = 1 ∧ t.board.flashOp = none ∧ t.get F.XSP_RESULT_status = 0 ∧ flashByte t a = 0xFF#8 ∧ t.dram =
      s.dram)) ∧
    (∀ (r : FlashOp) (u : List Nat), s.board.flashOp = some r → Does (.xspComplete false u) s (fun t => t.get
      F.XSP_CMD_busy = 0 ∧ t.get F.XSP_RESULT_done = 1 ∧ t.get F.XSP_STAT_done = 1 ∧ t.board.flashOp = none ∧ t.get
      F.XSP_RESULT_status = 3 ∧ t.get F.XSP_STAT_err = 1 ∧ t.board.flash = s.board.flash ∧ t.dram = s.dram)) ∧
    (∀ (i a : Nat) (l : List Byte), s.domOn 26 = true → lifecycle s ≤ 1 → s.pair F.DDR_BOARD_ADDR_LO_addr
      F.DDR_BOARD_ADDR_HI_addr = a → s.dramOk a 64 = true → s.dramRead a 64 = l → boardValid l = true → otpRead s
      0x1200 64 = List.replicate 64 0#8 → coreFenced s i = false → Does (.boardRecordProgram i true true) s (fun t =>
      otpRead t 0x1200 64 = l ∧ t.get F.DDR_STAT_board_done = 1 ∧ Frame [F.DDR_STAT_board_done.off] [.stored] s t)) ∧
    (∀ (i : Nat) (b : Bool), s.domOn 26 = true → coreFenced s i = false → Does (.boardRecordProgram i false b) s (fun
      t => t.get F.DDR_STAT_board_fail = 1 ∧ Frame [F.DDR_STAT_board_fail.off] [] s t)) ∧
    (∀ (i n : Nat) (v : Word), s.domOn 0 = true → n < 32 → coreFenced s i = false → Does (.pinGpioWrite i true v) s
      (fun t => bit (t.get F.PIN_GPIO_OUT_bits) n = (if gpioOwns s 1 n then v.toNat.testBit n else bit (s.get
      F.PIN_GPIO_OUT_bits) n && v.toNat.testBit n) ∧ (v.toNat.testBit n = true → gpioOwns s 1 n = false → t.get
      F.PIN_STAT_conflict = 1 ∧ t.get F.STP_STAT_conflict = 1))) ∧
    (∀ (i n : Nat) (v : Word), s.domOn 0 = true → n < 32 → coreFenced s i = false → Does (.pinGpioWrite i false v) s
      (fun t => bit (t.get F.PIN_GPIO_DIR_bits) n = (if gpioOwns s 1 n then v.toNat.testBit n else bit (s.get
      F.PIN_GPIO_DIR_bits) n && v.toNat.testBit n) ∧ (v.toNat.testBit n = true → gpioOwns s 1 n = false → t.get
      F.PIN_STAT_conflict = 1 ∧ t.get F.STP_STAT_conflict = 1))) ∧
    (∀ (i n : Nat) (v : Word), s.domOn 0 = true → n < 12 → coreFenced s i = false → Does (.pinCxWrite i true v) s (fun
      t => bit (t.get F.PIN_CX_OUT_bits) n = (if gpioOwns s 3 n then v.toNat.testBit n else bit (s.get
      F.PIN_CX_OUT_bits) n && v.toNat.testBit n) ∧ (v.toNat.testBit n = true → gpioOwns s 3 n = false → t.get
      F.PIN_STAT_conflict = 1 ∧ t.get F.STP_STAT_conflict = 1))) ∧
    (∀ (i n : Nat) (v : Word), s.domOn 0 = true → n < 12 → coreFenced s i = false → Does (.pinCxWrite i false v) s
      (fun t => bit (t.get F.PIN_CX_DIR_bits) n = (if gpioOwns s 3 n then v.toNat.testBit n else bit (s.get
      F.PIN_CX_DIR_bits) n && v.toNat.testBit n) ∧ (v.toNat.testBit n = true → gpioOwns s 3 n = false → t.get
      F.PIN_STAT_conflict = 1 ∧ t.get F.STP_STAT_conflict = 1))) ∧
    (∀ (c : Nat), Does (.tapInstruction c) s (fun t => t.board.tap = (if 3 < c then 1 else if c = 3 ∧ 2 < lifecycle s
      then 1 else c) ∧ Frame [] [.board] s t))
end

