-- ==== Sys2Proof/Laws/Tables.lean ====
section
/-!
SUPPORT. Laws of sparse tables: a read after a write, order of the keys.
-/

namespace Sys2Proof.Machine

variable {α : Type}

@[simp] theorem tabGet_erase_same (t : Tab α) (k : Nat) (d : α) : tabGet (tabErase t k) k d = d := by
  induction t with
  | nil => rfl
  | cons x rest ih =>
    obtain ⟨k', v⟩ := x
    by_cases h : k' = k <;> simp [tabErase, tabGet, h, ih]

theorem tabGet_erase_ne (t : Tab α) {k j : Nat} (d : α) (h : j ≠ k) : tabGet (tabErase t k) j d = tabGet t j d := by
  induction t with
  | nil => rfl
  | cons x rest ih =>
    obtain ⟨k', v⟩ := x
    by_cases hk : k' = k
    · have : k' ≠ j := fun e => h (e ▸ hk)
      simp [tabErase, tabGet, hk, ih, Ne.symm h]
    · simp [tabErase, tabGet, hk, ih]

theorem tabGet_erase_absent (t : Tab α) (k : Nat) (d : α) : tabGet t k d = d ∨ ∃ v, tabFind t k = some v := by
  induction t with
  | nil => exact .inl rfl
  | cons x rest ih =>
    obtain ⟨k', v⟩ := x
    by_cases h : k' = k
    · exact .inr ⟨v, by simp [tabFind, h]⟩
    · simpa [tabGet, tabFind, h] using ih

theorem tabGet_insert_ne (t : Tab α) {k j : Nat} (v d : α) (h : j ≠ k) : tabGet (tabInsert t k v) j d = tabGet t j d := by
  induction t with
  | nil => simp [tabInsert, tabGet, Ne.symm h]
  | cons x rest ih =>
    obtain ⟨k', v'⟩ := x
    by_cases hk : k < k'
    · simp [tabInsert, tabGet, hk, Ne.symm h]
    · simp only [tabInsert, hk, if_false, tabGet, ih]

/-- A table without key `k`: no entry of it has that key. -/
def tabFree (t : Tab α) (k : Nat) : Prop := ∀ x ∈ t, x.1 ≠ k

theorem tabFree_erase (t : Tab α) (k : Nat) : tabFree (tabErase t k) k := by
  induction t with
  | nil => intro x hx; cases hx
  | cons x rest ih =>
    obtain ⟨k', v⟩ := x
    by_cases h : k' = k
    · simpa [tabErase, h] using ih
    · intro y hy
      simp only [tabErase, h, if_false] at hy
      rcases List.mem_cons.mp hy with rfl | hy
      · exact h
      · exact ih y hy

theorem tabGet_insert_same (t : Tab α) (k : Nat) (v d : α) (h : tabFree t k) : tabGet (tabInsert t k v) k d = v := by
  induction t with
  | nil => simp [tabInsert, tabGet]
  | cons x rest ih =>
    obtain ⟨k', v'⟩ := x
    have hk : k' ≠ k := h (k', v') (List.mem_cons_self ..)
    have hr : tabFree rest k := fun y hy => h y (List.mem_cons_of_mem _ hy)
    by_cases hlt : k < k' <;> simp [tabInsert, tabGet, hlt, hk, ih hr]

@[simp] theorem tabGet_put_same (t : Tab α) (k : Nat) (v d : α) : tabGet (tabPut t k v) k d = v :=
  tabGet_insert_same _ k v d (tabFree_erase t k)

theorem tabGet_put_ne (t : Tab α) {k j : Nat} (v d : α) (h : j ≠ k) : tabGet (tabPut t k v) j d = tabGet t j d := by
  rw [tabPut, tabGet_insert_ne _ v d h, tabGet_erase_ne _ d h]

/-- Every key of a table lies above `k`. -/
def tabAbove (t : Tab α) (k : Nat) : Prop := ∀ x ∈ t, k < x.1

theorem tabSorted_cons (k : Nat) (v : α) (rest : Tab α) :
    tabSorted ((k, v) :: rest) = true ↔ tabAbove rest k ∧ tabSorted rest = true := by
  induction rest generalizing k v with
  | nil => simp [tabSorted, tabAbove]
  | cons x rest ih =>
    obtain ⟨k', v'⟩ := x
    rw [tabSorted, Bool.and_eq_true, decide_eq_true_eq]
    constructor
    · rintro ⟨h, hs⟩
      refine ⟨fun y hy => ?_, hs⟩
      rcases List.mem_cons.mp hy with rfl | hy
      · exact h
      · exact Nat.lt_trans h (((ih k' v').mp hs).1 y hy)
    · rintro ⟨h, hs⟩
      exact ⟨h (k', v') (List.mem_cons_self ..), hs⟩

theorem tabAbove_erase {t : Tab α} {j : Nat} (k : Nat) (h : tabAbove t j) : tabAbove (tabErase t k) j := by
  induction t with
  | nil => exact h
  | cons x rest ih =>
    obtain ⟨k', v⟩ := x
    have hr : tabAbove rest j := fun y hy => h y (List.mem_cons_of_mem _ hy)
    by_cases hk : k' = k
    · simpa [tabErase, hk] using ih hr
    · intro y hy
      simp only [tabErase, hk, if_false] at hy
      rcases List.mem_cons.mp hy with rfl | hy
      · exact h _ (List.mem_cons_self ..)
      · exact ih hr y hy

theorem tabSorted_erase (t : Tab α) (k : Nat) (h : tabSorted t = true) : tabSorted (tabErase t k) = true := by
  induction t with
  | nil => exact h
  | cons x rest ih =>
    obtain ⟨k', v⟩ := x
    have ⟨ha, hs⟩ := (tabSorted_cons k' v rest).mp h
    by_cases hk : k' = k
    · simpa [tabErase, hk] using ih hs
    · simp only [tabErase, hk, if_false]
      exact (tabSorted_cons k' v _).mpr ⟨tabAbove_erase k ha, ih hs⟩

theorem tabAbove_insert {t : Tab α} {j k : Nat} (v : α) (h : tabAbove t j) (hk : j < k) : tabAbove (tabInsert t k v) j := by
  induction t with
  | nil =>
    intro y hy
    simp only [tabInsert, List.mem_singleton] at hy
    exact hy ▸ hk
  | cons x rest ih =>
    obtain ⟨k', v'⟩ := x
    have hr : tabAbove rest j := fun y hy => h y (List.mem_cons_of_mem _ hy)
    intro y hy
    by_cases hlt : k < k'
    · simp only [tabInsert, hlt, if_true] at hy
      rcases List.mem_cons.mp hy with rfl | hy
      · exact hk
      · exact h y hy
    · simp only [tabInsert, hlt, if_false] at hy
      rcases List.mem_cons.mp hy with rfl | hy
      · exact h _ (List.mem_cons_self ..)
      · exact ih hr y hy

theorem tabSorted_insert (t : Tab α) (k : Nat) (v : α) (h : tabSorted t = true) (hf : tabFree t k) :
    tabSorted (tabInsert t k v) = true := by
  induction t with
  | nil => rfl
  | cons x rest ih =>
    obtain ⟨k', v'⟩ := x
    have ⟨ha, hs⟩ := (tabSorted_cons k' v' rest).mp h
    have hne : k' ≠ k := hf (k', v') (List.mem_cons_self ..)
    have hr : tabFree rest k := fun y hy => hf y (List.mem_cons_of_mem _ hy)
    by_cases hlt : k < k'
    · simp only [tabInsert, hlt, if_true]
      refine (tabSorted_cons k v _).mpr ⟨fun y hy => ?_, h⟩
      rcases List.mem_cons.mp hy with rfl | hy
      · exact hlt
      · exact Nat.lt_trans hlt (ha y hy)
    · simp only [tabInsert, hlt, if_false]
      exact (tabSorted_cons k' v' _).mpr ⟨tabAbove_insert v ha (by omega), ih hs hr⟩

/-- A write keeps the keys in order. -/
theorem tabSorted_put (t : Tab α) (k : Nat) (v : α) (h : tabSorted t = true) : tabSorted (tabPut t k v) = true :=
  tabSorted_insert _ k v (tabSorted_erase t k h) (tabFree_erase t k)

theorem mem_tabInsert {t : Tab α} {k : Nat} {v : α} {x : Nat × α} (h : x ∈ tabInsert t k v) : x = (k, v) ∨ x ∈ t := by
  induction t with
  | nil => exact .inl (List.mem_singleton.mp h)
  | cons y rest ih =>
    obtain ⟨k', v'⟩ := y
    by_cases hlt : k < k'
    · simp only [tabInsert, hlt, if_true] at h
      exact List.mem_cons.mp h
    · simp only [tabInsert, hlt, if_false] at h
      rcases List.mem_cons.mp h with rfl | h
      · exact .inr (List.mem_cons_self ..)
      · exact (ih h).imp_right (List.mem_cons_of_mem _)

theorem mem_tabErase {t : Tab α} {k : Nat} {x : Nat × α} (h : x ∈ tabErase t k) : x ∈ t := by
  induction t with
  | nil => exact h
  | cons y rest ih =>
    obtain ⟨k', v'⟩ := y
    by_cases hk : k' = k
    · simp only [tabErase, hk, if_true] at h
      exact List.mem_cons_of_mem _ (ih h)
    · simp only [tabErase, hk, if_false] at h
      rcases List.mem_cons.mp h with rfl | h
      · exact List.mem_cons_self ..
      · exact List.mem_cons_of_mem _ (ih h)

end Sys2Proof.Machine
end

