-- ==== Sys2Proof/Laws/Memory.lean ====
section
/-!
SUPPORT. Laws of DRAM: a read after a write, and the canonical form, which every memory operation keeps.
-/

namespace Sys2Proof.Machine

@[simp] theorem memGet_memPut_same (m : List Host.Cell) (a : Nat) (b : Byte) : memGet (memPut m a b) a = b := by
  unfold memPut memGet
  split
  · next h => rw [h]; exact tabGet_erase_same m a 0#8
  · exact tabGet_put_same m a b 0#8

theorem memGet_memPut_ne (m : List Host.Cell) {a c : Nat} (b : Byte) (h : c ≠ a) : memGet (memPut m a b) c = memGet m c := by
  unfold memPut memGet
  split
  · exact tabGet_erase_ne m 0#8 h
  · exact tabGet_put_ne m b 0#8 h

theorem Memory.wf_iff (m : List Host.Cell) : Memory.wf m = true ↔ tabSorted m = true ∧ ∀ c ∈ m, c.2 ≠ 0#8 := by
  simp [Memory.wf]

/-- The write of one byte keeps the canonical form. -/
theorem Memory.wf_memPut (m : List Host.Cell) (a : Nat) (b : Byte) (h : Memory.wf m = true) : Memory.wf (memPut m a b) = true := by
  obtain ⟨hs, hz⟩ := (Memory.wf_iff m).mp h
  rw [Memory.wf_iff]
  unfold memPut
  split
  · exact ⟨tabSorted_erase m a hs, fun c hc => hz c (mem_tabErase hc)⟩
  · next hb =>
    refine ⟨tabSorted_put m a b hs, fun c hc => ?_⟩
    rcases mem_tabInsert hc with rfl | hc
    · exact hb
    · exact hz c (mem_tabErase hc)

/-- The write of bytes keeps the canonical form. -/
theorem Memory.wf_memWrite (l : List Byte) (m : List Host.Cell) (a : Nat) (h : Memory.wf m = true) :
    Memory.wf (memWrite m a l) = true := by
  induction l generalizing m a with
  | nil => exact h
  | cons b rest ih => exact ih _ _ (Memory.wf_memPut m a b h)

/-- The write of DRAM keeps the canonical form. -/
theorem State.dramWrite_wf (s : State) (a : Nat) (l : List Byte) (h : Memory.wf s.dram = true) :
    Memory.wf (s.dramWrite a l).dram = true := Memory.wf_memWrite l s.dram a h

theorem State.reset_dram_wf : Memory.wf State.reset.dram = true := rfl

/-- A byte outside the bytes written reads as before. -/
theorem memGet_memWrite_outside (l : List Byte) (m : List Host.Cell) {a c : Nat} (h : c < a ∨ a + l.length ≤ c) :
    memGet (memWrite m a l) c = memGet m c := by
  induction l generalizing m a with
  | nil => rfl
  | cons b rest ih =>
    simp only [List.length_cons] at h
    rw [memWrite, ih _ (by omega), memGet_memPut_ne _ _ (by omega)]

/-- A byte among the bytes written reads as it was written. -/
theorem memGet_memWrite_inside (l : List Byte) (m : List Host.Cell) (a i : Nat) (h : i < l.length) :
    memGet (memWrite m a l) (a + i) = l[i] := by
  induction l generalizing m a i with
  | nil => simp at h
  | cons b rest ih =>
    cases i with
    | zero => rw [memWrite, memGet_memWrite_outside _ _ (by omega)]; simp
    | succ i =>
      have := ih (memPut m a b) (a + 1) i (by simpa using h)
      rw [memWrite, show a + (i + 1) = a + 1 + i by omega]
      simpa using this

/-- Reading back the bytes written gives them. -/
theorem memRead_memWrite (l : List Byte) (m : List Host.Cell) (a : Nat) : memRead (memWrite m a l) a l.length = l := by
  induction l generalizing m a with
  | nil => rfl
  | cons b rest ih =>
    rw [List.length_cons, memRead, memWrite, ih, memGet_memWrite_outside _ _ (by omega), memGet_memPut_same]

end Sys2Proof.Machine
end

