-- ==== Sys2Proof/WellFormed.lean ====
section
/-!
DEFINITION. Which commands are well-formed: every number that names a unit or a place names one the part has.
The meanings take ill-formed commands too, and leave the state as it is where the number names nothing.
-/

namespace Sys2Proof

/-- An initiator as PWR_FENCE_STAT codes it (R372). -/
def isInitiator (n : Nat) : Bool := decide (n ≤ 6)

/-- A Crown core. -/
def isCore (n : Nat) : Bool := decide (n < 4)

/-- A clock crossing (R11). -/
def isCrossing (n : Nat) : Bool := decide (n < 28)

/-- A TX limb (R119), and a host queue (R233). -/
def isLimb (n : Nat) : Bool := decide (n < 8)

/-- A lane (R93). -/
def isLane (n : Nat) : Bool := decide (n < 544)

/-- An Ethernet port (R406). -/
def isPort (n : Nat) : Bool := decide (n < 4)

/-- An RX chain (R50), an element of a look vector and a pace monitor. -/
def isChain (n : Nat) : Bool := decide (n < 16)

/-- A window (R63). -/
def isWindow (n : Nat) : Bool := decide (n < 4)

/-- A bin (R64). -/
def isBin (n : Nat) : Bool := decide (n < 1024)

/-- A beam stream (R72). -/
def isStream (n : Nat) : Bool := decide (n < 2048)

/-- A lane pool (R33). -/
def isPool (n : Nat) : Bool := decide (n < 16)

/-- One of four: RX groups, beams, coexistence sets, lane banks, channels of a timer unit. -/
def isGroup4 (n : Nat) : Bool := decide (n < 4)

/-- One of two: limb groups, key-engine channels, words of a seed. -/
def isPair (n : Nat) : Bool := decide (n < 2)

/-- A timeslot number (R160). -/
def isAsn (n : Nat) : Bool := decide (n < 2 ^ 40)

/-- A cell of the schedule store (R24, R163). -/
def isCell (n : Nat) : Bool := decide (n < 2 ^ 19)

/-- A leaf (R195). -/
def isLid (n : Nat) : Bool := decide (n < 2 ^ 17)

/-- A timer unit (R261) and a GPIO pin. -/
def isUnit (n : Nat) : Bool := decide (n < 32)

/-- A key slot (R284). -/
def isSlot (n : Nat) : Bool := decide (n < 64)

/-- A Bark sensor (R320). -/
def isSensor (n : Nat) : Bool := decide (n < 10)

/-- A service (R367). -/
def isService (n : Nat) : Bool := decide (n < 7)

/-- A power domain (R364). -/
def isDomain (n : Nat) : Bool := decide (n < 28)

/-- Chips of a bud pattern (R380). -/
def isMatched (n : Nat) : Bool := decide (n ≤ 64)

/-- A shaper (R235). -/
def isShaper (n : Nat) : Bool := decide (n < 96)

/-- A meter (R238). -/
def isMeter (n : Nat) : Bool := decide (n < 4096)

/-- An MSI-X vector (R414). -/
def isVector (n : Nat) : Bool := decide (n < 64)

/-- A range of a profile (R145). -/
def isRange (n : Nat) : Bool := decide (n < 12)

/-- A value of 16 bits. -/
def isHalfWord (n : Nat) : Bool := decide (n < 2 ^ 16)

/-- A value of 8 bits. -/
def isByte (n : Nat) : Bool := decide (n < 256)

/-- A channel in 100 kHz (R127). -/
def isChannel (n : Nat) : Bool := decide (n < 2 ^ 15)

/-- A table DMA ring (R209). -/
def isRing (n : Nat) : Bool := decide (n < 2)

/-- An allocation of the packet buffer (R225). -/
def isAlloc (n : Nat) : Bool := decide (n < 6)

/-- An index of the ring record as the monitor takes it (R402). -/
def isRingIndex (n : Nat) : Bool := decide (n < 2 ^ 16)

/-- An image type (R333). -/
def isType (n : Nat) : Bool := decide (1 ≤ n ∧ n ≤ 5)

/-- A router of the grove (R351). -/
def isPeer (n : Nat) : Bool := decide (n < 64)

/-- A leaf set (R212). -/
def isSet (n : Nat) : Bool := decide (n < 4096)

/-- An SRAM bank (R383). -/
def isBank (n : Nat) : Bool := decide (n < 296)

/-- A wake source (R378). -/
def isWakeCode (n : Nat) : Bool := decide (1 ≤ n ∧ n ≤ 11)

/-- A word of a shaper or meter. -/
def isWordOf8 (n : Nat) : Bool := decide (n < 8)

/-- A byte of BAR0 (R23). -/
def isBarByte (n : Nat) : Bool := decide (n < 2 ^ 26)

/-- Bytes of an access of up to a word (R5). -/
def isWidth (n : Nat) : Bool := decide (n = 1 ∨ n = 2 ∨ n = 4)

/-- A word of BAR0 (R4). -/
def isOffset (n : Nat) : Bool := decide (n < 2 ^ 26 ∧ n % 4 = 0)

/-- A detection names a stream, a format and a mode (R84, R93). -/
def isDetection (d : Detection) : Bool := isStream d.stream && decide (d.format < 3) && decide (d.mode < 8)

/-- Quiet-map samples name bins and RX groups (R69). -/
def quietsOk (l : List QuietSample) : Bool := l.all (fun q => isBin q.bin && isGroup4 q.group)

/-- Power reports name chains (R57). -/
def reportsOk (l : List ChainSample) : Bool := l.all (fun r => isChain r.chain)

/-- Whether a command is well-formed. -/
def WellFormed (i : Instr) : Bool :=
  match i with
  | .porLRelease => true
  | .resetLRelease => true
  | .supplyMonitorTrip _ => true
  | .supplyGood => true
  | .registerWrite initiator off _ _ => isInitiator initiator && isOffset off
  | .pciePartialWrite off _ => isBarByte off
  | .crownNarrowStore core off bytes _ => isCore core && isBarByte off && isWidth bytes
  | .crownWideAccess core => isCore core
  | .unmappedAccess off _ => isOffset off
  | .tableWindowWrite initiator off _ => isInitiator initiator && isOffset off
  | .fifoOverflow crossing _ => isCrossing crossing
  | .gapMark crossing _ => isCrossing crossing
  | .paceUpdate pace monitor _ => isHalfWord pace && isChain monitor
  | .stallWatchdogExpiry cls inst => isByte cls && isHalfWord inst
  | .bootSequence _ _ _ _ => true
  | .liveRestandGo initiator _ _ => isInitiator initiator
  | .liveRestandCancel initiator => isInitiator initiator
  | .restandVerifyDone => true
  | .restandArm => true
  | .lateLaneJoin lane => isLane lane
  | .restandPersist => true
  | .overloadDetect chain => isChain chain
  | .saturationStart chain => isChain chain
  | .saturationEnd chain => isChain chain
  | .extLnaSettleEnd chain => isChain chain
  | .timeslotEdge quiets reports => quietsOk quiets && reportsOk reports
  | .cnpClkWrite initiator _ => isInitiator initiator
  | .samplingClockLock => true
  | .cnvclkFail => true
  | .windowFilled window => isWindow window
  | .spareSliceLoaded => true
  | .qmapStale bin group => isBin bin && isGroup4 group
  | .covarianceBlock bin _ => isBin bin
  | .blindWeightRecompute bin => isBin bin
  | .spcLookWrite initiator window beam element _ => isInitiator initiator && (isWindow window && isGroup4 beam && isChain element)
  | .partitionMismatch window _ => isWindow window
  | .preambleDetect d => isDetection d
  | .laneArbiterRound pool => isPool pool
  | .laneRequestRefused stream => isStream stream
  | .delimiterFound lane _ _ _ _ => isLane lane
  | .phrDecode lane _ _ _ => isLane lane
  | .eqReset lane _ => isLane lane
  | .sfdWaitTimeout lane => isLane lane
  | .lostSignal lane _ _ _ => isLane lane
  | .laneFrameComplete lane _ _ _ => isLane lane
  | .laneSelftest initiator lane => isInitiator initiator && isLane lane
  | .laneSelftestDone lane _ _ => isLane lane
  | .laneReadmit initiator lane => isInitiator initiator && isLane lane
  | .spareTestTimer bank => isGroup4 bank
  | .txlPowerWrite initiator limb _ => isInitiator initiator && isLimb limb
  | .limbStandbyReached limb => isLimb limb
  | .synthLock limb => isLimb limb
  | .calibrationDone limb _ _ => isLimb limb
  | .acquisitionFail limb => isLimb limb
  | .limbIdleTimeout limb => isLimb limb
  | .txDescriptorArrival limb => isLimb limb
  | .paEnRise limb => isLimb limb
  | .txRampStart limb _ _ => isLimb limb
  | .lockDeadline limb => isLimb limb
  | .txLaunch limb => isLimb limb
  | .txFrameEnd limb => isLimb limb
  | .txTailEnd limb => isLimb limb
  | .paEnFall limb => isLimb limb
  | .txLockLost limb => isLimb limb
  | .calFlush initiator limb => isInitiator initiator && isLimb limb
  | .calRequest initiator limb chan => isInitiator initiator && (isLimb limb && isChannel chan)
  | .bgCalStart limb => isLimb limb
  | .limbTempRead limb _ => isLimb limb
  | .gangWrite initiator group _ => isInitiator initiator && isPair group
  | .gangLeaderTakeover group => isPair group
  | .cxEnable initiator set _ => isInitiator initiator && isGroup4 set
  | .cxRequest limb => isLimb limb
  | .cxGntFall set_ => isGroup4 set_
  | .dutyBucketAdvance range _ => isRange range
  | .profileOtpProgram initiator _ _ => isInitiator initiator
  | .profileSwitch => true
  | .cellRead asn _ => isAsn asn
  | .frameJudge _ => true
  | .keyCacheMiss lid _ => isLid lid
  | .cellMiss asn cell => isAsn asn && isCell cell
  | .tpBeaconMiss asn cell => isAsn asn && isCell cell
  | .txCompletion _ => true
  | .levTailWrite initiator _ => isInitiator initiator
  | .resyncWaitExpiry lid => isLid lid
  | .resyncBurst asn _ => isAsn asn
  | .fwHeartbeat initiator _ => isInitiator initiator
  | .fwHeartbeatMiss => true
  | .apEnterRequest initiator => isInitiator initiator
  | .autopilotReduced => true
  | .apResume initiator => isInitiator initiator
  | .dmaHeadAdvance initiator ring head _ _ => isInitiator initiator && (isRing ring && isHalfWord head)
  | .dmaLockTimeout ring _ => isRing ring
  | .ageSweep => true
  | .lrnSeedWrite initiator word _ => isInitiator initiator && isPair word
  | .bghSetStage initiator set _ => isInitiator initiator && isSet set
  | .bghSetCommit initiator set _ => isInitiator initiator && isSet set
  | .ethFrameRx port _ _ _ => isPort port
  | .spillFetch lid _ => isLid lid
  | .portTransmitOpportunity port _ => isPort port
  | .hostqTpHeadAdvance initiator queue head _ _ => isInitiator initiator && (isLimb queue && isHalfWord head)
  | .hostqThTailAdvance initiator queue tail => isInitiator initiator && (isLimb queue && isHalfWord tail)
  | .trfReserveWrite initiator alloc _ => isInitiator initiator && isAlloc alloc
  | .shaperConfigWrite initiator shaper word _ => isInitiator initiator && (isShaper shaper && isWordOf8 word)
  | .shaperCreditZero shaper => isShaper shaper
  | .meterConfigWrite initiator meter word _ => isInitiator initiator && (isMeter meter && isWordOf8 word)
  | .tmbIncHiWrite initiator _ => isInitiator initiator
  | .tmbIncCommit initiator _ => isInitiator initiator
  | .tmbStep initiator => isInitiator initiator
  | .tmbRearm initiator _ => isInitiator initiator
  | .tmbTrack initiator => isInitiator initiator
  | .tmbHoldEnter initiator => isInitiator initiator
  | .tmbHoldExit initiator => isInitiator initiator
  | .ppsInEdge => true
  | .ppsInLost => true
  | .ppsCapRead initiator => isInitiator initiator
  | .ppsOutRise => true
  | .ppsOutEnd => true
  | .synceResume => true
  | .tmuRunWrite initiator unit _ => isInitiator initiator && isUnit unit
  | .tmuCntWrite initiator unit _ _ => isInitiator initiator && isUnit unit
  | .tmuCntRead initiator unit => isInitiator initiator && isUnit unit
  | .tmuOverflow unit => isUnit unit
  | .tmuCompareMatch unit channel => isUnit unit && isGroup4 channel
  | .tmuCcvWrite initiator unit channel _ => isInitiator initiator && (isUnit unit && isGroup4 channel)
  | .tmuCapture unit channel => isUnit unit && isGroup4 channel
  | .tmuCcvRead initiator unit channel => isInitiator initiator && (isUnit unit && isGroup4 channel)
  | .tmuModeChange initiator unit channel _ => isInitiator initiator && (isUnit unit && isGroup4 channel)
  | .tmuLinkEvent => true
  | .tmuOutEnable initiator unit _ => isInitiator initiator && isUnit unit
  | .remaskTick _ => true
  | .leafImport initiator channel slot _ => isInitiator initiator && (isPair channel && isSlot slot)
  | .leafDerive initiator channel slot => isInitiator initiator && (isPair channel && isSlot slot)
  | .leafDrop initiator channel => isInitiator initiator && isPair channel
  | .cacheFlush initiator channel => isInitiator initiator && isPair channel
  | .random initiator channel => isInitiator initiator && isPair channel
  | .replicaWrap initiator channel slot _ => isInitiator initiator && (isPair channel && isSlot slot)
  | .replicaImport initiator channel slot _ => isInitiator initiator && (isPair channel && isSlot slot)
  | .hwdCmdComplete channel _ => isPair channel
  | .sweepVisit _ => true
  | .entropyFail => true
  | .entropyRetest _ => true
  | .keyUpdate initiator channel => isInitiator initiator && isPair channel
  | .pubkeys initiator channel => isInitiator initiator && isPair channel
  | .witness initiator channel _ _ => isInitiator initiator && isPair channel
  | .rrExport initiator channel _ _ => isInitiator initiator && isPair channel
  | .rrVerify initiator channel _ => isInitiator initiator && isPair channel
  | .signTokenRefill => true
  | .barkSensorEvent sensor _ _ => isSensor sensor
  | .barkEpisodeEnd sensor => isSensor sensor
  | .barkClassWrite initiator sensor _ => isInitiator initiator && isSensor sensor
  | .barkPersist initiator => isInitiator initiator
  | .lcNewNonce initiator => isInitiator initiator
  | .lifecycleTransition initiator _ _ => isInitiator initiator
  | .lcProgramDone _ => true
  | .graftApply graft_ _ => isType graft_
  | .graftApplyDone => true
  | .manChunk port _ _ => isPort port
  | .piece port _ _ => isPort port
  | .want port _ _ => isPort port
  | .done port _ _ => isPort port
  | .relayWantTimer graft_ => isType graft_
  | .pollenPiece _ => true
  | .pollenWant _ => true
  | .pollenAnnounce _ => true
  | .planGo initiator => isInitiator initiator
  | .planActivate => true
  | .healthFail => true
  | .healthCheckEnd => true
  | .planCancel initiator => isInitiator initiator
  | .crownConfirm initiator => isInitiator initiator
  | .graftDiscard initiator => isInitiator initiator
  | .helloTimer => true
  | .hello port _ _ => isPort port
  | .helloAck port _ _ => isPort port
  | .hbEnable initiator _ => isInitiator initiator
  | .heartbeatMark => true
  | .heartbeat port _ _ => isPort port
  | .own port _ _ => isPort port
  | .ownReq port _ _ => isPort port
  | .digest port _ _ => isPort port
  | .shadow port _ _ => isPort port
  | .shadowKey port _ _ => isPort port
  | .rank2AdoptTimer peer => isPeer peer
  | .budgetWrite initiator service _ => isInitiator initiator && isService service
  | .domainIdleExpiry domain => isDomain domain
  | .domainEntryDone domain => isDomain domain
  | .domainOnReached domain => isDomain domain
  | .domainForceWrite initiator domain _ => isInitiator initiator && isDomain domain
  | .sleepingAccess initiator off _ _ => isInitiator initiator && isOffset off
  | .opRequest initiator _ _ => isInitiator initiator
  | .opVoltageSettled => true
  | .vcoreLoopTick _ => true
  | .avsRetry initiator => isInitiator initiator
  | .linkUp port => isPort port
  | .linkDown port _ _ _ _ => isPort port
  | .ethCfgWrite initiator port _ => isInitiator initiator && isPort port
  | .pcieL1Exit => true
  | .perstAssert => true
  | .perstRelease => true
  | .wakeIn => true
  | .gpioWakeEdge pin _ => isUnit pin
  | .wakeHoldExpiry code => isWakeCode code
  | .budWindowOpen => true
  | .budWindowClose => true
  | .budDetect matched => isMatched matched
  | .unitFault _ _ => true
  | .sramCorrectableError bank _ => isBank bank
  | .bankCopyDone bank => isBank bank
  | .lockstepMismatch => true
  | .prnReadmit initiator cls inst => isInitiator initiator && (isByte cls && isHalfWord inst)
  | .readmitDone _ => true
  | .prnInject initiator cls inst => isInitiator initiator && (isByte cls && isHalfWord inst)
  | .rrcFreeze initiator => isInitiator initiator
  | .rrcUnfreeze initiator => isInitiator initiator
  | .pfailFall => true
  | .rrFlushDone => true
  | .ident => true
  | .rrInfo => true
  | .rrRead index _ _ => isRingIndex index
  | .regRead _ _ => true
  | .challenge => true
  | .setBaud _ => true
  | .setBaudTimeout => true
  | .auth _ => true
  | .regWrite _ _ => true
  | .memRead _ _ => true
  | .memWrite _ _ => true
  | .readmit cls inst => isByte cls && isHalfWord inst
  | .inject cls inst => isByte cls && isHalfWord inst
  | .rrUnfreeze => true
  | .reset => true
  | .logout => true
  | .monFrameTimeout => true
  | .sessionExpiry => true
  | .monKill initiator => isInitiator initiator
  | .authLockoutEnd => true
  | .bar2Access _ _ _ => true
  | .msixCoalesceExpiry vector => isVector vector
  | .mailboxHello => true
  | .mailboxPing => true
  | .mailboxHostService => true
  | .boardRecordProgram initiator _ _ => isInitiator initiator
  | .xspRead initiator => isInitiator initiator
  | .xspProgram initiator => isInitiator initiator
  | .xspErase initiator => isInitiator initiator
  | .xspSfdp initiator => isInitiator initiator
  | .xspComplete _ _ => true
  | .pinGpioWrite initiator _ _ => isInitiator initiator
  | .pinCxWrite initiator _ _ => isInitiator initiator
  | .pcieLinkDown => true
  | .pcieL1Entry => true
  | .pcieL0Reached _ _ => true
  | .ethSignalDetect port => isPort port
  | .monRxdStartBit => true
  | .monBadCrcFrame _ => true
  | .pfailLRise => true
  | .secRestartDone => true
  | .crownUnmappedAccess core _ => isCore core
  | .tapInstruction _ => true
  | .schedulePreWake asn cell => isAsn asn && isCell cell
  | .lateCatchHoldEnd asn cell => isAsn asn && isCell cell

/-- The initiator a command names, if any. -/
def initiatorOf (i : Instr) : Option Nat :=
  match i with
  | .registerWrite n _ _ _ => some n
  | .tableWindowWrite n _ _ => some n
  | .liveRestandGo n _ _ => some n
  | .liveRestandCancel n => some n
  | .cnpClkWrite n _ => some n
  | .spcLookWrite n _ _ _ _ => some n
  | .laneSelftest n _ => some n
  | .laneReadmit n _ => some n
  | .txlPowerWrite n _ _ => some n
  | .calFlush n _ => some n
  | .calRequest n _ _ => some n
  | .gangWrite n _ _ => some n
  | .cxEnable n _ _ => some n
  | .profileOtpProgram n _ _ => some n
  | .levTailWrite n _ => some n
  | .fwHeartbeat n _ => some n
  | .apEnterRequest n => some n
  | .apResume n => some n
  | .dmaHeadAdvance n _ _ _ _ => some n
  | .lrnSeedWrite n _ _ => some n
  | .bghSetStage n _ _ => some n
  | .bghSetCommit n _ _ => some n
  | .hostqTpHeadAdvance n _ _ _ _ => some n
  | .hostqThTailAdvance n _ _ => some n
  | .trfReserveWrite n _ _ => some n
  | .shaperConfigWrite n _ _ _ => some n
  | .meterConfigWrite n _ _ _ => some n
  | .tmbIncHiWrite n _ => some n
  | .tmbIncCommit n _ => some n
  | .tmbStep n => some n
  | .tmbRearm n _ => some n
  | .tmbTrack n => some n
  | .tmbHoldEnter n => some n
  | .tmbHoldExit n => some n
  | .ppsCapRead n => some n
  | .tmuRunWrite n _ _ => some n
  | .tmuCntWrite n _ _ _ => some n
  | .tmuCntRead n _ => some n
  | .tmuCcvWrite n _ _ _ => some n
  | .tmuCcvRead n _ _ => some n
  | .tmuModeChange n _ _ _ => some n
  | .tmuOutEnable n _ _ => some n
  | .leafImport n _ _ _ => some n
  | .leafDerive n _ _ => some n
  | .leafDrop n _ => some n
  | .cacheFlush n _ => some n
  | .random n _ => some n
  | .replicaWrap n _ _ _ => some n
  | .replicaImport n _ _ _ => some n
  | .keyUpdate n _ => some n
  | .pubkeys n _ => some n
  | .witness n _ _ _ => some n
  | .rrExport n _ _ _ => some n
  | .rrVerify n _ _ => some n
  | .barkClassWrite n _ _ => some n
  | .barkPersist n => some n
  | .lcNewNonce n => some n
  | .lifecycleTransition n _ _ => some n
  | .planGo n => some n
  | .planCancel n => some n
  | .crownConfirm n => some n
  | .graftDiscard n => some n
  | .hbEnable n _ => some n
  | .budgetWrite n _ _ => some n
  | .domainForceWrite n _ _ => some n
  | .sleepingAccess n _ _ _ => some n
  | .opRequest n _ _ => some n
  | .avsRetry n => some n
  | .ethCfgWrite n _ _ => some n
  | .prnReadmit n _ _ => some n
  | .prnInject n _ _ => some n
  | .rrcFreeze n => some n
  | .rrcUnfreeze n => some n
  | .monKill n => some n
  | .boardRecordProgram n _ _ => some n
  | .xspRead n => some n
  | .xspProgram n => some n
  | .xspErase n => some n
  | .xspSfdp n => some n
  | .pinGpioWrite n _ _ => some n
  | .pinCxWrite n _ _ => some n
  | .porLRelease => none
  | .resetLRelease => none
  | .supplyMonitorTrip _ => none
  | .supplyGood => none
  | .pciePartialWrite _ _ => none
  | .crownNarrowStore _ _ _ _ => none
  | .crownWideAccess _ => none
  | .unmappedAccess _ _ => none
  | .fifoOverflow _ _ => none
  | .gapMark _ _ => none
  | .paceUpdate _ _ _ => none
  | .stallWatchdogExpiry _ _ => none
  | .bootSequence _ _ _ _ => none
  | .restandVerifyDone => none
  | .restandArm => none
  | .lateLaneJoin _ => none
  | .restandPersist => none
  | .overloadDetect _ => none
  | .saturationStart _ => none
  | .saturationEnd _ => none
  | .extLnaSettleEnd _ => none
  | .timeslotEdge _ _ => none
  | .samplingClockLock => none
  | .cnvclkFail => none
  | .windowFilled _ => none
  | .spareSliceLoaded => none
  | .qmapStale _ _ => none
  | .covarianceBlock _ _ => none
  | .blindWeightRecompute _ => none
  | .partitionMismatch _ _ => none
  | .preambleDetect _ => none
  | .laneArbiterRound _ => none
  | .laneRequestRefused _ => none
  | .delimiterFound _ _ _ _ _ => none
  | .phrDecode _ _ _ _ => none
  | .eqReset _ _ => none
  | .sfdWaitTimeout _ => none
  | .lostSignal _ _ _ _ => none
  | .laneFrameComplete _ _ _ _ => none
  | .laneSelftestDone _ _ _ => none
  | .spareTestTimer _ => none
  | .limbStandbyReached _ => none
  | .synthLock _ => none
  | .calibrationDone _ _ _ => none
  | .acquisitionFail _ => none
  | .limbIdleTimeout _ => none
  | .txDescriptorArrival _ => none
  | .paEnRise _ => none
  | .txRampStart _ _ _ => none
  | .lockDeadline _ => none
  | .txLaunch _ => none
  | .txFrameEnd _ => none
  | .txTailEnd _ => none
  | .paEnFall _ => none
  | .txLockLost _ => none
  | .bgCalStart _ => none
  | .limbTempRead _ _ => none
  | .gangLeaderTakeover _ => none
  | .cxRequest _ => none
  | .cxGntFall _ => none
  | .dutyBucketAdvance _ _ => none
  | .profileSwitch => none
  | .cellRead _ _ => none
  | .frameJudge _ => none
  | .keyCacheMiss _ _ => none
  | .cellMiss _ _ => none
  | .tpBeaconMiss _ _ => none
  | .txCompletion _ => none
  | .resyncWaitExpiry _ => none
  | .resyncBurst _ _ => none
  | .fwHeartbeatMiss => none
  | .autopilotReduced => none
  | .dmaLockTimeout _ _ => none
  | .ageSweep => none
  | .ethFrameRx _ _ _ _ => none
  | .spillFetch _ _ => none
  | .portTransmitOpportunity _ _ => none
  | .shaperCreditZero _ => none
  | .ppsInEdge => none
  | .ppsInLost => none
  | .ppsOutRise => none
  | .ppsOutEnd => none
  | .synceResume => none
  | .tmuOverflow _ => none
  | .tmuCompareMatch _ _ => none
  | .tmuCapture _ _ => none
  | .tmuLinkEvent => none
  | .remaskTick _ => none
  | .hwdCmdComplete _ _ => none
  | .sweepVisit _ => none
  | .entropyFail => none
  | .entropyRetest _ => none
  | .signTokenRefill => none
  | .barkSensorEvent _ _ _ => none
  | .barkEpisodeEnd _ => none
  | .lcProgramDone _ => none
  | .graftApply _ _ => none
  | .graftApplyDone => none
  | .manChunk _ _ _ => none
  | .piece _ _ _ => none
  | .want _ _ _ => none
  | .done _ _ _ => none
  | .relayWantTimer _ => none
  | .pollenPiece _ => none
  | .pollenWant _ => none
  | .pollenAnnounce _ => none
  | .planActivate => none
  | .healthFail => none
  | .healthCheckEnd => none
  | .helloTimer => none
  | .hello _ _ _ => none
  | .helloAck _ _ _ => none
  | .heartbeatMark => none
  | .heartbeat _ _ _ => none
  | .own _ _ _ => none
  | .ownReq _ _ _ => none
  | .digest _ _ _ => none
  | .shadow _ _ _ => none
  | .shadowKey _ _ _ => none
  | .rank2AdoptTimer _ => none
  | .domainIdleExpiry _ => none
  | .domainEntryDone _ => none
  | .domainOnReached _ => none
  | .opVoltageSettled => none
  | .vcoreLoopTick _ => none
  | .linkUp _ => none
  | .linkDown _ _ _ _ _ => none
  | .pcieL1Exit => none
  | .perstAssert => none
  | .perstRelease => none
  | .wakeIn => none
  | .gpioWakeEdge _ _ => none
  | .wakeHoldExpiry _ => none
  | .budWindowOpen => none
  | .budWindowClose => none
  | .budDetect _ => none
  | .unitFault _ _ => none
  | .sramCorrectableError _ _ => none
  | .bankCopyDone _ => none
  | .lockstepMismatch => none
  | .readmitDone _ => none
  | .pfailFall => none
  | .rrFlushDone => none
  | .ident => none
  | .rrInfo => none
  | .rrRead _ _ _ => none
  | .regRead _ _ => none
  | .challenge => none
  | .setBaud _ => none
  | .setBaudTimeout => none
  | .auth _ => none
  | .regWrite _ _ => none
  | .memRead _ _ => none
  | .memWrite _ _ => none
  | .readmit _ _ => none
  | .inject _ _ => none
  | .rrUnfreeze => none
  | .reset => none
  | .logout => none
  | .monFrameTimeout => none
  | .sessionExpiry => none
  | .authLockoutEnd => none
  | .bar2Access _ _ _ => none
  | .msixCoalesceExpiry _ => none
  | .mailboxHello => none
  | .mailboxPing => none
  | .mailboxHostService => none
  | .xspComplete _ _ => none
  | .pcieLinkDown => none
  | .pcieL1Entry => none
  | .pcieL0Reached _ _ => none
  | .ethSignalDetect _ => none
  | .monRxdStartBit => none
  | .monBadCrcFrame _ => none
  | .pfailLRise => none
  | .secRestartDone => none
  | .crownUnmappedAccess _ _ => none
  | .tapInstruction _ => none
  | .schedulePreWake _ _ => none
  | .lateCatchHoldEnd _ _ => none

end Sys2Proof
end

