-- ==== Sys2Proof/Laws/PerInstr.lean ====
section
/-!
SUPPORT. Lemmas per command: a well-formed command names an initiator the part knows.
-/

namespace Sys2Proof.Laws.WellFormed

set_option Elab.async false

/-- A well-formed command that names an initiator names one of those PWR_FENCE_STAT codes (R372). -/
def Statement (i : Instr) : Prop := ∀ n, initiatorOf i = some n → Sys2Proof.WellFormed i = true → n ≤ 6

theorem named_only {a n : Nat} (h : a = n) (w : isInitiator a = true) : n ≤ 6 := h ▸ of_decide_eq_true w

theorem named_first {a n : Nat} {p : Bool} (h : a = n) (w : (isInitiator a && p) = true) : n ≤ 6 :=
  named_only h (Bool.and_eq_true_iff.mp w).1

theorem porLRelease  : Statement (.porLRelease) := by
  intro n h; cases h

theorem resetLRelease  : Statement (.resetLRelease) := by
  intro n h; cases h

theorem supplyMonitorTrip (a0 : Nat) : Statement (.supplyMonitorTrip a0) := by
  intro n h; cases h

theorem supplyGood  : Statement (.supplyGood) := by
  intro n h; cases h

theorem registerWrite (a0 : Nat) (a1 : Nat) (a2 : Word) (a3 : Word) : Statement (.registerWrite a0 a1 a2 a3) := by
  intro n h w; cases h; simp [Sys2Proof.WellFormed, isInitiator] at w; omega

theorem pciePartialWrite (a0 : Nat) (a1 : Bool) : Statement (.pciePartialWrite a0 a1) := by
  intro n h; cases h

theorem crownNarrowStore (a0 : Nat) (a1 : Nat) (a2 : Nat) (a3 : Bool) : Statement (.crownNarrowStore a0 a1 a2 a3) := by
  intro n h; cases h

theorem crownWideAccess (a0 : Nat) : Statement (.crownWideAccess a0) := by
  intro n h; cases h

theorem unmappedAccess (a0 : Nat) (a1 : Bool) : Statement (.unmappedAccess a0 a1) := by
  intro n h; cases h

theorem tableWindowWrite (a0 : Nat) (a1 : Nat) (a2 : Word) : Statement (.tableWindowWrite a0 a1 a2) := by
  intro n h w; cases h; simp [Sys2Proof.WellFormed, isInitiator] at w; omega

theorem fifoOverflow (a0 : Nat) (a1 : Nat) : Statement (.fifoOverflow a0 a1) := by
  intro n h; cases h

theorem gapMark (a0 : Nat) (a1 : Bool) : Statement (.gapMark a0 a1) := by
  intro n h; cases h

theorem paceUpdate (a0 : Nat) (a1 : Nat) (a2 : Option Nat) : Statement (.paceUpdate a0 a1 a2) := by
  intro n h; cases h

theorem stallWatchdogExpiry (a0 : Nat) (a1 : Nat) : Statement (.stallWatchdogExpiry a0 a1) := by
  intro n h; cases h

theorem bootSequence (a0 : List (List Byte)) (a1 : Bool) (a2 : List Nat) (a3 : List (Nat × Nat)) : Statement (.bootSequence a0 a1 a2 a3) := by
  intro n h; cases h

theorem liveRestandGo (a0 : Nat) (a1 : Bool) (a2 : Bool) : Statement (.liveRestandGo a0 a1 a2) := by
  intro n h w; cases h; simp [Sys2Proof.WellFormed, isInitiator] at w; omega

theorem liveRestandCancel (a0 : Nat) : Statement (.liveRestandCancel a0) := by
  intro n h w; cases h; simp [Sys2Proof.WellFormed, isInitiator] at w; omega

theorem restandVerifyDone  : Statement (.restandVerifyDone) := by
  intro n h; cases h

theorem restandArm  : Statement (.restandArm) := by
  intro n h; cases h

theorem lateLaneJoin (a0 : Nat) : Statement (.lateLaneJoin a0) := by
  intro n h; cases h

theorem restandPersist  : Statement (.restandPersist) := by
  intro n h; cases h

theorem overloadDetect (a0 : Nat) : Statement (.overloadDetect a0) := by
  intro n h; cases h

theorem saturationStart (a0 : Nat) : Statement (.saturationStart a0) := by
  intro n h; cases h

theorem saturationEnd (a0 : Nat) : Statement (.saturationEnd a0) := by
  intro n h; cases h

theorem extLnaSettleEnd (a0 : Nat) : Statement (.extLnaSettleEnd a0) := by
  intro n h; cases h

theorem timeslotEdge (a0 : List QuietSample) (a1 : List ChainSample) : Statement (.timeslotEdge a0 a1) := by
  intro n h; cases h

theorem cnpClkWrite (a0 : Nat) (a1 : Word) : Statement (.cnpClkWrite a0 a1) := by
  intro n h w; cases h; simp [Sys2Proof.WellFormed, isInitiator] at w; omega

theorem samplingClockLock  : Statement (.samplingClockLock) := by
  intro n h; cases h

theorem cnvclkFail  : Statement (.cnvclkFail) := by
  intro n h; cases h

theorem windowFilled (a0 : Nat) : Statement (.windowFilled a0) := by
  intro n h; cases h

theorem spareSliceLoaded  : Statement (.spareSliceLoaded) := by
  intro n h; cases h

theorem qmapStale (a0 : Nat) (a1 : Nat) : Statement (.qmapStale a0 a1) := by
  intro n h; cases h

theorem covarianceBlock (a0 : Nat) (a1 : List Rat) : Statement (.covarianceBlock a0 a1) := by
  intro n h; cases h

theorem blindWeightRecompute (a0 : Nat) : Statement (.blindWeightRecompute a0) := by
  intro n h; cases h

theorem spcLookWrite (a0 : Nat) (a1 : Nat) (a2 : Nat) (a3 : Nat) (a4 : Word) : Statement (.spcLookWrite a0 a1 a2 a3 a4) := by
  intro n h w; cases h; simp [Sys2Proof.WellFormed, isInitiator] at w; omega

theorem partitionMismatch (a0 : Nat) (a1 : Option Nat) : Statement (.partitionMismatch a0 a1) := by
  intro n h; cases h

theorem preambleDetect (a0 : Detection) : Statement (.preambleDetect a0) := by
  intro n h; cases h

theorem laneArbiterRound (a0 : Nat) : Statement (.laneArbiterRound a0) := by
  intro n h; cases h

theorem laneRequestRefused (a0 : Nat) : Statement (.laneRequestRefused a0) := by
  intro n h; cases h

theorem delimiterFound (a0 : Nat) (a1 : Nat) (a2 : Nat) (a3 : FrameMeasure) (a4 : List EqSymbol) : Statement (.delimiterFound a0 a1 a2 a3 a4) := by
  intro n h; cases h

theorem phrDecode (a0 : Nat) (a1 : List Int) (a2 : FrameMeasure) (a3 : List EqSymbol) : Statement (.phrDecode a0 a1 a2 a3) := by
  intro n h; cases h

theorem eqReset (a0 : Nat) (a1 : List EqSymbol) : Statement (.eqReset a0 a1) := by
  intro n h; cases h

theorem sfdWaitTimeout (a0 : Nat) : Statement (.sfdWaitTimeout a0) := by
  intro n h; cases h

theorem lostSignal (a0 : Nat) (a1 : List Int) (a2 : FrameMeasure) (a3 : List EqSymbol) : Statement (.lostSignal a0 a1 a2 a3) := by
  intro n h; cases h

theorem laneFrameComplete (a0 : Nat) (a1 : List Int) (a2 : FrameMeasure) (a3 : List EqSymbol) : Statement (.laneFrameComplete a0 a1 a2 a3) := by
  intro n h; cases h

theorem laneSelftest (a0 : Nat) (a1 : Nat) : Statement (.laneSelftest a0 a1) := by
  intro n h w; cases h; simp [Sys2Proof.WellFormed, isInitiator] at w; omega

theorem laneSelftestDone (a0 : Nat) (a1 : Nat) (a2 : Nat) : Statement (.laneSelftestDone a0 a1 a2) := by
  intro n h; cases h

theorem laneReadmit (a0 : Nat) (a1 : Nat) : Statement (.laneReadmit a0 a1) := by
  intro n h w; cases h; simp [Sys2Proof.WellFormed, isInitiator] at w; omega

theorem spareTestTimer (a0 : Nat) : Statement (.spareTestTimer a0) := by
  intro n h; cases h

theorem txlPowerWrite (a0 : Nat) (a1 : Nat) (a2 : Word) : Statement (.txlPowerWrite a0 a1 a2) := by
  intro n h w; cases h; simp [Sys2Proof.WellFormed, isInitiator] at w; omega

theorem limbStandbyReached (a0 : Nat) : Statement (.limbStandbyReached a0) := by
  intro n h; cases h

theorem synthLock (a0 : Nat) : Statement (.synthLock a0) := by
  intro n h; cases h

theorem calibrationDone (a0 : Nat) (a1 : Nat) (a2 : Nat) : Statement (.calibrationDone a0 a1 a2) := by
  intro n h; cases h

theorem acquisitionFail (a0 : Nat) : Statement (.acquisitionFail a0) := by
  intro n h; cases h

theorem limbIdleTimeout (a0 : Nat) : Statement (.limbIdleTimeout a0) := by
  intro n h; cases h

theorem txDescriptorArrival (a0 : Nat) : Statement (.txDescriptorArrival a0) := by
  intro n h; cases h

theorem paEnRise (a0 : Nat) : Statement (.paEnRise a0) := by
  intro n h; cases h

theorem txRampStart (a0 : Nat) (a1 : Bool) (a2 : Bool) : Statement (.txRampStart a0 a1 a2) := by
  intro n h; cases h

theorem lockDeadline (a0 : Nat) : Statement (.lockDeadline a0) := by
  intro n h; cases h

theorem txLaunch (a0 : Nat) : Statement (.txLaunch a0) := by
  intro n h; cases h

theorem txFrameEnd (a0 : Nat) : Statement (.txFrameEnd a0) := by
  intro n h; cases h

theorem txTailEnd (a0 : Nat) : Statement (.txTailEnd a0) := by
  intro n h; cases h

theorem paEnFall (a0 : Nat) : Statement (.paEnFall a0) := by
  intro n h; cases h

theorem txLockLost (a0 : Nat) : Statement (.txLockLost a0) := by
  intro n h; cases h

theorem calFlush (a0 : Nat) (a1 : Nat) : Statement (.calFlush a0 a1) := by
  intro n h w; cases h; simp [Sys2Proof.WellFormed, isInitiator] at w; omega

theorem calRequest (a0 : Nat) (a1 : Nat) (a2 : Nat) : Statement (.calRequest a0 a1 a2) := by
  intro n h w; cases h; simp [Sys2Proof.WellFormed, isInitiator] at w; omega

theorem bgCalStart (a0 : Nat) : Statement (.bgCalStart a0) := by
  intro n h; cases h

theorem limbTempRead (a0 : Nat) (a1 : Int) : Statement (.limbTempRead a0 a1) := by
  intro n h; cases h

theorem gangWrite (a0 : Nat) (a1 : Nat) (a2 : Bool) : Statement (.gangWrite a0 a1 a2) := by
  intro n h w; cases h; simp [Sys2Proof.WellFormed, isInitiator] at w; omega

theorem gangLeaderTakeover (a0 : Nat) : Statement (.gangLeaderTakeover a0) := by
  intro n h; cases h

theorem cxEnable (a0 : Nat) (a1 : Nat) (a2 : Bool) : Statement (.cxEnable a0 a1 a2) := by
  intro n h w; cases h; simp [Sys2Proof.WellFormed, isInitiator] at w; omega

theorem cxRequest (a0 : Nat) : Statement (.cxRequest a0) := by
  intro n h; cases h

theorem cxGntFall (a0 : Nat) : Statement (.cxGntFall a0) := by
  intro n h; cases h

theorem dutyBucketAdvance (a0 : Nat) (a1 : Bool) : Statement (.dutyBucketAdvance a0 a1) := by
  intro n h; cases h

theorem profileOtpProgram (a0 : Nat) (a1 : Bool) (a2 : Bool) : Statement (.profileOtpProgram a0 a1 a2) := by
  intro n h w; cases h; simp [Sys2Proof.WellFormed, isInitiator] at w; omega

theorem profileSwitch  : Statement (.profileSwitch) := by
  intro n h; cases h

theorem cellRead (a0 : Nat) (a1 : List (Nat × List Byte)) : Statement (.cellRead a0 a1) := by
  intro n h; cases h

theorem frameJudge (a0 : Nat) : Statement (.frameJudge a0) := by
  intro n h; cases h

theorem keyCacheMiss (a0 : Nat) (a1 : List Nat) : Statement (.keyCacheMiss a0 a1) := by
  intro n h; cases h

theorem cellMiss (a0 : Nat) (a1 : Nat) : Statement (.cellMiss a0 a1) := by
  intro n h; cases h

theorem tpBeaconMiss (a0 : Nat) (a1 : Nat) : Statement (.tpBeaconMiss a0 a1) := by
  intro n h; cases h

theorem txCompletion (a0 : Bool) : Statement (.txCompletion a0) := by
  intro n h; cases h

theorem levTailWrite (a0 : Nat) (a1 : Word) : Statement (.levTailWrite a0 a1) := by
  intro n h w; cases h; simp [Sys2Proof.WellFormed, isInitiator] at w; omega

theorem resyncWaitExpiry (a0 : Nat) : Statement (.resyncWaitExpiry a0) := by
  intro n h; cases h

theorem resyncBurst (a0 : Nat) (a1 : List Byte) : Statement (.resyncBurst a0 a1) := by
  intro n h; cases h

theorem fwHeartbeat (a0 : Nat) (a1 : Word) : Statement (.fwHeartbeat a0 a1) := by
  intro n h w; cases h; simp [Sys2Proof.WellFormed, isInitiator] at w; omega

theorem fwHeartbeatMiss  : Statement (.fwHeartbeatMiss) := by
  intro n h; cases h

theorem apEnterRequest (a0 : Nat) : Statement (.apEnterRequest a0) := by
  intro n h w; cases h; simp [Sys2Proof.WellFormed, isInitiator] at w; omega

theorem autopilotReduced  : Statement (.autopilotReduced) := by
  intro n h; cases h

theorem apResume (a0 : Nat) : Statement (.apResume a0) := by
  intro n h w; cases h; simp [Sys2Proof.WellFormed, isInitiator] at w; omega

theorem dmaHeadAdvance (a0 : Nat) (a1 : Nat) (a2 : Nat) (a3 : Nat) (a4 : List Nat) : Statement (.dmaHeadAdvance a0 a1 a2 a3 a4) := by
  intro n h w; cases h; simp [Sys2Proof.WellFormed, isInitiator] at w; omega

theorem dmaLockTimeout (a0 : Nat) (a1 : Nat) : Statement (.dmaLockTimeout a0 a1) := by
  intro n h; cases h

theorem ageSweep  : Statement (.ageSweep) := by
  intro n h; cases h

theorem lrnSeedWrite (a0 : Nat) (a1 : Nat) (a2 : Word) : Statement (.lrnSeedWrite a0 a1 a2) := by
  intro n h w; cases h; simp [Sys2Proof.WellFormed, isInitiator] at w; omega

theorem bghSetStage (a0 : Nat) (a1 : Nat) (a2 : Word) : Statement (.bghSetStage a0 a1 a2) := by
  intro n h w; cases h; simp [Sys2Proof.WellFormed, isInitiator] at w; omega

theorem bghSetCommit (a0 : Nat) (a1 : Nat) (a2 : Word) : Statement (.bghSetCommit a0 a1 a2) := by
  intro n h w; cases h; simp [Sys2Proof.WellFormed, isInitiator] at w; omega

theorem ethFrameRx (a0 : Nat) (a1 : List Byte) (a2 : Bool) (a3 : Nat) : Statement (.ethFrameRx a0 a1 a2 a3) := by
  intro n h; cases h

theorem spillFetch (a0 : Nat) (a1 : List Nat) : Statement (.spillFetch a0 a1) := by
  intro n h; cases h

theorem portTransmitOpportunity (a0 : Nat) (a1 : Nat) : Statement (.portTransmitOpportunity a0 a1) := by
  intro n h; cases h

theorem hostqTpHeadAdvance (a0 : Nat) (a1 : Nat) (a2 : Nat) (a3 : Nat) (a4 : List Nat) : Statement (.hostqTpHeadAdvance a0 a1 a2 a3 a4) := by
  intro n h w; cases h; simp [Sys2Proof.WellFormed, isInitiator] at w; omega

theorem hostqThTailAdvance (a0 : Nat) (a1 : Nat) (a2 : Nat) : Statement (.hostqThTailAdvance a0 a1 a2) := by
  intro n h w; cases h; simp [Sys2Proof.WellFormed, isInitiator] at w; omega

theorem trfReserveWrite (a0 : Nat) (a1 : Nat) (a2 : Word) : Statement (.trfReserveWrite a0 a1 a2) := by
  intro n h w; cases h; simp [Sys2Proof.WellFormed, isInitiator] at w; omega

theorem shaperConfigWrite (a0 : Nat) (a1 : Nat) (a2 : Nat) (a3 : Word) : Statement (.shaperConfigWrite a0 a1 a2 a3) := by
  intro n h w; cases h; simp [Sys2Proof.WellFormed, isInitiator] at w; omega

theorem shaperCreditZero (a0 : Nat) : Statement (.shaperCreditZero a0) := by
  intro n h; cases h

theorem meterConfigWrite (a0 : Nat) (a1 : Nat) (a2 : Nat) (a3 : Word) : Statement (.meterConfigWrite a0 a1 a2 a3) := by
  intro n h w; cases h; simp [Sys2Proof.WellFormed, isInitiator] at w; omega

theorem tmbIncHiWrite (a0 : Nat) (a1 : Word) : Statement (.tmbIncHiWrite a0 a1) := by
  intro n h w; cases h; simp [Sys2Proof.WellFormed, isInitiator] at w; omega

theorem tmbIncCommit (a0 : Nat) (a1 : Word) : Statement (.tmbIncCommit a0 a1) := by
  intro n h w; cases h; simp [Sys2Proof.WellFormed, isInitiator] at w; omega

theorem tmbStep (a0 : Nat) : Statement (.tmbStep a0) := by
  intro n h w; cases h; simp [Sys2Proof.WellFormed, isInitiator] at w; omega

theorem tmbRearm (a0 : Nat) (a1 : Bool) : Statement (.tmbRearm a0 a1) := by
  intro n h w; cases h; simp [Sys2Proof.WellFormed, isInitiator] at w; omega

theorem tmbTrack (a0 : Nat) : Statement (.tmbTrack a0) := by
  intro n h w; cases h; simp [Sys2Proof.WellFormed, isInitiator] at w; omega

theorem tmbHoldEnter (a0 : Nat) : Statement (.tmbHoldEnter a0) := by
  intro n h w; cases h; simp [Sys2Proof.WellFormed, isInitiator] at w; omega

theorem tmbHoldExit (a0 : Nat) : Statement (.tmbHoldExit a0) := by
  intro n h w; cases h; simp [Sys2Proof.WellFormed, isInitiator] at w; omega

theorem ppsInEdge  : Statement (.ppsInEdge) := by
  intro n h; cases h

theorem ppsInLost  : Statement (.ppsInLost) := by
  intro n h; cases h

theorem ppsCapRead (a0 : Nat) : Statement (.ppsCapRead a0) := by
  intro n h w; cases h; simp [Sys2Proof.WellFormed, isInitiator] at w; omega

theorem ppsOutRise  : Statement (.ppsOutRise) := by
  intro n h; cases h

theorem ppsOutEnd  : Statement (.ppsOutEnd) := by
  intro n h; cases h

theorem synceResume  : Statement (.synceResume) := by
  intro n h; cases h

theorem tmuRunWrite (a0 : Nat) (a1 : Nat) (a2 : Word) : Statement (.tmuRunWrite a0 a1 a2) := by
  intro n h w; cases h; simp [Sys2Proof.WellFormed, isInitiator] at w; omega

theorem tmuCntWrite (a0 : Nat) (a1 : Nat) (a2 : Bool) (a3 : Word) : Statement (.tmuCntWrite a0 a1 a2 a3) := by
  intro n h w; cases h; simp [Sys2Proof.WellFormed, isInitiator] at w; omega

theorem tmuCntRead (a0 : Nat) (a1 : Nat) : Statement (.tmuCntRead a0 a1) := by
  intro n h w; cases h; simp [Sys2Proof.WellFormed, isInitiator] at w; omega

theorem tmuOverflow (a0 : Nat) : Statement (.tmuOverflow a0) := by
  intro n h; cases h

theorem tmuCompareMatch (a0 : Nat) (a1 : Nat) : Statement (.tmuCompareMatch a0 a1) := by
  intro n h; cases h

theorem tmuCcvWrite (a0 : Nat) (a1 : Nat) (a2 : Nat) (a3 : Word) : Statement (.tmuCcvWrite a0 a1 a2 a3) := by
  intro n h w; cases h; simp [Sys2Proof.WellFormed, isInitiator] at w; omega

theorem tmuCapture (a0 : Nat) (a1 : Nat) : Statement (.tmuCapture a0 a1) := by
  intro n h; cases h

theorem tmuCcvRead (a0 : Nat) (a1 : Nat) (a2 : Nat) : Statement (.tmuCcvRead a0 a1 a2) := by
  intro n h w; cases h; simp [Sys2Proof.WellFormed, isInitiator] at w; omega

theorem tmuModeChange (a0 : Nat) (a1 : Nat) (a2 : Nat) (a3 : Word) : Statement (.tmuModeChange a0 a1 a2 a3) := by
  intro n h w; cases h; simp [Sys2Proof.WellFormed, isInitiator] at w; omega

theorem tmuLinkEvent  : Statement (.tmuLinkEvent) := by
  intro n h; cases h

theorem tmuOutEnable (a0 : Nat) (a1 : Nat) (a2 : Word) : Statement (.tmuOutEnable a0 a1 a2) := by
  intro n h w; cases h; simp [Sys2Proof.WellFormed, isInitiator] at w; omega

theorem remaskTick (a0 : Bool) : Statement (.remaskTick a0) := by
  intro n h; cases h

theorem leafImport (a0 : Nat) (a1 : Nat) (a2 : Nat) (a3 : List Nat) : Statement (.leafImport a0 a1 a2 a3) := by
  intro n h w; cases h; simp [Sys2Proof.WellFormed, isInitiator] at w; omega

theorem leafDerive (a0 : Nat) (a1 : Nat) (a2 : Nat) : Statement (.leafDerive a0 a1 a2) := by
  intro n h w; cases h; simp [Sys2Proof.WellFormed, isInitiator] at w; omega

theorem leafDrop (a0 : Nat) (a1 : Nat) : Statement (.leafDrop a0 a1) := by
  intro n h w; cases h; simp [Sys2Proof.WellFormed, isInitiator] at w; omega

theorem cacheFlush (a0 : Nat) (a1 : Nat) : Statement (.cacheFlush a0 a1) := by
  intro n h w; cases h; simp [Sys2Proof.WellFormed, isInitiator] at w; omega

theorem random (a0 : Nat) (a1 : Nat) : Statement (.random a0 a1) := by
  intro n h w; cases h; simp [Sys2Proof.WellFormed, isInitiator] at w; omega

theorem replicaWrap (a0 : Nat) (a1 : Nat) (a2 : Nat) (a3 : List Nat) : Statement (.replicaWrap a0 a1 a2 a3) := by
  intro n h w; cases h; simp [Sys2Proof.WellFormed, isInitiator] at w; omega

theorem replicaImport (a0 : Nat) (a1 : Nat) (a2 : Nat) (a3 : List Nat) : Statement (.replicaImport a0 a1 a2 a3) := by
  intro n h w; cases h; simp [Sys2Proof.WellFormed, isInitiator] at w; omega

theorem hwdCmdComplete (a0 : Nat) (a1 : List Nat) : Statement (.hwdCmdComplete a0 a1) := by
  intro n h; cases h

theorem sweepVisit (a0 : List Nat) : Statement (.sweepVisit a0) := by
  intro n h; cases h

theorem entropyFail  : Statement (.entropyFail) := by
  intro n h; cases h

theorem entropyRetest (a0 : Bool) : Statement (.entropyRetest a0) := by
  intro n h; cases h

theorem keyUpdate (a0 : Nat) (a1 : Nat) : Statement (.keyUpdate a0 a1) := by
  intro n h w; cases h; simp [Sys2Proof.WellFormed, isInitiator] at w; omega

theorem pubkeys (a0 : Nat) (a1 : Nat) : Statement (.pubkeys a0 a1) := by
  intro n h w; cases h; simp [Sys2Proof.WellFormed, isInitiator] at w; omega

theorem witness (a0 : Nat) (a1 : Nat) (a2 : Bool) (a3 : List Nat) : Statement (.witness a0 a1 a2 a3) := by
  intro n h w; cases h; simp [Sys2Proof.WellFormed, isInitiator] at w; omega

theorem rrExport (a0 : Nat) (a1 : Nat) (a2 : Bool) (a3 : List Nat) : Statement (.rrExport a0 a1 a2 a3) := by
  intro n h w; cases h; simp [Sys2Proof.WellFormed, isInitiator] at w; omega

theorem rrVerify (a0 : Nat) (a1 : Nat) (a2 : List Nat) : Statement (.rrVerify a0 a1 a2) := by
  intro n h w; cases h; simp [Sys2Proof.WellFormed, isInitiator] at w; omega

theorem signTokenRefill  : Statement (.signTokenRefill) := by
  intro n h; cases h

theorem barkSensorEvent (a0 : Nat) (a1 : Bool) (a2 : List Bool) : Statement (.barkSensorEvent a0 a1 a2) := by
  intro n h; cases h

theorem barkEpisodeEnd (a0 : Nat) : Statement (.barkEpisodeEnd a0) := by
  intro n h; cases h

theorem barkClassWrite (a0 : Nat) (a1 : Nat) (a2 : Word) : Statement (.barkClassWrite a0 a1 a2) := by
  intro n h w; cases h; simp [Sys2Proof.WellFormed, isInitiator] at w; omega

theorem barkPersist (a0 : Nat) : Statement (.barkPersist a0) := by
  intro n h w; cases h; simp [Sys2Proof.WellFormed, isInitiator] at w; omega

theorem lcNewNonce (a0 : Nat) : Statement (.lcNewNonce a0) := by
  intro n h w; cases h; simp [Sys2Proof.WellFormed, isInitiator] at w; omega

theorem lifecycleTransition (a0 : Nat) (a1 : Bool) (a2 : List Nat) : Statement (.lifecycleTransition a0 a1 a2) := by
  intro n h w; cases h; simp [Sys2Proof.WellFormed, isInitiator] at w; omega

theorem lcProgramDone (a0 : Bool) : Statement (.lcProgramDone a0) := by
  intro n h; cases h

theorem graftApply (a0 : Nat) (a1 : Bool) : Statement (.graftApply a0 a1) := by
  intro n h; cases h

theorem graftApplyDone  : Statement (.graftApplyDone) := by
  intro n h; cases h

theorem manChunk (a0 : Nat) (a1 : List Byte) (a2 : Nat) : Statement (.manChunk a0 a1 a2) := by
  intro n h; cases h

theorem piece (a0 : Nat) (a1 : List Byte) (a2 : Nat) : Statement (.piece a0 a1 a2) := by
  intro n h; cases h

theorem want (a0 : Nat) (a1 : List Byte) (a2 : Nat) : Statement (.want a0 a1 a2) := by
  intro n h; cases h

theorem done (a0 : Nat) (a1 : List Byte) (a2 : Nat) : Statement (.done a0 a1 a2) := by
  intro n h; cases h

theorem relayWantTimer (a0 : Nat) : Statement (.relayWantTimer a0) := by
  intro n h; cases h

theorem pollenPiece (a0 : List Byte) : Statement (.pollenPiece a0) := by
  intro n h; cases h

theorem pollenWant (a0 : List Byte) : Statement (.pollenWant a0) := by
  intro n h; cases h

theorem pollenAnnounce (a0 : List Byte) : Statement (.pollenAnnounce a0) := by
  intro n h; cases h

theorem planGo (a0 : Nat) : Statement (.planGo a0) := by
  intro n h w; cases h; simp [Sys2Proof.WellFormed, isInitiator] at w; omega

theorem planActivate  : Statement (.planActivate) := by
  intro n h; cases h

theorem healthFail  : Statement (.healthFail) := by
  intro n h; cases h

theorem healthCheckEnd  : Statement (.healthCheckEnd) := by
  intro n h; cases h

theorem planCancel (a0 : Nat) : Statement (.planCancel a0) := by
  intro n h w; cases h; simp [Sys2Proof.WellFormed, isInitiator] at w; omega

theorem crownConfirm (a0 : Nat) : Statement (.crownConfirm a0) := by
  intro n h w; cases h; simp [Sys2Proof.WellFormed, isInitiator] at w; omega

theorem graftDiscard (a0 : Nat) : Statement (.graftDiscard a0) := by
  intro n h w; cases h; simp [Sys2Proof.WellFormed, isInitiator] at w; omega

theorem helloTimer  : Statement (.helloTimer) := by
  intro n h; cases h

theorem hello (a0 : Nat) (a1 : List Byte) (a2 : Nat) : Statement (.hello a0 a1 a2) := by
  intro n h; cases h

theorem helloAck (a0 : Nat) (a1 : List Byte) (a2 : Nat) : Statement (.helloAck a0 a1 a2) := by
  intro n h; cases h

theorem hbEnable (a0 : Nat) (a1 : Word) : Statement (.hbEnable a0 a1) := by
  intro n h w; cases h; simp [Sys2Proof.WellFormed, isInitiator] at w; omega

theorem heartbeatMark  : Statement (.heartbeatMark) := by
  intro n h; cases h

theorem heartbeat (a0 : Nat) (a1 : List Byte) (a2 : Nat) : Statement (.heartbeat a0 a1 a2) := by
  intro n h; cases h

theorem own (a0 : Nat) (a1 : List Byte) (a2 : Nat) : Statement (.own a0 a1 a2) := by
  intro n h; cases h

theorem ownReq (a0 : Nat) (a1 : List Byte) (a2 : Nat) : Statement (.ownReq a0 a1 a2) := by
  intro n h; cases h

theorem digest (a0 : Nat) (a1 : List Byte) (a2 : Nat) : Statement (.digest a0 a1 a2) := by
  intro n h; cases h

theorem shadow (a0 : Nat) (a1 : List Byte) (a2 : Nat) : Statement (.shadow a0 a1 a2) := by
  intro n h; cases h

theorem shadowKey (a0 : Nat) (a1 : List Byte) (a2 : Nat) : Statement (.shadowKey a0 a1 a2) := by
  intro n h; cases h

theorem rank2AdoptTimer (a0 : Nat) : Statement (.rank2AdoptTimer a0) := by
  intro n h; cases h

theorem budgetWrite (a0 : Nat) (a1 : Nat) (a2 : Word) : Statement (.budgetWrite a0 a1 a2) := by
  intro n h w; cases h; simp [Sys2Proof.WellFormed, isInitiator] at w; omega

theorem domainIdleExpiry (a0 : Nat) : Statement (.domainIdleExpiry a0) := by
  intro n h; cases h

theorem domainEntryDone (a0 : Nat) : Statement (.domainEntryDone a0) := by
  intro n h; cases h

theorem domainOnReached (a0 : Nat) : Statement (.domainOnReached a0) := by
  intro n h; cases h

theorem domainForceWrite (a0 : Nat) (a1 : Nat) (a2 : Word) : Statement (.domainForceWrite a0 a1 a2) := by
  intro n h w; cases h; simp [Sys2Proof.WellFormed, isInitiator] at w; omega

theorem sleepingAccess (a0 : Nat) (a1 : Nat) (a2 : Bool) (a3 : Word) : Statement (.sleepingAccess a0 a1 a2 a3) := by
  intro n h w; cases h; simp [Sys2Proof.WellFormed, isInitiator] at w; omega

theorem opRequest (a0 : Nat) (a1 : Word) (a2 : Option Nat) : Statement (.opRequest a0 a1 a2) := by
  intro n h w; cases h; simp [Sys2Proof.WellFormed, isInitiator] at w; omega

theorem opVoltageSettled  : Statement (.opVoltageSettled) := by
  intro n h; cases h

theorem vcoreLoopTick (a0 : Option Nat) : Statement (.vcoreLoopTick a0) := by
  intro n h; cases h

theorem avsRetry (a0 : Nat) : Statement (.avsRetry a0) := by
  intro n h w; cases h; simp [Sys2Proof.WellFormed, isInitiator] at w; omega

theorem linkUp (a0 : Nat) : Statement (.linkUp a0) := by
  intro n h; cases h

theorem linkDown (a0 : Nat) (a1 : Bool) (a2 : Bool) (a3 : Bool) (a4 : Bool) : Statement (.linkDown a0 a1 a2 a3 a4) := by
  intro n h; cases h

theorem ethCfgWrite (a0 : Nat) (a1 : Nat) (a2 : Word) : Statement (.ethCfgWrite a0 a1 a2) := by
  intro n h w; cases h; simp [Sys2Proof.WellFormed, isInitiator] at w; omega

theorem pcieL1Exit  : Statement (.pcieL1Exit) := by
  intro n h; cases h

theorem perstAssert  : Statement (.perstAssert) := by
  intro n h; cases h

theorem perstRelease  : Statement (.perstRelease) := by
  intro n h; cases h

theorem wakeIn  : Statement (.wakeIn) := by
  intro n h; cases h

theorem gpioWakeEdge (a0 : Nat) (a1 : Bool) : Statement (.gpioWakeEdge a0 a1) := by
  intro n h; cases h

theorem wakeHoldExpiry (a0 : Nat) : Statement (.wakeHoldExpiry a0) := by
  intro n h; cases h

theorem budWindowOpen  : Statement (.budWindowOpen) := by
  intro n h; cases h

theorem budWindowClose  : Statement (.budWindowClose) := by
  intro n h; cases h

theorem budDetect (a0 : Nat) : Statement (.budDetect a0) := by
  intro n h; cases h

theorem unitFault (a0 : List UnitFault) (a1 : Bool) : Statement (.unitFault a0 a1) := by
  intro n h; cases h

theorem sramCorrectableError (a0 : Nat) (a1 : Nat) : Statement (.sramCorrectableError a0 a1) := by
  intro n h; cases h

theorem bankCopyDone (a0 : Nat) : Statement (.bankCopyDone a0) := by
  intro n h; cases h

theorem lockstepMismatch  : Statement (.lockstepMismatch) := by
  intro n h; cases h

theorem prnReadmit (a0 : Nat) (a1 : Nat) (a2 : Nat) : Statement (.prnReadmit a0 a1 a2) := by
  intro n h w; cases h; simp [Sys2Proof.WellFormed, isInitiator] at w; omega

theorem readmitDone (a0 : Bool) : Statement (.readmitDone a0) := by
  intro n h; cases h

theorem prnInject (a0 : Nat) (a1 : Nat) (a2 : Nat) : Statement (.prnInject a0 a1 a2) := by
  intro n h w; cases h; simp [Sys2Proof.WellFormed, isInitiator] at w; omega

theorem rrcFreeze (a0 : Nat) : Statement (.rrcFreeze a0) := by
  intro n h w; cases h; simp [Sys2Proof.WellFormed, isInitiator] at w; omega

theorem rrcUnfreeze (a0 : Nat) : Statement (.rrcUnfreeze a0) := by
  intro n h w; cases h; simp [Sys2Proof.WellFormed, isInitiator] at w; omega

theorem pfailFall  : Statement (.pfailFall) := by
  intro n h; cases h

theorem rrFlushDone  : Statement (.rrFlushDone) := by
  intro n h; cases h

theorem ident  : Statement (.ident) := by
  intro n h; cases h

theorem rrInfo  : Statement (.rrInfo) := by
  intro n h; cases h

theorem rrRead (a0 : Nat) (a1 : Nat) (a2 : Nat) : Statement (.rrRead a0 a1 a2) := by
  intro n h; cases h

theorem regRead (a0 : Nat) (a1 : Nat) : Statement (.regRead a0 a1) := by
  intro n h; cases h

theorem challenge  : Statement (.challenge) := by
  intro n h; cases h

theorem setBaud (a0 : Nat) : Statement (.setBaud a0) := by
  intro n h; cases h

theorem setBaudTimeout  : Statement (.setBaudTimeout) := by
  intro n h; cases h

theorem auth (a0 : List Byte) : Statement (.auth a0) := by
  intro n h; cases h

theorem regWrite (a0 : Nat) (a1 : List Word) : Statement (.regWrite a0 a1) := by
  intro n h; cases h

theorem memRead (a0 : Nat) (a1 : Nat) : Statement (.memRead a0 a1) := by
  intro n h; cases h

theorem memWrite (a0 : Nat) (a1 : List Word) : Statement (.memWrite a0 a1) := by
  intro n h; cases h

theorem readmit (a0 : Nat) (a1 : Nat) : Statement (.readmit a0 a1) := by
  intro n h; cases h

theorem inject (a0 : Nat) (a1 : Nat) : Statement (.inject a0 a1) := by
  intro n h; cases h

theorem rrUnfreeze  : Statement (.rrUnfreeze) := by
  intro n h; cases h

theorem reset  : Statement (.reset) := by
  intro n h; cases h

theorem logout  : Statement (.logout) := by
  intro n h; cases h

theorem monFrameTimeout  : Statement (.monFrameTimeout) := by
  intro n h; cases h

theorem sessionExpiry  : Statement (.sessionExpiry) := by
  intro n h; cases h

theorem monKill (a0 : Nat) : Statement (.monKill a0) := by
  intro n h w; cases h; simp [Sys2Proof.WellFormed, isInitiator] at w; omega

theorem authLockoutEnd  : Statement (.authLockoutEnd) := by
  intro n h; cases h

theorem bar2Access (a0 : Nat) (a1 : Bool) (a2 : Word) : Statement (.bar2Access a0 a1 a2) := by
  intro n h; cases h

theorem msixCoalesceExpiry (a0 : Nat) : Statement (.msixCoalesceExpiry a0) := by
  intro n h; cases h

theorem mailboxHello  : Statement (.mailboxHello) := by
  intro n h; cases h

theorem mailboxPing  : Statement (.mailboxPing) := by
  intro n h; cases h

theorem mailboxHostService  : Statement (.mailboxHostService) := by
  intro n h; cases h

theorem boardRecordProgram (a0 : Nat) (a1 : Bool) (a2 : Bool) : Statement (.boardRecordProgram a0 a1 a2) := by
  intro n h w; cases h; simp [Sys2Proof.WellFormed, isInitiator] at w; omega

theorem xspRead (a0 : Nat) : Statement (.xspRead a0) := by
  intro n h w; cases h; simp [Sys2Proof.WellFormed, isInitiator] at w; omega

theorem xspProgram (a0 : Nat) : Statement (.xspProgram a0) := by
  intro n h w; cases h; simp [Sys2Proof.WellFormed, isInitiator] at w; omega

theorem xspErase (a0 : Nat) : Statement (.xspErase a0) := by
  intro n h w; cases h; simp [Sys2Proof.WellFormed, isInitiator] at w; omega

theorem xspSfdp (a0 : Nat) : Statement (.xspSfdp a0) := by
  intro n h w; cases h; simp [Sys2Proof.WellFormed, isInitiator] at w; omega

theorem xspComplete (a0 : Bool) (a1 : List Nat) : Statement (.xspComplete a0 a1) := by
  intro n h; cases h

theorem pinGpioWrite (a0 : Nat) (a1 : Bool) (a2 : Word) : Statement (.pinGpioWrite a0 a1 a2) := by
  intro n h w; cases h; simp [Sys2Proof.WellFormed, isInitiator] at w; omega

theorem pinCxWrite (a0 : Nat) (a1 : Bool) (a2 : Word) : Statement (.pinCxWrite a0 a1 a2) := by
  intro n h w; cases h; simp [Sys2Proof.WellFormed, isInitiator] at w; omega

theorem pcieLinkDown  : Statement (.pcieLinkDown) := by
  intro n h; cases h

theorem pcieL1Entry  : Statement (.pcieL1Entry) := by
  intro n h; cases h

theorem pcieL0Reached (a0 : Nat) (a1 : Nat) : Statement (.pcieL0Reached a0 a1) := by
  intro n h; cases h

theorem ethSignalDetect (a0 : Nat) : Statement (.ethSignalDetect a0) := by
  intro n h; cases h

theorem monRxdStartBit  : Statement (.monRxdStartBit) := by
  intro n h; cases h

theorem monBadCrcFrame (a0 : List Byte) : Statement (.monBadCrcFrame a0) := by
  intro n h; cases h

theorem pfailLRise  : Statement (.pfailLRise) := by
  intro n h; cases h

theorem secRestartDone  : Statement (.secRestartDone) := by
  intro n h; cases h

theorem crownUnmappedAccess (a0 : Nat) (a1 : Nat) : Statement (.crownUnmappedAccess a0 a1) := by
  intro n h; cases h

theorem tapInstruction (a0 : Nat) : Statement (.tapInstruction a0) := by
  intro n h; cases h

theorem schedulePreWake (a0 : Nat) (a1 : Nat) : Statement (.schedulePreWake a0 a1) := by
  intro n h; cases h

theorem lateCatchHoldEnd (a0 : Nat) (a1 : Nat) : Statement (.lateCatchHoldEnd a0 a1) := by
  intro n h; cases h

end Sys2Proof.Laws.WellFormed
end

