-- ==== Sys2Proof/Laws/State.lean ====
section
/-!
SUPPORT. What each shared update of the state leaves as it was, one lemma per field.
-/

namespace Sys2Proof.Machine

variable (s : State)

@[simp] theorem State.setReg_pending (off : Nat) (w : Word) : (s.setReg off w).pending = s.pending := rfl
@[simp] theorem State.setReg_rwoWritten (off : Nat) (w : Word) : (s.setReg off w).rwoWritten = s.rwoWritten := rfl
@[simp] theorem State.setReg_out (off : Nat) (w : Word) : (s.setReg off w).out = s.out := rfl
@[simp] theorem State.setReg_irqLevel (off : Nat) (w : Word) : (s.setReg off w).irqLevel = s.irqLevel := rfl
@[simp] theorem State.setReg_cleared (off : Nat) (w : Word) : (s.setReg off w).cleared = s.cleared := rfl
@[simp] theorem State.setReg_free (off : Nat) (w : Word) : (s.setReg off w).free = s.free := rfl
@[simp] theorem State.setReg_dram (off : Nat) (w : Word) : (s.setReg off w).dram = s.dram := rfl
@[simp] theorem State.setReg_power (off : Nat) (w : Word) : (s.setReg off w).power = s.power := rfl
@[simp] theorem State.setReg_stand (off : Nat) (w : Word) : (s.setReg off w).stand = s.stand := rfl
@[simp] theorem State.setReg_ring (off : Nat) (w : Word) : (s.setReg off w).ring = s.ring := rfl
@[simp] theorem State.setReg_prune (off : Nat) (w : Word) : (s.setReg off w).prune = s.prune := rfl
@[simp] theorem State.setReg_mon (off : Nat) (w : Word) : (s.setReg off w).mon = s.mon := rfl
@[simp] theorem State.setReg_time (off : Nat) (w : Word) : (s.setReg off w).time = s.time := rfl
@[simp] theorem State.setReg_tap (off : Nat) (w : Word) : (s.setReg off w).tap = s.tap := rfl
@[simp] theorem State.setReg_board (off : Nat) (w : Word) : (s.setReg off w).board = s.board := rfl
@[simp] theorem State.setReg_canopy (off : Nat) (w : Word) : (s.setReg off w).canopy = s.canopy := rfl
@[simp] theorem State.setReg_search (off : Nat) (w : Word) : (s.setReg off w).search = s.search := rfl
@[simp] theorem State.setReg_lanes (off : Nat) (w : Word) : (s.setReg off w).lanes = s.lanes := rfl
@[simp] theorem State.setReg_traffic (off : Nat) (w : Word) : (s.setReg off w).traffic = s.traffic := rfl
@[simp] theorem State.setReg_txl (off : Nat) (w : Word) : (s.setReg off w).txl = s.txl := rfl
@[simp] theorem State.setReg_rgp (off : Nat) (w : Word) : (s.setReg off w).rgp = s.rgp := rfl
@[simp] theorem State.setReg_tables (off : Nat) (w : Word) : (s.setReg off w).tables = s.tables := rfl
@[simp] theorem State.setReg_grove (off : Nat) (w : Word) : (s.setReg off w).grove = s.grove := rfl
@[simp] theorem State.setReg_tmu (off : Nat) (w : Word) : (s.setReg off w).tmu = s.tmu := rfl
@[simp] theorem State.setReg_hwd (off : Nat) (w : Word) : (s.setReg off w).hwd = s.hwd := rfl
@[simp] theorem State.setReg_nv (off : Nat) (w : Word) : (s.setReg off w).nv = s.nv := rfl
@[simp] theorem State.setReg_grf (off : Nat) (w : Word) : (s.setReg off w).grf = s.grf := rfl
@[simp] theorem State.setReg_sse (off : Nat) (w : Word) : (s.setReg off w).sse = s.sse := rfl
@[simp] theorem State.setReg_bark (off : Nat) (w : Word) : (s.setReg off w).bark = s.bark := rfl

@[simp] theorem State.set_pending (f : Fld) (v : Nat) : (s.set f v).pending = s.pending := rfl
@[simp] theorem State.set_rwoWritten (f : Fld) (v : Nat) : (s.set f v).rwoWritten = s.rwoWritten := rfl
@[simp] theorem State.set_out (f : Fld) (v : Nat) : (s.set f v).out = s.out := rfl
@[simp] theorem State.set_irqLevel (f : Fld) (v : Nat) : (s.set f v).irqLevel = s.irqLevel := rfl
@[simp] theorem State.set_cleared (f : Fld) (v : Nat) : (s.set f v).cleared = s.cleared := rfl
@[simp] theorem State.set_free (f : Fld) (v : Nat) : (s.set f v).free = s.free := rfl
@[simp] theorem State.set_dram (f : Fld) (v : Nat) : (s.set f v).dram = s.dram := rfl
@[simp] theorem State.set_power (f : Fld) (v : Nat) : (s.set f v).power = s.power := rfl
@[simp] theorem State.set_stand (f : Fld) (v : Nat) : (s.set f v).stand = s.stand := rfl
@[simp] theorem State.set_ring (f : Fld) (v : Nat) : (s.set f v).ring = s.ring := rfl
@[simp] theorem State.set_prune (f : Fld) (v : Nat) : (s.set f v).prune = s.prune := rfl
@[simp] theorem State.set_mon (f : Fld) (v : Nat) : (s.set f v).mon = s.mon := rfl
@[simp] theorem State.set_time (f : Fld) (v : Nat) : (s.set f v).time = s.time := rfl
@[simp] theorem State.set_tap (f : Fld) (v : Nat) : (s.set f v).tap = s.tap := rfl
@[simp] theorem State.set_board (f : Fld) (v : Nat) : (s.set f v).board = s.board := rfl
@[simp] theorem State.set_canopy (f : Fld) (v : Nat) : (s.set f v).canopy = s.canopy := rfl
@[simp] theorem State.set_search (f : Fld) (v : Nat) : (s.set f v).search = s.search := rfl
@[simp] theorem State.set_lanes (f : Fld) (v : Nat) : (s.set f v).lanes = s.lanes := rfl
@[simp] theorem State.set_traffic (f : Fld) (v : Nat) : (s.set f v).traffic = s.traffic := rfl
@[simp] theorem State.set_txl (f : Fld) (v : Nat) : (s.set f v).txl = s.txl := rfl
@[simp] theorem State.set_rgp (f : Fld) (v : Nat) : (s.set f v).rgp = s.rgp := rfl
@[simp] theorem State.set_tables (f : Fld) (v : Nat) : (s.set f v).tables = s.tables := rfl
@[simp] theorem State.set_grove (f : Fld) (v : Nat) : (s.set f v).grove = s.grove := rfl
@[simp] theorem State.set_tmu (f : Fld) (v : Nat) : (s.set f v).tmu = s.tmu := rfl
@[simp] theorem State.set_hwd (f : Fld) (v : Nat) : (s.set f v).hwd = s.hwd := rfl
@[simp] theorem State.set_nv (f : Fld) (v : Nat) : (s.set f v).nv = s.nv := rfl
@[simp] theorem State.set_grf (f : Fld) (v : Nat) : (s.set f v).grf = s.grf := rfl
@[simp] theorem State.set_sse (f : Fld) (v : Nat) : (s.set f v).sse = s.sse := rfl
@[simp] theorem State.set_bark (f : Fld) (v : Nat) : (s.set f v).bark = s.bark := rfl

@[simp] theorem State.add_pending (f : Fld) (n : Nat) : (s.add f n).pending = s.pending := rfl
@[simp] theorem State.add_rwoWritten (f : Fld) (n : Nat) : (s.add f n).rwoWritten = s.rwoWritten := rfl
@[simp] theorem State.add_out (f : Fld) (n : Nat) : (s.add f n).out = s.out := rfl
@[simp] theorem State.add_irqLevel (f : Fld) (n : Nat) : (s.add f n).irqLevel = s.irqLevel := rfl
@[simp] theorem State.add_cleared (f : Fld) (n : Nat) : (s.add f n).cleared = s.cleared := rfl
@[simp] theorem State.add_free (f : Fld) (n : Nat) : (s.add f n).free = s.free := rfl
@[simp] theorem State.add_dram (f : Fld) (n : Nat) : (s.add f n).dram = s.dram := rfl
@[simp] theorem State.add_power (f : Fld) (n : Nat) : (s.add f n).power = s.power := rfl
@[simp] theorem State.add_stand (f : Fld) (n : Nat) : (s.add f n).stand = s.stand := rfl
@[simp] theorem State.add_ring (f : Fld) (n : Nat) : (s.add f n).ring = s.ring := rfl
@[simp] theorem State.add_prune (f : Fld) (n : Nat) : (s.add f n).prune = s.prune := rfl
@[simp] theorem State.add_mon (f : Fld) (n : Nat) : (s.add f n).mon = s.mon := rfl
@[simp] theorem State.add_time (f : Fld) (n : Nat) : (s.add f n).time = s.time := rfl
@[simp] theorem State.add_tap (f : Fld) (n : Nat) : (s.add f n).tap = s.tap := rfl
@[simp] theorem State.add_board (f : Fld) (n : Nat) : (s.add f n).board = s.board := rfl
@[simp] theorem State.add_canopy (f : Fld) (n : Nat) : (s.add f n).canopy = s.canopy := rfl
@[simp] theorem State.add_search (f : Fld) (n : Nat) : (s.add f n).search = s.search := rfl
@[simp] theorem State.add_lanes (f : Fld) (n : Nat) : (s.add f n).lanes = s.lanes := rfl
@[simp] theorem State.add_traffic (f : Fld) (n : Nat) : (s.add f n).traffic = s.traffic := rfl
@[simp] theorem State.add_txl (f : Fld) (n : Nat) : (s.add f n).txl = s.txl := rfl
@[simp] theorem State.add_rgp (f : Fld) (n : Nat) : (s.add f n).rgp = s.rgp := rfl
@[simp] theorem State.add_tables (f : Fld) (n : Nat) : (s.add f n).tables = s.tables := rfl
@[simp] theorem State.add_grove (f : Fld) (n : Nat) : (s.add f n).grove = s.grove := rfl
@[simp] theorem State.add_tmu (f : Fld) (n : Nat) : (s.add f n).tmu = s.tmu := rfl
@[simp] theorem State.add_hwd (f : Fld) (n : Nat) : (s.add f n).hwd = s.hwd := rfl
@[simp] theorem State.add_nv (f : Fld) (n : Nat) : (s.add f n).nv = s.nv := rfl
@[simp] theorem State.add_grf (f : Fld) (n : Nat) : (s.add f n).grf = s.grf := rfl
@[simp] theorem State.add_sse (f : Fld) (n : Nat) : (s.add f n).sse = s.sse := rfl
@[simp] theorem State.add_bark (f : Fld) (n : Nat) : (s.add f n).bark = s.bark := rfl

@[simp] theorem State.inc_pending (f : Fld) : (s.inc f).pending = s.pending := rfl
@[simp] theorem State.inc_rwoWritten (f : Fld) : (s.inc f).rwoWritten = s.rwoWritten := rfl
@[simp] theorem State.inc_out (f : Fld) : (s.inc f).out = s.out := rfl
@[simp] theorem State.inc_irqLevel (f : Fld) : (s.inc f).irqLevel = s.irqLevel := rfl
@[simp] theorem State.inc_cleared (f : Fld) : (s.inc f).cleared = s.cleared := rfl
@[simp] theorem State.inc_free (f : Fld) : (s.inc f).free = s.free := rfl
@[simp] theorem State.inc_dram (f : Fld) : (s.inc f).dram = s.dram := rfl
@[simp] theorem State.inc_power (f : Fld) : (s.inc f).power = s.power := rfl
@[simp] theorem State.inc_stand (f : Fld) : (s.inc f).stand = s.stand := rfl
@[simp] theorem State.inc_ring (f : Fld) : (s.inc f).ring = s.ring := rfl
@[simp] theorem State.inc_prune (f : Fld) : (s.inc f).prune = s.prune := rfl
@[simp] theorem State.inc_mon (f : Fld) : (s.inc f).mon = s.mon := rfl
@[simp] theorem State.inc_time (f : Fld) : (s.inc f).time = s.time := rfl
@[simp] theorem State.inc_tap (f : Fld) : (s.inc f).tap = s.tap := rfl
@[simp] theorem State.inc_board (f : Fld) : (s.inc f).board = s.board := rfl
@[simp] theorem State.inc_canopy (f : Fld) : (s.inc f).canopy = s.canopy := rfl
@[simp] theorem State.inc_search (f : Fld) : (s.inc f).search = s.search := rfl
@[simp] theorem State.inc_lanes (f : Fld) : (s.inc f).lanes = s.lanes := rfl
@[simp] theorem State.inc_traffic (f : Fld) : (s.inc f).traffic = s.traffic := rfl
@[simp] theorem State.inc_txl (f : Fld) : (s.inc f).txl = s.txl := rfl
@[simp] theorem State.inc_rgp (f : Fld) : (s.inc f).rgp = s.rgp := rfl
@[simp] theorem State.inc_tables (f : Fld) : (s.inc f).tables = s.tables := rfl
@[simp] theorem State.inc_grove (f : Fld) : (s.inc f).grove = s.grove := rfl
@[simp] theorem State.inc_tmu (f : Fld) : (s.inc f).tmu = s.tmu := rfl
@[simp] theorem State.inc_hwd (f : Fld) : (s.inc f).hwd = s.hwd := rfl
@[simp] theorem State.inc_nv (f : Fld) : (s.inc f).nv = s.nv := rfl
@[simp] theorem State.inc_grf (f : Fld) : (s.inc f).grf = s.grf := rfl
@[simp] theorem State.inc_sse (f : Fld) : (s.inc f).sse = s.sse := rfl
@[simp] theorem State.inc_bark (f : Fld) : (s.inc f).bark = s.bark := rfl

@[simp] theorem State.event_pending (f c : Fld) : (s.event f c).pending = s.pending := rfl
@[simp] theorem State.event_rwoWritten (f c : Fld) : (s.event f c).rwoWritten = s.rwoWritten := rfl
@[simp] theorem State.event_out (f c : Fld) : (s.event f c).out = s.out := rfl
@[simp] theorem State.event_irqLevel (f c : Fld) : (s.event f c).irqLevel = s.irqLevel := rfl
@[simp] theorem State.event_cleared (f c : Fld) : (s.event f c).cleared = s.cleared := rfl
@[simp] theorem State.event_free (f c : Fld) : (s.event f c).free = s.free := rfl
@[simp] theorem State.event_dram (f c : Fld) : (s.event f c).dram = s.dram := rfl
@[simp] theorem State.event_power (f c : Fld) : (s.event f c).power = s.power := rfl
@[simp] theorem State.event_stand (f c : Fld) : (s.event f c).stand = s.stand := rfl
@[simp] theorem State.event_ring (f c : Fld) : (s.event f c).ring = s.ring := rfl
@[simp] theorem State.event_prune (f c : Fld) : (s.event f c).prune = s.prune := rfl
@[simp] theorem State.event_mon (f c : Fld) : (s.event f c).mon = s.mon := rfl
@[simp] theorem State.event_time (f c : Fld) : (s.event f c).time = s.time := rfl
@[simp] theorem State.event_tap (f c : Fld) : (s.event f c).tap = s.tap := rfl
@[simp] theorem State.event_board (f c : Fld) : (s.event f c).board = s.board := rfl
@[simp] theorem State.event_canopy (f c : Fld) : (s.event f c).canopy = s.canopy := rfl
@[simp] theorem State.event_search (f c : Fld) : (s.event f c).search = s.search := rfl
@[simp] theorem State.event_lanes (f c : Fld) : (s.event f c).lanes = s.lanes := rfl
@[simp] theorem State.event_traffic (f c : Fld) : (s.event f c).traffic = s.traffic := rfl
@[simp] theorem State.event_txl (f c : Fld) : (s.event f c).txl = s.txl := rfl
@[simp] theorem State.event_rgp (f c : Fld) : (s.event f c).rgp = s.rgp := rfl
@[simp] theorem State.event_tables (f c : Fld) : (s.event f c).tables = s.tables := rfl
@[simp] theorem State.event_grove (f c : Fld) : (s.event f c).grove = s.grove := rfl
@[simp] theorem State.event_tmu (f c : Fld) : (s.event f c).tmu = s.tmu := rfl
@[simp] theorem State.event_hwd (f c : Fld) : (s.event f c).hwd = s.hwd := rfl
@[simp] theorem State.event_nv (f c : Fld) : (s.event f c).nv = s.nv := rfl
@[simp] theorem State.event_grf (f c : Fld) : (s.event f c).grf = s.grf := rfl
@[simp] theorem State.event_sse (f c : Fld) : (s.event f c).sse = s.sse := rfl
@[simp] theorem State.event_bark (f c : Fld) : (s.event f c).bark = s.bark := rfl

@[simp] theorem State.emit_pending (o : Output) : (s.emit o).pending = s.pending := rfl
@[simp] theorem State.emit_regs (o : Output) : (s.emit o).regs = s.regs := rfl
@[simp] theorem State.emit_rwoWritten (o : Output) : (s.emit o).rwoWritten = s.rwoWritten := rfl
@[simp] theorem State.emit_irqLevel (o : Output) : (s.emit o).irqLevel = s.irqLevel := rfl
@[simp] theorem State.emit_cleared (o : Output) : (s.emit o).cleared = s.cleared := rfl
@[simp] theorem State.emit_free (o : Output) : (s.emit o).free = s.free := rfl
@[simp] theorem State.emit_dram (o : Output) : (s.emit o).dram = s.dram := rfl
@[simp] theorem State.emit_power (o : Output) : (s.emit o).power = s.power := rfl
@[simp] theorem State.emit_stand (o : Output) : (s.emit o).stand = s.stand := rfl
@[simp] theorem State.emit_ring (o : Output) : (s.emit o).ring = s.ring := rfl
@[simp] theorem State.emit_prune (o : Output) : (s.emit o).prune = s.prune := rfl
@[simp] theorem State.emit_mon (o : Output) : (s.emit o).mon = s.mon := rfl
@[simp] theorem State.emit_time (o : Output) : (s.emit o).time = s.time := rfl
@[simp] theorem State.emit_tap (o : Output) : (s.emit o).tap = s.tap := rfl
@[simp] theorem State.emit_board (o : Output) : (s.emit o).board = s.board := rfl
@[simp] theorem State.emit_canopy (o : Output) : (s.emit o).canopy = s.canopy := rfl
@[simp] theorem State.emit_search (o : Output) : (s.emit o).search = s.search := rfl
@[simp] theorem State.emit_lanes (o : Output) : (s.emit o).lanes = s.lanes := rfl
@[simp] theorem State.emit_traffic (o : Output) : (s.emit o).traffic = s.traffic := rfl
@[simp] theorem State.emit_txl (o : Output) : (s.emit o).txl = s.txl := rfl
@[simp] theorem State.emit_rgp (o : Output) : (s.emit o).rgp = s.rgp := rfl
@[simp] theorem State.emit_tables (o : Output) : (s.emit o).tables = s.tables := rfl
@[simp] theorem State.emit_grove (o : Output) : (s.emit o).grove = s.grove := rfl
@[simp] theorem State.emit_tmu (o : Output) : (s.emit o).tmu = s.tmu := rfl
@[simp] theorem State.emit_hwd (o : Output) : (s.emit o).hwd = s.hwd := rfl
@[simp] theorem State.emit_nv (o : Output) : (s.emit o).nv = s.nv := rfl
@[simp] theorem State.emit_grf (o : Output) : (s.emit o).grf = s.grf := rfl
@[simp] theorem State.emit_sse (o : Output) : (s.emit o).sse = s.sse := rfl
@[simp] theorem State.emit_bark (o : Output) : (s.emit o).bark = s.bark := rfl

@[simp] theorem State.used_pending  : (s.used).pending = s.pending := rfl
@[simp] theorem State.used_regs  : (s.used).regs = s.regs := rfl
@[simp] theorem State.used_rwoWritten  : (s.used).rwoWritten = s.rwoWritten := rfl
@[simp] theorem State.used_out  : (s.used).out = s.out := rfl
@[simp] theorem State.used_irqLevel  : (s.used).irqLevel = s.irqLevel := rfl
@[simp] theorem State.used_cleared  : (s.used).cleared = s.cleared := rfl
@[simp] theorem State.used_dram  : (s.used).dram = s.dram := rfl
@[simp] theorem State.used_power  : (s.used).power = s.power := rfl
@[simp] theorem State.used_stand  : (s.used).stand = s.stand := rfl
@[simp] theorem State.used_ring  : (s.used).ring = s.ring := rfl
@[simp] theorem State.used_prune  : (s.used).prune = s.prune := rfl
@[simp] theorem State.used_mon  : (s.used).mon = s.mon := rfl
@[simp] theorem State.used_time  : (s.used).time = s.time := rfl
@[simp] theorem State.used_tap  : (s.used).tap = s.tap := rfl
@[simp] theorem State.used_board  : (s.used).board = s.board := rfl
@[simp] theorem State.used_canopy  : (s.used).canopy = s.canopy := rfl
@[simp] theorem State.used_search  : (s.used).search = s.search := rfl
@[simp] theorem State.used_lanes  : (s.used).lanes = s.lanes := rfl
@[simp] theorem State.used_traffic  : (s.used).traffic = s.traffic := rfl
@[simp] theorem State.used_txl  : (s.used).txl = s.txl := rfl
@[simp] theorem State.used_rgp  : (s.used).rgp = s.rgp := rfl
@[simp] theorem State.used_tables  : (s.used).tables = s.tables := rfl
@[simp] theorem State.used_grove  : (s.used).grove = s.grove := rfl
@[simp] theorem State.used_tmu  : (s.used).tmu = s.tmu := rfl
@[simp] theorem State.used_hwd  : (s.used).hwd = s.hwd := rfl
@[simp] theorem State.used_nv  : (s.used).nv = s.nv := rfl
@[simp] theorem State.used_grf  : (s.used).grf = s.grf := rfl
@[simp] theorem State.used_sse  : (s.used).sse = s.sse := rfl
@[simp] theorem State.used_bark  : (s.used).bark = s.bark := rfl

@[simp] theorem State.setDom_pending (d : Nat) (x : Domain) : (s.setDom d x).pending = s.pending := rfl
@[simp] theorem State.setDom_regs (d : Nat) (x : Domain) : (s.setDom d x).regs = s.regs := rfl
@[simp] theorem State.setDom_rwoWritten (d : Nat) (x : Domain) : (s.setDom d x).rwoWritten = s.rwoWritten := rfl
@[simp] theorem State.setDom_out (d : Nat) (x : Domain) : (s.setDom d x).out = s.out := rfl
@[simp] theorem State.setDom_irqLevel (d : Nat) (x : Domain) : (s.setDom d x).irqLevel = s.irqLevel := rfl
@[simp] theorem State.setDom_cleared (d : Nat) (x : Domain) : (s.setDom d x).cleared = s.cleared := rfl
@[simp] theorem State.setDom_free (d : Nat) (x : Domain) : (s.setDom d x).free = s.free := rfl
@[simp] theorem State.setDom_dram (d : Nat) (x : Domain) : (s.setDom d x).dram = s.dram := rfl
@[simp] theorem State.setDom_stand (d : Nat) (x : Domain) : (s.setDom d x).stand = s.stand := rfl
@[simp] theorem State.setDom_ring (d : Nat) (x : Domain) : (s.setDom d x).ring = s.ring := rfl
@[simp] theorem State.setDom_prune (d : Nat) (x : Domain) : (s.setDom d x).prune = s.prune := rfl
@[simp] theorem State.setDom_mon (d : Nat) (x : Domain) : (s.setDom d x).mon = s.mon := rfl
@[simp] theorem State.setDom_time (d : Nat) (x : Domain) : (s.setDom d x).time = s.time := rfl
@[simp] theorem State.setDom_tap (d : Nat) (x : Domain) : (s.setDom d x).tap = s.tap := rfl
@[simp] theorem State.setDom_board (d : Nat) (x : Domain) : (s.setDom d x).board = s.board := rfl
@[simp] theorem State.setDom_canopy (d : Nat) (x : Domain) : (s.setDom d x).canopy = s.canopy := rfl
@[simp] theorem State.setDom_search (d : Nat) (x : Domain) : (s.setDom d x).search = s.search := rfl
@[simp] theorem State.setDom_lanes (d : Nat) (x : Domain) : (s.setDom d x).lanes = s.lanes := rfl
@[simp] theorem State.setDom_traffic (d : Nat) (x : Domain) : (s.setDom d x).traffic = s.traffic := rfl
@[simp] theorem State.setDom_txl (d : Nat) (x : Domain) : (s.setDom d x).txl = s.txl := rfl
@[simp] theorem State.setDom_rgp (d : Nat) (x : Domain) : (s.setDom d x).rgp = s.rgp := rfl
@[simp] theorem State.setDom_tables (d : Nat) (x : Domain) : (s.setDom d x).tables = s.tables := rfl
@[simp] theorem State.setDom_grove (d : Nat) (x : Domain) : (s.setDom d x).grove = s.grove := rfl
@[simp] theorem State.setDom_tmu (d : Nat) (x : Domain) : (s.setDom d x).tmu = s.tmu := rfl
@[simp] theorem State.setDom_hwd (d : Nat) (x : Domain) : (s.setDom d x).hwd = s.hwd := rfl
@[simp] theorem State.setDom_nv (d : Nat) (x : Domain) : (s.setDom d x).nv = s.nv := rfl
@[simp] theorem State.setDom_grf (d : Nat) (x : Domain) : (s.setDom d x).grf = s.grf := rfl
@[simp] theorem State.setDom_sse (d : Nat) (x : Domain) : (s.setDom d x).sse = s.sse := rfl
@[simp] theorem State.setDom_bark (d : Nat) (x : Domain) : (s.setDom d x).bark = s.bark := rfl

@[simp] theorem State.setPair_pending (lo hi : Fld) (v : Nat) : (s.setPair lo hi v).pending = s.pending := rfl
@[simp] theorem State.setPair_rwoWritten (lo hi : Fld) (v : Nat) : (s.setPair lo hi v).rwoWritten = s.rwoWritten := rfl
@[simp] theorem State.setPair_out (lo hi : Fld) (v : Nat) : (s.setPair lo hi v).out = s.out := rfl
@[simp] theorem State.setPair_irqLevel (lo hi : Fld) (v : Nat) : (s.setPair lo hi v).irqLevel = s.irqLevel := rfl
@[simp] theorem State.setPair_cleared (lo hi : Fld) (v : Nat) : (s.setPair lo hi v).cleared = s.cleared := rfl
@[simp] theorem State.setPair_free (lo hi : Fld) (v : Nat) : (s.setPair lo hi v).free = s.free := rfl
@[simp] theorem State.setPair_dram (lo hi : Fld) (v : Nat) : (s.setPair lo hi v).dram = s.dram := rfl
@[simp] theorem State.setPair_power (lo hi : Fld) (v : Nat) : (s.setPair lo hi v).power = s.power := rfl
@[simp] theorem State.setPair_stand (lo hi : Fld) (v : Nat) : (s.setPair lo hi v).stand = s.stand := rfl
@[simp] theorem State.setPair_ring (lo hi : Fld) (v : Nat) : (s.setPair lo hi v).ring = s.ring := rfl
@[simp] theorem State.setPair_prune (lo hi : Fld) (v : Nat) : (s.setPair lo hi v).prune = s.prune := rfl
@[simp] theorem State.setPair_mon (lo hi : Fld) (v : Nat) : (s.setPair lo hi v).mon = s.mon := rfl
@[simp] theorem State.setPair_time (lo hi : Fld) (v : Nat) : (s.setPair lo hi v).time = s.time := rfl
@[simp] theorem State.setPair_tap (lo hi : Fld) (v : Nat) : (s.setPair lo hi v).tap = s.tap := rfl
@[simp] theorem State.setPair_board (lo hi : Fld) (v : Nat) : (s.setPair lo hi v).board = s.board := rfl
@[simp] theorem State.setPair_canopy (lo hi : Fld) (v : Nat) : (s.setPair lo hi v).canopy = s.canopy := rfl
@[simp] theorem State.setPair_search (lo hi : Fld) (v : Nat) : (s.setPair lo hi v).search = s.search := rfl
@[simp] theorem State.setPair_lanes (lo hi : Fld) (v : Nat) : (s.setPair lo hi v).lanes = s.lanes := rfl
@[simp] theorem State.setPair_traffic (lo hi : Fld) (v : Nat) : (s.setPair lo hi v).traffic = s.traffic := rfl
@[simp] theorem State.setPair_txl (lo hi : Fld) (v : Nat) : (s.setPair lo hi v).txl = s.txl := rfl
@[simp] theorem State.setPair_rgp (lo hi : Fld) (v : Nat) : (s.setPair lo hi v).rgp = s.rgp := rfl
@[simp] theorem State.setPair_tables (lo hi : Fld) (v : Nat) : (s.setPair lo hi v).tables = s.tables := rfl
@[simp] theorem State.setPair_grove (lo hi : Fld) (v : Nat) : (s.setPair lo hi v).grove = s.grove := rfl
@[simp] theorem State.setPair_tmu (lo hi : Fld) (v : Nat) : (s.setPair lo hi v).tmu = s.tmu := rfl
@[simp] theorem State.setPair_hwd (lo hi : Fld) (v : Nat) : (s.setPair lo hi v).hwd = s.hwd := rfl
@[simp] theorem State.setPair_nv (lo hi : Fld) (v : Nat) : (s.setPair lo hi v).nv = s.nv := rfl
@[simp] theorem State.setPair_grf (lo hi : Fld) (v : Nat) : (s.setPair lo hi v).grf = s.grf := rfl
@[simp] theorem State.setPair_sse (lo hi : Fld) (v : Nat) : (s.setPair lo hi v).sse = s.sse := rfl
@[simp] theorem State.setPair_bark (lo hi : Fld) (v : Nat) : (s.setPair lo hi v).bark = s.bark := rfl

@[simp] theorem State.dramWrite_pending (a : Nat) (l : List Byte) : (s.dramWrite a l).pending = s.pending := rfl
@[simp] theorem State.dramWrite_regs (a : Nat) (l : List Byte) : (s.dramWrite a l).regs = s.regs := rfl
@[simp] theorem State.dramWrite_rwoWritten (a : Nat) (l : List Byte) : (s.dramWrite a l).rwoWritten = s.rwoWritten := rfl
@[simp] theorem State.dramWrite_out (a : Nat) (l : List Byte) : (s.dramWrite a l).out = s.out := rfl
@[simp] theorem State.dramWrite_irqLevel (a : Nat) (l : List Byte) : (s.dramWrite a l).irqLevel = s.irqLevel := rfl
@[simp] theorem State.dramWrite_cleared (a : Nat) (l : List Byte) : (s.dramWrite a l).cleared = s.cleared := rfl
@[simp] theorem State.dramWrite_free (a : Nat) (l : List Byte) : (s.dramWrite a l).free = s.free := rfl
@[simp] theorem State.dramWrite_power (a : Nat) (l : List Byte) : (s.dramWrite a l).power = s.power := rfl
@[simp] theorem State.dramWrite_stand (a : Nat) (l : List Byte) : (s.dramWrite a l).stand = s.stand := rfl
@[simp] theorem State.dramWrite_ring (a : Nat) (l : List Byte) : (s.dramWrite a l).ring = s.ring := rfl
@[simp] theorem State.dramWrite_prune (a : Nat) (l : List Byte) : (s.dramWrite a l).prune = s.prune := rfl
@[simp] theorem State.dramWrite_mon (a : Nat) (l : List Byte) : (s.dramWrite a l).mon = s.mon := rfl
@[simp] theorem State.dramWrite_time (a : Nat) (l : List Byte) : (s.dramWrite a l).time = s.time := rfl
@[simp] theorem State.dramWrite_tap (a : Nat) (l : List Byte) : (s.dramWrite a l).tap = s.tap := rfl
@[simp] theorem State.dramWrite_board (a : Nat) (l : List Byte) : (s.dramWrite a l).board = s.board := rfl
@[simp] theorem State.dramWrite_canopy (a : Nat) (l : List Byte) : (s.dramWrite a l).canopy = s.canopy := rfl
@[simp] theorem State.dramWrite_search (a : Nat) (l : List Byte) : (s.dramWrite a l).search = s.search := rfl
@[simp] theorem State.dramWrite_lanes (a : Nat) (l : List Byte) : (s.dramWrite a l).lanes = s.lanes := rfl
@[simp] theorem State.dramWrite_traffic (a : Nat) (l : List Byte) : (s.dramWrite a l).traffic = s.traffic := rfl
@[simp] theorem State.dramWrite_txl (a : Nat) (l : List Byte) : (s.dramWrite a l).txl = s.txl := rfl
@[simp] theorem State.dramWrite_rgp (a : Nat) (l : List Byte) : (s.dramWrite a l).rgp = s.rgp := rfl
@[simp] theorem State.dramWrite_tables (a : Nat) (l : List Byte) : (s.dramWrite a l).tables = s.tables := rfl
@[simp] theorem State.dramWrite_grove (a : Nat) (l : List Byte) : (s.dramWrite a l).grove = s.grove := rfl
@[simp] theorem State.dramWrite_tmu (a : Nat) (l : List Byte) : (s.dramWrite a l).tmu = s.tmu := rfl
@[simp] theorem State.dramWrite_hwd (a : Nat) (l : List Byte) : (s.dramWrite a l).hwd = s.hwd := rfl
@[simp] theorem State.dramWrite_nv (a : Nat) (l : List Byte) : (s.dramWrite a l).nv = s.nv := rfl
@[simp] theorem State.dramWrite_grf (a : Nat) (l : List Byte) : (s.dramWrite a l).grf = s.grf := rfl
@[simp] theorem State.dramWrite_sse (a : Nat) (l : List Byte) : (s.dramWrite a l).sse = s.sse := rfl
@[simp] theorem State.dramWrite_bark (a : Nat) (l : List Byte) : (s.dramWrite a l).bark = s.bark := rfl

@[simp] theorem State.setPruned_pending (c i : Nat) (b : Bool) : (s.setPruned c i b).pending = s.pending := rfl
@[simp] theorem State.setPruned_rwoWritten (c i : Nat) (b : Bool) : (s.setPruned c i b).rwoWritten = s.rwoWritten := rfl
@[simp] theorem State.setPruned_out (c i : Nat) (b : Bool) : (s.setPruned c i b).out = s.out := rfl
@[simp] theorem State.setPruned_irqLevel (c i : Nat) (b : Bool) : (s.setPruned c i b).irqLevel = s.irqLevel := rfl
@[simp] theorem State.setPruned_cleared (c i : Nat) (b : Bool) : (s.setPruned c i b).cleared = s.cleared := rfl
@[simp] theorem State.setPruned_free (c i : Nat) (b : Bool) : (s.setPruned c i b).free = s.free := rfl
@[simp] theorem State.setPruned_dram (c i : Nat) (b : Bool) : (s.setPruned c i b).dram = s.dram := rfl
@[simp] theorem State.setPruned_power (c i : Nat) (b : Bool) : (s.setPruned c i b).power = s.power := rfl
@[simp] theorem State.setPruned_stand (c i : Nat) (b : Bool) : (s.setPruned c i b).stand = s.stand := rfl
@[simp] theorem State.setPruned_ring (c i : Nat) (b : Bool) : (s.setPruned c i b).ring = s.ring := rfl
@[simp] theorem State.setPruned_prune (c i : Nat) (b : Bool) : (s.setPruned c i b).prune = s.prune := rfl
@[simp] theorem State.setPruned_mon (c i : Nat) (b : Bool) : (s.setPruned c i b).mon = s.mon := rfl
@[simp] theorem State.setPruned_time (c i : Nat) (b : Bool) : (s.setPruned c i b).time = s.time := rfl
@[simp] theorem State.setPruned_tap (c i : Nat) (b : Bool) : (s.setPruned c i b).tap = s.tap := rfl
@[simp] theorem State.setPruned_board (c i : Nat) (b : Bool) : (s.setPruned c i b).board = s.board := rfl
@[simp] theorem State.setPruned_canopy (c i : Nat) (b : Bool) : (s.setPruned c i b).canopy = s.canopy := rfl
@[simp] theorem State.setPruned_search (c i : Nat) (b : Bool) : (s.setPruned c i b).search = s.search := rfl
@[simp] theorem State.setPruned_lanes (c i : Nat) (b : Bool) : (s.setPruned c i b).lanes = s.lanes := rfl
@[simp] theorem State.setPruned_traffic (c i : Nat) (b : Bool) : (s.setPruned c i b).traffic = s.traffic := rfl
@[simp] theorem State.setPruned_txl (c i : Nat) (b : Bool) : (s.setPruned c i b).txl = s.txl := rfl
@[simp] theorem State.setPruned_rgp (c i : Nat) (b : Bool) : (s.setPruned c i b).rgp = s.rgp := rfl
@[simp] theorem State.setPruned_tables (c i : Nat) (b : Bool) : (s.setPruned c i b).tables = s.tables := rfl
@[simp] theorem State.setPruned_grove (c i : Nat) (b : Bool) : (s.setPruned c i b).grove = s.grove := rfl
@[simp] theorem State.setPruned_tmu (c i : Nat) (b : Bool) : (s.setPruned c i b).tmu = s.tmu := rfl
@[simp] theorem State.setPruned_hwd (c i : Nat) (b : Bool) : (s.setPruned c i b).hwd = s.hwd := rfl
@[simp] theorem State.setPruned_nv (c i : Nat) (b : Bool) : (s.setPruned c i b).nv = s.nv := rfl
@[simp] theorem State.setPruned_grf (c i : Nat) (b : Bool) : (s.setPruned c i b).grf = s.grf := rfl
@[simp] theorem State.setPruned_sse (c i : Nat) (b : Bool) : (s.setPruned c i b).sse = s.sse := rfl
@[simp] theorem State.setPruned_bark (c i : Nat) (b : Bool) : (s.setPruned c i b).bark = s.bark := rfl

@[simp] theorem State.emit_out (o : Output) : (s.emit o).out = s.out ++ [o] := rfl
@[simp] theorem State.used_free : s.used.free = s.free + 1 := rfl
@[simp] theorem State.dramWrite_dram (a : Nat) (l : List Byte) : (s.dramWrite a l).dram = memWrite s.dram a l := rfl
@[simp] theorem State.setDom_power (d : Nat) (x : Domain) : (s.setDom d x).power = { s.power with doms := if x = ⟨.on, false⟩ then tabErase s.power.doms d else tabPut s.power.doms d x } := rfl

end Sys2Proof.Machine
end

