-- ==== Sys2Proof/Laws/Words.lean ====
section
/-!
SUPPORT. Laws of bit fields of a word: a field read after a write, and the fields beside it.
-/

namespace Sys2Proof.Machine

theorem testBit_wordSet (w : Word) (lsb width v i : Nat) (hi : i < 32) :
    (wordSet w lsb width v).toNat.testBit i
      = if lsb ≤ i ∧ i < lsb + width then v.testBit (i - lsb) else w.toNat.testBit i := by
  rw [BitVec.testBit_toNat, BitVec.testBit_toNat]
  simp only [wordSet, BitVec.getLsbD_or, BitVec.getLsbD_and, BitVec.getLsbD_not, BitVec.getLsbD_shiftLeft,
    BitVec.getLsbD_ofNat, hi, decide_true, Bool.true_and, Nat.testBit_two_pow_sub_one, Nat.testBit_mod_two_pow]
  by_cases h1 : i < lsb
  · have h2 : ¬(lsb ≤ i ∧ i < lsb + width) := by omega
    simp [h1, h2]
  · by_cases h2 : i < lsb + width
    · have h3 : i - lsb < width := by omega
      have h4 : i - lsb < 32 := by omega
      have h5 : lsb ≤ i := by omega
      simp [h1, h3, h4, h5, h2]
    · have h3 : ¬ i - lsb < width := by omega
      simp [h1, h3, h2]

theorem testBit_wordField (w : Word) (lsb width i : Nat) :
    (wordField w lsb width).testBit i = (decide (i < width) && w.toNat.testBit (lsb + i)) := by
  simp [wordField, bits, Nat.testBit_mod_two_pow, Nat.testBit_shiftRight]

/-- A field written holds the written value, cut to its width. -/
@[simp] theorem wordField_wordSet_same (w : Word) (lsb width v : Nat) (h : lsb + width ≤ 32) :
    wordField (wordSet w lsb width v) lsb width = v % 2 ^ width := by
  apply Nat.eq_of_testBit_eq
  intro i
  rw [testBit_wordField, Nat.testBit_mod_two_pow]
  by_cases hi : i < width
  · rw [testBit_wordSet _ _ _ _ _ (by omega)]
    simp [hi]
  · simp [hi]

/-- A field that shares no bit with the written one keeps its value. -/
theorem wordField_wordSet_apart (w : Word) (lsb width v lsb' width' : Nat) (h' : lsb' + width' ≤ 32)
    (h : lsb' + width' ≤ lsb ∨ lsb + width ≤ lsb') :
    wordField (wordSet w lsb width v) lsb' width' = wordField w lsb' width' := by
  apply Nat.eq_of_testBit_eq
  intro i
  rw [testBit_wordField, testBit_wordField]
  by_cases hi : i < width'
  · rw [testBit_wordSet _ _ _ _ _ (by omega)]
    have : ¬(lsb ≤ lsb' + i ∧ lsb' + i < lsb + width) := by omega
    simp [this]
  · simp [hi]

/-- A field is below two to its width. -/
theorem wordField_lt (w : Word) (lsb width : Nat) : wordField w lsb width < 2 ^ width :=
  Nat.mod_lt _ (Nat.two_pow_pos width)

end Sys2Proof.Machine
end

