-- ==== Sys2Proof/Laws/Regs.lean ====
section
/-!
SUPPORT. Laws of the register file: a register or a field read after a write.
-/

namespace Sys2Proof.Machine

variable (s : State)

@[simp] theorem State.reg_setReg_same (off : Nat) (w : Word) : (s.setReg off w).reg off = w := tabGet_put_same _ _ _ _

theorem State.reg_setReg_ne {off off' : Nat} (w : Word) (h : off' ≠ off) : (s.setReg off w).reg off' = s.reg off' :=
  tabGet_put_ne _ _ _ h

/-- What a register reads depends on the register file alone. -/
theorem State.reg_congr {s t : State} (h : s.regs = t.regs) (off : Nat) : s.reg off = t.reg off := by
  unfold State.reg; rw [h]

/-- What a field reads depends on its register alone. -/
theorem State.get_congr {s t : State} (f : Fld) (h : s.reg f.off = t.reg f.off) : s.get f = t.get f := by
  unfold State.get; rw [h]

theorem State.reg_set_ne {off : Nat} (f : Fld) (v : Nat) (h : off ≠ f.off) : (s.set f v).reg off = s.reg off :=
  s.reg_setReg_ne _ h

theorem State.reg_set_same (f : Fld) (v : Nat) : (s.set f v).reg f.off = wordSet (s.reg f.off) f.lsb f.width v :=
  s.reg_setReg_same _ _

theorem State.reg_add_ne {off : Nat} (f : Fld) (n : Nat) (h : off ≠ f.off) : (s.add f n).reg off = s.reg off :=
  s.reg_set_ne f _ h

theorem State.reg_inc_ne {off : Nat} (f : Fld) (h : off ≠ f.off) : (s.inc f).reg off = s.reg off := s.reg_add_ne f 1 h

theorem State.reg_event_ne {off : Nat} (f c : Fld) (h : off ≠ f.off) (h' : off ≠ c.off) :
    (s.event f c).reg off = s.reg off := by
  rw [State.event, State.reg_inc_ne _ _ h', State.reg_set_ne _ _ _ h]

/-- A field set reads the value set, cut to its width. -/
theorem State.get_set_same (f : Fld) (v : Nat) (h : f.lsb + f.width ≤ 32) : (s.set f v).get f = v % 2 ^ f.width := by
  rw [State.get, State.reg_set_same, wordField_wordSet_same _ _ _ _ h]

/-- A field of another register keeps its value. -/
theorem State.get_set_off (f g : Fld) (v : Nat) (h : g.off ≠ f.off) : (s.set f v).get g = s.get g :=
  State.get_congr g (s.reg_set_ne f v h)

/-- A field of the same register that shares no bit keeps its value. -/
theorem State.get_set_apart (f g : Fld) (v : Nat) (hg : g.lsb + g.width ≤ 32)
    (h : g.lsb + g.width ≤ f.lsb ∨ f.lsb + f.width ≤ g.lsb) : (s.set f v).get g = s.get g := by
  by_cases ho : g.off = f.off
  · rw [State.get, ho, State.reg_set_same, wordField_wordSet_apart _ _ _ _ _ _ hg h, State.get, ho]
  · exact s.get_set_off f g v ho

/-- A counter counts up to its greatest value (R28). -/
theorem State.get_inc_same (f : Fld) (h : f.lsb + f.width ≤ 32) : (s.inc f).get f = min (s.get f + 1) (2 ^ f.width - 1) := by
  have := Nat.two_pow_pos f.width
  rw [State.inc, State.add, State.get_set_same _ _ _ h]
  exact Nat.mod_eq_of_lt (by omega)

theorem State.get_lt (f : Fld) : s.get f < 2 ^ f.width := wordField_lt _ _ _

/-! Power domains: a read after a write. -/

theorem State.dom_setDom_same (s : State) (d : Nat) (x : Domain) : (s.setDom d x).dom d = x := by
  unfold State.dom
  rw [State.setDom_power]
  dsimp only
  split
  · simp [*]
  · simp

theorem State.dom_setDom_ne (s : State) {d e : Nat} (x : Domain) (h : e ≠ d) : (s.setDom d x).dom e = s.dom e := by
  unfold State.dom
  rw [State.setDom_power]
  dsimp only
  split
  · exact tabGet_erase_ne _ _ h
  · exact tabGet_put_ne _ _ _ h

end Sys2Proof.Machine
end

