-- ==== Sys2Proof/Laws/Settle.lean ====
section
/-!
SUPPORT. What the close of a command does: it brings CNP_STAT and TMU_STAT up to date, raises interrupts, and leaves
every other register and part as it was.
-/

namespace Sys2Proof.Machine

/-- Nothing but outputs, interrupts and the power of domains changed. -/
def Quiet (s t : State) : Prop := t.regs = s.regs ∧ ∀ p : Part, p.same s t

theorem Quiet.refl (s : State) : Quiet s s := ⟨rfl, fun p => by cases p <;> simp [Part.same]⟩

theorem Part.same_trans {p : Part} {s t u : State} (h : p.same s t) (k : p.same t u) : p.same s u := by
  cases p <;> simp only [Part.same] at * <;> first | exact k.trans h | exact fun a => (k a).trans (h a) | (rw [← h, ← k])

theorem Quiet.trans {s t u : State} (h : Quiet s t) (k : Quiet t u) : Quiet s u :=
  ⟨k.1.trans h.1, fun p => Part.same_trans (h.2 p) (k.2 p)⟩

theorem each_quiet {α : Type} (l : List α) (f : α → State → State) (hf : ∀ x s, Quiet s (f x s)) (s : State) :
    Quiet s (each l f s) := by
  induction l generalizing s with
  | nil => exact .refl s
  | cons x rest ih => exact (hf x s).trans (ih (f x s))

theorem quiet_emit (s : State) (o : Output) : Quiet s (s.emit o) := ⟨rfl, fun p => by cases p <;> simp [Part.same]⟩

theorem quiet_setDom (s : State) (d : Nat) (x : Domain) : Quiet s (s.setDom d x) :=
  ⟨rfl, fun p => by cases p <;> simp [Part.same]⟩

theorem quiet_wakeDomain (d : Nat) (s : State) : Quiet s (wakeDomain d s) := by
  unfold wakeDomain
  split <;> first | exact quiet_setDom .. | exact .refl s

theorem quiet_pba (s : State) (l : List Nat) : Quiet s { s with tap := { s.tap with pba := l } } :=
  ⟨rfl, fun p => by cases p <;> simp [Part.same]⟩

theorem quiet_waiting (s : State) (l : List Nat) : Quiet s { s with power := { s.power with crownIrqWaiting := l } } :=
  ⟨rfl, fun p => by cases p <;> simp [Part.same]⟩

theorem quiet_when (b : Bool) (f : State → State) (hf : ∀ s, Quiet s (f s)) (s : State) : Quiet s (s.when b f) := by
  unfold State.when
  split
  · exact hf s
  · exact .refl s

theorem quiet_wakeCrown (s : State) : Quiet s (wakeCrown s) :=
  each_quiet _ _ (fun _ _ => quiet_when _ _ (quiet_wakeDomain _) _) s

theorem quiet_sendMsix (v : Nat) (s : State) : Quiet s (sendMsix v s) := by
  unfold sendMsix
  dsimp only
  split
  · exact quiet_pba ..
  · split
    · exact quiet_emit ..
    · split
      · exact (quiet_pba ..).trans (quiet_wakeDomain ..)
      · exact quiet_pba ..

/-- Raising an interrupt (R414, R382). -/
theorem quiet_raiseIrq (v b : Nat) (s : State) : Quiet s (raiseIrq v b s) := by
  unfold raiseIrq
  dsimp only
  split
  · exact quiet_sendMsix v s
  · split
    · split
      · exact (quiet_wakeCrown s).trans (quiet_waiting ..)
      · exact (quiet_wakeCrown s).trans (quiet_emit ..)
    · exact .refl s

/-- Nothing but the two registers that follow others changed, beside what Quiet allows. -/
def Settled (s t : State) : Prop := (∀ off, off ∉ followers → t.reg off = s.reg off) ∧ ∀ p : Part, p.same s t

theorem Settled.trans {s t u : State} (h : Settled s t) (k : Settled t u) : Settled s u :=
  ⟨fun off ho => (k.1 off ho).trans (h.1 off ho), fun p => Part.same_trans (h.2 p) (k.2 p)⟩

theorem settled_follow (f : Fld) (hf : f.off ∈ followers) (v : Nat) (s : State) : Settled s (follow f v s) := by
  unfold follow
  split
  · exact ⟨fun _ _ => rfl, (Quiet.refl s).2⟩
  · exact ⟨fun off ho => s.reg_set_ne f v (fun e => ho (e ▸ hf)), fun p => by cases p <;> simp [Part.same]⟩

theorem settled_derive (s : State) : Settled s (derive s) :=
  (settled_follow F.CNP_STAT_chain_evt (by decide) _ s).trans (settled_follow F.TMU_STAT_unit_evt (by decide) _ _)

theorem Quiet.settled {s t : State} (h : Quiet s t) : Settled s t := ⟨fun off _ => State.reg_congr h.1 off, h.2⟩

theorem quiet_used (s : State) : Quiet s s.used := ⟨rfl, fun p => by cases p <;> simp [Part.same, State.used]⟩

theorem quiet_noted (s : State) (lv : List Nat) (c : List (Nat × Nat)) : Quiet s { s with irqLevel := lv, cleared := c } :=
  ⟨rfl, fun p => by cases p <;> simp [Part.same]⟩

/-- The close of a command. -/
theorem settled_settle (s0 s : State) : Settled s (settle s0 s) :=
  (settled_derive s).trans (((each_quiet _ _ (fun (q : IrqSource) s => quiet_raiseIrq q.vector q.block s) _).trans
    ((each_quiet _ _ (fun (q : IrqSource) s => (quiet_when _ _ (quiet_raiseIrq q.vector q.block) s).trans (quiet_used _)) _).trans
      (quiet_noted _ _ _))).settled)

@[simp] theorem settle_reg (s0 s : State) {off : Nat} (h : off ∉ followers) : (settle s0 s).reg off = s.reg off :=
  (settled_settle s0 s).1 off h

@[simp] theorem settle_get (s0 s : State) {f : Fld} (h : f.off ∉ followers) : (settle s0 s).get f = s.get f :=
  State.get_congr f (settle_reg s0 s h)

theorem settle_same (p : Part) (s0 s : State) : p.same s (settle s0 s) := (settled_settle s0 s).2 p

theorem settle_regsBut (offs : List Nat) {s s0 t : State} (h : RegsBut offs s t) : RegsBut offs s (settle s0 t) :=
  fun off ho hf => (settle_reg s0 t hf).trans (h off ho hf)

theorem settle_partsBut (ps : List Part) {s s0 t : State} (h : PartsBut ps s t) : PartsBut ps s (settle s0 t) :=
  fun p hp => Part.same_trans (h p hp) (settle_same p s0 t)

theorem settle_frame (offs : List Nat) (ps : List Part) {s s0 t : State} (h : Frame offs ps s t) :
    Frame offs ps s (settle s0 t) := ⟨settle_regsBut offs h.1, settle_partsBut ps h.2⟩

/-- The levels noted at the close are those of the closed state: messages change no register. -/
theorem settle_irqLevel (s0 s : State) : (settle s0 s).irqLevel = irqLevels (derive s) := rfl

/-- A command whose effect is `f` is carried out, and what holds of the closed state holds of the next. -/
theorem does_run {c : Instr} {s : State} {f : State → State} {P : State → Prop} (hc : exec c s = run f s)
    (h : P (settle s (f { s with out := [] }))) : Does c s P := ⟨_, hc, h⟩

end Sys2Proof.Machine
end

