-- ==== Sys2Proof/Tests/States.lean ====
section
/-!
SUPPORT. Small states for tests: the state after reset with a few fields set.
-/

namespace Sys2Proof.Tests

open Machine

/-- The state after reset with some fields set. -/
def up (l : List (Fld × Nat)) : State := l.foldl (fun s x => s.set x.1 x.2) State.reset

/-- The state after reset with one domain in a given power state, and some fields set. -/
def dom (d : Nat) (st : DomState) (l : List (Fld × Nat)) : State := (up l).setDom d ⟨st, false⟩

/-- A plan with one O-QPSK pool, number 2. -/
def onePool : Plan := { lanes := [⟨2, 1, 1, [1, 0, 0, 0]⟩] }

/-- A window that searches for O-QPSK on stream 0, with lane 543 in the plan's pool. -/
def searchable : State :=
  { up [(F.SPC_STREAM_valid 0, 1), (F.CHZ_WIN_CFG_filled 0, 1), (F.CHZ_WIN_CFG_bin_code 0, 8), (F.SRH_STREAM_STATUS_state 0, 1),
      (F.SRH_LANE_MAP_role 543, 1), (F.SRH_LANE_MAP_pool 543, 2), (F.SRH_CFG_merge_tol, 0)] with
    stand := { inForce := some onePool }
    search := { fmtInForce := [(0, 7)] } }

/-- A request of stream 0 for the plan's pool. -/
def aRequest : LaneRequest := ⟨0, 1, 0, 200, 0, 0, 0, 0, none, 2, false, none⟩

/-- The same with a request that waits. -/
def requesting : State := { searchable with search := { fmtInForce := [(0, 7)], requests := [aRequest] } }

/-- A frame on lane 543, its delimiter found, an O-QPSK header of 5 octets decoded, its cells held. -/
def aFrame (found phr : Bool) : LaneFrame :=
  { req := aRequest, position := 0, gen := 0, cfg := 0#32, eq := 0#32, fsk := 0#32, stored := false, found := found, coded := false
    sfdStamp := 2560, phrKnown := phr, phr := 5, len := 5, whitened := false, crc16 := true, cells := [], noBuffer := false
    eqReset := false }

/-- Nothing measured. -/
def noMeasure : FrameMeasure := ⟨0, 0, 0, 0, 0, []⟩

/-- Soft values of hard bits. -/
def soft (l : List Bool) : List Int := l.map (fun b => if b then 1 else -1)

/-- O-QPSK soft chips of octets. -/
def chips (l : List Byte) : List Int := soft (l.flatMap (fun b => (nibbles b).flatMap chipsOf))

/-- One symbol that meets every tap with 1, and the waveform it should have. -/
def oneSymbol (v : Rat) : EqSymbol := ⟨List.replicate 16 (1, 0), (v, 0)⟩

/-- An equaliser trained with a mean error power of 1, after 31 symbols of error power 1,000. -/
def strained : Equaliser := { trained := some [(3, 4)], trainErr := [1], dataErr := List.replicate 31 1000 }

/-- A lane that holds that frame. -/
def holding (found phr : Bool) : State := { searchable with lanes := { frames := [(543, aFrame found phr)] } }

/-- A limb in a given state. -/
def limbAt (l code : Nat) (x : LimbState) : State :=
  { up [(F.TXL_STATUS_state l, code)] with txl := { limbs := [(l, x)] } }

/-- An O-QPSK frame for a limb at 900 MHz, its launch at 10 µs, that returns to STANDBY. -/
def aTx (l : Nat) : TxDesc :=
  { limb := l, format := 1, mode := 0, coded := false, whiten := false, crc16 := true, cxPri := false, interleave := false
    rsc := false, ret := 1, power := 0, preamble := 32, launch := 2560000, chanFw := 600000000, tilt := 0, nextFw := 0
    cells := [], psdu := [1#8, 2#8, 3#8, 4#8, 5#8], sfdGroup := 0, cell := none, lid := 5, tag := 0, weights := [], arrival := 0 }

/-- A profile of one range that allows everything. -/
def aProfile : List Byte :=
  List.replicate 5 0#8 ++ [1#8] ++ List.replicate 26 0#8 ++ [1#8, 7#8, 0#8, 0#8] ++ leBytes 4 410000 ++ leBytes 4 2500000
    ++ List.replicate 468 0#8

/-- A limb that stands READY for that frame at its ramp start. -/
def readyToSend (l : Nat) : State :=
  { up [(F.TXL_STATUS_state l, 4), (F.TXL_STATUS_locked l, 1), (F.TXL_FREQ_fw l, 600000000)] with
    txl := { limbs := [(l, { queue := [aTx l] })] }
    rgp := { inForce := aProfile }
    time := { ns := 6000 } }

/-- Window 3 spans 900 MHz and its set gates transmission. -/
def coexFields : List (Fld × Nat) :=
  [(F.CHZ_WIN_CFG_enable 3, 1), (F.CHZ_WIN_CENTRE_centre_khz 3, 900000), (F.CHZ_WIN_WIDTH_width_khz 3, 20000), (F.TXL_CX_CTL_active 3, 1)]

/-- A profile whose range 0 has a duty window of 1,000 s. -/
def dutyProfile : List Byte := aProfile.take 48 ++ leBytes 2 1000 ++ leBytes 2 100 ++ List.replicate 460 0#8

/-- A profile whose range 0 has a dwell window of 0.1 s and channels of 100 kHz. -/
def dwellProfile : List Byte := aProfile.take 52 ++ leBytes 2 1 ++ [0#8, 0#8] ++ leBytes 2 100 ++ List.replicate 454 0#8

/-- A descriptor of an acknowledgement frame from short address 5 in the cell 7 of ASN 9. -/
def aDescriptor (status : Nat) : RxDescriptor :=
  { status := status, format := 1, catchClass := 0, mode := 0, flags := 0, lane := 0, pool := 2, gen := 0, position := 0, stream := 0
    bin := 0, window := 0, beam := 0, cell := some (9, 7), sfdStamp := 0, catchOffset := 0, cfo := 0, symRate := 0, rssi := 0
    snr := 20, detSnr := 20, fecCorr := 0, psduLen := 11, phr := 11, cells := [], asn := 9, macFlags := 0, endDelta := 0, seq := 0
    chanVec := [], psdu := [2#8, 0x90#8, 1#8, 0#8, 0#8, 5#8, 0#8, 0#8, 0#8, 0#8, 0#8] }

/-- A state a nanosecond late for a launch at 10 µs. -/
def late (s : State) : State := { s with time := { s.time with ns := 6001 } }

/-- A frame in a virtual queue. -/
def aVqFrame : VqFrame :=
  { payload := [0xF1#8, 1#8], cls := 0, ingress := 5, header := [], spilled := none, cells := [], attempts := 0, taken := true, broadcast := false }

/-- A receive cell that is posted. -/
def aPost : RxPost := ⟨9, 7, 0, 0, false, false, 1000, 2000, 1500, [], none, {}, false⟩

/-- The schedule runs with one receive cell, at index 3 of a slotframe of one timeslot. -/
def oneCell : State :=
  { up [(F.SSE_CTL_run, 1), (F.SSE_SF0_en 0, 1), (F.SSE_SF0_size 0, 1), (F.SSE_SF2_count 0, 8), (F.CHZ_WIN_CFG_enable 0, 1),
      (F.CHZ_BIN_valid 9, 1)] with
    tables := { cells := [(6, 0x80000000#32), (7, 0x80000000#32)] } }

/-- An untagged frame in a port queue, on VLAN 1. -/
def aPortFrame : PortFrame := ⟨List.replicate 60 7#8, 1, 0, 0, 5, 0, 0, false, [], none, false⟩

/-- Keys in the slots that the part uses for itself. -/
def ownKeys : Tab Shares := (upTo 10).map (fun i => (i, ⟨[5#8], [6#8]⟩))

/-- Heartwood rooted, measured and with a blob area, generation 0 ACTIVE, its own slots in use, DRAM of 64 MiB. -/
def rooted (l : List (Fld × Nat)) : State :=
  { up ([(F.HWD_STATUS_root, 1), (F.HWD_STATUS_meas_final, 31), (F.HWD_GEN_gen0, 2), (F.HWD_BLOB_CFG_en, 1), (F.HWD_ENGINE_kwp, 3),
      (F.DDR_SIZE_mib, 64)]
      ++ ([2, 3, 4, 5, 6, 7, 8, 9].flatMap (fun i => [(F.HWD_SLOT_ATTR_valid i, 1), (F.HWD_SLOT_ATTR_usage i, 7680)])) ++ l) with
    hwd := { keys := ownKeys } }

/-- A slot that holds a key for every use and both channels. -/
def slotFields (i : Nat) : List (Fld × Nat) :=
  [(F.HWD_SLOT_ATTR_valid i, 1), (F.HWD_SLOT_ATTR_usage i, 1023), (F.HWD_SLOT_ATTR_requester i, 3)]

/-- The header of an UNLOCK message of the operator. -/
def unlockHeader : List Byte :=
  [0x42#8, 0x58#8, 0x4B#8, 0x55#8, 1#8, 5#8, 1#8, 0#8] ++ List.replicate 50 0#8 ++ [8#8, 0#8, 0#8, 0#8, 0#8, 0#8]

/-- Heartwood with that message in channel 1's buffer. -/
def unlocking : State := { rooted [(F.HWD_STATUS_locked, 1)] with dram := memWrite [] 0 unlockHeader }

/-- A grove message of router 3 with a sequence of 1 and a tag of 16 bytes. -/
def groveMsg (type : Nat) (body : List Byte) : List Byte :=
  leBytes 1 type ++ [2#8, 0#8, 3#8] ++ leBytes 8 0 ++ leBytes 4 1 ++ leBytes 2 body.length ++ [0#8, 0#8] ++ body ++ List.replicate 16 0xAA#8

/-- A message in an Ethernet frame from the all-zero addresses. -/
def groveEth (m : List Byte) : List Byte :=
  List.replicate 12 0#8 ++ [0x86#8, 0xDD#8, 0x60#8, 0#8, 0#8, 0#8] ++ beBytes 2 (m.length + 8) ++ [17#8, 64#8] ++ List.replicate 32 0#8
    ++ beBytes 2 48011 ++ beBytes 2 48011 ++ beBytes 2 (m.length + 8) ++ [0#8, 0#8] ++ m

/-- Router 1 in a grove, with the key in slot 0, router 3 as a peer, and port 2 up. -/
def inGrove (l : List (Fld × Nat)) : State :=
  { up ([(F.ETH_STATUS_link_up 2, 1), (F.ETH_VLAN_MEMB_memb 2 0, 2), (F.ETH_CFG_def_vlan 2, 1), (F.TRF_CELLS_cells, 65536), (F.GRV_CFG_en, 1),
      (F.GRV_CFG_router_id, 1), (F.GRV_PEER_CFG_en 3, 1), (F.GRV_PEER_STATUS_ver 3, 2), (F.GRF_RELAY_UP_up_mask_lo, 8)] ++ slotFields 0 ++ l) with
    hwd := { keys := [(0, ⟨[1#8], [2#8]⟩)] } }

/-- A manifest of a full graft of no bytes, of type LANE. -/
def aManifest : List Byte :=
  [0x42#8, 0x58#8, 0x47#8, 0x4D#8, 1#8, 3#8, 1#8, 0#8, 0x60#8, 0x71#8, 0#8, 0#8, 9#8, 0#8, 0#8, 0#8] ++ List.replicate 112 0#8

/-- A manifest of the same with one piece of 5 bytes. -/
def onePiece : List Byte := aManifest.take 0x1C ++ leBytes 4 5 ++ List.replicate 96 0#8

/-- A step of type 3 that is activated, or not. -/
def aPlan (type : Nat) (activated confirmed : Bool) : PlanRun := ⟨[], type, 0, [], activated, 5000, confirmed, false, false⟩

/-- The first bytes of a challenge record of a signer for a lifecycle state, and its rest with a session of a second. -/
def challengeOf (state signer : Byte) : List Byte :=
  [0x42#8, 0x58#8, 0x44#8, 0x43#8, 1#8, state, signer, 0#8] ++ List.replicate 64 0#8 ++ [1#8, 0#8, 0xFF#8, 1#8, 0#8, 0#8, 0#8, 0#8]

/-- A challenge record of the vendor for a RETURNED part, with a signature of its length. -/
def aChallenge : List Byte := challengeOf 4#8 0#8 ++ List.replicate 9893 0#8

/-- A challenge record of the operator for a DEPLOYED part, with a signature of its length. -/
def aDebugChallenge : List Byte := challengeOf 3#8 1#8 ++ List.replicate 2820 0#8

/-- The commit of a debug record. -/
def debugCommit : KuRecord :=
  { (⟨0, 7, 0, 0, 1, [], materialDigest [5#8], 0⟩ : KuRecord) with crc := crc32 (KuRecord.bytes ⟨0, 7, 0, 0, 1, [], materialDigest [5#8], 0⟩) }

/-- A DEPLOYED part with a committed debug record and a challenge out. -/
def debugPart : State :=
  { up [(F.BRK_LC_state, 3), (F.HWD_SLOT_ATTR_valid 10, 1), (F.HWD_SLOT_ATTR_usage 10, 8192)] with
    mon := { nonce := some (List.replicate 32 0#8) }, hwd := { keys := [(10, ⟨[1#8], [2#8]⟩)] },
    nv := { debugKey := [(0, ([5#8], [6#8]))], journal := [(0, debugCommit)] } }

theorem debugPart_record : debugRecord debugPart = some ([5#8], [6#8]) := by
  have h : debugCommit.valid = true := by simp [KuRecord.valid, debugCommit, KuRecord.bytes]
  have v : validRecords debugPart = [debugCommit] := by simp [validRecords, debugPart, h]
  have k : tabFind debugPart.nv.debugKey debugCommit.position = some ([5#8], [6#8]) := by decide
  have q : debugCommit.kind = 7 ∧ debugCommit.material = materialDigest [5#8] := ⟨rfl, rfl⟩
  rw [debugRecord, v]
  simp only [List.foldl_cons, List.foldl_nil, k]
  rw [if_pos q]; rfl

end Sys2Proof.Tests
end

