-- ==== Sys2Proof/Tests/Slice0.lean ====
section
/-!
SUPPORT. Tests: ill-formed commands are refused; worked encodings and small commands give the values the specification
states; and of every statement with hypotheses, states and operands that meet them.
-/

namespace Sys2Proof.Tests

open Machine

set_option Elab.async false

/-! One ill-formed command for each check of WellFormed. -/

theorem test_bad_initiator : WellFormed (.tmbStep 7) = false := by decide
theorem test_bad_core : WellFormed (.crownNarrowStore 4 0 1 true) = false := by decide
theorem test_bad_width : WellFormed (.crownNarrowStore 0 0 3 true) = false := by decide
theorem test_bad_crossing : WellFormed (.fifoOverflow 28 1) = false := by decide
theorem test_bad_limb : WellFormed (.synthLock 8) = false := by decide
theorem test_bad_lane : WellFormed (.eqReset 544 []) = false := by decide
theorem test_bad_port : WellFormed (.linkUp 4) = false := by decide
theorem test_bad_chain : WellFormed (.overloadDetect 16) = false := by decide
theorem test_bad_window : WellFormed (.windowFilled 4) = false := by decide
theorem test_bad_bin : WellFormed (.blindWeightRecompute 1024) = false := by decide
theorem test_bad_stream : WellFormed (.laneRequestRefused 2048) = false := by decide
theorem test_bad_pool : WellFormed (.laneArbiterRound 16) = false := by decide
theorem test_bad_group4 : WellFormed (.spareTestTimer 4) = false := by decide
theorem test_bad_pair : WellFormed (.gangLeaderTakeover 2) = false := by decide
theorem test_bad_asn : WellFormed (.cellRead (2 ^ 40) []) = false := by decide
theorem test_bad_cell : WellFormed (.cellMiss 0 (2 ^ 19)) = false := by decide
theorem test_bad_lid : WellFormed (.resyncWaitExpiry (2 ^ 17)) = false := by decide
theorem test_bad_unit : WellFormed (.tmuOverflow 32) = false := by decide
theorem test_bad_slot : WellFormed (.leafImport 0 0 64 []) = false := by decide
theorem test_bad_sensor : WellFormed (.barkEpisodeEnd 10) = false := by decide
theorem test_bad_service : WellFormed (.budgetWrite 0 7 0#32) = false := by decide
theorem test_bad_domain : WellFormed (.domainIdleExpiry 28) = false := by decide
theorem test_bad_matched : WellFormed (.budDetect 65) = false := by decide
theorem test_bad_shaper : WellFormed (.shaperCreditZero 96) = false := by decide
theorem test_bad_meter : WellFormed (.meterConfigWrite 0 4096 0 0#32) = false := by decide
theorem test_bad_vector : WellFormed (.msixCoalesceExpiry 64) = false := by decide
theorem test_bad_range : WellFormed (.dutyBucketAdvance 12 false) = false := by decide
theorem test_bad_halfWord : WellFormed (.stallWatchdogExpiry 0 (2 ^ 16)) = false := by decide
theorem test_bad_byte : WellFormed (.readmit 256 0) = false := by decide
theorem test_bad_channel : WellFormed (.calRequest 0 0 (2 ^ 15)) = false := by decide
theorem test_bad_ring : WellFormed (.dmaLockTimeout 2 0) = false := by decide
theorem test_bad_alloc : WellFormed (.trfReserveWrite 0 6 0#32) = false := by decide
theorem test_bad_ringIndex : WellFormed (.rrRead (2 ^ 16) 1 0) = false := by decide
theorem test_bad_type : WellFormed (.graftApply 6 false) = false := by decide
theorem test_bad_peer : WellFormed (.rank2AdoptTimer 64) = false := by decide
theorem test_bad_set : WellFormed (.bghSetStage 0 4096 0#32) = false := by decide
theorem test_bad_bank : WellFormed (.bankCopyDone 296) = false := by decide
theorem test_bad_wakeCode : WellFormed (.wakeHoldExpiry 12) = false := by decide
theorem test_bad_wordOf8 : WellFormed (.shaperConfigWrite 0 0 8 0#32) = false := by decide
theorem test_bad_offset : WellFormed (.registerWrite 0 2 0#32 0#32) = false := by decide
theorem test_bad_detection : WellFormed (.preambleDetect ⟨0, 3, 0, 0, 0, 0⟩) = false := by decide
theorem test_bad_quiets : WellFormed (.timeslotEdge [⟨1024, 0, 0⟩] []) = false := by decide
theorem test_bad_reports : WellFormed (.timeslotEdge [] [⟨16, 0, 0⟩]) = false := by decide
theorem test_bad_barByte : WellFormed (.crownNarrowStore 0 (2 ^ 26) 1 true) = false := by decide
theorem test_well_formed : WellFormed (.registerWrite 6 0x24 0#32 0#32) = true := by decide

/-! The worked encodings of the specification. -/

/-- The PHR of L = 24, version 1 is 0xA118 (R101). -/
theorem test_understory_phr_check : crc4 0x118 = 0xA := by decide +kernel

/-- The home bucket of K = 1 under S = 0 is 48,792 (R200). -/
theorem test_learning_hash : homeBucket 1 0 = 48792 := by decide +kernel

/-- The dedicated receive cell of LID 31,207 in slotframe 3 at timeslot 417 (R163). -/
theorem test_cell_encoding :
    cellAt { State.reset with tables := { cells := [(10, 0x880079E7#32), (11, 0x86034218#32)] } } 5
      = ⟨5, 3, 417, 12, false, true, false, true, 0, 1, 0, 31207⟩ := by decide +kernel

/-- A correction of −38 µs in a Time Correction IE (R173). -/
theorem test_time_correction : timeCorrection (-38) = [0x02#8, 0x0F#8, 0xDA#8, 0x0F#8] := by decide +kernel

/-- Router 5 announces epoch 7 for set 0x0012 (R180, R360). -/
theorem test_bexora_ie : bexoraIe 2 5 [subfield 1 [7#8, 0#8, 0#8, 0#8, 0#8, 0x12#8, 0#8]]
    = [0x0E#8, 0#8, 0x7A#8, 0xE5#8, 0x1B#8, 2#8, 5#8, 1#8, 7#8, 7#8, 0#8, 0#8, 0#8, 0#8, 0x12#8, 0#8] := by decide +kernel

/-- A correctionField of 640 ns takes a residence of 12,841.5 ns, and its trailer becomes 0x4DD6 (R256, R257). -/
theorem test_residence_time :
    correct ⟨0, true, 0⟩ (128415 * 256 / 10) (List.replicate 8 0#8 ++ beBytes 8 0x02800000) = List.replicate 8 0#8 ++ beBytes 8 0x34A98000
      ∧ withTrailer (beBytes 8 0x02800000 ++ [0#8, 0#8]) (beBytes 8 0x34A98000 ++ [0#8, 0#8]) = beBytes 8 0x34A98000 ++ [0x4D#8, 0xD6#8] := by
  decide +kernel

/-- The first 16 words of the descriptor of leaf 9,406 (R110). -/
theorem test_receive_descriptor :
    wordsOf ((descriptorBytes
      { status := 0, format := 1, catchClass := 0, mode := 0, flags := 0x3C, lane := 140, pool := 1, gen := 0, position := 10
        stream := 550, bin := 202, window := 2, beam := 0, cell := some (100000, 0x49A2D), sfdStamp := (1000000000000 + 1506000) * 256 + 0x80
        catchOffset := 6250, cfo := 29400, symRate := 1200, rssi := -344, snr := 96, detSnr := 90, fecCorr := 0, psduLen := 20, phr := 20
        cells := [6700], asn := 100000, macFlags := 0, endDelta := 672000, seq := 0x31F40, chanVec := [], psdu := [] }).take 64)
      = [0x3C400001, 0x0A00048C, 0x08CA0226, 0x80049A2D, 0xBC0AD080, 0x0000E8D4, 0x0000186A, 0x000072D8, 0xFEA804B0, 0x00C05A60,
         0x00140014, 0x01001A2C, 0x000186A0, 0, 0x000A4100, 0x00031F40] := by decide +kernel

/-- The channel word of 2,450 MHz and the word the limb tunes to with a tilt of 1,200 (R120, R133). -/
theorem test_tilted_word :
    chanWord 24500000 = 0x615AB055 ∧ tiltedWord { aTx 5 with chanFw := 0x615AB055, tilt := 1200 } = 0x615AFCE5 := by decide +kernel

/-- The first 11 words of the descriptor of the downlink at Ostbrenn Arena (R141). -/
theorem test_transmit_descriptor :
    wordsOf ((txImage ⟨{ aTx 5 with
        format := 1, mode := 0, coded := false, whiten := false, crc16 := true, cxPri := false, interleave := false, rsc := false, ret := 2, power := 16
        preamble := 4, launch := 0xE8D4C5694000, chanFw := 0x615AB055, tilt := 1200, nextFw := 0x5FC3C9AB, cells := [7012]
        psdu := List.replicate 40 0#8, sfdGroup := 0, cell := some (100000, 0x49A31), lid := 9406, weights := [] }, 0, 0x20, 0, 0⟩).take 44)
      = [0x04400501, 0x00041002, 0xC5694000, 0x0000E8D4, 0x615AB055, 0x000004B0, 0x5FC3C9AB, 0x01001B64, 0x28, 0x80049A31, 0x24BE] := by decide +kernel

/-- The calibration entry of 2,450 MHz at 41 °C (R124). -/
theorem test_calibration_entry :
    let s := writeEntry 5 24500 0x1A3 0x5C (up [(F.TXL_CAL_ENTRY_HI_entry_hi 5 0, 0xDFB40000), (F.TXL_STATUS_temp_c 5, 41)])
    s.get (F.TXL_CAL_ENTRY_HI_entry_hi 5 0) = 0xDFB42986 ∧ s.get (F.TXL_CAL_ENTRY_LO_entry_lo 5 0) = 0x8D700000 := by decide +kernel

/-- A tariff frame of 24 octets lasts 41,920 µs and is charged 41,926 µs (R100, R151); both are held in 1/3 µs. -/
theorem test_airtime :
    let d := { aTx 2 with format := 2, psdu := List.replicate 24 0#8 }
    ppduTime d = 3 * 41920 ∧ airtime d = 3 * 41926 := by decide +kernel

/-- The range record of the Lindqvarn profile, and its limit of 360,000,000 µs (R145, R151). -/
theorem test_profile_record :
    let p := List.replicate 5 0#8 ++ [1#8] ++ List.replicate 26 0#8 ++ [0x01#8, 0x05#8, 0#8, 0#8, 0x18#8, 0x44#8, 0x0D#8, 0#8, 0x12#8, 0x45#8,
      0x0D#8, 0#8, 0x6C#8, 0#8, 0x18#8, 0#8, 0x10#8, 0x0E#8, 0xE8#8, 0x03#8] ++ List.replicate 6 0#8 ++ [0x64#8, 0#8] ++ List.replicate 4 0#8
    rangeLo p 0 = 869400 ∧ rangeHi p 0 = 869650 ∧ dutyWindow p 0 = 3600 ∧ dutyShare p 0 = 1000 ∧ dutyLimit p 0 = 3 * 360000000
      ∧ rangeValid p 0 = true := by decide +kernel

/-- The OWN record that gives PPS_OUT to TMU_7, and the power record of PD_DDR (R33, R39). -/
theorem test_plan_records :
    let region (t at_ : Nat) : List Byte := [BitVec.ofNat 8 t, 1#8, 0#8, 0#8] ++ leBytes 4 at_ ++ leBytes 4 8 ++ leBytes 4 1 ++ List.replicate 32 0#8
    let p := parsePlan (List.replicate 10 0#8 ++ [2#8, 0#8] ++ List.replicate 52 0#8 ++ region 8 160 ++ region 7 168
      ++ [2#8, 0#8, 1#8, 0#8, 7#8, 3#8, 0#8, 0#8] ++ [0x1A#8, 1#8, 1#8, 0#8, 0x88#8, 0x13#8, 0#8, 0#8])
    p.owns = [⟨2, 0, 1, 0x0307⟩] ∧ p.powers = [⟨26, 1, 1, 5000⟩] := by decide +kernel

/-- A delta's ADD writes 0x11 0x20 0x30 0x3F over its source bytes, and INSERT adds its own (R340). -/
theorem test_delta :
    applyOps 9 ([2#8, 0#8, 0#8, 0#8, 0#8, 4#8, 0#8, 0#8, 0#8, 1#8, 0#8, 0#8, 0xFF#8] ++ [3#8, 3#8, 0#8, 0#8, 0#8, 0x42#8, 0x58#8, 0x37#8] ++ [0#8])
      [0x10#8, 0x20#8, 0x30#8, 0x40#8] [] 0 7 2 = some [0x11#8, 0x20#8, 0x30#8, 0x3F#8, 0x42#8, 0x58#8, 0x37#8] := by decide +kernel

/-- Of a 200 kHz bin at ladder 4 with a level of 330, the quiet map reads 0x614A (R71). -/
theorem test_quiet_map :
    qmapBits { up [(F.CHZ_BIN_valid 0, 1), (F.CHZ_WIN_CFG_chain_mask 0, 0xFFFF), (F.CNP_CH_CTL_enable 0, 1)] with
      canopy := { qmap := [(0, ⟨1, 4, 330, 0, false⟩)] } } 0 0 = 0x614A := by decide +kernel

/-! Single commands. -/

/-- The next state of a command at the front of the queue. -/
def after (c : Instr) (s : State) : Option State :=
  match step { s with pending := [c] } with
  | .next t => some t
  | _ => none

/-- The host enables PPS_OUT, which the plan gives to TMU_7: the conflict reads 0x0307_0200 (R40). -/
theorem test_pps_conflict :
    (after (.registerWrite 0 0x80050 ((State.reset.set F.TMB_PPS_CFG_out_en 1).reg 0x80050) 0#32)
        { State.reset with stand := { inForce := some { owns := [⟨2, 0, 1, 0x0307⟩] } } }).map
      (fun t => (t.reg 0x80068, t.reg 0x20060, t.get F.TMB_STAT_conflict)) = some (0x03070200#32, 0x03070200#32, 1) := by decide +kernel

/-- The first step of +3,712,004,118 ns at Kestrel Park leads to TRACK (R246). -/
theorem test_first_step :
    (after (.tmbStep 0) (up [(F.TMB_STEP_LO_step, 0xDD40B016)])).map (fun t => (t.time.ns, t.get F.TMB_STATE_state, t.get F.TMB_STAT_step_done))
      = some (3712004118, 1, 1) := by decide +kernel

/-- A step of 35 ns in TRACK while the engine runs is refused and counted (R246). -/
theorem test_step_in_track :
    (after (.tmbStep 0) (up [(F.TMB_STATE_state, 1), (F.SSE_CTL_run, 1), (F.TMB_STEP_LO_step, 35)])).map
      (fun t => (t.time.ns, t.get F.TMB_STAT_step_refused, t.get F.TMB_EVCNT_step_refused_cnt)) = some (0, 1, 1) := by decide +kernel

/-- On an empty queue a tick adds the reset increment, 2.0345 ns (R241, R242). -/
theorem test_tick :
    (match step State.reset with
     | .next t => some (t.time.ns, t.time.frac)
     | _ => none) = some (2, 0x08D55555) := by decide +kernel

/-- A TLINK record reads back from TMU_LINK[0] (R265). -/
theorem test_link_record :
    regRead { State.reset with stand := { inForce := some { tlinks := [[4#8, 0#8, 5#8, 2#8, 0#8, 0#8, 0#8, 0#8]] } } } 0x92000 = 0x02050004#32 := by
  decide +kernel

/-- A read outside every block returns 0 (R8). -/
theorem test_unmapped_read : (after (.unmappedAccess 0x3400000 false) State.reset).map (fun t => t.out) = some [.read 0#32] := by decide +kernel

/-- A narrow store raises a bus error of its core (R6). -/
theorem test_narrow_store : (after (.crownNarrowStore 2 0x20 1 true) State.reset).map (fun t => t.out) = some [.busError 2] := by decide +kernel

/-- The preamble of a tariff frame to a drifting meter: 6 octets more after 180 s, DRIFTED after 420 s (R182, R183). -/
theorem test_preamble_stretch :
    let s := { State.reset with tables := { leaf := [(31207 * 48, 2#32), (31207 * 48 + 10, 6500#32), (31207 * 48 + 16, 2200#32)] } }
    [120, 180, 360, 420].map (fun t => stretch s 31207 (t * 1000000000) ⟨0, 2, 0⟩ 32) = [some 0, some 6, some 25, none] := by decide +kernel

/-- The first take of a shaped class leaves −192 bits of credit (R235). -/
theorem test_shaper_take :
    (shaperTake 20 320 false (up [(F.TRF_SHP0_en 7, 1), (F.TRF_SHP0_queue 7, 20), (F.TRF_SHP1_idle_slope 7, 40), (F.TRF_SHP2_port_rate 7, 100),
      (F.TRF_SHP3_hi_credit 7, 4000), (F.TRF_SHP4_lo_credit 7, 0xFFFFE0C0)])).get (F.TRF_SHP5_credit 7) = 0xFFFFFF40 := by decide +kernel

/-- A lid lifted at night: sensor 7, ERASE, Sleep, ring index 0x5A3 (R321, R325, R327): the log and the response of its episode. -/
theorem test_tamper_at_night :
    (fun t : State => (t.reg 0x420020, t.get F.BRK_STATUS_erase_lock, t.get F.HWD_STATUS_locked))
      (respond 7 3 2 (logEpisode 7 3 2 (dom 2 .ret [(F.BRK_LC_state, 3), (F.BRK_CTL_boot_done, 1), (F.BRK_SENSOR_CFG_class 7, 3),
        (F.RRC_HEAD_index, 0x5A3), (F.HWD_STATUS_root, 1)]))) = (0x7E0005A3#32, 1, 1) := by decide +kernel

/-- A detection with 61 chips on RXIN0: BUD, source domain PD_RXG0 (R379, R380). -/
theorem test_bud_wake :
    (after (.budDetect 61) { up [(F.PWR_BUD_CFG_en, 1)] with power := { budOpen := true } }).map (fun t => t.reg 0x4008C)
      = some 0x070B003D#32 := by decide +kernel

/-- Bank 41 faults with an uncorrectable error in the Leaf Table: the event, and what it freezes (R385, R389, R395, R398). -/
theorem test_bank_fault :
    (after (.unitFault [⟨6, 41, 1, 0xA620, [5316]⟩] false) { up [(F.RRC_HEAD_index, 0xF3A), (F.RRC_SEQ_seq, 0x1F3A)] with
      time := { ns := 7215443912000 } }).map
      (fun t => (wordsOf ((tabFind t.ring.events 0xF3A).elim [] eventBytes), t.reg 0x60028, t.reg 0x6102C, t.get F.PRN_LAST_RR_rr_index))
      = some ([0x1F3A, 0x01060001, 0xF9F8A540, 0x68F, 0x01070029, 0xA620, 0x10121, 0], 0x06010029#32, 0x80000F3A#32, 0xF3A) := by decide +kernel

/-- A HELLO that offers 2.1 and 3.4 is answered with 3.2 (R419). -/
theorem test_mailbox_hello :
    (after .mailboxHello { up [(F.DDR_SIZE_mib, 1024), (F.TPR_MB_TP_CFG_en, 1), (F.TPR_MB_TP_BASE_LO_addr, 0x1000),
      (F.TPR_MB_TH_BASE_LO_addr, 0x8000), (F.TPR_MB_TH_CFG_en, 1), (F.TPR_MB_TP_HEAD_index, 1)] with
      dram := memWrite [] 0x1000 (leBytes 4 0x00010001 ++ leBytes 4 6 ++ leBytes 4 1 ++ leBytes 4 0 ++ [2#8, 0#8, 2#8, 1#8, 3#8, 4#8]) }).map
      (fun t => (wordsOf (memRead t.dram 0x8000 20), t.reg 0x5C0030)) = some ([0x10001, 0x10004, 1, 0, 0x203], 0x80000302#32) := by decide +kernel

/-- The first words of a generation-1 blob of LID 4,211 (R290). -/
theorem test_blob_header : wordsOf (blobHeader 3 3 4211 0x12A07) = [0x10030301, 0x1073, 0x12A07, 0] := by decide +kernel

/-- A packet for a meter behind two relays takes its routing header (R218). -/
theorem test_routing_header :
    let w (k v : Nat) : List (Nat × Word) := [(k, BitVec.ofNat 32 v), (k + 1, BitVec.ofNat 32 (v / 2 ^ 32))]
    let s := { up [(F.BGH_PREFIX_LO_prefix, 0x04C10007), (F.BGH_PREFIX_HI_prefix, 0x20010DB8)] with
      tables := { leaf := w (52117 * 48 + 4) 0x02124B000B702A91 ++ w (52117 * 48 + 30) 0x02124B000A1F33C6 ++ w (52117 * 48 + 32) 0x02124B000A1F5D02 } }
    let p := [0x60#8, 0#8, 0#8, 0#8, 0#8, 0#8, 17#8, 63#8] ++ beBytes 8 0x20010DB800FF0000 ++ beBytes 8 0x10
      ++ beBytes 8 0x20010DB804C10007 ++ beBytes 8 0x02124B000B702A91
    (routed s 52117 2 p).drop 24 = beBytes 8 0x20010DB804C10007 ++ beBytes 8 0x02124B000A1F33C6 ++ beBytes 8 0x1102030288000000
      ++ beBytes 8 0x02124B000A1F5D02 ++ beBytes 8 0x02124B000B702A91 := by decide +kernel


/-! States and operands that meet the hypotheses of the statements, clause by clause. -/

theorem test_IdleStepCountsTime_hypotheses :
    State.reset.pending = [] ∧ State.reset.domOn 1 = true ∧
    State.reset.now % 1000000 + State.reset.get F.TMB_INC_HI_int + 1 < 1000000 ∧ State.reset.get F.TMB_INC_HI_int < 16 ∧
    State.reset.now + 17 < 2 ^ 64 ∧ State.reset.time.frac < 2 ^ 32 := by decide +kernel

theorem test_FlagRaisesMessage_hypotheses :
   (LevelsAgree ({ up [(F.GLB_MASK_acc_err, 0)] with tap := { msix := [(52, ⟨0xFEE00000, 5, false⟩)] }, stand := { inForce := some { owns := [⟨6, 0, 1, 0x0800⟩] } } }) ∧
    irqHigh ({ up [(F.GLB_MASK_acc_err, 0)] with tap := { msix := [(52, ⟨0xFEE00000, 5, false⟩)] }, stand := { inForce := some { owns := [⟨6, 0, 1, 0x0800⟩] } } }) ⟨0x10, 0x14, 0x7, 52, 0x00⟩ = false ∧
    (({ up [(F.GLB_MASK_acc_err, 0)] with tap := { msix := [(52, ⟨0xFEE00000, 5, false⟩)] }, stand := { inForce := some { owns := [⟨6, 0, 1, 0x0800⟩] } } }).reg 0x14).toNat.testBit 0 = false ∧
    ({ up [(F.GLB_MASK_acc_err, 0)] with tap := { msix := [(52, ⟨0xFEE00000, 5, false⟩)] }, stand := { inForce := some { owns := [⟨6, 0, 1, 0x0800⟩] } } }).owner 6 0 = 0x0800 ∧
    ({ up [(F.GLB_MASK_acc_err, 0)] with tap := { msix := [(52, ⟨0xFEE00000, 5, false⟩)] }, stand := { inForce := some { owns := [⟨6, 0, 1, 0x0800⟩] } } }).tap.funcMask = false ∧
    (tabGet ({ up [(F.GLB_MASK_acc_err, 0)] with tap := { msix := [(52, ⟨0xFEE00000, 5, false⟩)] }, stand := { inForce := some { owns := [⟨6, 0, 1, 0x0800⟩] } } }).tap.msix 52 {}).masked = false ∧
    ({ up [(F.GLB_MASK_acc_err, 0)] with tap := { msix := [(52, ⟨0xFEE00000, 5, false⟩)] }, stand := { inForce := some { owns := [⟨6, 0, 1, 0x0800⟩] } } }).get F.TPR_LINK_pm = 0) ∧
   (LevelsAgree ({ State.reset with stand := { inForce := some { owns := [⟨6, 0, 1, 0x0800⟩] } } }) ∧
    ({ State.reset with stand := { inForce := some { owns := [⟨6, 0, 1, 0x0800⟩] } } }).cleared = [] ∧
    irqHigh ({ State.reset with stand := { inForce := some { owns := [⟨6, 0, 1, 0x0800⟩] } } }) ⟨0x10, 0x14, 0x7, 52, 0x00⟩ = false ∧
    (({ State.reset with stand := { inForce := some { owns := [⟨6, 0, 1, 0x0800⟩] } } }).reg 0x14).toNat.testBit 0 = true ∧
    ({ State.reset with stand := { inForce := some { owns := [⟨6, 0, 1, 0x0800⟩] } } }).owner 6 0 = 0x0800) := 
  ⟨by decide +kernel, by decide +kernel⟩

theorem test_BusErrors_hypotheses :
   (mapped (0x26 - 0x26 % 4) = true ∧ gate State.reset (decidingDomain State.reset (0x26 - 0x26 % 4)) = .pass) ∧
   ((0x24 % 2 ≠ 0 ∨ 2 < 4) ∧ coreFenced State.reset (3 + 1) = false) ∧
   (0x26 % 4 ≠ 0 ∧ coreFenced State.reset (3 + 1) = false) ∧
   (0x26 % 2 = 0 ∧ (2 = 1 ∨ 2 = 2) ∧ 3 < 4 ∧ coreFenced State.reset (3 + 1) = false ∧ mapped (0x26 - 0x26 % 4) = true ∧
    gate State.reset (decidingDomain State.reset (0x26 - 0x26 % 4)) = .pass) ∧
   (coreFenced State.reset (0 + 1) = false) ∧
   (crownMapped State.reset 0x1FFFFFFC = false ∧ coreFenced State.reset (2 + 1) = false) ∧
   (1 < 4 ∧ (State.reset.setPruned 5 1 true).pruned 5 1 = true) ∧
   (0x1000000 ≤ 0x2800000 ∧ 0x2800000 < 0x3400000 ∧ State.reset.domOn (decidingDomain State.reset 0x2800000) = true ∧
    coreFenced State.reset 2 = false) := 
  ⟨by decide +kernel, by decide +kernel, by decide +kernel, by decide +kernel, by decide +kernel, by decide +kernel, by decide +kernel, by decide +kernel⟩

theorem test_UnmappedOffsets_hypotheses :
   (mapped 0xB0000 = false) ∧
   (mapped 0x3400000 = false) ∧
   (mapped 0x540000 = false ∧ coreFenced State.reset 3 = false) ∧
   (mapped 0xFFFFC = false ∧ coreFenced State.reset 1 = false) := 
  ⟨by decide +kernel, by decide +kernel, by decide +kernel, by decide +kernel⟩

theorem test_RegisterWrites_hypotheses :
   (State.reset.domOn 0 = true ∧ coreFenced State.reset 0 = false) ∧
   (State.reset.domOn 0 = true ∧ coreFenced State.reset 0 = false) ∧
   (({ up [(F.GLB_MASK_acc_err, 0), (F.GLB_STAT_acc_err, 1)] with tap := { msix := [(52, ⟨0xFEE00000, 5, false⟩)] }, stand := { inForce := some { owns := [⟨6, 0, 1, 0x0800⟩] } } }).domOn 0 = true ∧
    ({ up [(F.GLB_MASK_acc_err, 0), (F.GLB_STAT_acc_err, 1)] with tap := { msix := [(52, ⟨0xFEE00000, 5, false⟩)] }, stand := { inForce := some { owns := [⟨6, 0, 1, 0x0800⟩] } } }).get F.GLB_STAT_acc_err = 1 ∧
    ({ up [(F.GLB_MASK_acc_err, 0), (F.GLB_STAT_acc_err, 1)] with tap := { msix := [(52, ⟨0xFEE00000, 5, false⟩)] }, stand := { inForce := some { owns := [⟨6, 0, 1, 0x0800⟩] } } }).get F.GLB_MASK_acc_err = 0 ∧
    (1#32 : Word).toNat.testBit 0 = true ∧ (1#32 : Word).toNat.testBit 0 = true ∧
    ({ up [(F.GLB_MASK_acc_err, 0), (F.GLB_STAT_acc_err, 1)] with tap := { msix := [(52, ⟨0xFEE00000, 5, false⟩)] }, stand := { inForce := some { owns := [⟨6, 0, 1, 0x0800⟩] } } }).owner 6 0 = 0x0800 ∧
    ({ up [(F.GLB_MASK_acc_err, 0), (F.GLB_STAT_acc_err, 1)] with tap := { msix := [(52, ⟨0xFEE00000, 5, false⟩)] }, stand := { inForce := some { owns := [⟨6, 0, 1, 0x0800⟩] } } }).tap.funcMask = false ∧
    (tabGet ({ up [(F.GLB_MASK_acc_err, 0), (F.GLB_STAT_acc_err, 1)] with tap := { msix := [(52, ⟨0xFEE00000, 5, false⟩)] }, stand := { inForce := some { owns := [⟨6, 0, 1, 0x0800⟩] } } }).tap.msix 52 {}).masked = false ∧
    ({ up [(F.GLB_MASK_acc_err, 0), (F.GLB_STAT_acc_err, 1)] with tap := { msix := [(52, ⟨0xFEE00000, 5, false⟩)] }, stand := { inForce := some { owns := [⟨6, 0, 1, 0x0800⟩] } } }).get F.TPR_LINK_pm = 0 ∧
    coreFenced ({ up [(F.GLB_MASK_acc_err, 0), (F.GLB_STAT_acc_err, 1)] with tap := { msix := [(52, ⟨0xFEE00000, 5, false⟩)] }, stand := { inForce := some { owns := [⟨6, 0, 1, 0x0800⟩] } } }) 0 = false) ∧
   (0x240000 ≤ 0x240024 ∧ 0x240024 < 0x280000 ∧ 0x240024 ≠ 0x240010 ∧ 0x240024 ≠ 0x240014 ∧ 0x240024 ≠ 0x24002C ∧
    State.reset.domOn 2 = true ∧ coreFenced State.reset 0 = false) ∧
   (0x1000000 ≤ 0x27FFFFC ∧ 0x27FFFFC < 0x2800000 ∧ State.reset.domOn 7 = true ∧ coreFenced State.reset 2 = false) ∧
   (0x2800000 ≤ 0x33FFFFC ∧ 0x33FFFFC < 0x3400000 ∧ State.reset.domOn 8 = true ∧ coreFenced State.reset 2 = false) := 
  ⟨by decide +kernel, by decide +kernel, by decide +kernel, by decide +kernel, by decide +kernel, by decide +kernel⟩

theorem test_SleepingAccess_hypotheses :
   (mapped 0x300000 = true ∧ accessDomains 0x300000 = [7] ∧ ((dom 7 .ret [(F.PWR_DOM_CFG_autowake 7, 1)]).dom 7).st = .ret ∧
    (dom 7 .ret [(F.PWR_DOM_CFG_autowake 7, 1)]).on (F.PWR_DOM_CFG_autowake 7) = true ∧
    (dom 7 .ret [(F.PWR_DOM_CFG_autowake 7, 1)]).get (F.PWR_DOM_CFG_force 7) = 0 ∧
    coreFenced (dom 7 .ret [(F.PWR_DOM_CFG_autowake 7, 1)]) 0 = false) ∧
   (mapped 0x400000 = true ∧ accessDomains 0x400000 = [2] ∧ ((dom 2 .off []).dom 2).st = .off ∧ 1 < 8 ∧ 2 < 32 ∧
    0x400000 < 2 ^ 32 ∧ coreFenced (dom 2 .off []) 1 = false) ∧
   (mapped 0x380000 = true ∧ accessDomains 0x380000 = [24] ∧ ((dom 24 .off []).dom 24).st = .off ∧ 4 < 8 ∧ 24 < 32 ∧
    0x380000 < 2 ^ 32 ∧ coreFenced (dom 24 .off []) 4 = false) := 
  ⟨by decide +kernel, by decide +kernel, by decide +kernel⟩

theorem test_Crossings_hypotheses :
   (canOverflow 17 = true ∧ 1 ≤ 3 ∧ ringProtected State.reset (State.reset.get F.RRC_HEAD_index) = false) ∧
   (3 < 4) ∧
   (0 < 4) ∧
   (State.reset.board.porLow = false ∧ State.reset.board.resetLow = false ∧ State.reset.power.opPhase = .idle ∧ 1024 < 65536 ∧
    15 < 16 ∧ State.reset.get F.GLB_PACE_THR_thr ≤ 1024) ∧
   ((up [(F.GLB_PACE_THR_thr, 700)]).board.porLow = false ∧ (up [(F.GLB_PACE_THR_thr, 700)]).board.resetLow = false ∧
    (up [(F.GLB_PACE_THR_thr, 700)]).power.opPhase = .idle ∧ 0 < 16 ∧
    699 < (up [(F.GLB_PACE_THR_thr, 700)]).get F.GLB_PACE_THR_thr) := 
  ⟨by decide +kernel, by decide +kernel, by decide +kernel, by decide +kernel, by decide +kernel⟩

theorem test_ReceiveChainEvents_hypotheses_1 :
   (15 < 16 ∧
    delivers ({ up [(F.CNP_CH_CTL_enable 15, 1), (F.CNP_CLK_locked, 1)] with canopy := { chains := [(15, { gainMode := 1 })] } }) 15 = true ∧
    detectionPaused ({ up [(F.CNP_CH_CTL_enable 15, 1), (F.CNP_CLK_locked, 1)] with canopy := { chains := [(15, { gainMode := 1 })] } }) 15 = false ∧
    (({ up [(F.CNP_CH_CTL_enable 15, 1), (F.CNP_CLK_locked, 1)] with canopy := { chains := [(15, { gainMode := 1 })] } }).chain 15).gainMode = 1) ∧
   (0 < 16 ∧ delivers (up [(F.CNP_CH_CTL_enable 0, 1), (F.CNP_CLK_locked, 1), (F.CNP_CH_STATUS_ladder 0, 0)]) 0 = true ∧
    detectionPaused (up [(F.CNP_CH_CTL_enable 0, 1), (F.CNP_CLK_locked, 1), (F.CNP_CH_STATUS_ladder 0, 0)]) 0 = false ∧
    (up [(F.CNP_CH_CTL_enable 0, 1), (F.CNP_CLK_locked, 1), (F.CNP_CH_STATUS_ladder 0, 0)]).get (F.CNP_CH_STATUS_ladder 0) = 0) ∧
   (0 < 16 ∧ delivers (up [(F.CNP_CH_CTL_enable 0, 1), (F.CNP_CLK_locked, 1)]) 0 = true ∧
    detectionPaused (up [(F.CNP_CH_CTL_enable 0, 1), (F.CNP_CLK_locked, 1)]) 0 = false ∧
    ((up [(F.CNP_CH_CTL_enable 0, 1), (F.CNP_CLK_locked, 1)]).chain 0).gainMode = 0 ∧
    0 < (up [(F.CNP_CH_CTL_enable 0, 1), (F.CNP_CLK_locked, 1)]).get (F.CNP_CH_STATUS_ladder 0)) ∧
   (detectionPaused ({ State.reset with canopy := { chains := [(3, { pauseTo := 100 })] } }) 3 = true) ∧
   (7 < 16 ∧ delivers (up [(F.CNP_CH_CTL_enable 7, 1), (F.CNP_CLK_locked, 1), (F.CNP_CH_STATUS_ladder 7, 0)]) 7 = true ∧
    (up [(F.CNP_CH_CTL_enable 7, 1), (F.CNP_CLK_locked, 1), (F.CNP_CH_STATUS_ladder 7, 0)]).get (F.CNP_CH_STATUS_saturated 7) = 0 ∧
    ((up [(F.CNP_CH_CTL_enable 7, 1), (F.CNP_CLK_locked, 1), (F.CNP_CH_STATUS_ladder 7, 0)]).get (F.CNP_CH_STATUS_ladder 7) = 0 ∨ ((up [(F.CNP_CH_CTL_enable 7, 1), (F.CNP_CLK_locked, 1), (F.CNP_CH_STATUS_ladder 7, 0)]).chain 7).gainMode = 1)) ∧
   ((up [(F.CNP_CH_STATUS_saturated 7, 1)]).get (F.CNP_CH_STATUS_saturated 7) = 1) ∧
   (3 < 16) := 
  ⟨by decide +kernel, by decide +kernel, by decide +kernel, by decide +kernel, by decide +kernel, by decide +kernel, by decide +kernel⟩

theorem test_ReceiveChainEvents_hypotheses_2 :
   (4 < 16) ∧
   ((up [(F.CNP_CLK_fell_back, 1)]).canopy.stopped = false ∧ (up [(F.CNP_CLK_fell_back, 1)]).get F.CNP_CLK_locked = 0) ∧
   ((up [(F.CNP_CLK_active_src, 1), (F.CNP_CLK_fallback, 1)]).get F.CNP_CLK_active_src = 1 ∧
    (up [(F.CNP_CLK_active_src, 1), (F.CNP_CLK_fallback, 1)]).canopy.stopped = false ∧
    (up [(F.CNP_CLK_active_src, 1), (F.CNP_CLK_fallback, 1)]).get F.CNP_CLK_fallback = 1 ∧
    (up [(F.CNP_CLK_active_src, 1), (F.CNP_CLK_fallback, 1)]).lanes.frames = [] ∧
    (up [(F.CNP_CLK_active_src, 1), (F.CNP_CLK_fallback, 1)]).search.requests = [] ∧
    ringProtected (up [(F.CNP_CLK_active_src, 1), (F.CNP_CLK_fallback, 1)]) ((up [(F.CNP_CLK_active_src, 1), (F.CNP_CLK_fallback, 1)]).get F.RRC_HEAD_index) = false) ∧
   ((up [(F.CNP_CLK_active_src, 1), (F.CHZ_WIN_CFG_filled 3, 1), (F.CNP_CLK_fallback, 0)]).get F.CNP_CLK_active_src = 1 ∧
    (up [(F.CNP_CLK_active_src, 1), (F.CHZ_WIN_CFG_filled 3, 1), (F.CNP_CLK_fallback, 0)]).canopy.stopped = false ∧
    (up [(F.CNP_CLK_active_src, 1), (F.CHZ_WIN_CFG_filled 3, 1), (F.CNP_CLK_fallback, 0)]).get F.CNP_CLK_fallback = 0 ∧
    (up [(F.CNP_CLK_active_src, 1), (F.CHZ_WIN_CFG_filled 3, 1), (F.CNP_CLK_fallback, 0)]).lanes.frames = [] ∧
    (up [(F.CNP_CLK_active_src, 1), (F.CHZ_WIN_CFG_filled 3, 1), (F.CNP_CLK_fallback, 0)]).search.requests = []) ∧
   (State.reset.get F.CNP_CLK_active_src = 0) ∧
   (State.reset.domOn 11 = true ∧ (∀ n < 16, State.reset.get (F.CNP_CH_CTL_enable n) = 0) ∧
    (3#32 : Word).toNat.testBit 0 = true ∧ (State.reset.get F.CNP_CLK_src = 0 ∨ State.reset.get F.CNP_CLK_fell_back = 1) ∧
    coreFenced State.reset 0 = false) ∧
   ((up [(F.CNP_CH_CTL_enable 5, 1)]).domOn 11 = true ∧ 5 < 16 ∧
    (up [(F.CNP_CH_CTL_enable 5, 1)]).get (F.CNP_CH_CTL_enable 5) = 1 ∧ (3#32 : Word).toNat.testBit 0 = true ∧
    ((up [(F.CNP_CH_CTL_enable 5, 1)]).get F.CNP_CLK_src = 0 ∨ (up [(F.CNP_CH_CTL_enable 5, 1)]).get F.CNP_CLK_fell_back = 1) ∧
    coreFenced (up [(F.CNP_CH_CTL_enable 5, 1)]) 0 = false) := 
  ⟨by decide +kernel, by decide +kernel, by decide +kernel, by decide +kernel, by decide +kernel, by decide +kernel, by decide +kernel⟩

theorem test_WindowsAndQuietMap_hypotheses :
   (3 < 4 ∧ ({ up [(F.CNP_CLK_locked, 1)] with canopy := { filling := [3] } }).canopy.filling.contains 3 = true ∧
    clockRuns ({ up [(F.CNP_CLK_locked, 1)] with canopy := { filling := [3] } }) = true) ∧
   (({ State.reset with canopy := { spare := .loading 7 } }).canopy.spare = .loading 7 ∧ 7 < 8 ∧
    ({ State.reset with canopy := { spare := .loading 7 } }).domOn 17 = true) ∧
   ((({ State.reset with canopy := { qmap := [(qmapKey 1023 3, { state := 1, level := 77, busy := 65535 })] } }).qmap 1023 3).state = 1 ∧
    max 1 (({ State.reset with canopy := { qmap := [(qmapKey 1023 3, { state := 1, level := 77, busy := 65535 })] } }).get F.CHZ_QMAP_CFG_stale_ts) ≤ (({ State.reset with canopy := { qmap := [(qmapKey 1023 3, { state := 1, level := 77, busy := 65535 })] } }).qmap 1023 3).busy) ∧
   (3 < 4 ∧ 2 * 3 + (((none : Option Nat) : Option Nat).getD 1) % 2 = 7 ∧ State.reset.pruned 4 7 = false ∧
    State.reset.canopy.spare ≠ .serving 7 ∧ State.reset.canopy.spare ≠ .returning 7) ∧
   ((up [(F.CHZ_BIN_valid 9, 1), (F.CHZ_WIN_CFG_filled 0, 1)]).get (F.CHZ_BIN_valid 9) = 1 ∧
    (up [(F.CHZ_BIN_valid 9, 1), (F.CHZ_WIN_CFG_filled 0, 1)]).get (F.CHZ_WIN_CFG_filled (binWindow (up [(F.CHZ_BIN_valid 9, 1), (F.CHZ_WIN_CFG_filled 0, 1)]) 9)) = 1 ∧
    binBusy (up [(F.CHZ_BIN_valid 9, 1), (F.CHZ_WIN_CFG_filled 0, 1)]) 9 = false ∧
    (up [(F.CHZ_BIN_valid 9, 1), (F.CHZ_WIN_CFG_filled 0, 1)]).search.busyBins.contains 9 = false ∧ 9 < 1024) ∧
   ((up [(F.CHZ_BIN_valid 0, 1), (F.CHZ_WIN_CFG_filled 0, 1), (F.SPC_STREAM_valid 0, 1)]).get (F.CHZ_BIN_valid 0) = 1 ∧
    (up [(F.CHZ_BIN_valid 0, 1), (F.CHZ_WIN_CFG_filled 0, 1), (F.SPC_STREAM_valid 0, 1)]).get (F.CHZ_WIN_CFG_filled (binWindow (up [(F.CHZ_BIN_valid 0, 1), (F.CHZ_WIN_CFG_filled 0, 1), (F.SPC_STREAM_valid 0, 1)]) 0)) = 1 ∧
    0 ∈ binStreams (up [(F.CHZ_BIN_valid 0, 1), (F.CHZ_WIN_CFG_filled 0, 1), (F.SPC_STREAM_valid 0, 1)]) 0) ∧
   (3 < 4 ∧ 3 < 4 ∧ 14 < 15 ∧
    gate State.reset (decidingDomain State.reset (0x181000 + 0x100 * 3 + 0x40 * 3 + 4 * 14)) = .pass ∧
    coreFenced State.reset 0 = false) ∧
   (0 < 4 ∧ 0 < 4 ∧ gate State.reset (decidingDomain State.reset (0x181000 + 0x100 * 0 + 0x40 * 0 + 60)) = .pass ∧
    coreFenced State.reset 0 = false) := 
  ⟨by decide +kernel, by decide +kernel, by decide +kernel, by decide +kernel, by decide +kernel, by decide +kernel, by decide +kernel, by decide +kernel⟩

theorem test_SearchAndGrant_hypotheses :
   (detectable searchable (⟨0, 1, 0, 200, 0, 0⟩ : Detection) = true ∧ (⟨0, 1, 0, 200, 0, 0⟩ : Detection).stream < 2048 ∧
    kinOf searchable (⟨0, 1, 0, 200, 0, 0⟩ : Detection) = ([], []) ∧
    poolFor searchable (⟨0, 1, 0, 200, 0, 0⟩ : Detection).format (⟨0, 1, 0, 200, 0, 0⟩ : Detection).mode = some 2 ∧
    poolAwake searchable 2 = true) ∧
   (detectable (({ searchable with search := { fmtInForce := [(0, 7)], requests := [{ aRequest with stream := 1, snr := 201 }] } } : State).set F.SRH_CFG_merge_tol 4) (⟨0, 1, 0, 200, 0, 0⟩ : Detection) = true ∧
    (⟨0, 1, 0, 200, 0, 0⟩ : Detection).stream < 2048 ∧
    kinOf (({ searchable with search := { fmtInForce := [(0, 7)], requests := [{ aRequest with stream := 1, snr := 201 }] } } : State).set F.SRH_CFG_merge_tol 4) (⟨0, 1, 0, 200, 0, 0⟩ : Detection) = ([({ aRequest with stream := 1, snr := 201 } : LaneRequest)], []) ∧
    (⟨0, 1, 0, 200, 0, 0⟩ : Detection).snr < ({ aRequest with stream := 1, snr := 201 } : LaneRequest).snr ∧
    frozen (({ searchable with search := { fmtInForce := [(0, 7)], requests := [{ aRequest with stream := 1, snr := 201 }] } } : State).set F.SRH_CFG_merge_tol 4) (⟨0, 1, 0, 200, 0, 0⟩ : Detection).stream = false) ∧
   (detectable (({ searchable with search := { fmtInForce := [(0, 7)], requests := [{ aRequest with stream := 1, snr := 199 }] } } : State).set F.SRH_CFG_merge_tol 4) (⟨0, 1, 0, 200, 0, 0⟩ : Detection) = true ∧
    (⟨0, 1, 0, 200, 0, 0⟩ : Detection).stream < 2048 ∧
    ({ aRequest with stream := 1, snr := 199 } : LaneRequest).stream < 2048 ∧
    kinOf (({ searchable with search := { fmtInForce := [(0, 7)], requests := [{ aRequest with stream := 1, snr := 199 }] } } : State).set F.SRH_CFG_merge_tol 4) (⟨0, 1, 0, 200, 0, 0⟩ : Detection) = ([({ aRequest with stream := 1, snr := 199 } : LaneRequest)], []) ∧
    ({ aRequest with stream := 1, snr := 199 } : LaneRequest).snr < (⟨0, 1, 0, 200, 0, 0⟩ : Detection).snr ∧
    frozen (({ searchable with search := { fmtInForce := [(0, 7)], requests := [{ aRequest with stream := 1, snr := 199 }] } } : State).set F.SRH_CFG_merge_tol 4) ({ aRequest with stream := 1, snr := 199 } : LaneRequest).stream = false ∧
    poolFor (({ searchable with search := { fmtInForce := [(0, 7)], requests := [{ aRequest with stream := 1, snr := 199 }] } } : State).set F.SRH_CFG_merge_tol 4) (⟨0, 1, 0, 200, 0, 0⟩ : Detection).format (⟨0, 1, 0, 200, 0, 0⟩ : Detection).mode = some 2 ∧
    poolAwake (({ searchable with search := { fmtInForce := [(0, 7)], requests := [{ aRequest with stream := 1, snr := 199 }] } } : State).set F.SRH_CFG_merge_tol 4) 2 = true) ∧
   (roundOrder requesting 2 = [aRequest] ∧ frozen requesting aRequest.stream = false ∧ aRequest.pool = 2 ∧
    freeLanes requesting 2 ≠ [] ∧ (∀ n ∈ freeLanes requesting 2, n < 544) ∧ aRequest.stream < 2048) ∧
   (({ holding true true with search := { requests := [aRequest] } }).search.requests = [aRequest] ∧ aRequest.stream = 0 ∧
    (aRequest.bankWait = false ∨ poolAwake ({ holding true true with search := { requests := [aRequest] } }) aRequest.pool = true) ∧
    aRequest.pool < 16) := 
  ⟨by decide +kernel, by decide +kernel, by decide +kernel, by decide +kernel, by decide +kernel⟩

theorem test_LaneFrames_hypotheses_1 :
   (543 < 544 ∧ tabFind (holding false false).lanes.frames 543 = some (aFrame false false : LaneFrame) ∧
    (aFrame false false : LaneFrame).found = false ∧
    delimiter (aFrame false false : LaneFrame).req.format (bits (aFrame false false : LaneFrame).fsk.toNat 0 1) (wordFrom ((nibbles 0xA7#8).flatMap chipsOf) : Nat) = some false ∧
    (holding false false).domOn (19 + 543 / 136) = true) ∧
   (tabFind (holding false false).lanes.frames 543 = some (aFrame false false : LaneFrame) ∧
    delimiter (aFrame false false : LaneFrame).req.format (bits (aFrame false false : LaneFrame).fsk.toNat 0 1) (wordFrom ((nibbles 0xA6#8).flatMap chipsOf) : Nat) = none) ∧
   (543 < 544 ∧ tabFind (holding true false).lanes.frames 543 = some (aFrame true false : LaneFrame) ∧
    (aFrame true false : LaneFrame).found = true ∧ (aFrame true false : LaneFrame).phrKnown = false ∧
    phrOf (aFrame true false : LaneFrame) (chips [5#8] : List Int) = 5 ∧
    modeSwitch (aFrame true false : LaneFrame).req.format 5 = false ∧
    parseHeader (aFrame true false : LaneFrame).req.format 5 = some (5, false, true) ∧
    (holding true false).domOn (19 + 543 / 136) = true) ∧
   (543 < 544 ∧ tabFind (holding true false).lanes.frames 543 = some (aFrame true false : LaneFrame) ∧
    (aFrame true false : LaneFrame).found = true ∧ (aFrame true false : LaneFrame).phrKnown = false ∧
    headerStatus (aFrame true false : LaneFrame).req.format (phrOf (aFrame true false : LaneFrame) (chips [2#8] : List Int)) = some 2 ∧
    (holding true false).get (F.SRH_LANE_MAP_role 543) = 1 ∧
    (holding true false).get (F.SRH_LANE_MAP_gen 543) = (aFrame true false : LaneFrame).gen ∧
    (holding true false).lanes.oldUcode = [] ∧ (aFrame true false : LaneFrame).req.stream < 2048 ∧
    (holding true false).domOn (19 + 543 / 136) = true) ∧
   (tabFind (holding true false).lanes.frames 543 = some (aFrame true false : LaneFrame) ∧
    (aFrame true false : LaneFrame).found = true ∧ (holding true false).domOn (19 + 543 / 136) = true) ∧
   (tabFind ({ holding true false with lanes := { frames := [(543, { aFrame true false with equaliser := strained })] } }).lanes.frames 543 = some ({ aFrame true false with equaliser := strained } : LaneFrame) ∧
    ({ aFrame true false with equaliser := strained } : LaneFrame).found = true ∧
    ({ aFrame true false with equaliser := strained } : LaneFrame).eqReset = false ∧
    eqSymbol ({ aFrame true false with equaliser := strained } : LaneFrame).eq.toNat false false (oneSymbol 100 : EqSymbol) ({ aFrame true false with equaliser := strained } : LaneFrame).equaliser = (eqSymbol 0 false false (oneSymbol 100) strained : Equaliser) ∧
    (eqSymbol 0 false false (oneSymbol 100) strained : Equaliser).trained.isSome = true ∧
    (eqSymbol 0 false false (oneSymbol 100) strained : Equaliser).dataErr.length = 32 ∧
    (eqSymbol 0 false false (oneSymbol 100) strained : Equaliser).trainErr ≠ [] ∧
    4 * ((eqSymbol 0 false false (oneSymbol 100) strained : Equaliser).trainErr.sum / (eqSymbol 0 false false (oneSymbol 100) strained : Equaliser).trainErr.length) < (eqSymbol 0 false false (oneSymbol 100) strained : Equaliser).dataErr.sum / 32 ∧
    ({ holding true false with lanes := { frames := [(543, { aFrame true false with equaliser := strained })] } }).domOn (19 + 543 / 136) = true) := 
  ⟨by decide +kernel, by decide +kernel, by decide +kernel, by decide +kernel, by decide +kernel, by decide +kernel⟩

theorem test_LaneFrames_hypotheses_2 :
   (543 < 544 ∧ tabFind (holding false false).lanes.frames 543 = some (aFrame false false : LaneFrame) ∧
    (aFrame false false : LaneFrame).found = false ∧ (holding false false).lanes.oldUcode = [] ∧
    (aFrame false false : LaneFrame).req.stream < 2048 ∧ (holding false false).domOn (19 + 543 / 136) = true) ∧
   (543 < 544 ∧ tabFind (holding true false).lanes.frames 543 = some (aFrame true false : LaneFrame) ∧
    (aFrame true false : LaneFrame).found = true ∧ (holding true false).get (F.SRH_LANE_MAP_role 543) = 1 ∧
    (holding true false).get (F.SRH_LANE_MAP_gen 543) = (aFrame true false : LaneFrame).gen ∧
    (holding true false).lanes.oldUcode = [] ∧ (aFrame true false : LaneFrame).req.stream < 2048 ∧
    (holding true false).domOn (19 + 543 / 136) = true) ∧
   (543 < 544 ∧
    tabFind ({ holding true true with lanes := { frames := [(543, { aFrame true true with cells := [9] })] }, traffic := { held := [9] } }).lanes.frames 543 = some ({ aFrame true true with cells := [9] } : LaneFrame) ∧
    ({ aFrame true true with cells := [9] } : LaneFrame).phrKnown = true ∧
    ({ holding true true with lanes := { frames := [(543, { aFrame true true with cells := [9] })] }, traffic := { held := [9] } }).get (F.SRH_LANE_MAP_role 543) = 1 ∧
    ({ holding true true with lanes := { frames := [(543, { aFrame true true with cells := [9] })] }, traffic := { held := [9] } }).get (F.SRH_LANE_MAP_gen 543) = ({ aFrame true true with cells := [9] } : LaneFrame).gen ∧
    ({ holding true true with lanes := { frames := [(543, { aFrame true true with cells := [9] })] }, traffic := { held := [9] } }).lanes.oldUcode = [] ∧
    ({ aFrame true true with cells := [9] } : LaneFrame).req.stream < 2048 ∧
    ({ aFrame true true with cells := [9] } : LaneFrame).noBuffer = false ∧
    ceilDiv ({ aFrame true true with cells := [9] } : LaneFrame).len 256 ≤ ({ aFrame true true with cells := [9] } : LaneFrame).cells.length ∧
    fcsHolds ({ aFrame true true with cells := [9] } : LaneFrame).crc16 (psduOf ({ aFrame true true with cells := [9] } : LaneFrame) (chips ([5#8, 1#8, 2#8, 3#8] ++ leBytes 2 (crc16 [1#8, 2#8, 3#8])) : List Int)) = true ∧
    ({ holding true true with lanes := { frames := [(543, { aFrame true true with cells := [9] })] }, traffic := { held := [9] } }).domOn (19 + 543 / 136) = true) ∧
   (543 < 544 ∧
    tabFind ({ holding true true with lanes := { frames := [(543, { aFrame true true with cells := [9] })] }, traffic := { held := [9] } }).lanes.frames 543 = some ({ aFrame true true with cells := [9] } : LaneFrame) ∧
    ({ aFrame true true with cells := [9] } : LaneFrame).phrKnown = true ∧
    ({ holding true true with lanes := { frames := [(543, { aFrame true true with cells := [9] })] }, traffic := { held := [9] } }).get (F.SRH_LANE_MAP_role 543) = 1 ∧
    ({ holding true true with lanes := { frames := [(543, { aFrame true true with cells := [9] })] }, traffic := { held := [9] } }).get (F.SRH_LANE_MAP_gen 543) = ({ aFrame true true with cells := [9] } : LaneFrame).gen ∧
    ({ holding true true with lanes := { frames := [(543, { aFrame true true with cells := [9] })] }, traffic := { held := [9] } }).lanes.oldUcode = [] ∧
    ({ aFrame true true with cells := [9] } : LaneFrame).req.stream < 2048 ∧
    ({ aFrame true true with cells := [9] } : LaneFrame).noBuffer = false ∧
    ceilDiv ({ aFrame true true with cells := [9] } : LaneFrame).len 256 ≤ ({ aFrame true true with cells := [9] } : LaneFrame).cells.length ∧
    fcsHolds ({ aFrame true true with cells := [9] } : LaneFrame).crc16 (psduOf ({ aFrame true true with cells := [9] } : LaneFrame) (chips [5#8, 1#8, 2#8, 3#8, 0#8, 0#8] : List Int)) = false ∧
    ({ holding true true with lanes := { frames := [(543, { aFrame true true with cells := [9] })] }, traffic := { held := [9] } }).domOn (19 + 543 / 136) = true) ∧
   (543 < 544 ∧
    tabFind ({ holding true true with lanes := { frames := [(543, { aFrame true true with noBuffer := true })] } }).lanes.frames 543 = some ({ aFrame true true with noBuffer := true } : LaneFrame) ∧
    ({ aFrame true true with noBuffer := true } : LaneFrame).phrKnown = true ∧
    ({ holding true true with lanes := { frames := [(543, { aFrame true true with noBuffer := true })] } }).get (F.SRH_LANE_MAP_role 543) = 1 ∧
    ({ holding true true with lanes := { frames := [(543, { aFrame true true with noBuffer := true })] } }).get (F.SRH_LANE_MAP_gen 543) = ({ aFrame true true with noBuffer := true } : LaneFrame).gen ∧
    ({ holding true true with lanes := { frames := [(543, { aFrame true true with noBuffer := true })] } }).lanes.oldUcode = [] ∧
    ({ aFrame true true with noBuffer := true } : LaneFrame).req.stream < 2048 ∧
    ({ aFrame true true with noBuffer := true } : LaneFrame).noBuffer = true ∧
    ({ holding true true with lanes := { frames := [(543, { aFrame true true with noBuffer := true })] } }).domOn (19 + 543 / 136) = true) ∧
   (0 < 544 ∧ tabFind State.reset.lanes.frames 0 = none ∧ State.reset.get (F.SRH_LANE_MAP_role 0) ≠ 1 ∧
    State.reset.domOn (19 + 0 / 136) = true) := 
  ⟨by decide +kernel, by decide +kernel, by decide +kernel, by decide +kernel, by decide +kernel, by decide +kernel⟩

theorem test_LaneTests_hypotheses :
   (136 < 544 ∧ State.reset.domOn (19 + 136 / 136) = true ∧
    (State.reset.get (F.SRH_LANE_MAP_role 136) = 0 ∨ State.reset.get (F.SRH_LANE_MAP_role 136) = 2) ∧
    coreFenced State.reset 0 = false) ∧
   (543 < 544 ∧ searchable.domOn (19 + 543 / 136) = true ∧ searchable.get (F.SRH_LANE_MAP_role 543) = 1 ∧
    coreFenced searchable 0 = false) ∧
   (7 < 544 ∧ tabFind ({ State.reset with lanes := { tests := [(7, .timer)] } }).lanes.tests 7 = some .timer ∧
    tabGet ({ State.reset with lanes := { tests := [(7, .timer)] } }).lanes.oldRole 7 0 < 4 ∧ 4000 < 65536 ∧
    ({ State.reset with lanes := { tests := [(7, .timer)] } }).domOn (19 + 7 / 136) = true) ∧
   (543 < 544 ∧ tabFind ({ State.reset with lanes := { tests := [(543, .timer)] } }).lanes.tests 543 = some .timer ∧
    tabGet ({ State.reset with lanes := { tests := [(543, .timer)] } }).lanes.oldRole 543 0 = 0 ∧
    ringProtected ({ State.reset with lanes := { tests := [(543, .timer)] } }) (({ State.reset with lanes := { tests := [(543, .timer)] } }).get F.RRC_HEAD_index) = false ∧
    ({ State.reset with lanes := { tests := [(543, .timer)] } }).domOn (19 + 543 / 136) = true) ∧
   (31 < 544 ∧
    (up [(F.SRH_LANE_MAP_role 31, 2), (F.LNE_ST_RESULT_result 31, 2), (F.PRN_PRUNED_pruned 1 0, 2147483648)]).domOn (19 + 31 / 136) = true ∧
    (up [(F.SRH_LANE_MAP_role 31, 2), (F.LNE_ST_RESULT_result 31, 2), (F.PRN_PRUNED_pruned 1 0, 2147483648)]).get (F.SRH_LANE_MAP_role 31) = 2 ∧
    (up [(F.SRH_LANE_MAP_role 31, 2), (F.LNE_ST_RESULT_result 31, 2), (F.PRN_PRUNED_pruned 1 0, 2147483648)]).get (F.LNE_ST_RESULT_result 31) = 2 ∧
    (up [(F.SRH_LANE_MAP_role 31, 2), (F.LNE_ST_RESULT_result 31, 2), (F.PRN_PRUNED_pruned 1 0, 2147483648)]).lanes.faulted.contains 31 = false ∧
    (up [(F.SRH_LANE_MAP_role 31, 2), (F.LNE_ST_RESULT_result 31, 2), (F.PRN_PRUNED_pruned 1 0, 2147483648)]).lanes.oldUcode = [] ∧
    coreFenced (up [(F.SRH_LANE_MAP_role 31, 2), (F.LNE_ST_RESULT_result 31, 2), (F.PRN_PRUNED_pruned 1 0, 2147483648)]) 0 = false) ∧
   (3 < 4 ∧ (up [(F.LNE_SPARE_TEST_period_s, 60)]).get F.LNE_SPARE_TEST_period_s ≠ 0 ∧
    (up [(F.LNE_SPARE_TEST_period_s, 60)]).domOn (19 + 3) = true ∧ (up [(F.LNE_SPARE_TEST_period_s, 60)]).lanes.tests = [] ∧
    (spareTurn (up [(F.LNE_SPARE_TEST_period_s, 60)]) 3).head? = some 408 ∧ 408 < 544) := 
  ⟨by decide +kernel, by decide +kernel, by decide +kernel, by decide +kernel, by decide +kernel, by decide +kernel⟩

theorem test_LimbSynthesiser_hypotheses_1 :
   (7 < 8 ∧ follows State.reset 7 = false ∧ 7 ∈ reports State.reset 7 ∧ State.reset.domOn (15 + 7 / 4) = true ∧
    limbCode State.reset 7 = 0 ∧ (0x00640001#32 : Word).toNat.testBit 0 = true ∧ coreFenced State.reset 0 = false) ∧
   (4 < 8 ∧ follows (limbAt 4 4 {}) 4 = false ∧ 4 ∈ reports (limbAt 4 4 {}) 4 ∧ (limbAt 4 4 {}).domOn (15 + 4 / 4) = true ∧
    limbCode (limbAt 4 4 {}) 4 = 4 ∧ (0#32 : Word).toNat.testBit 0 = false ∧ ((limbAt 4 4 {}).limb 4).queue = [] ∧
    coreFenced (limbAt 4 4 {}) 0 = false) ∧
   (3 < 8 ∧ ((limbAt 3 1 { waking := true }).limb 3).waking = true ∧ ((limbAt 3 1 { waking := true }).limb 3).queue = [] ∧
    (limbAt 3 1 { waking := true }).domOn (15 + 3 / 4) = true) ∧
   (7 < 8 ∧ follows (limbAt 7 2 {}) 7 = false ∧ 7 ∈ reports (limbAt 7 2 {}) 7 ∧ limbCode (limbAt 7 2 {}) 7 = 2 ∧
    ((limbAt 7 2 {}).limb 7).bg = none ∧ ((limbAt 7 2 {}).limb 7).offPending = false ∧ ((limbAt 7 2 {}).limb 7).queue = [] ∧
    (limbAt 7 2 {}).domOn (15 + 7 / 4) = true) ∧
   (0 < 8 ∧ follows ((limbAt 0 3 { chan := 9000 }).setReg 0x208FFC (BitVec.ofNat 32 (2 ^ 31 + 9000 * 2 ^ 16))) 0 = false ∧
    0 ∈ reports ((limbAt 0 3 { chan := 9000 }).setReg 0x208FFC (BitVec.ofNat 32 (2 ^ 31 + 9000 * 2 ^ 16))) 0 ∧
    limbCode ((limbAt 0 3 { chan := 9000 }).setReg 0x208FFC (BitVec.ofNat 32 (2 ^ 31 + 9000 * 2 ^ 16))) 0 = 3 ∧
    (((limbAt 0 3 { chan := 9000 }).setReg 0x208FFC (BitVec.ofNat 32 (2 ^ 31 + 9000 * 2 ^ 16))).limb 0).bg = none ∧
    entryFor ((limbAt 0 3 { chan := 9000 }).setReg 0x208FFC (BitVec.ofNat 32 (2 ^ 31 + 9000 * 2 ^ 16))) 0 (((limbAt 0 3 { chan := 9000 }).setReg 0x208FFC (BitVec.ofNat 32 (2 ^ 31 + 9000 * 2 ^ 16))).limb 0).chan = 511 ∧
    511 < 512 ∧
    (((limbAt 0 3 { chan := 9000 }).setReg 0x208FFC (BitVec.ofNat 32 (2 ^ 31 + 9000 * 2 ^ 16))).limb 0).chan < 2 ^ 15 ∧
    1023 < 1024 ∧ 255 < 256 ∧
    ((limbAt 0 3 { chan := 9000 }).setReg 0x208FFC (BitVec.ofNat 32 (2 ^ 31 + 9000 * 2 ^ 16))).domOn (15 + 0 / 4) = true) ∧
   (2 < 8 ∧ follows (limbAt 2 3 {}) 2 = false ∧ 2 ∈ reports (limbAt 2 3 {}) 2 ∧ limbCode (limbAt 2 3 {}) 2 = 3 ∧
    ((limbAt 2 3 {}).limb 2).bg = none ∧
    threeWithin (((limbAt 2 3 {}).limb 2).acqFails ++ [(limbAt 2 3 {}).now]) (limbAt 2 3 {}).now = false ∧
    (limbAt 2 3 {}).domOn (15 + 2 / 4) = true) := 
  ⟨by decide +kernel, by decide +kernel, by decide +kernel, by decide +kernel, by decide +kernel, by decide +kernel⟩

theorem test_LimbSynthesiser_hypotheses_2 :
   (7 < 8 ∧ gangOf (limbAt 7 2 { acqFails := [0, 0] }) 7 = none ∧ limbCode (limbAt 7 2 { acqFails := [0, 0] }) 7 = 2 ∧
    threeWithin (((limbAt 7 2 { acqFails := [0, 0] }).limb 7).acqFails ++ [(limbAt 7 2 { acqFails := [0, 0] }).now]) (limbAt 7 2 { acqFails := [0, 0] }).now = true ∧
    (limbAt 7 2 { acqFails := [0, 0] }).domOn (15 + 7 / 4) = true) ∧
   (1 < 8 ∧ follows ((limbAt 1 4 {}).set (F.TXL_CTL_idle_us 1) 1) 1 = false ∧
    1 ∈ reports ((limbAt 1 4 {}).set (F.TXL_CTL_idle_us 1) 1) 1 ∧
    limbCode ((limbAt 1 4 {}).set (F.TXL_CTL_idle_us 1) 1) 1 = 4 ∧
    (((limbAt 1 4 {}).set (F.TXL_CTL_idle_us 1) 1).limb 1).queue = [] ∧
    ((limbAt 1 4 {}).set (F.TXL_CTL_idle_us 1) 1).get (F.TXL_CTL_idle_us 1) ≠ 0 ∧
    ((limbAt 1 4 {}).set (F.TXL_CTL_idle_us 1) 1).domOn (15 + 1 / 4) = true) ∧
   (6 < 8 ∧ follows ((limbAt 6 4 { requests := [9000] }).set (F.TXL_CTL_bg_cal 6) 1) 6 = false ∧
    6 ∈ reports ((limbAt 6 4 { requests := [9000] }).set (F.TXL_CTL_bg_cal 6) 1) 6 ∧
    ((limbAt 6 4 { requests := [9000] }).set (F.TXL_CTL_bg_cal 6) 1).on (F.TXL_CTL_bg_cal 6) = true ∧
    (limbCode ((limbAt 6 4 { requests := [9000] }).set (F.TXL_CTL_bg_cal 6) 1) 6 = 1 ∨ limbCode ((limbAt 6 4 { requests := [9000] }).set (F.TXL_CTL_bg_cal 6) 1) 6 = 4) ∧
    (((limbAt 6 4 { requests := [9000] }).set (F.TXL_CTL_bg_cal 6) 1).limb 6).waking = false ∧
    (((limbAt 6 4 { requests := [9000] }).set (F.TXL_CTL_bg_cal 6) 1).limb 6).queue = [] ∧
    (((limbAt 6 4 { requests := [9000] }).set (F.TXL_CTL_bg_cal 6) 1).limb 6).air = none ∧
    bgCandidates ((limbAt 6 4 { requests := [9000] }).set (F.TXL_CTL_bg_cal 6) 1) 6 = [(9000, true)] ∧
    ((limbAt 6 4 { requests := [9000] }).set (F.TXL_CTL_bg_cal 6) 1).domOn (15 + 6 / 4) = true) ∧
   (7 < 8 ∧ (State.reset.setReg 0x20FFFC 0x80000000#32).domOn (15 + 7 / 4) = true ∧
    coreFenced (State.reset.setReg 0x20FFFC 0x80000000#32) 0 = false) ∧
   (0 < 8 ∧ State.reset.domOn (15 + 0 / 4) = true ∧ 4100 ≤ 25000 ∧ 25000 ≤ 25000 ∧ coreFenced State.reset 0 = false) ∧
   (7 < 8 ∧ State.reset.domOn (15 + 7 / 4) = true) := 
  ⟨by decide +kernel, by decide +kernel, by decide +kernel, by decide +kernel, by decide +kernel, by decide +kernel⟩

theorem test_LimbFrames_hypotheses_1 :
   (1 < 8 ∧
    ({ (limbAt 1 1 {}).set (F.TXL_CTL_power 1) 1 with txl := { crossing := [aTx 1] } }).txl.crossing.find? (fun e => decide (e.limb = 1)) = some (aTx 1 : TxDesc) ∧
    arrivalStatus ({ (limbAt 1 1 {}).set (F.TXL_CTL_power 1) 1 with txl := { crossing := [aTx 1] } }) { (aTx 1 : TxDesc) with arrival := limbCode ({ (limbAt 1 1 {}).set (F.TXL_CTL_power 1) 1 with txl := { crossing := [aTx 1] } }) 1 } = none ∧
    (({ (limbAt 1 1 {}).set (F.TXL_CTL_power 1) 1 with txl := { crossing := [aTx 1] } }).limb 1).queue.length < 4 ∧
    (({ (limbAt 1 1 {}).set (F.TXL_CTL_power 1) 1 with txl := { crossing := [aTx 1] } }).limb 1).offPending = false ∧
    (∀ e ∈ (({ (limbAt 1 1 {}).set (F.TXL_CTL_power 1) 1 with txl := { crossing := [aTx 1] } }).limb 1).queue, e.launch ≤ (aTx 1 : TxDesc).launch)) ∧
   (1 < 8 ∧
    ({ (limbAt 1 1 { queue := [{ aTx 1 with launch := 25600000000 }] }).set (F.TXL_CTL_power 1) 1 with txl := { limbs := [(1, { queue := [{ aTx 1 with launch := 25600000000 }] })], crossing := [aTx 1] } }).txl.crossing.find? (fun e => decide (e.limb = 1)) = some (aTx 1 : TxDesc) ∧
    arrivalStatus ({ (limbAt 1 1 { queue := [{ aTx 1 with launch := 25600000000 }] }).set (F.TXL_CTL_power 1) 1 with txl := { limbs := [(1, { queue := [{ aTx 1 with launch := 25600000000 }] })], crossing := [aTx 1] } }) { (aTx 1 : TxDesc) with arrival := limbCode ({ (limbAt 1 1 { queue := [{ aTx 1 with launch := 25600000000 }] }).set (F.TXL_CTL_power 1) 1 with txl := { limbs := [(1, { queue := [{ aTx 1 with launch := 25600000000 }] })], crossing := [aTx 1] } }) 1 } = none ∧
    (({ (limbAt 1 1 { queue := [{ aTx 1 with launch := 25600000000 }] }).set (F.TXL_CTL_power 1) 1 with txl := { limbs := [(1, { queue := [{ aTx 1 with launch := 25600000000 }] })], crossing := [aTx 1] } }).limb 1).queue = [({ aTx 1 with launch := 25600000000 } : TxDesc)] ∧
    (aTx 1 : TxDesc).launch < ({ aTx 1 with launch := 25600000000 } : TxDesc).launch ∧
    overlaps ({ (limbAt 1 1 { queue := [{ aTx 1 with launch := 25600000000 }] }).set (F.TXL_CTL_power 1) 1 with txl := { limbs := [(1, { queue := [{ aTx 1 with launch := 25600000000 }] })], crossing := [aTx 1] } }) 1 ((aTx 1 : TxDesc), (aTx 1 : TxDesc).launch) ({ aTx 1 with launch := 25600000000 } : TxDesc) = false ∧
    (({ (limbAt 1 1 { queue := [{ aTx 1 with launch := 25600000000 }] }).set (F.TXL_CTL_power 1) 1 with txl := { limbs := [(1, { queue := [{ aTx 1 with launch := 25600000000 }] })], crossing := [aTx 1] } }).limb 1).offPending = false) ∧
   (7 < 8 ∧
    ({ State.reset with txl := { crossing := [aTx 7] } }).txl.crossing.find? (fun e => decide (e.limb = 7)) = some (aTx 7 : TxDesc) ∧
    arrivalStatus ({ State.reset with txl := { crossing := [aTx 7] } }) { (aTx 7 : TxDesc) with arrival := limbCode ({ State.reset with txl := { crossing := [aTx 7] } }) 7 } = some 11) ∧
   (1 < 8 ∧ leaderOf (readyToSend 1) 1 = 1 ∧ ((readyToSend 1).limb 1).queue = (aTx 1 : TxDesc) :: ([] : List TxDesc) ∧
    ((readyToSend 1).limb 1).air = none ∧ readyFor (readyToSend 1) 1 (aTx 1 : TxDesc) = true ∧
    1 ∈ radiating (readyToSend 1) (aTx 1 : TxDesc) ∧ (readyToSend 1).domOn (15 + 1 / 4) = true) ∧
   (7 < 8 ∧ follows ((limbAt 7 4 {}).set (F.TXL_STATUS_pa_en 7) 1) 7 = false ∧
    7 ∈ reports ((limbAt 7 4 {}).set (F.TXL_STATUS_pa_en 7) 1) 7 ∧
    limbCode ((limbAt 7 4 {}).set (F.TXL_STATUS_pa_en 7) 1) 7 ≤ 4 ∧
    ((limbAt 7 4 {}).set (F.TXL_STATUS_pa_en 7) 1).get (F.TXL_STATUS_pa_en 7) = 1 ∧
    paBridges ((limbAt 7 4 {}).set (F.TXL_STATUS_pa_en 7) 1) 7 = false ∧
    ((limbAt 7 4 {}).set (F.TXL_STATUS_pa_en 7) 1).domOn (15 + 7 / 4) = true) ∧
   (1 < 8 ∧ follows (readyToSend 1) 1 = false ∧ 1 ∈ reports (readyToSend 1) 1 ∧ (aTx 1 : TxDesc).limb = 1 ∧
    ((readyToSend 1).limb 1).queue = (aTx 1 : TxDesc) :: ([] : List TxDesc) ∧ ((readyToSend 1).limb 1).air = none ∧
    readyFor (readyToSend 1) 1 (aTx 1 : TxDesc) = true ∧ rampTurn (readyToSend 1) 1 (aTx 1 : TxDesc) = true ∧
    (readyToSend 1).now ≤ rampStart (aTx 1 : TxDesc) ∧ (coexSet (readyToSend 1) (aTx 1 : TxDesc) = none ∨ false = true) ∧
    refusalCause ((readyToSend 1).reach (rampStart (aTx 1 : TxDesc))) (aTx 1 : TxDesc) = none ∧
    (readyToSend 1).domOn (15 + 1 / 4) = true) ∧
   (1 < 8 ∧ follows ((late (readyToSend 1)).set F.TXL_LATE_MAX_late_us 5) 1 = false ∧
    1 ∈ reports ((late (readyToSend 1)).set F.TXL_LATE_MAX_late_us 5) 1 ∧ (aTx 1 : TxDesc).limb = 1 ∧
    (((late (readyToSend 1)).set F.TXL_LATE_MAX_late_us 5).limb 1).queue = (aTx 1 : TxDesc) :: ([] : List TxDesc) ∧
    (((late (readyToSend 1)).set F.TXL_LATE_MAX_late_us 5).limb 1).air = none ∧
    readyFor ((late (readyToSend 1)).set F.TXL_LATE_MAX_late_us 5) 1 (aTx 1 : TxDesc) = true ∧
    rampTurn ((late (readyToSend 1)).set F.TXL_LATE_MAX_late_us 5) 1 (aTx 1 : TxDesc) = true ∧
    rampStart (aTx 1 : TxDesc) < ((late (readyToSend 1)).set F.TXL_LATE_MAX_late_us 5).now ∧
    ((late (readyToSend 1)).set F.TXL_LATE_MAX_late_us 5).now ≤ lockDeadline ((late (readyToSend 1)).set F.TXL_LATE_MAX_late_us 5) (aTx 1 : TxDesc) ∧
    (coexSet ((late (readyToSend 1)).set F.TXL_LATE_MAX_late_us 5) (aTx 1 : TxDesc) = none ∨ false = true) ∧
    refusalCause ((late (readyToSend 1)).set F.TXL_LATE_MAX_late_us 5) (aTx 1 : TxDesc) = none ∧
    ((late (readyToSend 1)).set F.TXL_LATE_MAX_late_us 5).domOn (15 + 1 / 4) = true) := 
  ⟨by decide +kernel, by decide +kernel, by decide +kernel, by decide +kernel, by decide +kernel, by decide +kernel, by decide +kernel⟩

theorem test_LimbFrames_hypotheses_2 :
   (1 < 8 ∧ follows (readyToSend 1) 1 = false ∧ 1 ∈ reports (readyToSend 1) 1 ∧ (aTx 1 : TxDesc).limb = 1 ∧
    ((readyToSend 1).limb 1).queue = [(aTx 1 : TxDesc)] ∧ ((readyToSend 1).limb 1).air = none ∧
    readyFor (readyToSend 1) 1 (aTx 1 : TxDesc) = true ∧ rampTurn (readyToSend 1) 1 (aTx 1 : TxDesc) = true ∧
    (readyToSend 1).now ≤ lockDeadline (readyToSend 1) (aTx 1 : TxDesc) ∧
    (false = false ∨ (coexSet (readyToSend 1) (aTx 1 : TxDesc)).isSome = true ∧ true = false) ∧
    (readyToSend 1).domOn (15 + 1 / 4) = true) ∧
   (1 < 8 ∧ follows ({ readyToSend 1 with rgp := {} }) 1 = false ∧ 1 ∈ reports ({ readyToSend 1 with rgp := {} }) 1 ∧
    (aTx 1 : TxDesc).limb = 1 ∧ (({ readyToSend 1 with rgp := {} }).limb 1).queue = [(aTx 1 : TxDesc)] ∧
    (({ readyToSend 1 with rgp := {} }).limb 1).air = none ∧
    readyFor ({ readyToSend 1 with rgp := {} }) 1 (aTx 1 : TxDesc) = true ∧
    rampTurn ({ readyToSend 1 with rgp := {} }) 1 (aTx 1 : TxDesc) = true ∧
    ({ readyToSend 1 with rgp := {} }).now ≤ rampStart (aTx 1 : TxDesc) ∧
    (coexSet ({ readyToSend 1 with rgp := {} }) (aTx 1 : TxDesc) = none ∨ false = true) ∧
    refusalCause (({ readyToSend 1 with rgp := {} }).reach (rampStart (aTx 1 : TxDesc))) (aTx 1 : TxDesc) = some 0 ∧
    ({ readyToSend 1 with rgp := {} }).domOn (15 + 1 / 4) = true) ∧
   (7 < 8 ∧ follows (limbAt 7 2 { queue := [aTx 7] }) 7 = false ∧ 7 ∈ reports (limbAt 7 2 { queue := [aTx 7] }) 7 ∧
    (aTx 7 : TxDesc).limb = 7 ∧ ((limbAt 7 2 { queue := [aTx 7] }).limb 7).queue = [(aTx 7 : TxDesc)] ∧
    ((limbAt 7 2 { queue := [aTx 7] }).limb 7).air = none ∧
    readyFor (limbAt 7 2 { queue := [aTx 7] }) 7 (aTx 7 : TxDesc) = false ∧
    (limbAt 7 2 { queue := [aTx 7] }).domOn (15 + 7 / 4) = true) ∧
   (1 < 8 ∧ follows (limbAt 1 5 { air := some ⟨aTx 1, 0, 2560, 2, false, 0⟩ }) 1 = false ∧
    1 ∈ reports (limbAt 1 5 { air := some ⟨aTx 1, 0, 2560, 2, false, 0⟩ }) 1 ∧
    limbCode (limbAt 1 5 { air := some ⟨aTx 1, 0, 2560, 2, false, 0⟩ }) 1 = 5 ∧
    ((limbAt 1 5 { air := some ⟨aTx 1, 0, 2560, 2, false, 0⟩ }).limb 1).air = some (⟨aTx 1, 0, 2560, 2, false, 0⟩ : OnAir) ∧
    (limbAt 1 5 { air := some ⟨aTx 1, 0, 2560, 2, false, 0⟩ }).domOn (15 + 1 / 4) = true) ∧
   (1 < 8 ∧ follows (limbAt 1 6 { air := some ⟨aTx 1, 0, 2560, 2, true, 0⟩ }) 1 = false ∧
    1 ∈ reports (limbAt 1 6 { air := some ⟨aTx 1, 0, 2560, 2, true, 0⟩ }) 1 ∧
    limbCode (limbAt 1 6 { air := some ⟨aTx 1, 0, 2560, 2, true, 0⟩ }) 1 = 6 ∧
    ((limbAt 1 6 { air := some ⟨aTx 1, 0, 2560, 2, true, 0⟩ }).limb 1).air = some (⟨aTx 1, 0, 2560, 2, true, 0⟩ : OnAir) ∧
    (limbAt 1 6 { air := some ⟨aTx 1, 0, 2560, 2, true, 0⟩ }).domOn (15 + 1 / 4) = true) ∧
   (1 < 8 ∧ follows (limbAt 1 7 { air := some ⟨aTx 1, 0, 5120000, 2, true, 0⟩ }) 1 = false ∧
    1 ∈ reports (limbAt 1 7 { air := some ⟨aTx 1, 0, 5120000, 2, true, 0⟩ }) 1 ∧
    limbCode (limbAt 1 7 { air := some ⟨aTx 1, 0, 5120000, 2, true, 0⟩ }) 1 = 7 ∧
    ((limbAt 1 7 { air := some ⟨aTx 1, 0, 5120000, 2, true, 0⟩ }).limb 1).air = some (⟨aTx 1, 0, 5120000, 2, true, 0⟩ : OnAir) ∧
    (⟨aTx 1, 0, 5120000, 2, true, 0⟩ : OnAir).desc.limb = 1 ∧ (⟨aTx 1, 0, 5120000, 2, true, 0⟩ : OnAir).status = 0 ∧
    (⟨aTx 1, 0, 5120000, 2, true, 0⟩ : OnAir).desc.ret = 1 ∧
    ((limbAt 1 7 { air := some ⟨aTx 1, 0, 5120000, 2, true, 0⟩ }).limb 1).queue = [] ∧
    ((limbAt 1 7 { air := some ⟨aTx 1, 0, 5120000, 2, true, 0⟩ }).limb 1).offPending = false ∧
    ((limbAt 1 7 { air := some ⟨aTx 1, 0, 5120000, 2, true, 0⟩ }).limb 1).waking = false ∧
    (⟨aTx 1, 0, 5120000, 2, true, 0⟩ : OnAir).launched = true ∧
    (limbAt 1 7 { air := some ⟨aTx 1, 0, 5120000, 2, true, 0⟩ }).domOn (15 + 1 / 4) = true) ∧
   (1 < 8 ∧
    follows ((limbAt 1 7 { air := some ⟨{ aTx 1 with ret := 0 }, 0, 5120000, 2, true, 0⟩ }).set (F.TXL_STATUS_locked 1) 1) 1 = false ∧
    1 ∈ reports ((limbAt 1 7 { air := some ⟨{ aTx 1 with ret := 0 }, 0, 5120000, 2, true, 0⟩ }).set (F.TXL_STATUS_locked 1) 1) 1 ∧
    limbCode ((limbAt 1 7 { air := some ⟨{ aTx 1 with ret := 0 }, 0, 5120000, 2, true, 0⟩ }).set (F.TXL_STATUS_locked 1) 1) 1 = 7 ∧
    (((limbAt 1 7 { air := some ⟨{ aTx 1 with ret := 0 }, 0, 5120000, 2, true, 0⟩ }).set (F.TXL_STATUS_locked 1) 1).limb 1).air = some (⟨{ aTx 1 with ret := 0 }, 0, 5120000, 2, true, 0⟩ : OnAir) ∧
    (⟨{ aTx 1 with ret := 0 }, 0, 5120000, 2, true, 0⟩ : OnAir).desc.limb = 1 ∧
    (⟨{ aTx 1 with ret := 0 }, 0, 5120000, 2, true, 0⟩ : OnAir).status = 0 ∧
    (⟨{ aTx 1 with ret := 0 }, 0, 5120000, 2, true, 0⟩ : OnAir).desc.ret = 0 ∧
    (((limbAt 1 7 { air := some ⟨{ aTx 1 with ret := 0 }, 0, 5120000, 2, true, 0⟩ }).set (F.TXL_STATUS_locked 1) 1).limb 1).queue = [] ∧
    (((limbAt 1 7 { air := some ⟨{ aTx 1 with ret := 0 }, 0, 5120000, 2, true, 0⟩ }).set (F.TXL_STATUS_locked 1) 1).limb 1).offPending = false ∧
    ((limbAt 1 7 { air := some ⟨{ aTx 1 with ret := 0 }, 0, 5120000, 2, true, 0⟩ }).set (F.TXL_STATUS_locked 1) 1).get (F.TXL_STATUS_locked 1) = 1 ∧
    ((limbAt 1 7 { air := some ⟨{ aTx 1 with ret := 0 }, 0, 5120000, 2, true, 0⟩ }).set (F.TXL_STATUS_locked 1) 1).domOn (15 + 1 / 4) = true) := 
  ⟨by decide +kernel, by decide +kernel, by decide +kernel, by decide +kernel, by decide +kernel, by decide +kernel, by decide +kernel⟩

theorem test_LimbTrouble_hypotheses_1 :
   (5 < 8 ∧ follows (limbAt 5 6 { air := some ⟨aTx 5, 0, 2560, 32, true, 0⟩ }) 5 = false ∧
    5 ∈ reports (limbAt 5 6 { air := some ⟨aTx 5, 0, 2560, 32, true, 0⟩ }) 5 ∧
    limbCode (limbAt 5 6 { air := some ⟨aTx 5, 0, 2560, 32, true, 0⟩ }) 5 = 6 ∧
    ((limbAt 5 6 { air := some ⟨aTx 5, 0, 2560, 32, true, 0⟩ }).limb 5).air = some (⟨aTx 5, 0, 2560, 32, true, 0⟩ : OnAir) ∧
    ringProtected (limbAt 5 6 { air := some ⟨aTx 5, 0, 2560, 32, true, 0⟩ }) ((limbAt 5 6 { air := some ⟨aTx 5, 0, 2560, 32, true, 0⟩ }).get F.RRC_HEAD_index) = false ∧
    (limbAt 5 6 { air := some ⟨aTx 5, 0, 2560, 32, true, 0⟩ }).domOn (15 + 5 / 4) = true) ∧
   (1 < 2 ∧ (State.reset.domOn 15 = true ∨ State.reset.domOn 16 = true) ∧ State.reset.get (F.TXL_GANG_en 1) = 0 ∧
    (∀ k < 4, limbCode State.reset (4 * 1 + k) ≤ 1 ∧ (State.reset.limb (4 * 1 + k)).queue = []) ∧
    (upTo 4).filter (fun k => !State.reset.pruned 3 (4 * 1 + k)) = ([0, 1, 2, 3] : List Nat) ∧ ([0, 1, 2, 3] : List Nat) ≠ [] ∧
    coreFenced State.reset 0 = false) ∧
   (1 < 2 ∧ 3 < 4 ∧ ((limbAt 7 4 {}).domOn 15 = true ∨ (limbAt 7 4 {}).domOn 16 = true) ∧
    (limbAt 7 4 {}).get (F.TXL_GANG_en 1) ≠ b2n true ∧ 1 < limbCode (limbAt 7 4 {}) (4 * 1 + 3) ∧
    coreFenced (limbAt 7 4 {}) 0 = false) ∧
   (1 < 2 ∧
    ((up [(F.TXL_GANG_en 1, 1), (F.TXL_GANG_members 1, 15), (F.TXL_GANG_leader 1, 4), (F.TXL_GANG_active 1, 1)]).domOn 15 = true ∨ (up [(F.TXL_GANG_en 1, 1), (F.TXL_GANG_members 1, 15), (F.TXL_GANG_leader 1, 4), (F.TXL_GANG_active 1, 1)]).domOn 16 = true) ∧
    (up [(F.TXL_GANG_en 1, 1), (F.TXL_GANG_members 1, 15), (F.TXL_GANG_leader 1, 4), (F.TXL_GANG_active 1, 1)]).get (F.TXL_GANG_en 1) = 1 ∧
    (∀ k < 4, limbCode (up [(F.TXL_GANG_en 1, 1), (F.TXL_GANG_members 1, 15), (F.TXL_GANG_leader 1, 4), (F.TXL_GANG_active 1, 1)]) (4 * 1 + k) ≤ 1 ∧ ((up [(F.TXL_GANG_en 1, 1), (F.TXL_GANG_members 1, 15), (F.TXL_GANG_leader 1, 4), (F.TXL_GANG_active 1, 1)]).limb (4 * 1 + k)).queue = []) ∧
    coreFenced (up [(F.TXL_GANG_en 1, 1), (F.TXL_GANG_members 1, 15), (F.TXL_GANG_leader 1, 4), (F.TXL_GANG_active 1, 1)]) 0 = false) ∧
   (1 < 2 ∧
    ({ up [(F.TXL_GANG_members 1, 8), (F.TXL_GANG_active 1, 1), (F.TXL_GANG_leader 1, 5)] with txl := { takeover := [1], limbs := [(5, { queue := [aTx 5] })] } }).txl.takeover.contains 1 = true ∧
    gangMembers ({ up [(F.TXL_GANG_members 1, 8), (F.TXL_GANG_active 1, 1), (F.TXL_GANG_leader 1, 5)] with txl := { takeover := [1], limbs := [(5, { queue := [aTx 5] })] } }) 1 = 7 :: ([] : List Nat) ∧
    7 ≠ ({ up [(F.TXL_GANG_members 1, 8), (F.TXL_GANG_active 1, 1), (F.TXL_GANG_leader 1, 5)] with txl := { takeover := [1], limbs := [(5, { queue := [aTx 5] })] } }).get (F.TXL_GANG_leader 1) ∧
    (({ up [(F.TXL_GANG_members 1, 8), (F.TXL_GANG_active 1, 1), (F.TXL_GANG_leader 1, 5)] with txl := { takeover := [1], limbs := [(5, { queue := [aTx 5] })] } }).limb 7).offPending = false) ∧
   (3 < 4 ∧ (State.reset.domOn 15 = true ∨ State.reset.domOn 16 = true) ∧
    contested State.reset 3 (0x0400 + 3) [3 * 3, 3 * 3 + 1, 3 * 3 + 2] = none ∧ coreFenced State.reset 0 = false) := 
  ⟨by decide +kernel, by decide +kernel, by decide +kernel, by decide +kernel, by decide +kernel, by decide +kernel⟩

theorem test_LimbTrouble_hypotheses_2 :
   (3 < 4 ∧
    (({ State.reset with stand := { inForce := some { owns := [⟨3, 11, 1, 0x0100⟩] } } }).domOn 15 = true ∨ ({ State.reset with stand := { inForce := some { owns := [⟨3, 11, 1, 0x0100⟩] } } }).domOn 16 = true) ∧
    contested ({ State.reset with stand := { inForce := some { owns := [⟨3, 11, 1, 0x0100⟩] } } }) 3 (0x0400 + 3) [3 * 3, 3 * 3 + 1, 3 * 3 + 2] = some 11 ∧
    coreFenced ({ State.reset with stand := { inForce := some { owns := [⟨3, 11, 1, 0x0100⟩] } } }) 0 = false) ∧
   (3 < 4 ∧
    ((up [(F.TXL_CX_CTL_en 3, 1), (F.TXL_CX_CTL_active 3, 1)]).domOn 15 = true ∨ (up [(F.TXL_CX_CTL_en 3, 1), (F.TXL_CX_CTL_active 3, 1)]).domOn 16 = true) ∧
    coreFenced (up [(F.TXL_CX_CTL_en 3, 1), (F.TXL_CX_CTL_active 3, 1)]) 0 = false) ∧
   (1 < 8 ∧
    (({ up coexFields with txl := { limbs := [(1, { queue := [aTx 1] })] } }).limb 1).queue = (aTx 1 : TxDesc) :: ([] : List TxDesc) ∧
    coexSet ({ up coexFields with txl := { limbs := [(1, { queue := [aTx 1] })] } }) (aTx 1 : TxDesc) = some 3 ∧
    (({ up coexFields with txl := { limbs := [(1, { queue := [aTx 1] })] } }).limb 1).cx = [] ∧
    coexHolds ({ up coexFields with txl := { limbs := [(1, { queue := [aTx 1] })] } }) 3 = []) ∧
   (1 < 8 ∧
    (∀ m < 8, gangOf ({ up (coexFields ++ [(F.TXL_CX_CFG_abort, 1), (F.TXL_STATUS_state 1, 6)]) with txl := { limbs := [(1, { air := some ⟨aTx 1, 0, 2560, 2, true, 0⟩ })] } }) m = none) ∧
    (limbCode ({ up (coexFields ++ [(F.TXL_CX_CFG_abort, 1), (F.TXL_STATUS_state 1, 6)]) with txl := { limbs := [(1, { air := some ⟨aTx 1, 0, 2560, 2, true, 0⟩ })] } }) 1 = 5 ∨ limbCode ({ up (coexFields ++ [(F.TXL_CX_CFG_abort, 1), (F.TXL_STATUS_state 1, 6)]) with txl := { limbs := [(1, { air := some ⟨aTx 1, 0, 2560, 2, true, 0⟩ })] } }) 1 = 6) ∧
    (({ up (coexFields ++ [(F.TXL_CX_CFG_abort, 1), (F.TXL_STATUS_state 1, 6)]) with txl := { limbs := [(1, { air := some ⟨aTx 1, 0, 2560, 2, true, 0⟩ })] } }).limb 1).air = some (⟨aTx 1, 0, 2560, 2, true, 0⟩ : OnAir) ∧
    coexSet ({ up (coexFields ++ [(F.TXL_CX_CFG_abort, 1), (F.TXL_STATUS_state 1, 6)]) with txl := { limbs := [(1, { air := some ⟨aTx 1, 0, 2560, 2, true, 0⟩ })] } }) (⟨aTx 1, 0, 2560, 2, true, 0⟩ : OnAir).desc = some 3 ∧
    ({ up (coexFields ++ [(F.TXL_CX_CFG_abort, 1), (F.TXL_STATUS_state 1, 6)]) with txl := { limbs := [(1, { air := some ⟨aTx 1, 0, 2560, 2, true, 0⟩ })] } }).get F.TXL_CX_CFG_abort = 1) ∧
   (1 < 8 ∧
    (∀ m < 8, m ≠ 1 → (({ up (coexFields ++ [(F.TXL_CX_CFG_abort, 0), (F.TXL_STATUS_state 1, 6)]) with txl := { limbs := [(1, { air := some ⟨aTx 1, 0, 2560, 2, true, 0⟩ })] } }).limb m).air = none) ∧
    (limbCode ({ up (coexFields ++ [(F.TXL_CX_CFG_abort, 0), (F.TXL_STATUS_state 1, 6)]) with txl := { limbs := [(1, { air := some ⟨aTx 1, 0, 2560, 2, true, 0⟩ })] } }) 1 = 5 ∨ limbCode ({ up (coexFields ++ [(F.TXL_CX_CFG_abort, 0), (F.TXL_STATUS_state 1, 6)]) with txl := { limbs := [(1, { air := some ⟨aTx 1, 0, 2560, 2, true, 0⟩ })] } }) 1 = 6) ∧
    (({ up (coexFields ++ [(F.TXL_CX_CFG_abort, 0), (F.TXL_STATUS_state 1, 6)]) with txl := { limbs := [(1, { air := some ⟨aTx 1, 0, 2560, 2, true, 0⟩ })] } }).limb 1).air = some (⟨aTx 1, 0, 2560, 2, true, 0⟩ : OnAir) ∧
    coexSet ({ up (coexFields ++ [(F.TXL_CX_CFG_abort, 0), (F.TXL_STATUS_state 1, 6)]) with txl := { limbs := [(1, { air := some ⟨aTx 1, 0, 2560, 2, true, 0⟩ })] } }) (⟨aTx 1, 0, 2560, 2, true, 0⟩ : OnAir).desc = some 3 ∧
    ({ up (coexFields ++ [(F.TXL_CX_CFG_abort, 0), (F.TXL_STATUS_state 1, 6)]) with txl := { limbs := [(1, { air := some ⟨aTx 1, 0, 2560, 2, true, 0⟩ })] } }).get F.TXL_CX_CFG_abort = 0) := 
  ⟨by decide +kernel, by decide +kernel, by decide +kernel, by decide +kernel, by decide +kernel⟩

theorem test_ProfileAndDuty_hypotheses :
   (dutyBucket ({ State.reset with rgp := { inForce := dutyProfile, duty := [(0, [(1, 5), (900, 7)])] }, time := { ns := 62500000000 * 1000 } }).rgp.inForce 0 = 62500000000 ∧
    0 < 62500000000) ∧
   (dwellBucket ({ State.reset with rgp := { inForce := dwellProfile, dwell := [(0, [(1, 5), (900, 7)])] }, time := { ns := 6250000000 * 1000 } }).rgp.inForce 0 = 6250000 ∧
    0 < 6250000) ∧
   ((up [(F.DDR_SIZE_mib, 16)]).domOn 2 = true ∧ (up [(F.DDR_SIZE_mib, 16)]).get F.BRK_LC_state ≤ 1 ∧
    (up [(F.DDR_SIZE_mib, 16)]).rgp.otp = [] ∧
    (up [(F.DDR_SIZE_mib, 16)]).dramOk ((up [(F.DDR_SIZE_mib, 16)]).pair F.RGP_OTP_ADDR_LO_addr F.RGP_OTP_ADDR_HI_addr / 16 * 16) 512 = true ∧
    (up [(F.DDR_SIZE_mib, 16)]).dramRead ((up [(F.DDR_SIZE_mib, 16)]).pair F.RGP_OTP_ADDR_LO_addr F.RGP_OTP_ADDR_HI_addr / 16 * 16) 512 = ((up [(F.DDR_SIZE_mib, 16)]).dramRead 0 512 : List Byte) ∧
    coreFenced (up [(F.DDR_SIZE_mib, 16)]) 0 = false) ∧
   (({ State.reset with rgp := { otp := aProfile } }).domOn 2 = true ∧
    ({ State.reset with rgp := { otp := aProfile } }).get F.BRK_LC_state ≤ 1 ∧
    ({ State.reset with rgp := { otp := aProfile } }).rgp.otp ≠ [] ∧
    coreFenced ({ State.reset with rgp := { otp := aProfile } }) 0 = false) ∧
   (({ State.reset with rgp := { pending := some 1, rewrapped := true, slots := [(1, ⟨7, aProfile⟩)] } }).rgp.pending = some 1 ∧
    ({ State.reset with rgp := { pending := some 1, rewrapped := true, slots := [(1, ⟨7, aProfile⟩)] } }).rgp.rewrapped = true ∧
    tabFind ({ State.reset with rgp := { pending := some 1, rewrapped := true, slots := [(1, ⟨7, aProfile⟩)] } }).rgp.slots 1 = some (⟨7, aProfile⟩ : ProfileSlot)) := 
  ⟨by decide +kernel, by decide +kernel, by decide +kernel, by decide +kernel, by decide +kernel⟩

theorem test_SlotEngineJudges_hypotheses_1 :
   (({ State.reset with lanes := { delivered := [aDescriptor 4] } }).lanes.delivered = (aDescriptor 4 : RxDescriptor) :: ([] : List RxDescriptor) ∧
    engineUp ({ State.reset with lanes := { delivered := [aDescriptor 4] } }) = true ∧
    (aDescriptor 4 : RxDescriptor).status ≠ 0 ∧
    ({ State.reset with lanes := { delivered := [aDescriptor 4] } }).cellsLost (aDescriptor 4 : RxDescriptor).cells = false) ∧
   (({ State.reset with lanes := { delivered := [{ aDescriptor 0 with cellUse := some ⟨5, false, 0, 0, 0, 0⟩ }] }, tables := { leaf := [(240, 0x12#32), (241, 0x00050000#32), (269, 2#32)], cells := [(14, 5#32)] }, sse := { expects := [(9, 7, 5)] } }).lanes.delivered = ({ aDescriptor 0 with cellUse := some ⟨5, false, 0, 0, 0, 0⟩ } : RxDescriptor) :: ([] : List RxDescriptor) ∧
    engineUp ({ State.reset with lanes := { delivered := [{ aDescriptor 0 with cellUse := some ⟨5, false, 0, 0, 0, 0⟩ }] }, tables := { leaf := [(240, 0x12#32), (241, 0x00050000#32), (269, 2#32)], cells := [(14, 5#32)] }, sse := { expects := [(9, 7, 5)] } }) = true ∧
    ({ aDescriptor 0 with cellUse := some ⟨5, false, 0, 0, 0, 0⟩ } : RxDescriptor).status = 0 ∧
    readHeader (macBytes ({ aDescriptor 0 with cellUse := some ⟨5, false, 0, 0, 0, 0⟩ } : RxDescriptor)) = some (⟨2, false, false, none, some (.short 5), 0, none, [], 7, false⟩ : MacHeader) ∧
    (⟨2, false, false, none, some (.short 5), 0, none, [], 7, false⟩ : MacHeader).type = 2 ∧
    (⟨2, false, false, none, some (.short 5), 0, none, [], 7, false⟩ : MacHeader).secured = false ∧
    (⟨2, false, false, none, some (.short 5), 0, none, [], 7, false⟩ : MacHeader).src = some (.short 5 : MacAddr) ∧
    ({ aDescriptor 0 with cellUse := some ⟨5, false, 0, 0, 0, 0⟩ } : RxDescriptor).cell = some (9, 7) ∧
    ({ State.reset with lanes := { delivered := [{ aDescriptor 0 with cellUse := some ⟨5, false, 0, 0, 0, 0⟩ }] }, tables := { leaf := [(240, 0x12#32), (241, 0x00050000#32), (269, 2#32)], cells := [(14, 5#32)] }, sse := { expects := [(9, 7, 5)] } }).cellsLost ({ aDescriptor 0 with cellUse := some ⟨5, false, 0, 0, 0, 0⟩ } : RxDescriptor).cells = false ∧
    ({ aDescriptor 0 with cellUse := some ⟨5, false, 0, 0, 0, 0⟩ } : RxDescriptor).cellUse = some (⟨5, false, 0, 0, 0, 0⟩ : CellUse) ∧
    (⟨5, false, 0, 0, 0, 0⟩ : CellUse).lid = 5 ∧ 5 ≠ 0 ∧ (⟨5, false, 0, 0, 0, 0⟩ : CellUse).shared = false ∧
    leafHas ({ State.reset with lanes := { delivered := [{ aDescriptor 0 with cellUse := some ⟨5, false, 0, 0, 0, 0⟩ }] }, tables := { leaf := [(240, 0x12#32), (241, 0x00050000#32), (269, 2#32)], cells := [(14, 5#32)] }, sse := { expects := [(9, 7, 5)] } }) 5 (.short 5 : MacAddr) = true ∧
    leafState ({ State.reset with lanes := { delivered := [{ aDescriptor 0 with cellUse := some ⟨5, false, 0, 0, 0, 0⟩ }] }, tables := { leaf := [(240, 0x12#32), (241, 0x00050000#32), (269, 2#32)], cells := [(14, 5#32)] }, sse := { expects := [(9, 7, 5)] } }) 5 = 2 ∧
    ({ aDescriptor 0 with cellUse := some ⟨5, false, 0, 0, 0, 0⟩ } : RxDescriptor).catchClass = 0 ∧
    bit ({ aDescriptor 0 with cellUse := some ⟨5, false, 0, 0, 0, 0⟩ } : RxDescriptor).flags 5 = false) ∧
   (({ State.reset with tables := { leaf := [(48, 2#32), (77, 1#32)] }, sse := { expects := [(9, 524287, 1)] } }).sse.expects = [(9, 524287, 1)] ∧
    leafState ({ State.reset with tables := { leaf := [(48, 2#32), (77, 1#32)] }, sse := { expects := [(9, 524287, 1)] } }) 1 = 2 ∧
    leafMisses ({ State.reset with tables := { leaf := [(48, 2#32), (77, 1#32)] }, sse := { expects := [(9, 524287, 1)] } }) 1 < 2) ∧
   (({ State.reset with tables := { leaf := [(48, 2#32), (77, 2#32)] }, sse := { expects := [(9, 7, 1)] } }).sse.expects = [(9, 7, 1)] ∧
    leafState ({ State.reset with tables := { leaf := [(48, 2#32), (77, 2#32)] }, sse := { expects := [(9, 7, 1)] } }) 1 = 2 ∧
    leafMisses ({ State.reset with tables := { leaf := [(48, 2#32), (77, 2#32)] }, sse := { expects := [(9, 7, 1)] } }) 1 = 2) ∧
   (({ up [(F.SSE_TP_STATUS_active, 3), (F.SSE_TP_STATUS_misses, 1)] with sse := { parents := [(9, 7, 3)] } }).sse.parents = [(9, 7, 3)] ∧
    ({ up [(F.SSE_TP_STATUS_active, 3), (F.SSE_TP_STATUS_misses, 1)] with sse := { parents := [(9, 7, 3)] } }).get F.SSE_TP_STATUS_active = 3 ∧
    ({ up [(F.SSE_TP_STATUS_active, 3), (F.SSE_TP_STATUS_misses, 1)] with sse := { parents := [(9, 7, 3)] } }).get F.SSE_TP_STATUS_misses < 2) := 
  ⟨by decide +kernel, by decide +kernel, by decide +kernel, by decide +kernel, by decide +kernel⟩

theorem test_SlotEngineJudges_hypotheses_2 :
   (0 < 4 ∧
    ({ up [(F.SSE_TP_STATUS_active, 0), (F.SSE_TP_STATUS_misses, 2), (F.SSE_TP_CFG_cand_en, 1)] with sse := { parents := [(9, 7, 0)] } }).sse.parents = [(9, 7, 0)] ∧
    ({ up [(F.SSE_TP_STATUS_active, 0), (F.SSE_TP_STATUS_misses, 2), (F.SSE_TP_CFG_cand_en, 1)] with sse := { parents := [(9, 7, 0)] } }).get F.SSE_TP_STATUS_active = 0 ∧
    ({ up [(F.SSE_TP_STATUS_active, 0), (F.SSE_TP_STATUS_misses, 2), (F.SSE_TP_CFG_cand_en, 1)] with sse := { parents := [(9, 7, 0)] } }).get F.SSE_TP_STATUS_misses = 2 ∧
    nextParent (({ up [(F.SSE_TP_STATUS_active, 0), (F.SSE_TP_STATUS_misses, 2), (F.SSE_TP_CFG_cand_en, 1)] with sse := { parents := [(9, 7, 0)] } }).set (F.SSE_TP_CAND_lost 0) 1) 0 = none ∧
    ({ up [(F.SSE_TP_STATUS_active, 0), (F.SSE_TP_STATUS_misses, 2), (F.SSE_TP_CFG_cand_en, 1)] with sse := { parents := [(9, 7, 0)] } }).get F.TMB_REF_src ≠ 2) ∧
   (0 < 4 ∧
    ({ up [(F.SSE_TP_STATUS_active, 0), (F.SSE_TP_STATUS_misses, 2), (F.SSE_TP_CFG_cand_en, 5)] with sse := { parents := [(9, 7, 0)] } }).sse.parents = [(9, 7, 0)] ∧
    ({ up [(F.SSE_TP_STATUS_active, 0), (F.SSE_TP_STATUS_misses, 2), (F.SSE_TP_CFG_cand_en, 5)] with sse := { parents := [(9, 7, 0)] } }).get F.SSE_TP_STATUS_active = 0 ∧
    ({ up [(F.SSE_TP_STATUS_active, 0), (F.SSE_TP_STATUS_misses, 2), (F.SSE_TP_CFG_cand_en, 5)] with sse := { parents := [(9, 7, 0)] } }).get F.SSE_TP_STATUS_misses = 2 ∧
    nextParent (({ up [(F.SSE_TP_STATUS_active, 0), (F.SSE_TP_STATUS_misses, 2), (F.SSE_TP_CFG_cand_en, 5)] with sse := { parents := [(9, 7, 0)] } }).set (F.SSE_TP_CAND_lost 0) 1) 0 = some 2) ∧
   (({ State.reset with txl := { done := [⟨{ aTx 0 with tag := 11 }, 0, 1, 0, 0⟩] } }).txl.done = (⟨{ aTx 0 with tag := 11 }, 0, 1, 0, 0⟩ : TxDone) :: ([] : List TxDone) ∧
    (⟨{ aTx 0 with tag := 11 }, 0, 1, 0, 0⟩ : TxDone).status = 0 ∧
    (⟨{ aTx 0 with tag := 11 }, 0, 1, 0, 0⟩ : TxDone).desc.tag % 8 = 3) ∧
   (({ State.reset with txl := { done := [⟨{ aTx 0 with tag := 40 }, 0, 1, 0, 0⟩] }, traffic := { vqs := [(5, [aVqFrame])] } }).txl.done = (⟨{ aTx 0 with tag := 40 }, 0, 1, 0, 0⟩ : TxDone) :: ([] : List TxDone) ∧
    (⟨{ aTx 0 with tag := 40 }, 0, 1, 0, 0⟩ : TxDone).status = 0 ∧
    (⟨{ aTx 0 with tag := 40 }, 0, 1, 0, 0⟩ : TxDone).desc.tag % 8 < 2 ∧
    vqueue ({ State.reset with txl := { done := [⟨{ aTx 0 with tag := 40 }, 0, 1, 0, 0⟩] }, traffic := { vqs := [(5, [aVqFrame])] } }) ((⟨{ aTx 0 with tag := 40 }, 0, 1, 0, 0⟩ : TxDone).desc.tag / 8) = aVqFrame :: ([] : List VqFrame)) ∧
   (({ up [(F.SSE_SHARED_CFG_max_retries, 3)] with txl := { done := [⟨{ aTx 0 with tag := 41 }, 0, 1, 0, 0⟩] }, traffic := { vqs := [(5, [aVqFrame])] } }).txl.done = (⟨{ aTx 0 with tag := 41 }, 0, 1, 0, 0⟩ : TxDone) :: ([] : List TxDone) ∧
    ((⟨{ aTx 0 with tag := 41 }, 0, 1, 0, 0⟩ : TxDone).status = 0 ∨ (⟨{ aTx 0 with tag := 41 }, 0, 1, 0, 0⟩ : TxDone).status = 4 ∨ (⟨{ aTx 0 with tag := 41 }, 0, 1, 0, 0⟩ : TxDone).status = 5) ∧
    (⟨{ aTx 0 with tag := 41 }, 0, 1, 0, 0⟩ : TxDone).desc.tag % 8 < 2 ∧
    vqueue ({ up [(F.SSE_SHARED_CFG_max_retries, 3)] with txl := { done := [⟨{ aTx 0 with tag := 41 }, 0, 1, 0, 0⟩] }, traffic := { vqs := [(5, [aVqFrame])] } }) ((⟨{ aTx 0 with tag := 41 }, 0, 1, 0, 0⟩ : TxDone).desc.tag / 8) = aVqFrame :: ([] : List VqFrame) ∧
    aVqFrame.broadcast = false ∧
    aVqFrame.attempts < ({ up [(F.SSE_SHARED_CFG_max_retries, 3)] with txl := { done := [⟨{ aTx 0 with tag := 41 }, 0, 1, 0, 0⟩] }, traffic := { vqs := [(5, [aVqFrame])] } }).get F.SSE_SHARED_CFG_max_retries) := 
  ⟨by decide +kernel, by decide +kernel, by decide +kernel, by decide +kernel, by decide +kernel⟩

theorem test_SlotEngineSchedule_hypotheses :
   (engineUp (up [(F.SSE_CTL_run, 1)]) = true ∧ (up [(F.SSE_CTL_run, 1)]).get F.SSE_CTL_run = 1 ∧
    (up [(F.SSE_CTL_run, 1)]).asn < 1099511627775 ∧ (up [(F.SSE_CTL_run, 1)]).sse.read ≤ 1099511627775 ∧
    1099511627775 < 2 ^ 40 ∧ (up [(F.SSE_CTL_run, 1)]).domOn 7 = true ∧
    (∀ h < 64, (up [(F.SSE_CTL_run, 1)]).get (F.SSE_SF0_en h) = 0)) ∧
   (engineUp oneCell = true ∧ oneCell.get F.SSE_CTL_run = 1 ∧ oneCell.asn < 1 ∧ oneCell.sse.read ≤ 1 ∧ 1 < 2 ^ 40 ∧
    oneCell.domOn 7 = true ∧ oneCell.sse.spans = [] ∧ oneCell.get (F.SSE_SF0_en 0) = 1 ∧
    (∀ h < 64, h ≠ 0 → oneCell.get (F.SSE_SF0_en h) = 0) ∧
    frameCells oneCell 1 0 = [((⟨3, 0, 0, 0, false, true, false, false, 0, 1, 0, 0⟩ : Cell), true)] ∧
    (⟨3, 0, 0, 0, false, true, false, false, 0, 1, 0, 0⟩ : Cell).tx = false ∧
    (⟨3, 0, 0, 0, false, true, false, false, 0, 1, 0, 0⟩ : Cell).rx = true ∧
    (⟨3, 0, 0, 0, false, true, false, false, 0, 1, 0, 0⟩ : Cell).lid = 0 ∧
    (⟨3, 0, 0, 0, false, true, false, false, 0, 1, 0, 0⟩ : Cell).tp = 0 ∧
    (cellChan oneCell 1 (⟨3, 0, 0, 0, false, true, false, false, 0, 1, 0, 0⟩ : Cell)).format < 3 ∧
    binOf oneCell (cellChan oneCell 1 (⟨3, 0, 0, 0, false, true, false, false, 0, 1, 0, 0⟩ : Cell)).freq = some 9) ∧
   (cellDomains ({ dom 23 .ret [] with search := { posts := [aPost] } }) 9 7 = some (serviceDomains State.reset 0 : List Nat)) ∧
   (({ State.reset with search := { posts := [aPost] }, power := { cellHolds := [⟨holdKey 9 7, [23]⟩] } }).search.posts = [aPost] ∧
    aPost.asn = 9 ∧ aPost.cell = 7 ∧ aPost.stream = none ∧
    ({ State.reset with search := { posts := [aPost] }, power := { cellHolds := [⟨holdKey 9 7, [23]⟩] } }).now ≤ aPost.opens ∧
    aPost.opens ≤ aPost.closes) ∧
   (leafState ({ State.reset with tables := { leaf := [(0, 4#32)] } }) 0 = 4) ∧
   (engineUp ({ up [(F.SSE_CTL_run, 1)] with tables := { leaf := [(0, 4#32)] }, sse := { resync := [⟨0, true, none, 0⟩], read := 2 } }) = true ∧
    ({ up [(F.SSE_CTL_run, 1)] with tables := { leaf := [(0, 4#32)] }, sse := { resync := [⟨0, true, none, 0⟩], read := 2 } }).get F.SSE_CTL_run = 1 ∧
    ({ up [(F.SSE_CTL_run, 1)] with tables := { leaf := [(0, 4#32)] }, sse := { resync := [⟨0, true, none, 0⟩], read := 2 } }).get F.SSE_AP_reduced = 0 ∧
    ({ up [(F.SSE_CTL_run, 1)] with tables := { leaf := [(0, 4#32)] }, sse := { resync := [⟨0, true, none, 0⟩], read := 2 } }).asn < 1 ∧
    1 < ({ up [(F.SSE_CTL_run, 1)] with tables := { leaf := [(0, 4#32)] }, sse := { resync := [⟨0, true, none, 0⟩], read := 2 } }).sse.read ∧
    ({ up [(F.SSE_CTL_run, 1)] with tables := { leaf := [(0, 4#32)] }, sse := { resync := [⟨0, true, none, 0⟩], read := 2 } }).sse.bursts ≤ 1 ∧
    leafState ({ up [(F.SSE_CTL_run, 1)] with tables := { leaf := [(0, 4#32)] }, sse := { resync := [⟨0, true, none, 0⟩], read := 2 } }) 0 = 4 ∧
    ({ up [(F.SSE_CTL_run, 1)] with tables := { leaf := [(0, 4#32)] }, sse := { resync := [⟨0, true, none, 0⟩], read := 2 } }).sse.resync = [⟨0, true, none, 0⟩]) := 
  ⟨by decide +kernel, by decide +kernel, by decide +kernel, by decide +kernel, by decide +kernel, by decide +kernel⟩

theorem test_SlotEngineAutopilot_hypotheses :
   ((up [(F.SSE_LEV_HEAD_index, 1023)]).domOn 23 = true ∧ coreFenced (up [(F.SSE_LEV_HEAD_index, 1023)]) 0 = false) ∧
   (State.reset.domOn 23 = true ∧ coreFenced State.reset 1 = false) ∧
   (engineUp ({ State.reset with sse := { beat := some 5, hbFrom := some 5 } }) = true ∧
    heartbeatRequired ({ State.reset with sse := { beat := some 5, hbFrom := some 5 } }) = true ∧
    ({ State.reset with sse := { beat := some 5, hbFrom := some 5 } }).sse.hbFrom = some 5) ∧
   (State.reset.domOn 23 = true ∧ State.reset.get F.SSE_AP_active = 0 ∧ coreFenced State.reset 0 = false) ∧
   (({ up [(F.SSE_AP_active, 1)] with sse := { beat := some 0 } }).domOn 23 = true ∧
    ({ up [(F.SSE_AP_active, 1)] with sse := { beat := some 0 } }).get F.SSE_AP_active = 1 ∧
    ({ up [(F.SSE_AP_active, 1)] with sse := { beat := some 0 } }).sse.beat = some 0 ∧
    ({ up [(F.SSE_AP_active, 1)] with sse := { beat := some 0 } }).now ≤ 0 + heartbeatNs ({ up [(F.SSE_AP_active, 1)] with sse := { beat := some 0 } }) ∧
    coreFenced ({ up [(F.SSE_AP_active, 1)] with sse := { beat := some 0 } }) 0 = false) ∧
   (({ up [(F.SSE_AP_active, 1)] with sse := { resync := [⟨3, true, none, 1⟩] } }).get F.SSE_AP_active = 1 ∧
    ({ up [(F.SSE_AP_active, 1)] with sse := { resync := [⟨3, true, none, 1⟩] } }).get F.SSE_AP_reduced = 0 ∧
    ringProtected ({ up [(F.SSE_AP_active, 1)] with sse := { resync := [⟨3, true, none, 1⟩] } }) (({ up [(F.SSE_AP_active, 1)] with sse := { resync := [⟨3, true, none, 1⟩] } }).get F.RRC_HEAD_index) = false) := 
  ⟨by decide +kernel, by decide +kernel, by decide +kernel, by decide +kernel, by decide +kernel, by decide +kernel⟩

theorem test_TimeslotBegins_hypotheses :
   ((up [(F.SSE_ASN_HI_asn, 255), (F.SSE_ASN_LO_asn, 4294967295)]).stand.phase = .idle ∧
    (up [(F.SSE_ASN_HI_asn, 255), (F.SSE_ASN_LO_asn, 4294967295)]).canopy.spare = .standby) ∧
   (({ State.reset with sse := { apWanted := true } }).stand.phase = .idle ∧
    ({ State.reset with sse := { apWanted := true } }).canopy.spare = .standby ∧
    ({ State.reset with sse := { apWanted := true } }).get F.SSE_AP_active = 0 ∧
    ({ State.reset with sse := { apWanted := true } }).sse.apWanted = true ∧
    engineUp ({ State.reset with sse := { apWanted := true } }) = true) ∧
   (({ up [(F.SSE_AP_active, 1)] with sse := { resumeWanted := true } }).stand.phase = .idle ∧
    ({ up [(F.SSE_AP_active, 1)] with sse := { resumeWanted := true } }).canopy.spare = .standby ∧
    ({ up [(F.SSE_AP_active, 1)] with sse := { resumeWanted := true } }).get F.SSE_AP_active = 1 ∧
    ({ up [(F.SSE_AP_active, 1)] with sse := { resumeWanted := true } }).sse.resumeWanted = true) := 
  ⟨by decide +kernel, by decide +kernel, by decide +kernel⟩

theorem test_TableDma_hypotheses :
   (1 < 2 ∧
    ({ up [(F.DDR_SIZE_mib, 16), (F.LFT_DMA_CFG_en 1, 1)] with dram := memWrite [] 0 ([1#8, 2#8, 1#8, 0#8] ++ leBytes 4 524287 ++ leBytes 8 4096), tables := { cells := [(1048574, 7#32), (1048575, 0x80000001#32)] } }).domOn 7 = true ∧
    ({ up [(F.DDR_SIZE_mib, 16), (F.LFT_DMA_CFG_en 1, 1)] with dram := memWrite [] 0 ([1#8, 2#8, 1#8, 0#8] ++ leBytes 4 524287 ++ leBytes 8 4096), tables := { cells := [(1048574, 7#32), (1048575, 0x80000001#32)] } }).domOn 8 = true ∧
    ({ up [(F.DDR_SIZE_mib, 16), (F.LFT_DMA_CFG_en 1, 1)] with dram := memWrite [] 0 ([1#8, 2#8, 1#8, 0#8] ++ leBytes 4 524287 ++ leBytes 8 4096), tables := { cells := [(1048574, 7#32), (1048575, 0x80000001#32)] } }).domOn 26 = true ∧
    ({ up [(F.DDR_SIZE_mib, 16), (F.LFT_DMA_CFG_en 1, 1)] with dram := memWrite [] 0 ([1#8, 2#8, 1#8, 0#8] ++ leBytes 4 524287 ++ leBytes 8 4096), tables := { cells := [(1048574, 7#32), (1048575, 0x80000001#32)] } }).get (F.LFT_DMA_CFG_en 1) = 1 ∧
    ({ up [(F.DDR_SIZE_mib, 16), (F.LFT_DMA_CFG_en 1, 1)] with dram := memWrite [] 0 ([1#8, 2#8, 1#8, 0#8] ++ leBytes 4 524287 ++ leBytes 8 4096), tables := { cells := [(1048574, 7#32), (1048575, 0x80000001#32)] } }).dramOk (dmaAddr ({ up [(F.DDR_SIZE_mib, 16), (F.LFT_DMA_CFG_en 1, 1)] with dram := memWrite [] 0 ([1#8, 2#8, 1#8, 0#8] ++ leBytes 4 524287 ++ leBytes 8 4096), tables := { cells := [(1048574, 7#32), (1048575, 0x80000001#32)] } }) 1) 32 = true ∧
    dmaDesc (({ up [(F.DDR_SIZE_mib, 16), (F.LFT_DMA_CFG_en 1, 1)] with dram := memWrite [] 0 ([1#8, 2#8, 1#8, 0#8] ++ leBytes 4 524287 ++ leBytes 8 4096), tables := { cells := [(1048574, 7#32), (1048575, 0x80000001#32)] } }).dramRead (dmaAddr ({ up [(F.DDR_SIZE_mib, 16), (F.LFT_DMA_CFG_en 1, 1)] with dram := memWrite [] 0 ([1#8, 2#8, 1#8, 0#8] ++ leBytes 4 524287 ++ leBytes 8 4096), tables := { cells := [(1048574, 7#32), (1048575, 0x80000001#32)] } }) 1) 32) = ⟨1, 2, 1, 524287, 4096, 0⟩ ∧
    524287 < 524288 ∧
    ({ up [(F.DDR_SIZE_mib, 16), (F.LFT_DMA_CFG_en 1, 1)] with dram := memWrite [] 0 ([1#8, 2#8, 1#8, 0#8] ++ leBytes 4 524287 ++ leBytes 8 4096), tables := { cells := [(1048574, 7#32), (1048575, 0x80000001#32)] } }).dramOk 4096 8 = true ∧
    (4096 + 8 ≤ dmaAddr ({ up [(F.DDR_SIZE_mib, 16), (F.LFT_DMA_CFG_en 1, 1)] with dram := memWrite [] 0 ([1#8, 2#8, 1#8, 0#8] ++ leBytes 4 524287 ++ leBytes 8 4096), tables := { cells := [(1048574, 7#32), (1048575, 0x80000001#32)] } }) 1 ∨ dmaAddr ({ up [(F.DDR_SIZE_mib, 16), (F.LFT_DMA_CFG_en 1, 1)] with dram := memWrite [] 0 ([1#8, 2#8, 1#8, 0#8] ++ leBytes 4 524287 ++ leBytes 8 4096), tables := { cells := [(1048574, 7#32), (1048575, 0x80000001#32)] } }) 1 + 32 ≤ 4096) ∧
    1 < 4096 ∧
    dmaWaits ({ up [(F.DDR_SIZE_mib, 16), (F.LFT_DMA_CFG_en 1, 1)] with dram := memWrite [] 0 ([1#8, 2#8, 1#8, 0#8] ++ leBytes 4 524287 ++ leBytes 8 4096), tables := { cells := [(1048574, 7#32), (1048575, 0x80000001#32)] } }) (1 - 1) = false ∧
    ({ up [(F.DDR_SIZE_mib, 16), (F.LFT_DMA_CFG_en 1, 1)] with dram := memWrite [] 0 ([1#8, 2#8, 1#8, 0#8] ++ leBytes 4 524287 ++ leBytes 8 4096), tables := { cells := [(1048574, 7#32), (1048575, 0x80000001#32)] } }).get (F.LFT_DMA_TAIL_index 1) % dmaSize ({ up [(F.DDR_SIZE_mib, 16), (F.LFT_DMA_CFG_en 1, 1)] with dram := memWrite [] 0 ([1#8, 2#8, 1#8, 0#8] ++ leBytes 4 524287 ++ leBytes 8 4096), tables := { cells := [(1048574, 7#32), (1048575, 0x80000001#32)] } }) 1 ≠ 1 % dmaSize ({ up [(F.DDR_SIZE_mib, 16), (F.LFT_DMA_CFG_en 1, 1)] with dram := memWrite [] 0 ([1#8, 2#8, 1#8, 0#8] ++ leBytes 4 524287 ++ leBytes 8 4096), tables := { cells := [(1048574, 7#32), (1048575, 0x80000001#32)] } }) 1 ∧
    coreFenced ({ up [(F.DDR_SIZE_mib, 16), (F.LFT_DMA_CFG_en 1, 1)] with dram := memWrite [] 0 ([1#8, 2#8, 1#8, 0#8] ++ leBytes 4 524287 ++ leBytes 8 4096), tables := { cells := [(1048574, 7#32), (1048575, 0x80000001#32)] } }) 0 = false) ∧
   (0 < 2 ∧
    ({ up [(F.DDR_SIZE_mib, 16), (F.LFT_DMA_CFG_en 0, 1), (F.LFT_DMA_HEAD_index 0, 5)] with dram := memWrite [] 0 ([1#8, 2#8, 1#8, 0#8] ++ leBytes 4 0 ++ leBytes 8 4096) }).domOn 7 = true ∧
    ({ up [(F.DDR_SIZE_mib, 16), (F.LFT_DMA_CFG_en 0, 1), (F.LFT_DMA_HEAD_index 0, 5)] with dram := memWrite [] 0 ([1#8, 2#8, 1#8, 0#8] ++ leBytes 4 0 ++ leBytes 8 4096) }).domOn 8 = true ∧
    ({ up [(F.DDR_SIZE_mib, 16), (F.LFT_DMA_CFG_en 0, 1), (F.LFT_DMA_HEAD_index 0, 5)] with dram := memWrite [] 0 ([1#8, 2#8, 1#8, 0#8] ++ leBytes 4 0 ++ leBytes 8 4096) }).domOn 26 = true ∧
    ({ up [(F.DDR_SIZE_mib, 16), (F.LFT_DMA_CFG_en 0, 1), (F.LFT_DMA_HEAD_index 0, 5)] with dram := memWrite [] 0 ([1#8, 2#8, 1#8, 0#8] ++ leBytes 4 0 ++ leBytes 8 4096) }).dramOk (dmaAddr ({ up [(F.DDR_SIZE_mib, 16), (F.LFT_DMA_CFG_en 0, 1), (F.LFT_DMA_HEAD_index 0, 5)] with dram := memWrite [] 0 ([1#8, 2#8, 1#8, 0#8] ++ leBytes 4 0 ++ leBytes 8 4096) }) 0) 32 = true ∧
    dmaDesc (({ up [(F.DDR_SIZE_mib, 16), (F.LFT_DMA_CFG_en 0, 1), (F.LFT_DMA_HEAD_index 0, 5)] with dram := memWrite [] 0 ([1#8, 2#8, 1#8, 0#8] ++ leBytes 4 0 ++ leBytes 8 4096) }).dramRead (dmaAddr ({ up [(F.DDR_SIZE_mib, 16), (F.LFT_DMA_CFG_en 0, 1), (F.LFT_DMA_HEAD_index 0, 5)] with dram := memWrite [] 0 ([1#8, 2#8, 1#8, 0#8] ++ leBytes 4 0 ++ leBytes 8 4096) }) 0) 32) = ⟨1, 2, 1, 0, 4096, 0⟩ ∧
    0 < 524288 ∧
    ({ up [(F.DDR_SIZE_mib, 16), (F.LFT_DMA_CFG_en 0, 1), (F.LFT_DMA_HEAD_index 0, 5)] with dram := memWrite [] 0 ([1#8, 2#8, 1#8, 0#8] ++ leBytes 4 0 ++ leBytes 8 4096) }).dramOk 4096 8 = true ∧
    (4096 + 8 ≤ dmaAddr ({ up [(F.DDR_SIZE_mib, 16), (F.LFT_DMA_CFG_en 0, 1), (F.LFT_DMA_HEAD_index 0, 5)] with dram := memWrite [] 0 ([1#8, 2#8, 1#8, 0#8] ++ leBytes 4 0 ++ leBytes 8 4096) }) 0 ∨ dmaAddr ({ up [(F.DDR_SIZE_mib, 16), (F.LFT_DMA_CFG_en 0, 1), (F.LFT_DMA_HEAD_index 0, 5)] with dram := memWrite [] 0 ([1#8, 2#8, 1#8, 0#8] ++ leBytes 4 0 ++ leBytes 8 4096) }) 0 + 32 ≤ 4096) ∧
    dmaHolds ({ up [(F.DDR_SIZE_mib, 16), (F.LFT_DMA_CFG_en 0, 1), (F.LFT_DMA_HEAD_index 0, 5)] with dram := memWrite [] 0 ([1#8, 2#8, 1#8, 0#8] ++ leBytes 4 0 ++ leBytes 8 4096) }) 0 = true) := 
  ⟨by decide +kernel, by decide +kernel⟩

theorem test_LearningAndSets_hypotheses :
   (262143 < 262144 ∧
    ({ State.reset with tables := { learn := [(262143, { ctl := 0x84000005, key := 9 })] } }).domOn 8 = true ∧
    tabFind ({ State.reset with tables := { learn := [(262143, { ctl := 0x84000005, key := 9 })] } }).tables.learn 262143 = some ({ ctl := 0x84000005, key := 9 } : LearnEntry) ∧
    (({ State.reset with tables := { learn := [(262143, { ctl := 0x84000005, key := 9 })] } }).tables.learn.map Prod.fst).Nodup ∧
    ({ State.reset with tables := { learn := [(262143, { ctl := 0x84000005, key := 9 })] } }).prune.poisoned = [] ∧
    ({ ctl := 0x84000005, key := 9 } : LearnEntry).valid = true ∧
    ({ ctl := 0x84000005, key := 9 } : LearnEntry).static = false ∧
    ({ ctl := 0x84000005, key := 9 } : LearnEntry).hit = false ∧ ({ ctl := 0x84000005, key := 9 } : LearnEntry).age < 3) ∧
   (0 < 262144 ∧ ({ State.reset with tables := { learn := [(0, { ctl := 0x8E000005, key := 9 })] } }).domOn 8 = true ∧
    tabFind ({ State.reset with tables := { learn := [(0, { ctl := 0x8E000005, key := 9 })] } }).tables.learn 0 = some ({ ctl := 0x8E000005, key := 9 } : LearnEntry) ∧
    (({ State.reset with tables := { learn := [(0, { ctl := 0x8E000005, key := 9 })] } }).tables.learn.map Prod.fst).Nodup ∧
    ({ State.reset with tables := { learn := [(0, { ctl := 0x8E000005, key := 9 })] } }).prune.poisoned = [] ∧
    ({ ctl := 0x8E000005, key := 9 } : LearnEntry).valid = true ∧
    ({ ctl := 0x8E000005, key := 9 } : LearnEntry).static = false ∧ ({ ctl := 0x8E000005, key := 9 } : LearnEntry).hit = true) ∧
   (5 < 262144 ∧
    ({ up [(F.LRN_CLASS_CFG_age_remove 0, 1)] with tables := { learn := [(5, { ctl := 0x86000005, key := 9 })] } }).domOn 8 = true ∧
    ({ up [(F.LRN_CLASS_CFG_age_remove 0, 1)] with tables := { learn := [(5, { ctl := 0x86000005, key := 9 })] } }).tables.learn = [(5, ({ ctl := 0x86000005, key := 9 } : LearnEntry))] ∧
    ({ up [(F.LRN_CLASS_CFG_age_remove 0, 1)] with tables := { learn := [(5, { ctl := 0x86000005, key := 9 })] } }).prune.poisoned = [] ∧
    ({ ctl := 0x86000005, key := 9 } : LearnEntry).valid = true ∧
    ({ ctl := 0x86000005, key := 9 } : LearnEntry).static = false ∧
    ({ ctl := 0x86000005, key := 9 } : LearnEntry).hit = false ∧ ({ ctl := 0x86000005, key := 9 } : LearnEntry).age = 3 ∧
    ({ up [(F.LRN_CLASS_CFG_age_remove 0, 1)] with tables := { learn := [(5, { ctl := 0x86000005, key := 9 })] } }).get (F.LRN_CLASS_CFG_age_remove (b2n ({ ctl := 0x86000005, key := 9 } : LearnEntry).leafClass)) = 1) ∧
   (State.reset.domOn 24 = true ∧ learnUsed State.reset = 0 ∧ coreFenced State.reset 0 = false) ∧
   (({ State.reset with tables := { learn := [(262143, { ctl := 0x84000005, key := 9 })] } }).domOn 24 = true ∧
    learnUsed ({ State.reset with tables := { learn := [(262143, { ctl := 0x84000005, key := 9 })] } }) ≠ 0 ∧
    coreFenced ({ State.reset with tables := { learn := [(262143, { ctl := 0x84000005, key := 9 })] } }) 0 = false) ∧
   (4095 < 4096 ∧ State.reset.domOn 24 = true ∧ coreFenced State.reset 0 = false) ∧
   (4095 < 4096 ∧ ({ State.reset with grove := { staged := [(4095, 0xFFFFFFFF#32)] } }).domOn 24 = true ∧
    tabFind ({ State.reset with grove := { staged := [(4095, 0xFFFFFFFF#32)] } }).grove.staged 4095 = some (0xFFFFFFFF#32 : Word) ∧
    coreFenced ({ State.reset with grove := { staged := [(4095, 0xFFFFFFFF#32)] } }) 0 = false) ∧
   (0 < 4096 ∧ State.reset.domOn 24 = true ∧ tabFind State.reset.grove.staged 0 = none ∧ coreFenced State.reset 0 = false) := 
  ⟨by decide +kernel, by decide +kernel, by decide +kernel, by decide +kernel, by decide +kernel, by decide +kernel, by decide +kernel, by decide +kernel⟩

theorem test_TrafficConfig_hypotheses :
   (5 < 6 ∧ (up [(F.TRF_CELLS_cells, 65536)]).domOn 24 = true ∧
    ((((upTo 6).filter (fun j => j ≠ 5)).map (fun j => (up [(F.TRF_CELLS_cells, 65536)]).get (F.TRF_POOL_RES_reserve j))).sum + (0x100#32 : Word).toNat % 2 ^ 17 ≤ (up [(F.TRF_CELLS_cells, 65536)]).get F.TRF_CELLS_cells ∨ (0x100#32 : Word).toNat % 2 ^ 17 ≤ (up [(F.TRF_CELLS_cells, 65536)]).get (F.TRF_POOL_RES_reserve 5)) ∧
    coreFenced (up [(F.TRF_CELLS_cells, 65536)]) 0 = false) ∧
   (0 < 6 ∧ (up [(F.TRF_CELLS_cells, 16)]).domOn 24 = true ∧
    (up [(F.TRF_CELLS_cells, 16)]).get (F.TRF_POOL_RES_reserve 0) < (0x1FFFF#32 : Word).toNat % 2 ^ 17 ∧
    (up [(F.TRF_CELLS_cells, 16)]).get F.TRF_CELLS_cells < (((upTo 6).filter (fun j => j ≠ 0)).map (fun j => (up [(F.TRF_CELLS_cells, 16)]).get (F.TRF_POOL_RES_reserve j))).sum + (0x1FFFF#32 : Word).toNat % 2 ^ 17 ∧
    coreFenced (up [(F.TRF_CELLS_cells, 16)]) 0 = false) ∧
   (95 < 96 ∧ State.reset.domOn 24 = true ∧ 1 ≤ 1 ∧ 1 ≤ 4 ∧ (∀ q < 8, tabGet State.reset.traffic.hosts q [] = []) ∧
    coreFenced State.reset 0 = false) ∧
   (0 < 96 ∧ State.reset.domOn 24 = true ∧
    (wordField (0x80000067#32 : Word) 31 1 = 0 ∨ (wordField (0x80000067#32 : Word) 0 7 ≤ 103 ∧ ∀ j < 96, j ≠ 0 → ¬(State.reset.get (F.TRF_SHP0_en j) = 1 ∧ State.reset.get (F.TRF_SHP0_queue j) = wordField (0x80000067#32 : Word) 0 7))) ∧
    (∀ q < 8, tabGet State.reset.traffic.hosts q [] = []) ∧ coreFenced State.reset 0 = false) ∧
   (0 < 96 ∧ (up [(F.TRF_SHP0_en 95, 1), (F.TRF_SHP0_queue 95, 64)]).domOn 24 = true ∧
    wordField (0x80000040#32 : Word) 31 1 = 1 ∧
    (103 < wordField (0x80000040#32 : Word) 0 7 ∨ (upTo 96).any (fun j => decide (j ≠ 0 ∧ (up [(F.TRF_SHP0_en 95, 1), (F.TRF_SHP0_queue 95, 64)]).get (F.TRF_SHP0_en j) = 1 ∧ (up [(F.TRF_SHP0_en 95, 1), (F.TRF_SHP0_queue 95, 64)]).get (F.TRF_SHP0_queue j) = wordField (0x80000040#32 : Word) 0 7)) = true) ∧
    coreFenced (up [(F.TRF_SHP0_en 95, 1), (F.TRF_SHP0_queue 95, 64)]) 0 = false) ∧
   (95 < 96 ∧
    ({ up [(F.TRF_SHP0_en 95, 1), (F.TRF_SHP1_idle_slope 95, 1000)] with traffic := { shapers := [(95, { credit := -2560, sendingTo := 50, updated := 10 })] } }).get (F.TRF_SHP0_en 95) = 1 ∧
    tabGet ({ up [(F.TRF_SHP0_en 95, 1), (F.TRF_SHP1_idle_slope 95, 1000)] with traffic := { shapers := [(95, { credit := -2560, sendingTo := 50, updated := 10 })] } }).traffic.shapers 95 {} = ({ credit := -2560, sendingTo := 50, updated := 10 } : ShaperState) ∧
    ({ credit := -2560, sendingTo := 50, updated := 10 } : ShaperState).credit < 0 ∧
    ({ up [(F.TRF_SHP0_en 95, 1), (F.TRF_SHP1_idle_slope 95, 1000)] with traffic := { shapers := [(95, { credit := -2560, sendingTo := 50, updated := 10 })] } }).get (F.TRF_SHP1_idle_slope 95) ≠ 0 ∧
    queueHolds ({ up [(F.TRF_SHP0_en 95, 1), (F.TRF_SHP1_idle_slope 95, 1000)] with traffic := { shapers := [(95, { credit := -2560, sendingTo := 50, updated := 10 })] } }) (({ up [(F.TRF_SHP0_en 95, 1), (F.TRF_SHP1_idle_slope 95, 1000)] with traffic := { shapers := [(95, { credit := -2560, sendingTo := 50, updated := 10 })] } }).get (F.TRF_SHP0_queue 95)) = false) ∧
   (4095 < 4096 ∧ 2 ≤ 4 ∧ State.reset.domOn 24 = true ∧ coreFenced State.reset 0 = false) := 
  ⟨by decide +kernel, by decide +kernel, by decide +kernel, by decide +kernel, by decide +kernel, by decide +kernel, by decide +kernel⟩

theorem test_PortsAndFrames_hypotheses :
   (3 < 4 ∧ portMode (up [(F.ETH_CFG_mode 3, 2), (F.ETH_CFG_fec 3, 1)]) 3 = true ∧
    (up [(F.ETH_CFG_mode 3, 2), (F.ETH_CFG_fec 3, 1)]).domOn 25 = true ∧
    (up [(F.ETH_CFG_mode 3, 2), (F.ETH_CFG_fec 3, 1)]).pruned 7 3 = false ∧
    (up [(F.ETH_CFG_mode 3, 2), (F.ETH_CFG_fec 3, 1)]).get (F.ETH_STATUS_link_up 3) = 0) ∧
   (0 < 4 ∧
    ({ up [(F.ETH_STATUS_link_up 0, 1)] with traffic := { ports := [(7, [aPortFrame])] } }).get (F.ETH_STATUS_link_up 0) = 1) ∧
   (3 < 4 ∧ (up [(F.ETH_STATUS_link_up 3, 1), (F.ETH_CFG_mode 3, 2)]).domOn 25 = true ∧
    (1#32 : Word).toNat % 4 ≠ (up [(F.ETH_STATUS_link_up 3, 1), (F.ETH_CFG_mode 3, 2)]).get (F.ETH_CFG_mode 3) ∧
    (up [(F.ETH_STATUS_link_up 3, 1), (F.ETH_CFG_mode 3, 2)]).get (F.ETH_STATUS_link_up 3) = 1 ∧
    coreFenced (up [(F.ETH_STATUS_link_up 3, 1), (F.ETH_CFG_mode 3, 2)]) 0 = false) ∧
   (1 < 4 ∧ portUp (up [(F.ETH_STATUS_link_up 1, 1)]) 1 = true ∧ 14 ≤ (List.replicate 14 0#8 : List Byte).length) ∧
   (2 < 4 ∧
    portUp (up [(F.ETH_STATUS_link_up 2, 1), (F.TMB_PTP_PORT_mode 2, 0), (F.ETH_VLAN_MEMB_memb 2 0, 2), (F.ETH_CFG_def_vlan 2, 1), (F.TRF_CELLS_cells, 65536)]) 2 = true ∧
    14 ≤ (List.replicate 12 1#8 ++ [0x88#8, 0xF7#8] ++ List.replicate 46 0#8 : List Byte).length ∧
    (List.replicate 12 1#8 ++ [0x88#8, 0xF7#8] ++ List.replicate 46 0#8 : List Byte).length + 4 ≤ maxFrame (up [(F.ETH_STATUS_link_up 2, 1), (F.TMB_PTP_PORT_mode 2, 0), (F.ETH_VLAN_MEMB_memb 2 0, 2), (F.ETH_CFG_def_vlan 2, 1), (F.TRF_CELLS_cells, 65536)]) 2 ∧
    beAt (List.replicate 12 1#8 ++ [0x88#8, 0xF7#8] ++ List.replicate 46 0#8 : List Byte) 12 2 = 0x88F7 ∧
    (up [(F.ETH_STATUS_link_up 2, 1), (F.TMB_PTP_PORT_mode 2, 0), (F.ETH_VLAN_MEMB_memb 2 0, 2), (F.ETH_CFG_def_vlan 2, 1), (F.TRF_CELLS_cells, 65536)]).get (F.TMB_PTP_PORT_mode 2) = 0 ∧
    carries (up [(F.ETH_STATUS_link_up 2, 1), (F.TMB_PTP_PORT_mode 2, 0), (F.ETH_VLAN_MEMB_memb 2 0, 2), (F.ETH_CFG_def_vlan 2, 1), (F.TRF_CELLS_cells, 65536)]) 2 ((up [(F.ETH_STATUS_link_up 2, 1), (F.TMB_PTP_PORT_mode 2, 0), (F.ETH_VLAN_MEMB_memb 2 0, 2), (F.ETH_CFG_def_vlan 2, 1), (F.TRF_CELLS_cells, 65536)]).get (F.ETH_CFG_def_vlan 2)) = true ∧
    (up [(F.ETH_STATUS_link_up 2, 1), (F.TMB_PTP_PORT_mode 2, 0), (F.ETH_VLAN_MEMB_memb 2 0, 2), (F.ETH_CFG_def_vlan 2, 1), (F.TRF_CELLS_cells, 65536)]).get (F.ETH_WAKE_CFG_en 2) = 0 ∧
    (up [(F.ETH_STATUS_link_up 2, 1), (F.TMB_PTP_PORT_mode 2, 0), (F.ETH_VLAN_MEMB_memb 2 0, 2), (F.ETH_CFG_def_vlan 2, 1), (F.TRF_CELLS_cells, 65536)]).domOn 9 = true ∧
    canTake (up [(F.ETH_STATUS_link_up 2, 1), (F.TMB_PTP_PORT_mode 2, 0), (F.ETH_VLAN_MEMB_memb 2 0, 2), (F.ETH_CFG_def_vlan 2, 1), (F.TRF_CELLS_cells, 65536)]) 1 (ceilDiv (List.replicate 12 1#8 ++ [0x88#8, 0xF7#8] ++ List.replicate 46 0#8 : List Byte).length 256) = true ∧
    canTake (up [(F.ETH_STATUS_link_up 2, 1), (F.TMB_PTP_PORT_mode 2, 0), (F.ETH_VLAN_MEMB_memb 2 0, 2), (F.ETH_CFG_def_vlan 2, 1), (F.TRF_CELLS_cells, 65536)]) 5 (ceilDiv (List.replicate 12 1#8 ++ [0x88#8, 0xF7#8] ++ List.replicate 46 0#8 : List Byte).length 256) = true ∧
    (up [(F.ETH_STATUS_link_up 2, 1), (F.TMB_PTP_PORT_mode 2, 0), (F.ETH_VLAN_MEMB_memb 2 0, 2), (F.ETH_CFG_def_vlan 2, 1), (F.TRF_CELLS_cells, 65536)]).get (F.TRF_POOL_USED_used 1) = 0 ∧
    tabGet (up [(F.ETH_STATUS_link_up 2, 1), (F.TMB_PTP_PORT_mode 2, 0), (F.ETH_VLAN_MEMB_memb 2 0, 2), (F.ETH_CFG_def_vlan 2, 1), (F.TRF_CELLS_cells, 65536)]).traffic.hosts ((up [(F.ETH_STATUS_link_up 2, 1), (F.TMB_PTP_PORT_mode 2, 0), (F.ETH_VLAN_MEMB_memb 2 0, 2), (F.ETH_CFG_def_vlan 2, 1), (F.TRF_CELLS_cells, 65536)]).get F.TMB_PTP_CFG_q) [] = [] ∧
    (up [(F.ETH_STATUS_link_up 2, 1), (F.TMB_PTP_PORT_mode 2, 0), (F.ETH_VLAN_MEMB_memb 2 0, 2), (F.ETH_CFG_def_vlan 2, 1), (F.TRF_CELLS_cells, 65536)]).get (F.TRF_HQ_TH_CFG_en ((up [(F.ETH_STATUS_link_up 2, 1), (F.TMB_PTP_PORT_mode 2, 0), (F.ETH_VLAN_MEMB_memb 2 0, 2), (F.ETH_CFG_def_vlan 2, 1), (F.TRF_CELLS_cells, 65536)]).get F.TMB_PTP_CFG_q)) = 0) ∧
   (3 < 4 ∧ 7 < 8 ∧
    portUp ({ up [(F.ETH_STATUS_link_up 3, 1), (F.ETH_CFG_def_vlan 3, 1)] with traffic := { ports := [(31, [aPortFrame])] } }) 3 = true ∧
    0 / 256 ≤ ({ up [(F.ETH_STATUS_link_up 3, 1), (F.ETH_CFG_def_vlan 3, 1)] with traffic := { ports := [(31, [aPortFrame])] } }).now ∧
    portChoice ({ up [(F.ETH_STATUS_link_up 3, 1), (F.ETH_CFG_def_vlan 3, 1)] with traffic := { ports := [(31, [aPortFrame])] } }) 3 = some (7, false) ∧
    tabGet ({ up [(F.ETH_STATUS_link_up 3, 1), (F.ETH_CFG_def_vlan 3, 1)] with traffic := { ports := [(31, [aPortFrame])] } }).traffic.ports (8 * 3 + 7) [] = aPortFrame :: (([] : List PortFrame) : List PortFrame) ∧
    ({ up [(F.ETH_STATUS_link_up 3, 1), (F.ETH_CFG_def_vlan 3, 1)] with traffic := { ports := [(31, [aPortFrame])] } }).cellsLost aPortFrame.cells = false ∧
    ptpOf aPortFrame.frame = none ∧
    (if leavesUntagged ({ up [(F.ETH_STATUS_link_up 3, 1), (F.ETH_CFG_def_vlan 3, 1)] with traffic := { ports := [(31, [aPortFrame])] } }) 3 aPortFrame.vlan aPortFrame.tagged then aPortFrame.frame else aPortFrame.frame.take 12 ++ [0x81#8, 0#8] ++ beBytes 2 (aPortFrame.pcp * 2 ^ 13 + aPortFrame.dei * 2 ^ 12 + aPortFrame.vlan) ++ aPortFrame.frame.drop 12) = aPortFrame.frame) ∧
   (3 < 4 ∧ (dom 25 .off [(F.PWR_WAKE_EN_en, 1)]).domOn 25 = false ∧
    (dom 25 .off [(F.PWR_WAKE_EN_en, 1)]).get F.PWR_WAKE_EN_en % 2 = 1) := 
  ⟨by decide +kernel, by decide +kernel, by decide +kernel, by decide +kernel, by decide +kernel, by decide +kernel, by decide +kernel⟩

theorem test_HostQueuesAndSpill_hypotheses :
   (7 < 8 ∧ 1 < 4096 ∧
    ({ up [(F.TRF_HQ_TP_CFG_en 7, 1), (F.DDR_SIZE_mib, 16), (F.TRF_CELLS_cells, 65536)] with dram := memWrite [] 0 ([1#8, 1#8, 5#8, 0#8, 3#8, 0#8, 0xFF#8, 0#8] ++ leBytes 8 64 ++ leBytes 4 131071 ++ leBytes 4 9 ++ List.replicate 40 7#8) }).domOn 24 = true ∧
    ({ up [(F.TRF_HQ_TP_CFG_en 7, 1), (F.DDR_SIZE_mib, 16), (F.TRF_CELLS_cells, 65536)] with dram := memWrite [] 0 ([1#8, 1#8, 5#8, 0#8, 3#8, 0#8, 0xFF#8, 0#8] ++ leBytes 8 64 ++ leBytes 4 131071 ++ leBytes 4 9 ++ List.replicate 40 7#8) }).domOn 26 = true ∧
    ({ up [(F.TRF_HQ_TP_CFG_en 7, 1), (F.DDR_SIZE_mib, 16), (F.TRF_CELLS_cells, 65536)] with dram := memWrite [] 0 ([1#8, 1#8, 5#8, 0#8, 3#8, 0#8, 0xFF#8, 0#8] ++ leBytes 8 64 ++ leBytes 4 131071 ++ leBytes 4 9 ++ List.replicate 40 7#8) }).domOn 9 = true ∧
    ({ up [(F.TRF_HQ_TP_CFG_en 7, 1), (F.DDR_SIZE_mib, 16), (F.TRF_CELLS_cells, 65536)] with dram := memWrite [] 0 ([1#8, 1#8, 5#8, 0#8, 3#8, 0#8, 0xFF#8, 0#8] ++ leBytes 8 64 ++ leBytes 4 131071 ++ leBytes 4 9 ++ List.replicate 40 7#8) }).get (F.TRF_HQ_TP_CFG_en 7) = 1 ∧
    ringSize (({ up [(F.TRF_HQ_TP_CFG_en 7, 1), (F.DDR_SIZE_mib, 16), (F.TRF_CELLS_cells, 65536)] with dram := memWrite [] 0 ([1#8, 1#8, 5#8, 0#8, 3#8, 0#8, 0xFF#8, 0#8] ++ leBytes 8 64 ++ leBytes 4 131071 ++ leBytes 4 9 ++ List.replicate 40 7#8) }).get (F.TRF_HQ_TP_CFG_log2_size 7)) = 16 ∧
    ({ up [(F.TRF_HQ_TP_CFG_en 7, 1), (F.DDR_SIZE_mib, 16), (F.TRF_CELLS_cells, 65536)] with dram := memWrite [] 0 ([1#8, 1#8, 5#8, 0#8, 3#8, 0#8, 0xFF#8, 0#8] ++ leBytes 8 64 ++ leBytes 4 131071 ++ leBytes 4 9 ++ List.replicate 40 7#8) }).get (F.TRF_HQ_TP_TAIL_index 7) % 16 ≠ 1 % 16 ∧
    ({ up [(F.TRF_HQ_TP_CFG_en 7, 1), (F.DDR_SIZE_mib, 16), (F.TRF_CELLS_cells, 65536)] with dram := memWrite [] 0 ([1#8, 1#8, 5#8, 0#8, 3#8, 0#8, 0xFF#8, 0#8] ++ leBytes 8 64 ++ leBytes 4 131071 ++ leBytes 4 9 ++ List.replicate 40 7#8) }).pair (F.TRF_HQ_TP_BASE_LO_addr 7) (F.TRF_HQ_TP_BASE_HI_addr 7) / 32 * 32 + 32 * (({ up [(F.TRF_HQ_TP_CFG_en 7, 1), (F.DDR_SIZE_mib, 16), (F.TRF_CELLS_cells, 65536)] with dram := memWrite [] 0 ([1#8, 1#8, 5#8, 0#8, 3#8, 0#8, 0xFF#8, 0#8] ++ leBytes 8 64 ++ leBytes 4 131071 ++ leBytes 4 9 ++ List.replicate 40 7#8) }).get (F.TRF_HQ_TP_TAIL_index 7) % 16) = 0 ∧
    ({ up [(F.TRF_HQ_TP_CFG_en 7, 1), (F.DDR_SIZE_mib, 16), (F.TRF_CELLS_cells, 65536)] with dram := memWrite [] 0 ([1#8, 1#8, 5#8, 0#8, 3#8, 0#8, 0xFF#8, 0#8] ++ leBytes 8 64 ++ leBytes 4 131071 ++ leBytes 4 9 ++ List.replicate 40 7#8) }).dramOk 0 32 = true ∧
    byteAt (({ up [(F.TRF_HQ_TP_CFG_en 7, 1), (F.DDR_SIZE_mib, 16), (F.TRF_CELLS_cells, 65536)] with dram := memWrite [] 0 ([1#8, 1#8, 5#8, 0#8, 3#8, 0#8, 0xFF#8, 0#8] ++ leBytes 8 64 ++ leBytes 4 131071 ++ leBytes 4 9 ++ List.replicate 40 7#8) }).dramRead 0 32) 0 = 1 ∧
    byteAt (({ up [(F.TRF_HQ_TP_CFG_en 7, 1), (F.DDR_SIZE_mib, 16), (F.TRF_CELLS_cells, 65536)] with dram := memWrite [] 0 ([1#8, 1#8, 5#8, 0#8, 3#8, 0#8, 0xFF#8, 0#8] ++ leBytes 8 64 ++ leBytes 4 131071 ++ leBytes 4 9 ++ List.replicate 40 7#8) }).dramRead 0 32) 1 = 1 ∧
    leAt (({ up [(F.TRF_HQ_TP_CFG_en 7, 1), (F.DDR_SIZE_mib, 16), (F.TRF_CELLS_cells, 65536)] with dram := memWrite [] 0 ([1#8, 1#8, 5#8, 0#8, 3#8, 0#8, 0xFF#8, 0#8] ++ leBytes 8 64 ++ leBytes 4 131071 ++ leBytes 4 9 ++ List.replicate 40 7#8) }).dramRead 0 32) 2 2 = 5 ∧
    leAt (({ up [(F.TRF_HQ_TP_CFG_en 7, 1), (F.DDR_SIZE_mib, 16), (F.TRF_CELLS_cells, 65536)] with dram := memWrite [] 0 ([1#8, 1#8, 5#8, 0#8, 3#8, 0#8, 0xFF#8, 0#8] ++ leBytes 8 64 ++ leBytes 4 131071 ++ leBytes 4 9 ++ List.replicate 40 7#8) }).dramRead 0 32) 16 4 % 2 ^ 17 = 131071 ∧
    131071 ≠ 0 ∧
    ({ up [(F.TRF_HQ_TP_CFG_en 7, 1), (F.DDR_SIZE_mib, 16), (F.TRF_CELLS_cells, 65536)] with dram := memWrite [] 0 ([1#8, 1#8, 5#8, 0#8, 3#8, 0#8, 0xFF#8, 0#8] ++ leBytes 8 64 ++ leBytes 4 131071 ++ leBytes 4 9 ++ List.replicate 40 7#8) }).dramOk (leAt (({ up [(F.TRF_HQ_TP_CFG_en 7, 1), (F.DDR_SIZE_mib, 16), (F.TRF_CELLS_cells, 65536)] with dram := memWrite [] 0 ([1#8, 1#8, 5#8, 0#8, 3#8, 0#8, 0xFF#8, 0#8] ++ leBytes 8 64 ++ leBytes 4 131071 ++ leBytes 4 9 ++ List.replicate 40 7#8) }).dramRead 0 32) 8 8 / 16 * 16) 5 = true ∧
    vqueue ({ up [(F.TRF_HQ_TP_CFG_en 7, 1), (F.DDR_SIZE_mib, 16), (F.TRF_CELLS_cells, 65536)] with dram := memWrite [] 0 ([1#8, 1#8, 5#8, 0#8, 3#8, 0#8, 0xFF#8, 0#8] ++ leBytes 8 64 ++ leBytes 4 131071 ++ leBytes 4 9 ++ List.replicate 40 7#8) }) 131071 = [] ∧
    canTake ({ up [(F.TRF_HQ_TP_CFG_en 7, 1), (F.DDR_SIZE_mib, 16), (F.TRF_CELLS_cells, 65536)] with dram := memWrite [] 0 ([1#8, 1#8, 5#8, 0#8, 3#8, 0#8, 0xFF#8, 0#8] ++ leBytes 8 64 ++ leBytes 4 131071 ++ leBytes 4 9 ++ List.replicate 40 7#8) }) 2 (ceilDiv 5 256) = true ∧
    canTake ({ up [(F.TRF_HQ_TP_CFG_en 7, 1), (F.DDR_SIZE_mib, 16), (F.TRF_CELLS_cells, 65536)] with dram := memWrite [] 0 ([1#8, 1#8, 5#8, 0#8, 3#8, 0#8, 0xFF#8, 0#8] ++ leBytes 8 64 ++ leBytes 4 131071 ++ leBytes 4 9 ++ List.replicate 40 7#8) }) 3 (ceilDiv 5 256) = true ∧
    ({ up [(F.TRF_HQ_TP_CFG_en 7, 1), (F.DDR_SIZE_mib, 16), (F.TRF_CELLS_cells, 65536)] with dram := memWrite [] 0 ([1#8, 1#8, 5#8, 0#8, 3#8, 0#8, 0xFF#8, 0#8] ++ leBytes 8 64 ++ leBytes 4 131071 ++ leBytes 4 9 ++ List.replicate 40 7#8) }).get (F.TRF_POOL_USED_used 2) = 0 ∧
    coreFenced ({ up [(F.TRF_HQ_TP_CFG_en 7, 1), (F.DDR_SIZE_mib, 16), (F.TRF_CELLS_cells, 65536)] with dram := memWrite [] 0 ([1#8, 1#8, 5#8, 0#8, 3#8, 0#8, 0xFF#8, 0#8] ++ leBytes 8 64 ++ leBytes 4 131071 ++ leBytes 4 9 ++ List.replicate 40 7#8) }) 0 = false) ∧
   (7 < 8 ∧ 1 < 4096 ∧
    ({ up [(F.TRF_HQ_TH_CFG_en 7, 1), (F.DDR_SIZE_mib, 16)] with dram := memWrite [] 8 (leBytes 8 64), traffic := { hosts := [(7, [⟨0, [1#8, 2#8, 3#8], 77, []⟩])] } }).domOn 24 = true ∧
    ({ up [(F.TRF_HQ_TH_CFG_en 7, 1), (F.DDR_SIZE_mib, 16)] with dram := memWrite [] 8 (leBytes 8 64), traffic := { hosts := [(7, [⟨0, [1#8, 2#8, 3#8], 77, []⟩])] } }).get (F.TRF_HQ_TH_CFG_en 7) = 1 ∧
    tabGet ({ up [(F.TRF_HQ_TH_CFG_en 7, 1), (F.DDR_SIZE_mib, 16)] with dram := memWrite [] 8 (leBytes 8 64), traffic := { hosts := [(7, [⟨0, [1#8, 2#8, 3#8], 77, []⟩])] } }).traffic.hosts 7 [] = [(⟨0, [1#8, 2#8, 3#8], 77, []⟩ : HostFrame)] ∧
    ringSize (({ up [(F.TRF_HQ_TH_CFG_en 7, 1), (F.DDR_SIZE_mib, 16)] with dram := memWrite [] 8 (leBytes 8 64), traffic := { hosts := [(7, [⟨0, [1#8, 2#8, 3#8], 77, []⟩])] } }).get (F.TRF_HQ_TH_CFG_log2_size 7)) = 16 ∧
    ({ up [(F.TRF_HQ_TH_CFG_en 7, 1), (F.DDR_SIZE_mib, 16)] with dram := memWrite [] 8 (leBytes 8 64), traffic := { hosts := [(7, [⟨0, [1#8, 2#8, 3#8], 77, []⟩])] } }).get (F.TRF_HQ_TH_HEAD_index 7) % 16 ≠ 1 % 16 ∧
    ({ up [(F.TRF_HQ_TH_CFG_en 7, 1), (F.DDR_SIZE_mib, 16)] with dram := memWrite [] 8 (leBytes 8 64), traffic := { hosts := [(7, [⟨0, [1#8, 2#8, 3#8], 77, []⟩])] } }).pair (F.TRF_HQ_TH_BASE_LO_addr 7) (F.TRF_HQ_TH_BASE_HI_addr 7) / 32 * 32 + 32 * (({ up [(F.TRF_HQ_TH_CFG_en 7, 1), (F.DDR_SIZE_mib, 16)] with dram := memWrite [] 8 (leBytes 8 64), traffic := { hosts := [(7, [⟨0, [1#8, 2#8, 3#8], 77, []⟩])] } }).get (F.TRF_HQ_TH_HEAD_index 7) % 16) = 0 ∧
    ({ up [(F.TRF_HQ_TH_CFG_en 7, 1), (F.DDR_SIZE_mib, 16)] with dram := memWrite [] 8 (leBytes 8 64), traffic := { hosts := [(7, [⟨0, [1#8, 2#8, 3#8], 77, []⟩])] } }).dramOk (leAt (({ up [(F.TRF_HQ_TH_CFG_en 7, 1), (F.DDR_SIZE_mib, 16)] with dram := memWrite [] 8 (leBytes 8 64), traffic := { hosts := [(7, [⟨0, [1#8, 2#8, 3#8], 77, []⟩])] } }).dramRead 0 32) 8 8) (⟨0, [1#8, 2#8, 3#8], 77, []⟩ : HostFrame).frame.length = true ∧
    (leAt (({ up [(F.TRF_HQ_TH_CFG_en 7, 1), (F.DDR_SIZE_mib, 16)] with dram := memWrite [] 8 (leBytes 8 64), traffic := { hosts := [(7, [⟨0, [1#8, 2#8, 3#8], 77, []⟩])] } }).dramRead 0 32) 8 8 + (⟨0, [1#8, 2#8, 3#8], 77, []⟩ : HostFrame).frame.length ≤ 0 ∨ 0 + 32 ≤ leAt (({ up [(F.TRF_HQ_TH_CFG_en 7, 1), (F.DDR_SIZE_mib, 16)] with dram := memWrite [] 8 (leBytes 8 64), traffic := { hosts := [(7, [⟨0, [1#8, 2#8, 3#8], 77, []⟩])] } }).dramRead 0 32) 8 8) ∧
    coreFenced ({ up [(F.TRF_HQ_TH_CFG_en 7, 1), (F.DDR_SIZE_mib, 16)] with dram := memWrite [] 8 (leBytes 8 64), traffic := { hosts := [(7, [⟨0, [1#8, 2#8, 3#8], 77, []⟩])] } }) 0 = false) ∧
   (vqueue ({ up [(F.DDR_SIZE_mib, 16), (F.TRF_CELLS_cells, 65536)] with traffic := { vqs := [(5, [{ aVqFrame with spilled := some 3 }])], slots := [3] } }) 5 = [({ aVqFrame with spilled := some 3 } : VqFrame)] ∧
    ({ aVqFrame with spilled := some 3 } : VqFrame).spilled = some 3 ∧
    ({ up [(F.DDR_SIZE_mib, 16), (F.TRF_CELLS_cells, 65536)] with traffic := { vqs := [(5, [{ aVqFrame with spilled := some 3 }])], slots := [3] } }).domOn 9 = true ∧
    ({ up [(F.DDR_SIZE_mib, 16), (F.TRF_CELLS_cells, 65536)] with traffic := { vqs := [(5, [{ aVqFrame with spilled := some 3 }])], slots := [3] } }).domOn 26 = true ∧
    canTake ({ up [(F.DDR_SIZE_mib, 16), (F.TRF_CELLS_cells, 65536)] with traffic := { vqs := [(5, [{ aVqFrame with spilled := some 3 }])], slots := [3] } }) 3 (ceilDiv ({ aVqFrame with spilled := some 3 } : VqFrame).payload.length 256) = true ∧
    ({ up [(F.DDR_SIZE_mib, 16), (F.TRF_CELLS_cells, 65536)] with traffic := { vqs := [(5, [{ aVqFrame with spilled := some 3 }])], slots := [3] } }).dramOk (spillAddr ({ up [(F.DDR_SIZE_mib, 16), (F.TRF_CELLS_cells, 65536)] with traffic := { vqs := [(5, [{ aVqFrame with spilled := some 3 }])], slots := [3] } }) 3) (min 2560 ({ aVqFrame with spilled := some 3 } : VqFrame).payload.length) = true) := 
  ⟨by decide +kernel, by decide +kernel, by decide +kernel⟩

theorem test_TimeBaseIncrement_hypotheses :
   (State.reset.domOn 1 = true ∧ coreFenced State.reset 0 = false) ∧
   (({ State.reset with time := { pendingHi := some 2 } }).domOn 1 = true ∧
    ({ State.reset with time := { pendingHi := some 2 } }).time.pendingHi = some 2 ∧
    incAccepted ({ State.reset with time := { pendingHi := some 2 } }) (2 * 2 ^ 32 + (0x095AAAAA#32 : Word).toNat) = true ∧
    coreFenced ({ State.reset with time := { pendingHi := some 2 } }) 0 = false) ∧
   (State.reset.domOn 1 = true ∧ State.reset.time.pendingHi = none ∧
    incAccepted State.reset (State.reset.get F.TMB_INC_HI_int * 2 ^ 32 + (0x08500000#32 : Word).toNat) = true ∧
    coreFenced State.reset 0 = false) ∧
   (({ State.reset with time := { pendingHi := some 2 } }).domOn 1 = true ∧
    incAccepted ({ State.reset with time := { pendingHi := some 2 } }) (({ State.reset with time := { pendingHi := some 2 } }).time.pendingHi.getD (({ State.reset with time := { pendingHi := some 2 } }).get F.TMB_INC_HI_int) * 2 ^ 32 + (0x095AAAAB#32 : Word).toNat) = false ∧
    coreFenced ({ State.reset with time := { pendingHi := some 2 } }) 0 = false) := 
  ⟨by decide +kernel, by decide +kernel, by decide +kernel, by decide +kernel⟩

theorem test_TimeBaseState_hypotheses :
   (({ up [(F.TMB_STEP_LO_step, 4294967286), (F.TMB_STEP_HI_step, 4294967295)] with time := { ns := 5, frac := 9 } }).domOn 1 = true ∧
    ({ up [(F.TMB_STEP_LO_step, 4294967286), (F.TMB_STEP_HI_step, 4294967295)] with time := { ns := 5, frac := 9 } }).get F.TMB_STATE_state = 0 ∧
    signed 64 (({ up [(F.TMB_STEP_LO_step, 4294967286), (F.TMB_STEP_HI_step, 4294967295)] with time := { ns := 5, frac := 9 } }).pair F.TMB_STEP_LO_step F.TMB_STEP_HI_step) = (-10 : Int) ∧
    (({ up [(F.TMB_STEP_LO_step, 4294967286), (F.TMB_STEP_HI_step, 4294967295)] with time := { ns := 5, frac := 9 } }).get F.TMB_STATE_guarded = 0 ∨ (-10 : Int).natAbs ≤ ({ up [(F.TMB_STEP_LO_step, 4294967286), (F.TMB_STEP_HI_step, 4294967295)] with time := { ns := 5, frac := 9 } }).get F.TMB_JUMP_LIMIT_limit_ns) ∧
    coreFenced ({ up [(F.TMB_STEP_LO_step, 4294967286), (F.TMB_STEP_HI_step, 4294967295)] with time := { ns := 5, frac := 9 } }) 0 = false) ∧
   ((up [(F.TMB_STATE_state, 1)]).domOn 1 = true ∧ (up [(F.TMB_STATE_state, 1)]).get F.TMB_STATE_state ≠ 0 ∧
    coreFenced (up [(F.TMB_STATE_state, 1)]) 0 = false) ∧
   ((up [(F.TMB_STATE_guarded, 1), (F.TMB_JUMP_LIMIT_limit_ns, 99), (F.TMB_STEP_LO_step, 100)]).domOn 1 = true ∧
    (up [(F.TMB_STATE_guarded, 1), (F.TMB_JUMP_LIMIT_limit_ns, 99), (F.TMB_STEP_LO_step, 100)]).get F.TMB_STATE_state = 0 ∧
    (up [(F.TMB_STATE_guarded, 1), (F.TMB_JUMP_LIMIT_limit_ns, 99), (F.TMB_STEP_LO_step, 100)]).get F.TMB_STATE_guarded = 1 ∧
    (up [(F.TMB_STATE_guarded, 1), (F.TMB_JUMP_LIMIT_limit_ns, 99), (F.TMB_STEP_LO_step, 100)]).get F.TMB_JUMP_LIMIT_limit_ns < (signed 64 ((up [(F.TMB_STATE_guarded, 1), (F.TMB_JUMP_LIMIT_limit_ns, 99), (F.TMB_STEP_LO_step, 100)]).pair F.TMB_STEP_LO_step F.TMB_STEP_HI_step)).natAbs ∧
    coreFenced (up [(F.TMB_STATE_guarded, 1), (F.TMB_JUMP_LIMIT_limit_ns, 99), (F.TMB_STEP_LO_step, 100)]) 0 = false) ∧
   (({ up [(F.TMB_STATE_state, 2), (F.TMB_HOLD_mode, 3)] with time := { unfollowed := true } }).domOn 1 = true ∧
    coreFenced ({ up [(F.TMB_STATE_state, 2), (F.TMB_HOLD_mode, 3)] with time := { unfollowed := true } }) 0 = false) ∧
   (State.reset.domOn 1 = true ∧ State.reset.get F.TMB_STATE_state = 0 ∧ coreFenced State.reset 0 = false) ∧
   (State.reset.domOn 1 = true ∧ State.reset.get F.TMB_STATE_state ≠ 2 ∧ coreFenced State.reset 0 = false) ∧
   ((up [(F.TMB_STATE_state, 2)]).domOn 1 = true ∧ (up [(F.TMB_STATE_state, 2)]).get F.TMB_STATE_state = 2 ∧
    coreFenced (up [(F.TMB_STATE_state, 2)]) 0 = false) ∧
   ((up [(F.TMB_STATE_state, 2)]).domOn 1 = true ∧ (up [(F.TMB_STATE_state, 2)]).get F.TMB_STATE_state = 2 ∧
    coreFenced (up [(F.TMB_STATE_state, 2)]) 0 = false) := 
  ⟨by decide +kernel, by decide +kernel, by decide +kernel, by decide +kernel, by decide +kernel, by decide +kernel, by decide +kernel, by decide +kernel⟩

theorem test_PulsesAndSyncE_hypotheses :
   (({ up [(F.TMB_PPS_CFG_in_en, 1), (F.TMB_PPS_CAP_ST_new, 1)] with time := { ns := 2 ^ 40 + 7 } }).get F.TMB_PPS_CFG_in_en = 1) ∧
   ((up [(F.TMB_PPS_CFG_in_en, 1), (F.TMB_REF_src, 1), (F.TMB_STATE_state, 1)]).get F.TMB_PPS_CFG_in_en = 1 ∧
    (up [(F.TMB_PPS_CFG_in_en, 1), (F.TMB_REF_src, 1), (F.TMB_STATE_state, 1)]).get F.TMB_REF_src = 1 ∧
    (up [(F.TMB_PPS_CFG_in_en, 1), (F.TMB_REF_src, 1), (F.TMB_STATE_state, 1)]).get F.TMB_STATE_state = 1) ∧
   ((up [(F.TMB_PPS_CAP_ST_new, 1), (F.TMB_PPS_CAP_LO_ns, 7)]).domOn 1 = true ∧
    coreFenced (up [(F.TMB_PPS_CAP_ST_new, 1), (F.TMB_PPS_CAP_LO_ns, 7)]) 0 = false) ∧
   (ppsDrives (up [(F.TMB_PPS_CFG_out_en, 1)]) = true) ∧
   (({ up [(F.TMB_PPS_CFG_pol, 1)] with time := { ppsOn := true, ppsRise := 1000000000 } }).time.ppsOn = true ∧
    ({ up [(F.TMB_PPS_CFG_pol, 1)] with time := { ppsOn := true, ppsRise := 1000000000 } }).owner 2 0 = 0x0200) ∧
   ((up [(F.TMB_SYNCE_port, 3), (F.TMB_SYNCE_en, 1), (F.ETH_STATUS_link_up 3, 1)]).get F.TMB_SYNCE_port = 3 ∧
    (up [(F.TMB_SYNCE_port, 3), (F.TMB_SYNCE_en, 1), (F.ETH_STATUS_link_up 3, 1)]).get F.TMB_SYNCE_en = 1 ∧
    (up [(F.TMB_SYNCE_port, 3), (F.TMB_SYNCE_en, 1), (F.ETH_STATUS_link_up 3, 1)]).owner 2 1 = 0x0201 ∧
    (up [(F.TMB_SYNCE_port, 3), (F.TMB_SYNCE_en, 1), (F.ETH_STATUS_link_up 3, 1)]).get (F.ETH_STATUS_link_up 3) = 1) := 
  ⟨by decide +kernel, by decide +kernel, by decide +kernel, by decide +kernel, by decide +kernel, by decide +kernel⟩

theorem test_TimerUnitsCount_hypotheses :
   (31 < 32 ∧ (up [(F.TMU_CNT_count 31, 9)]).domOn 1 = true ∧ (up [(F.TMU_CNT_count 31, 9)]).owner 4 31 = 0x0300 ∧
    (up [(F.TMU_CNT_count 31, 9)]).get (F.TMU_CTL_run 31) = 0 ∧ wordField (0xFFFFFFFF#32 : Word) (F.TMU_CTL_run 31).lsb 1 = 1 ∧
    coreFenced (up [(F.TMU_CNT_count 31, 9)]) 0 = false) ∧
   (0 < 32 ∧ State.reset.domOn 1 = true ∧ State.reset.owner 4 0 = 0x0300 ∧ State.reset.get (F.TMU_CTL_run 0) = 0 ∧
    coreFenced State.reset 0 = false) ∧
   (5 < 32 ∧ (up [(F.TMU_CTL_run 5, 1)]).domOn 1 = true ∧ (up [(F.TMU_CTL_run 5, 1)]).owner 4 5 = 0x0300 ∧
    (up [(F.TMU_CTL_run 5, 1)]).get (F.TMU_CTL_run 5) = 1 ∧ coreFenced (up [(F.TMU_CTL_run 5, 1)]) 0 = false) ∧
   (31 < 32 ∧ (up [(F.TMU_CNT_count 31, 9)]).domOn 1 = true ∧ (up [(F.TMU_CNT_count 31, 9)]).tmu.links = [] ∧
    coreFenced (up [(F.TMU_CNT_count 31, 9)]) 0 = false) ∧
   (31 < 32 ∧
    unitCounts (up [(F.TMU_CTL_run 31, 1), (F.TMU_STATUS_gate_open 31, 1), (F.TMU_CTL_oneshot 31, 1), (F.TMU_TOP_top 31, 9), (F.TMU_CNT_count 31, 9)]) 31 = true ∧
    hasClock (up [(F.TMU_CTL_run 31, 1), (F.TMU_STATUS_gate_open 31, 1), (F.TMU_CTL_oneshot 31, 1), (F.TMU_TOP_top 31, 9), (F.TMU_CNT_count 31, 9)]) 31 = true ∧
    (up [(F.TMU_CTL_run 31, 1), (F.TMU_STATUS_gate_open 31, 1), (F.TMU_CTL_oneshot 31, 1), (F.TMU_TOP_top 31, 9), (F.TMU_CNT_count 31, 9)]).get (F.TMU_CNT_count 31) = (up [(F.TMU_CTL_run 31, 1), (F.TMU_STATUS_gate_open 31, 1), (F.TMU_CTL_oneshot 31, 1), (F.TMU_TOP_top 31, 9), (F.TMU_CNT_count 31, 9)]).get (F.TMU_TOP_top 31)) ∧
   (4 < 32 ∧
    ({ up [(F.TMU_CNT_count 4, 9)] with tmu := { links := [⟨1, 0, 4, 1, 1⟩] } }).tmu.links = [(⟨1, 0, 4, 1, 1⟩ : LinkMsg)] ∧
    (⟨1, 0, 4, 1, 1⟩ : LinkMsg).dst = 4 ∧ (⟨1, 0, 4, 1, 1⟩ : LinkMsg).action = 1 ∧ (⟨1, 0, 4, 1, 1⟩ : LinkMsg).age ≠ 0) ∧
   (31 < 32 ∧ ({ State.reset with tmu := { links := [⟨1, 0, 31, 0, 1⟩] } }).tmu.links = [(⟨1, 0, 31, 0, 1⟩ : LinkMsg)] ∧
    (⟨1, 0, 31, 0, 1⟩ : LinkMsg).dst = 31 ∧ (⟨1, 0, 31, 0, 1⟩ : LinkMsg).action = 0 ∧ (⟨1, 0, 31, 0, 1⟩ : LinkMsg).age ≠ 0) := 
  ⟨by decide +kernel, by decide +kernel, by decide +kernel, by decide +kernel, by decide +kernel, by decide +kernel, by decide +kernel⟩

theorem test_TimerChannels_hypotheses :
   (31 < 32 ∧ 3 < 4 ∧
    unitCounts (up [(F.TMU_CTL_run 31, 1), (F.TMU_STATUS_gate_open 31, 1), (F.TMU_CH_CFG_mode 31 3, 1), (F.TMU_CH_CFG_en 31 3, 1), (F.TMU_TOP_top 31, 5), (F.TMU_CNT_count 31, 4), (F.TMU_CCV_value 31 3, 5)]) 31 = true ∧
    hasClock (up [(F.TMU_CTL_run 31, 1), (F.TMU_STATUS_gate_open 31, 1), (F.TMU_CH_CFG_mode 31 3, 1), (F.TMU_CH_CFG_en 31 3, 1), (F.TMU_TOP_top 31, 5), (F.TMU_CNT_count 31, 4), (F.TMU_CCV_value 31 3, 5)]) 31 = true ∧
    afterCount (up [(F.TMU_CTL_run 31, 1), (F.TMU_STATUS_gate_open 31, 1), (F.TMU_CH_CFG_mode 31 3, 1), (F.TMU_CH_CFG_en 31 3, 1), (F.TMU_TOP_top 31, 5), (F.TMU_CNT_count 31, 4), (F.TMU_CCV_value 31 3, 5)]) 31 = (up [(F.TMU_CTL_run 31, 1), (F.TMU_STATUS_gate_open 31, 1), (F.TMU_CH_CFG_mode 31 3, 1), (F.TMU_CH_CFG_en 31 3, 1), (F.TMU_TOP_top 31, 5), (F.TMU_CNT_count 31, 4), (F.TMU_CCV_value 31 3, 5)]).get (F.TMU_CCV_value 31 3) ∧
    (up [(F.TMU_CTL_run 31, 1), (F.TMU_STATUS_gate_open 31, 1), (F.TMU_CH_CFG_mode 31 3, 1), (F.TMU_CH_CFG_en 31 3, 1), (F.TMU_TOP_top 31, 5), (F.TMU_CNT_count 31, 4), (F.TMU_CCV_value 31 3, 5)]).get (F.TMU_CH_CFG_mode 31 3) = 1 ∧
    (up [(F.TMU_CTL_run 31, 1), (F.TMU_STATUS_gate_open 31, 1), (F.TMU_CH_CFG_mode 31 3, 1), (F.TMU_CH_CFG_en 31 3, 1), (F.TMU_TOP_top 31, 5), (F.TMU_CNT_count 31, 4), (F.TMU_CCV_value 31 3, 5)]).get (F.TMU_CH_CFG_en 31 3) = 1 ∧
    (up [(F.TMU_CTL_run 31, 1), (F.TMU_STATUS_gate_open 31, 1), (F.TMU_CH_CFG_mode 31 3, 1), (F.TMU_CH_CFG_en 31 3, 1), (F.TMU_TOP_top 31, 5), (F.TMU_CNT_count 31, 4), (F.TMU_CCV_value 31 3, 5)]).get (F.TMU_CCV_value 31 3) ≤ (up [(F.TMU_CTL_run 31, 1), (F.TMU_STATUS_gate_open 31, 1), (F.TMU_CH_CFG_mode 31 3, 1), (F.TMU_CH_CFG_en 31 3, 1), (F.TMU_TOP_top 31, 5), (F.TMU_CNT_count 31, 4), (F.TMU_CCV_value 31 3, 5)]).get (F.TMU_TOP_top 31)) ∧
   (0 < 32 ∧ 3 < 4 ∧
    captures (up [(F.TMU_CNT_count 0, 77), (F.TMU_CH_CFG_mode 0 3, 2), (F.TMU_CH_CFG_en 0 3, 1), (F.TMU_CH_ST_new 0 3, 1)]) 0 3 = true ∧
    (up [(F.TMU_CNT_count 0, 77), (F.TMU_CH_CFG_mode 0 3, 2), (F.TMU_CH_CFG_en 0 3, 1), (F.TMU_CH_ST_new 0 3, 1)]).tmu.links = []) ∧
   (31 < 32 ∧ State.reset.domOn 1 = true ∧ State.reset.owner 4 31 = 0x0300 ∧ 3 < 4 ∧
    State.reset.get (F.TMU_CH_CFG_mode 31 3) ≠ 2 ∧ coreFenced State.reset 0 = false) ∧
   (7 < 32 ∧ (up [(F.TMU_CH_CFG_mode 7 1, 2)]).domOn 1 = true ∧ (up [(F.TMU_CH_CFG_mode 7 1, 2)]).owner 4 7 = 0x0300 ∧ 1 < 4 ∧
    (up [(F.TMU_CH_CFG_mode 7 1, 2)]).get (F.TMU_CH_CFG_mode 7 1) = 2 ∧ coreFenced (up [(F.TMU_CH_CFG_mode 7 1, 2)]) 0 = false) ∧
   (7 < 32 ∧ 1 < 4 ∧ (up [(F.TMU_CH_CFG_mode 7 1, 2), (F.TMU_CH_ST_new 7 1, 1)]).domOn 1 = true ∧
    (up [(F.TMU_CH_CFG_mode 7 1, 2), (F.TMU_CH_ST_new 7 1, 1)]).get (F.TMU_CH_CFG_mode 7 1) = 2 ∧
    coreFenced (up [(F.TMU_CH_CFG_mode 7 1, 2), (F.TMU_CH_ST_new 7 1, 1)]) 0 = false) ∧
   (31 < 32 ∧
    ({ State.reset with stand := { inForce := some { owns := [⟨1, 31, 1, 0x031F⟩, ⟨4, 31, 1, 0x0300⟩] } } }).domOn 1 = true ∧
    ({ State.reset with stand := { inForce := some { owns := [⟨1, 31, 1, 0x031F⟩, ⟨4, 31, 1, 0x0300⟩] } } }).owner 4 31 = 0x0300 ∧
    wordField (0x1F01#32 : Word) (F.TMU_OUT_en 31).lsb 1 = 1 ∧
    wordField (0x1F01#32 : Word) (F.TMU_OUT_pin 31).lsb (F.TMU_OUT_pin 31).width = 31 ∧ 31 < 32 ∧
    ({ State.reset with stand := { inForce := some { owns := [⟨1, 31, 1, 0x031F⟩, ⟨4, 31, 1, 0x0300⟩] } } }).owner 1 31 = 0x0300 + 31 ∧
    coreFenced ({ State.reset with stand := { inForce := some { owns := [⟨1, 31, 1, 0x031F⟩, ⟨4, 31, 1, 0x0300⟩] } } }) 0 = false) ∧
   (0 < 32 ∧ State.reset.domOn 1 = true ∧ State.reset.owner 4 0 = 0x0300 ∧
    wordField (0x0501#32 : Word) (F.TMU_OUT_en 0).lsb 1 = 1 ∧
    wordField (0x0501#32 : Word) (F.TMU_OUT_pin 0).lsb (F.TMU_OUT_pin 0).width = 5 ∧ 5 < 32 ∧
    State.reset.owner 1 5 ≠ 0x0300 + 0 ∧ coreFenced State.reset 0 = false) := 
  ⟨by decide +kernel, by decide +kernel, by decide +kernel, by decide +kernel, by decide +kernel, by decide +kernel, by decide +kernel⟩

theorem test_CaptureModeClears_hypotheses :
   (31 < 32 ∧ 3 < 4 ∧
    coreFenced (up [(F.TMU_CH_ST_new 31 3, 1), (F.TMU_CH_ST_seq 31 3, 9), (F.TMU_CCV_value 31 3, 5)]) 0 = false) ∧
   (0 < 32 ∧ 0 < 4 ∧ coreFenced (up [(F.TMU_CH_ST_new 0 0, 1), (F.TMU_CH_ST_seq 0 0, 9)]) 0 = false) ∧
   (31 < 32 ∧ State.reset.domOn 1 = true ∧ State.reset.owner 4 31 = 0x0300 ∧ 3 < 4 ∧ coreFenced State.reset 0 = false) := 
  ⟨by decide +kernel, by decide +kernel, by decide +kernel⟩

theorem test_LeafKeyCommands_hypotheses_1 :
   (1 < 2 ∧ ({ rooted [] with hwd := { cache := [(5, [⟨5, 1, ⟨[], []⟩⟩])] } }).domOn 2 = true ∧
    ({ rooted [] with hwd := { cache := [(5, [⟨5, 1, ⟨[], []⟩⟩])] } }).get (F.HWD_CMD_busy 1) = 0 ∧
    ({ rooted [] with hwd := { cache := [(5, [⟨5, 1, ⟨[], []⟩⟩])] } }).pruned 11 0 = false ∧
    ({ rooted [] with hwd := { cache := [(5, [⟨5, 1, ⟨[], []⟩⟩])] } }).prune.secRestarting = false ∧
    ({ rooted [] with hwd := { cache := [(5, [⟨5, 1, ⟨[], []⟩⟩])] } }).secHalted = false ∧
    coreFenced ({ rooted [] with hwd := { cache := [(5, [⟨5, 1, ⟨[], []⟩⟩])] } }) 0 = false) ∧
   (0 < 2 ∧ (rooted []).domOn 2 = true ∧ (rooted []).get (F.HWD_CMD_busy 0) = 0 ∧ (rooted []).pruned 11 0 = false ∧
    otherSigning (rooted []) 0 = none ∧ coreFenced (rooted []) 0 = false) ∧
   (CommandDue ({ rooted [(F.HWD_CMD_ARG_lid 0, 131071)] with hwd := { cache := [(4095, [⟨131071, 1, ⟨[], []⟩⟩])], runs := [(0, ⟨3, 0, false, true, 0, 0, none, 0, 0, []⟩)] } }) 0 3 0 0 0 ∧
    ({ rooted [(F.HWD_CMD_ARG_lid 0, 131071)] with hwd := { cache := [(4095, [⟨131071, 1, ⟨[], []⟩⟩])], runs := [(0, ⟨3, 0, false, true, 0, 0, none, 0, 0, []⟩)] } }).get (F.HWD_CMD_ARG_lid 0) = 131071 ∧
    131071 ≠ 0 ∧
    leafBar ({ rooted [(F.HWD_CMD_ARG_lid 0, 131071)] with hwd := { cache := [(4095, [⟨131071, 1, ⟨[], []⟩⟩])], runs := [(0, ⟨3, 0, false, true, 0, 0, none, 0, 0, []⟩)] } }) = none ∧
    ({ rooted [(F.HWD_CMD_ARG_lid 0, 131071)] with hwd := { cache := [(4095, [⟨131071, 1, ⟨[], []⟩⟩])], runs := [(0, ⟨3, 0, false, true, 0, 0, none, 0, 0, []⟩)] } }).domOn 26 = true ∧
    (∀ g ∈ writtenGens ({ rooted [(F.HWD_CMD_ARG_lid 0, 131071)] with hwd := { cache := [(4095, [⟨131071, 1, ⟨[], []⟩⟩])], runs := [(0, ⟨3, 0, false, true, 0, 0, none, 0, 0, []⟩)] } }), ({ rooted [(F.HWD_CMD_ARG_lid 0, 131071)] with hwd := { cache := [(4095, [⟨131071, 1, ⟨[], []⟩⟩])], runs := [(0, ⟨3, 0, false, true, 0, 0, none, 0, 0, []⟩)] } }).dramOk (blobAddr ({ rooted [(F.HWD_CMD_ARG_lid 0, 131071)] with hwd := { cache := [(4095, [⟨131071, 1, ⟨[], []⟩⟩])], runs := [(0, ⟨3, 0, false, true, 0, 0, none, 0, 0, []⟩)] } }) g 131071) 64 = true)) ∧
   (1 < 2 ∧ (rooted []).domOn 2 = true ∧ (rooted []).get (F.HWD_CMD_busy 1) = 0 ∧ (rooted []).pruned 11 0 = false ∧
    otherSigning (rooted []) 1 = none ∧ 63 < 64 ∧ coreFenced (rooted []) 0 = false) ∧
   (CommandDue ({ rooted ([(F.HWD_CMD_ARG_lid 1, 5)] ++ slotFields 63) with hwd := { keys := (63, ⟨[1#8], [2#8]⟩) :: ownKeys, runs := [(1, ⟨2, 63, false, true, 0, 0, none, 0, 0, []⟩)] } }) 1 2 63 0 0 ∧
    measured ({ rooted ([(F.HWD_CMD_ARG_lid 1, 5)] ++ slotFields 63) with hwd := { keys := (63, ⟨[1#8], [2#8]⟩) :: ownKeys, runs := [(1, ⟨2, 63, false, true, 0, 0, none, 0, 0, []⟩)] } }) = true ∧
    ({ rooted ([(F.HWD_CMD_ARG_lid 1, 5)] ++ slotFields 63) with hwd := { keys := (63, ⟨[1#8], [2#8]⟩) :: ownKeys, runs := [(1, ⟨2, 63, false, true, 0, 0, none, 0, 0, []⟩)] } }).get (F.HWD_CMD_ARG_lid 1) = 5 ∧
    5 ≠ 0 ∧
    leafBar ({ rooted ([(F.HWD_CMD_ARG_lid 1, 5)] ++ slotFields 63) with hwd := { keys := (63, ⟨[1#8], [2#8]⟩) :: ownKeys, runs := [(1, ⟨2, 63, false, true, 0, 0, none, 0, 0, []⟩)] } }) = none ∧
    ({ rooted ([(F.HWD_CMD_ARG_lid 1, 5)] ++ slotFields 63) with hwd := { keys := (63, ⟨[1#8], [2#8]⟩) :: ownKeys, runs := [(1, ⟨2, 63, false, true, 0, 0, none, 0, 0, []⟩)] } }).domOn 26 = true ∧
    ({ rooted ([(F.HWD_CMD_ARG_lid 1, 5)] ++ slotFields 63) with hwd := { keys := (63, ⟨[1#8], [2#8]⟩) :: ownKeys, runs := [(1, ⟨2, 63, false, true, 0, 0, none, 0, 0, []⟩)] } }).hwd.lost = [] ∧
    63 < 64 ∧
    slotCheck ({ rooted ([(F.HWD_CMD_ARG_lid 1, 5)] ++ slotFields 63) with hwd := { keys := (63, ⟨[1#8], [2#8]⟩) :: ownKeys, runs := [(1, ⟨2, 63, false, true, 0, 0, none, 0, 0, []⟩)] } }) 63 2 (some 1) = none ∧
    (∀ h ∈ writtenGens ({ rooted ([(F.HWD_CMD_ARG_lid 1, 5)] ++ slotFields 63) with hwd := { keys := (63, ⟨[1#8], [2#8]⟩) :: ownKeys, runs := [(1, ⟨2, 63, false, true, 0, 0, none, 0, 0, []⟩)] } }), slotCheck ({ rooted ([(F.HWD_CMD_ARG_lid 1, 5)] ++ slotFields 63) with hwd := { keys := (63, ⟨[1#8], [2#8]⟩) :: ownKeys, runs := [(1, ⟨2, 63, false, true, 0, 0, none, 0, 0, []⟩)] } }) (2 + h) 9 none = none) ∧
    0 ∈ writtenGens ({ rooted ([(F.HWD_CMD_ARG_lid 1, 5)] ++ slotFields 63) with hwd := { keys := (63, ⟨[1#8], [2#8]⟩) :: ownKeys, runs := [(1, ⟨2, 63, false, true, 0, 0, none, 0, 0, []⟩)] } }) ∧
    (∀ h ∈ writtenGens ({ rooted ([(F.HWD_CMD_ARG_lid 1, 5)] ++ slotFields 63) with hwd := { keys := (63, ⟨[1#8], [2#8]⟩) :: ownKeys, runs := [(1, ⟨2, 63, false, true, 0, 0, none, 0, 0, []⟩)] } }), ({ rooted ([(F.HWD_CMD_ARG_lid 1, 5)] ++ slotFields 63) with hwd := { keys := (63, ⟨[1#8], [2#8]⟩) :: ownKeys, runs := [(1, ⟨2, 63, false, true, 0, 0, none, 0, 0, []⟩)] } }).dramOk (blobAddr ({ rooted ([(F.HWD_CMD_ARG_lid 1, 5)] ++ slotFields 63) with hwd := { keys := (63, ⟨[1#8], [2#8]⟩) :: ownKeys, runs := [(1, ⟨2, 63, false, true, 0, 0, none, 0, 0, []⟩)] } }) h 5) 64 = true ∧ (h = 0 ∨ blobAddr ({ rooted ([(F.HWD_CMD_ARG_lid 1, 5)] ++ slotFields 63) with hwd := { keys := (63, ⟨[1#8], [2#8]⟩) :: ownKeys, runs := [(1, ⟨2, 63, false, true, 0, 0, none, 0, 0, []⟩)] } }) h 5 + 64 ≤ blobAddr ({ rooted ([(F.HWD_CMD_ARG_lid 1, 5)] ++ slotFields 63) with hwd := { keys := (63, ⟨[1#8], [2#8]⟩) :: ownKeys, runs := [(1, ⟨2, 63, false, true, 0, 0, none, 0, 0, []⟩)] } }) 0 5 ∨ blobAddr ({ rooted ([(F.HWD_CMD_ARG_lid 1, 5)] ++ slotFields 63) with hwd := { keys := (63, ⟨[1#8], [2#8]⟩) :: ownKeys, runs := [(1, ⟨2, 63, false, true, 0, 0, none, 0, 0, []⟩)] } }) 0 5 + 64 ≤ blobAddr ({ rooted ([(F.HWD_CMD_ARG_lid 1, 5)] ++ slotFields 63) with hwd := { keys := (63, ⟨[1#8], [2#8]⟩) :: ownKeys, runs := [(1, ⟨2, 63, false, true, 0, 0, none, 0, 0, []⟩)] } }) h 5))) := 
  ⟨by decide +kernel, by decide +kernel, by decide +kernel, by decide +kernel, by decide +kernel⟩

theorem test_LeafKeyCommands_hypotheses_2 :
   (1 < 2 ∧ (rooted []).domOn 2 = true ∧ (rooted []).get (F.HWD_CMD_busy 1) = 0 ∧ (rooted []).pruned 11 0 = false ∧
    otherSigning (rooted []) 1 = none ∧ 16 < 64 ∧ coreFenced (rooted []) 0 = false) ∧
   (CommandDue ({ rooted ([(F.HWD_CMD_ARG_lid 1, 5)] ++ slotFields 16) with hwd := { keys := (16, ⟨[1#8], [2#8]⟩) :: ownKeys, runs := [(1, ⟨1, 16, false, true, 0, 0, none, 0, 0, []⟩)] } }) 1 1 16 0 0 ∧
    measured ({ rooted ([(F.HWD_CMD_ARG_lid 1, 5)] ++ slotFields 16) with hwd := { keys := (16, ⟨[1#8], [2#8]⟩) :: ownKeys, runs := [(1, ⟨1, 16, false, true, 0, 0, none, 0, 0, []⟩)] } }) = true ∧
    ({ rooted ([(F.HWD_CMD_ARG_lid 1, 5)] ++ slotFields 16) with hwd := { keys := (16, ⟨[1#8], [2#8]⟩) :: ownKeys, runs := [(1, ⟨1, 16, false, true, 0, 0, none, 0, 0, []⟩)] } }).get (F.HWD_CMD_ARG_lid 1) = 5 ∧
    5 ≠ 0 ∧
    leafBar ({ rooted ([(F.HWD_CMD_ARG_lid 1, 5)] ++ slotFields 16) with hwd := { keys := (16, ⟨[1#8], [2#8]⟩) :: ownKeys, runs := [(1, ⟨1, 16, false, true, 0, 0, none, 0, 0, []⟩)] } }) = none ∧
    ({ rooted ([(F.HWD_CMD_ARG_lid 1, 5)] ++ slotFields 16) with hwd := { keys := (16, ⟨[1#8], [2#8]⟩) :: ownKeys, runs := [(1, ⟨1, 16, false, true, 0, 0, none, 0, 0, []⟩)] } }).domOn 26 = true ∧
    ({ rooted ([(F.HWD_CMD_ARG_lid 1, 5)] ++ slotFields 16) with hwd := { keys := (16, ⟨[1#8], [2#8]⟩) :: ownKeys, runs := [(1, ⟨1, 16, false, true, 0, 0, none, 0, 0, []⟩)] } }).hwd.lost = [] ∧
    16 < 64 ∧
    slotCheck ({ rooted ([(F.HWD_CMD_ARG_lid 1, 5)] ++ slotFields 16) with hwd := { keys := (16, ⟨[1#8], [2#8]⟩) :: ownKeys, runs := [(1, ⟨1, 16, false, true, 0, 0, none, 0, 0, []⟩)] } }) 16 1 (some 1) = none ∧
    (∀ h ∈ writtenGens ({ rooted ([(F.HWD_CMD_ARG_lid 1, 5)] ++ slotFields 16) with hwd := { keys := (16, ⟨[1#8], [2#8]⟩) :: ownKeys, runs := [(1, ⟨1, 16, false, true, 0, 0, none, 0, 0, []⟩)] } }), slotCheck ({ rooted ([(F.HWD_CMD_ARG_lid 1, 5)] ++ slotFields 16) with hwd := { keys := (16, ⟨[1#8], [2#8]⟩) :: ownKeys, runs := [(1, ⟨1, 16, false, true, 0, 0, none, 0, 0, []⟩)] } }) (2 + h) 9 none = none) ∧
    0 ∈ writtenGens ({ rooted ([(F.HWD_CMD_ARG_lid 1, 5)] ++ slotFields 16) with hwd := { keys := (16, ⟨[1#8], [2#8]⟩) :: ownKeys, runs := [(1, ⟨1, 16, false, true, 0, 0, none, 0, 0, []⟩)] } }) ∧
    (∀ h ∈ writtenGens ({ rooted ([(F.HWD_CMD_ARG_lid 1, 5)] ++ slotFields 16) with hwd := { keys := (16, ⟨[1#8], [2#8]⟩) :: ownKeys, runs := [(1, ⟨1, 16, false, true, 0, 0, none, 0, 0, []⟩)] } }), ({ rooted ([(F.HWD_CMD_ARG_lid 1, 5)] ++ slotFields 16) with hwd := { keys := (16, ⟨[1#8], [2#8]⟩) :: ownKeys, runs := [(1, ⟨1, 16, false, true, 0, 0, none, 0, 0, []⟩)] } }).dramOk (blobAddr ({ rooted ([(F.HWD_CMD_ARG_lid 1, 5)] ++ slotFields 16) with hwd := { keys := (16, ⟨[1#8], [2#8]⟩) :: ownKeys, runs := [(1, ⟨1, 16, false, true, 0, 0, none, 0, 0, []⟩)] } }) h 5) 64 = true ∧ (h = 0 ∨ blobAddr ({ rooted ([(F.HWD_CMD_ARG_lid 1, 5)] ++ slotFields 16) with hwd := { keys := (16, ⟨[1#8], [2#8]⟩) :: ownKeys, runs := [(1, ⟨1, 16, false, true, 0, 0, none, 0, 0, []⟩)] } }) h 5 + 64 ≤ blobAddr ({ rooted ([(F.HWD_CMD_ARG_lid 1, 5)] ++ slotFields 16) with hwd := { keys := (16, ⟨[1#8], [2#8]⟩) :: ownKeys, runs := [(1, ⟨1, 16, false, true, 0, 0, none, 0, 0, []⟩)] } }) 0 5 ∨ blobAddr ({ rooted ([(F.HWD_CMD_ARG_lid 1, 5)] ++ slotFields 16) with hwd := { keys := (16, ⟨[1#8], [2#8]⟩) :: ownKeys, runs := [(1, ⟨1, 16, false, true, 0, 0, none, 0, 0, []⟩)] } }) 0 5 + 64 ≤ blobAddr ({ rooted ([(F.HWD_CMD_ARG_lid 1, 5)] ++ slotFields 16) with hwd := { keys := (16, ⟨[1#8], [2#8]⟩) :: ownKeys, runs := [(1, ⟨1, 16, false, true, 0, 0, none, 0, 0, []⟩)] } }) h 5)) ∧
    ({ rooted ([(F.HWD_CMD_ARG_lid 1, 5)] ++ slotFields 16) with hwd := { keys := (16, ⟨[1#8], [2#8]⟩) :: ownKeys, runs := [(1, ⟨1, 16, false, true, 0, 0, none, 0, 0, []⟩)] } }).dramOk (cmdBuf ({ rooted ([(F.HWD_CMD_ARG_lid 1, 5)] ++ slotFields 16) with hwd := { keys := (16, ⟨[1#8], [2#8]⟩) :: ownKeys, runs := [(1, ⟨1, 16, false, true, 0, 0, none, 0, 0, []⟩)] } }) 1) 24 = true ∧
    ({ rooted ([(F.HWD_CMD_ARG_lid 1, 5)] ++ slotFields 16) with hwd := { keys := (16, ⟨[1#8], [2#8]⟩) :: ownKeys, runs := [(1, ⟨1, 16, false, true, 0, 0, none, 0, 0, []⟩)] } }).dramRead (cmdBuf ({ rooted ([(F.HWD_CMD_ARG_lid 1, 5)] ++ slotFields 16) with hwd := { keys := (16, ⟨[1#8], [2#8]⟩) :: ownKeys, runs := [(1, ⟨1, 16, false, true, 0, 0, none, 0, 0, []⟩)] } }) 1) 24 = (List.replicate 24 0#8 : List Byte)) ∧
   (1 < 2 ∧
    ({ rooted ([(F.HWD_CMD_ARG_lid 1, 131071), (F.HWD_CMD_CNT_count 1, 1)] ++ slotFields 16) with hwd := { keys := (16, ⟨[1#8], [2#8]⟩) :: ownKeys } }).domOn 2 = true ∧
    ({ rooted ([(F.HWD_CMD_ARG_lid 1, 131071), (F.HWD_CMD_CNT_count 1, 1)] ++ slotFields 16) with hwd := { keys := (16, ⟨[1#8], [2#8]⟩) :: ownKeys } }).get (F.HWD_CMD_busy 1) = 0 ∧
    ({ rooted ([(F.HWD_CMD_ARG_lid 1, 131071), (F.HWD_CMD_CNT_count 1, 1)] ++ slotFields 16) with hwd := { keys := (16, ⟨[1#8], [2#8]⟩) :: ownKeys } }).pruned 11 0 = false ∧
    ({ rooted ([(F.HWD_CMD_ARG_lid 1, 131071), (F.HWD_CMD_CNT_count 1, 1)] ++ slotFields 16) with hwd := { keys := (16, ⟨[1#8], [2#8]⟩) :: ownKeys } }).prune.secRestarting = false ∧
    ({ rooted ([(F.HWD_CMD_ARG_lid 1, 131071), (F.HWD_CMD_CNT_count 1, 1)] ++ slotFields 16) with hwd := { keys := (16, ⟨[1#8], [2#8]⟩) :: ownKeys } }).secHalted = false ∧
    measured ({ rooted ([(F.HWD_CMD_ARG_lid 1, 131071), (F.HWD_CMD_CNT_count 1, 1)] ++ slotFields 16) with hwd := { keys := (16, ⟨[1#8], [2#8]⟩) :: ownKeys } }) = true ∧
    ({ rooted ([(F.HWD_CMD_ARG_lid 1, 131071), (F.HWD_CMD_CNT_count 1, 1)] ++ slotFields 16) with hwd := { keys := (16, ⟨[1#8], [2#8]⟩) :: ownKeys } }).get (F.HWD_CMD_ARG_lid 1) = 131071 ∧
    131071 ≠ 0 ∧ 1 ≠ 0 ∧ 131071 + 1 ≤ 131072 ∧
    ({ rooted ([(F.HWD_CMD_ARG_lid 1, 131071), (F.HWD_CMD_CNT_count 1, 1)] ++ slotFields 16) with hwd := { keys := (16, ⟨[1#8], [2#8]⟩) :: ownKeys } }).get (F.HWD_CMD_CNT_count 1) = 1 ∧
    leafBar ({ rooted ([(F.HWD_CMD_ARG_lid 1, 131071), (F.HWD_CMD_CNT_count 1, 1)] ++ slotFields 16) with hwd := { keys := (16, ⟨[1#8], [2#8]⟩) :: ownKeys } }) = none ∧
    ({ rooted ([(F.HWD_CMD_ARG_lid 1, 131071), (F.HWD_CMD_CNT_count 1, 1)] ++ slotFields 16) with hwd := { keys := (16, ⟨[1#8], [2#8]⟩) :: ownKeys } }).domOn 26 = true ∧
    ({ rooted ([(F.HWD_CMD_ARG_lid 1, 131071), (F.HWD_CMD_CNT_count 1, 1)] ++ slotFields 16) with hwd := { keys := (16, ⟨[1#8], [2#8]⟩) :: ownKeys } }).hwd.lost = [] ∧
    16 < 64 ∧
    slotCheck ({ rooted ([(F.HWD_CMD_ARG_lid 1, 131071), (F.HWD_CMD_CNT_count 1, 1)] ++ slotFields 16) with hwd := { keys := (16, ⟨[1#8], [2#8]⟩) :: ownKeys } }) 16 3 (some 1) = none ∧
    ({ rooted ([(F.HWD_CMD_ARG_lid 1, 131071), (F.HWD_CMD_CNT_count 1, 1)] ++ slotFields 16) with hwd := { keys := (16, ⟨[1#8], [2#8]⟩) :: ownKeys } }).dramOk (cmdBuf ({ rooted ([(F.HWD_CMD_ARG_lid 1, 131071), (F.HWD_CMD_CNT_count 1, 1)] ++ slotFields 16) with hwd := { keys := (16, ⟨[1#8], [2#8]⟩) :: ownKeys } }) 1) 32 = true ∧
    (wrapReplicas [] (derive256 ((slotKey ({ rooted ([(F.HWD_CMD_ARG_lid 1, 131071), (F.HWD_CMD_CNT_count 1, 1)] ++ slotFields 16) with hwd := { keys := (16, ⟨[1#8], [2#8]⟩) :: ownKeys } }) 16).getD []) (({ rooted ([(F.HWD_CMD_ARG_lid 1, 131071), (F.HWD_CMD_CNT_count 1, 1)] ++ slotFields 16) with hwd := { keys := (16, ⟨[1#8], [2#8]⟩) :: ownKeys } }).dramRead (cmdBuf ({ rooted ([(F.HWD_CMD_ARG_lid 1, 131071), (F.HWD_CMD_CNT_count 1, 1)] ++ slotFields 16) with hwd := { keys := (16, ⟨[1#8], [2#8]⟩) :: ownKeys } }) 1) 32) "BX7160 REPLICA") 131071 1 ({ rooted ([(F.HWD_CMD_ARG_lid 1, 131071), (F.HWD_CMD_CNT_count 1, 1)] ++ slotFields 16) with hwd := { keys := (16, ⟨[1#8], [2#8]⟩) :: ownKeys } })).1 = ((wrapReplicas [] (derive256 ((slotKey ({ rooted ([(F.HWD_CMD_ARG_lid 1, 131071), (F.HWD_CMD_CNT_count 1, 1)] ++ slotFields 16) with hwd := { keys := (16, ⟨[1#8], [2#8]⟩) :: ownKeys } }) 16).getD []) (({ rooted ([(F.HWD_CMD_ARG_lid 1, 131071), (F.HWD_CMD_CNT_count 1, 1)] ++ slotFields 16) with hwd := { keys := (16, ⟨[1#8], [2#8]⟩) :: ownKeys } } : State).dramRead (cmdBuf ({ rooted ([(F.HWD_CMD_ARG_lid 1, 131071), (F.HWD_CMD_CNT_count 1, 1)] ++ slotFields 16) with hwd := { keys := (16, ⟨[1#8], [2#8]⟩) :: ownKeys } }) 1) 32) "BX7160 REPLICA") 131071 1 ({ rooted ([(F.HWD_CMD_ARG_lid 1, 131071), (F.HWD_CMD_CNT_count 1, 1)] ++ slotFields 16) with hwd := { keys := (16, ⟨[1#8], [2#8]⟩) :: ownKeys } })).1 : List (List Byte)) ∧
    coreFenced ({ rooted ([(F.HWD_CMD_ARG_lid 1, 131071), (F.HWD_CMD_CNT_count 1, 1)] ++ slotFields 16) with hwd := { keys := (16, ⟨[1#8], [2#8]⟩) :: ownKeys } }) 0 = false) ∧
   (0 < 2 ∧ (rooted []).domOn 2 = true ∧ (rooted []).get (F.HWD_CMD_busy 0) = 0 ∧ (rooted []).pruned 11 0 = false ∧
    otherSigning (rooted []) 0 = none ∧ 16 < 64 ∧ coreFenced (rooted []) 0 = false) ∧
   (CommandDue ({ rooted ([(F.HWD_CMD_CNT_count 1, 1)] ++ slotFields 16) with hwd := { keys := (16, ⟨[1#8], [2#8]⟩) :: ownKeys, runs := [(1, ⟨7, 16, false, true, 0, 0, none, 0, 0, []⟩)] } }) 1 7 16 0 0 ∧
    measured ({ rooted ([(F.HWD_CMD_CNT_count 1, 1)] ++ slotFields 16) with hwd := { keys := (16, ⟨[1#8], [2#8]⟩) :: ownKeys, runs := [(1, ⟨7, 16, false, true, 0, 0, none, 0, 0, []⟩)] } }) = true ∧
    ({ rooted ([(F.HWD_CMD_CNT_count 1, 1)] ++ slotFields 16) with hwd := { keys := (16, ⟨[1#8], [2#8]⟩) :: ownKeys, runs := [(1, ⟨7, 16, false, true, 0, 0, none, 0, 0, []⟩)] } }).get (F.HWD_CMD_CNT_count 1) = 1 ∧
    1 ≠ 0 ∧
    leafBar ({ rooted ([(F.HWD_CMD_CNT_count 1, 1)] ++ slotFields 16) with hwd := { keys := (16, ⟨[1#8], [2#8]⟩) :: ownKeys, runs := [(1, ⟨7, 16, false, true, 0, 0, none, 0, 0, []⟩)] } }) = none ∧
    ({ rooted ([(F.HWD_CMD_CNT_count 1, 1)] ++ slotFields 16) with hwd := { keys := (16, ⟨[1#8], [2#8]⟩) :: ownKeys, runs := [(1, ⟨7, 16, false, true, 0, 0, none, 0, 0, []⟩)] } }).domOn 26 = true ∧
    ({ rooted ([(F.HWD_CMD_CNT_count 1, 1)] ++ slotFields 16) with hwd := { keys := (16, ⟨[1#8], [2#8]⟩) :: ownKeys, runs := [(1, ⟨7, 16, false, true, 0, 0, none, 0, 0, []⟩)] } }).hwd.lost = [] ∧
    16 < 64 ∧
    slotCheck ({ rooted ([(F.HWD_CMD_CNT_count 1, 1)] ++ slotFields 16) with hwd := { keys := (16, ⟨[1#8], [2#8]⟩) :: ownKeys, runs := [(1, ⟨7, 16, false, true, 0, 0, none, 0, 0, []⟩)] } }) 16 3 (some 1) = none ∧
    ({ rooted ([(F.HWD_CMD_CNT_count 1, 1)] ++ slotFields 16) with hwd := { keys := (16, ⟨[1#8], [2#8]⟩) :: ownKeys, runs := [(1, ⟨7, 16, false, true, 0, 0, none, 0, 0, []⟩)] } }).dramOk (cmdBuf ({ rooted ([(F.HWD_CMD_CNT_count 1, 1)] ++ slotFields 16) with hwd := { keys := (16, ⟨[1#8], [2#8]⟩) :: ownKeys, runs := [(1, ⟨7, 16, false, true, 0, 0, none, 0, 0, []⟩)] } }) 1) (64 * 1) = true ∧
    ({ rooted ([(F.HWD_CMD_CNT_count 1, 1)] ++ slotFields 16) with hwd := { keys := (16, ⟨[1#8], [2#8]⟩) :: ownKeys, runs := [(1, ⟨7, 16, false, true, 0, 0, none, 0, 0, []⟩)] } }).dramRead (cmdBuf ({ rooted ([(F.HWD_CMD_CNT_count 1, 1)] ++ slotFields 16) with hwd := { keys := (16, ⟨[1#8], [2#8]⟩) :: ownKeys, runs := [(1, ⟨7, 16, false, true, 0, 0, none, 0, 0, []⟩)] } }) 1) (64 * 1) = (List.replicate 64 0#8 : List Byte)) := 
  ⟨by decide +kernel, by decide +kernel, by decide +kernel, by decide +kernel, by decide +kernel⟩

theorem test_CommandCompletion_hypotheses :
   (0 < 2 ∧ (up [(F.HWD_CMD_CNT_count 0, 4096), (F.HWD_DRBG_healthy, 1)]).domOn 2 = true ∧
    (up [(F.HWD_CMD_CNT_count 0, 4096), (F.HWD_DRBG_healthy, 1)]).get (F.HWD_CMD_busy 0) = 0 ∧
    (up [(F.HWD_CMD_CNT_count 0, 4096), (F.HWD_DRBG_healthy, 1)]).pruned 11 0 = false ∧
    (up [(F.HWD_CMD_CNT_count 0, 4096), (F.HWD_DRBG_healthy, 1)]).prune.secRestarting = false ∧
    (up [(F.HWD_CMD_CNT_count 0, 4096), (F.HWD_DRBG_healthy, 1)]).secHalted = false ∧
    (up [(F.HWD_CMD_CNT_count 0, 4096), (F.HWD_DRBG_healthy, 1)]).get (F.HWD_CMD_CNT_count 0) = 4096 ∧ 1 ≤ 4096 ∧ 4096 ≤ 4096 ∧
    (up [(F.HWD_CMD_CNT_count 0, 4096), (F.HWD_DRBG_healthy, 1)]).get F.HWD_DRBG_healthy = 1 ∧
    coreFenced (up [(F.HWD_CMD_CNT_count 0, 4096), (F.HWD_DRBG_healthy, 1)]) 0 = false) ∧
   (1 < 2 ∧
    tabFind ({ rooted [(F.HWD_CMD_busy 1, 1)] with hwd := { runs := [(1, ⟨5, 0, false, false, 0, 3, some (16, [1#8, 2#8, 3#8]), 0, 0, []⟩)] } }).hwd.runs 1 = some (⟨5, 0, false, false, 0, 3, some (16, [1#8, 2#8, 3#8]), 0, 0, []⟩ : HwdRun) ∧
    ({ rooted [(F.HWD_CMD_busy 1, 1)] with hwd := { runs := [(1, ⟨5, 0, false, false, 0, 3, some (16, [1#8, 2#8, 3#8]), 0, 0, []⟩)] } }).prune.secRestarting = false ∧
    ({ rooted [(F.HWD_CMD_busy 1, 1)] with hwd := { runs := [(1, ⟨5, 0, false, false, 0, 3, some (16, [1#8, 2#8, 3#8]), 0, 0, []⟩)] } }).secHalted = false ∧
    (⟨5, 0, false, false, 0, 3, some (16, [1#8, 2#8, 3#8]), 0, 0, []⟩ : HwdRun).waiting = false ∧
    (⟨5, 0, false, false, 0, 3, some (16, [1#8, 2#8, 3#8]), 0, 0, []⟩ : HwdRun).out = some (16, ([1#8, 2#8, 3#8] : List Byte)) ∧
    (⟨5, 0, false, false, 0, 3, some (16, [1#8, 2#8, 3#8]), 0, 0, []⟩ : HwdRun).status < 128 ∧
    (⟨5, 0, false, false, 0, 3, some (16, [1#8, 2#8, 3#8]), 0, 0, []⟩ : HwdRun).items < 8192 ∧
    ({ rooted [(F.HWD_CMD_busy 1, 1)] with hwd := { runs := [(1, ⟨5, 0, false, false, 0, 3, some (16, [1#8, 2#8, 3#8]), 0, 0, []⟩)] } }).domOn 26 = true ∧
    ({ rooted [(F.HWD_CMD_busy 1, 1)] with hwd := { runs := [(1, ⟨5, 0, false, false, 0, 3, some (16, [1#8, 2#8, 3#8]), 0, 0, []⟩)] } }).dramOk 16 ([1#8, 2#8, 3#8] : List Byte).length = true) ∧
   (1 < 2 ∧ (up [(F.HWD_CMD_busy 1, 1)]).domOn 2 = true ∧ (up [(F.HWD_CMD_busy 1, 1)]).get (F.HWD_CMD_busy 1) = 1 ∧
    coreFenced (up [(F.HWD_CMD_busy 1, 1)]) 0 = false) ∧
   (1 < 2 ∧ State.reset.domOn 2 = true ∧ State.reset.get (F.HWD_CMD_busy 1) = 0 ∧ State.reset.pruned 11 0 = false ∧
    State.reset.prune.secRestarting = false ∧ State.reset.secHalted = false ∧ measured State.reset = false ∧
    otherSigning State.reset 1 = none ∧ coreFenced State.reset 0 = false) ∧
   (1 < 2 ∧
    (({ rooted [] with hwd := { runs := [(1, ⟨5, 0, false, false, 0, 0, none, 0, 0, []⟩)] }, bark := { hold := true } }).secHalted = true ∨ ({ rooted [] with hwd := { runs := [(1, ⟨5, 0, false, false, 0, 0, none, 0, 0, []⟩)] }, bark := { hold := true } }).prune.secRestarting = true) ∧
    tabFind ({ rooted [] with hwd := { runs := [(1, ⟨5, 0, false, false, 0, 0, none, 0, 0, []⟩)] }, bark := { hold := true } }).hwd.runs 1 = some (⟨5, 0, false, false, 0, 0, none, 0, 0, []⟩ : HwdRun)) := 
  ⟨by decide +kernel, by decide +kernel, by decide +kernel, by decide +kernel, by decide +kernel⟩

theorem test_KeyCacheAndMasks_hypotheses :
   (cached (rooted []) 131071 = none ∧ (rooted []).get F.HWD_STATUS_locked = 0 ∧ kwpAlive (rooted []) = true ∧
    (rooted []).get F.HWD_BLOB_CFG_en = 1 ∧ (rooted []).domOn 26 = true ∧ (rooted []).hwd.lost = [] ∧
    activeGen (rooted []) = some 0 ∧ slotCheck (rooted []) (2 + 0) 9 none = none ∧
    (rooted []).dramOk (blobAddr (rooted []) 0 131071) 64 = true) ∧
   (({ up [(F.HWD_DRBG_healthy, 1)] with hwd := { keys := [(63, ⟨[1#8, 2#8], [7#8, 8#8]⟩)] } }).domOn 2 = true ∧
    ({ up [(F.HWD_DRBG_healthy, 1)] with hwd := { keys := [(63, ⟨[1#8, 2#8], [7#8, 8#8]⟩)] } }).get F.HWD_DRBG_healthy = 1 ∧
    tabFind ({ up [(F.HWD_DRBG_healthy, 1)] with hwd := { keys := [(63, ⟨[1#8, 2#8], [7#8, 8#8]⟩)] } }).hwd.keys 63 = some (⟨[1#8, 2#8], [7#8, 8#8]⟩ : Shares) ∧
    (⟨[1#8, 2#8], [7#8, 8#8]⟩ : Shares).a.length ≤ 32 ∧
    (⟨[1#8, 2#8], [7#8, 8#8]⟩ : Shares).b.length = (⟨[1#8, 2#8], [7#8, 8#8]⟩ : Shares).a.length) ∧
   ((rooted [(F.HWD_GEN_sweep, 1), (F.HWD_GEN_gen1, 1), (F.HWD_SWEEP_POS_lid, 131070), (F.HWD_BLOB_BASE_LO_addr 1, 8388608)]).get F.HWD_GEN_sweep = 1 ∧
    activeGen (rooted [(F.HWD_GEN_sweep, 1), (F.HWD_GEN_gen1, 1), (F.HWD_SWEEP_POS_lid, 131070), (F.HWD_BLOB_BASE_LO_addr 1, 8388608)]) = some 0 ∧
    firstBelow 2 (fun n => decide (genState (rooted [(F.HWD_GEN_sweep, 1), (F.HWD_GEN_gen1, 1), (F.HWD_SWEEP_POS_lid, 131070), (F.HWD_BLOB_BASE_LO_addr 1, 8388608)]) n = 1)) = some 1 ∧
    kwpAlive (rooted [(F.HWD_GEN_sweep, 1), (F.HWD_GEN_gen1, 1), (F.HWD_SWEEP_POS_lid, 131070), (F.HWD_BLOB_BASE_LO_addr 1, 8388608)]) = true ∧
    (rooted [(F.HWD_GEN_sweep, 1), (F.HWD_GEN_gen1, 1), (F.HWD_SWEEP_POS_lid, 131070), (F.HWD_BLOB_BASE_LO_addr 1, 8388608)]).get F.HWD_STATUS_locked = 0 ∧
    (rooted [(F.HWD_GEN_sweep, 1), (F.HWD_GEN_gen1, 1), (F.HWD_SWEEP_POS_lid, 131070), (F.HWD_BLOB_BASE_LO_addr 1, 8388608)]).secHalted = false ∧
    (rooted [(F.HWD_GEN_sweep, 1), (F.HWD_GEN_gen1, 1), (F.HWD_SWEEP_POS_lid, 131070), (F.HWD_BLOB_BASE_LO_addr 1, 8388608)]).hwd.lost = [] ∧
    slotCheck (rooted [(F.HWD_GEN_sweep, 1), (F.HWD_GEN_gen1, 1), (F.HWD_SWEEP_POS_lid, 131070), (F.HWD_BLOB_BASE_LO_addr 1, 8388608)]) (2 + 0) 9 none = none ∧
    slotCheck (rooted [(F.HWD_GEN_sweep, 1), (F.HWD_GEN_gen1, 1), (F.HWD_SWEEP_POS_lid, 131070), (F.HWD_BLOB_BASE_LO_addr 1, 8388608)]) (2 + 1) 9 none = none ∧
    (rooted [(F.HWD_GEN_sweep, 1), (F.HWD_GEN_gen1, 1), (F.HWD_SWEEP_POS_lid, 131070), (F.HWD_BLOB_BASE_LO_addr 1, 8388608)]).get F.HWD_BLOB_CFG_en = 1 ∧
    (rooted [(F.HWD_GEN_sweep, 1), (F.HWD_GEN_gen1, 1), (F.HWD_SWEEP_POS_lid, 131070), (F.HWD_BLOB_BASE_LO_addr 1, 8388608)]).domOn 26 = true ∧
    (rooted [(F.HWD_GEN_sweep, 1), (F.HWD_GEN_gen1, 1), (F.HWD_SWEEP_POS_lid, 131070), (F.HWD_BLOB_BASE_LO_addr 1, 8388608)]).get F.HWD_SWEEP_POS_lid = 131070 ∧
    131070 + 1 < 131072 ∧
    (rooted [(F.HWD_GEN_sweep, 1), (F.HWD_GEN_gen1, 1), (F.HWD_SWEEP_POS_lid, 131070), (F.HWD_BLOB_BASE_LO_addr 1, 8388608)]).dramOk (blobAddr (rooted [(F.HWD_GEN_sweep, 1), (F.HWD_GEN_gen1, 1), (F.HWD_SWEEP_POS_lid, 131070), (F.HWD_BLOB_BASE_LO_addr 1, 8388608)]) 0 131070) 64 = true ∧
    (rooted [(F.HWD_GEN_sweep, 1), (F.HWD_GEN_gen1, 1), (F.HWD_SWEEP_POS_lid, 131070), (F.HWD_BLOB_BASE_LO_addr 1, 8388608)]).dramOk (blobAddr (rooted [(F.HWD_GEN_sweep, 1), (F.HWD_GEN_gen1, 1), (F.HWD_SWEEP_POS_lid, 131070), (F.HWD_BLOB_BASE_LO_addr 1, 8388608)]) 1 131070) 64 = true ∧
    bit (byteAt ((rooted [(F.HWD_GEN_sweep, 1), (F.HWD_GEN_gen1, 1), (F.HWD_SWEEP_POS_lid, 131070), (F.HWD_BLOB_BASE_LO_addr 1, 8388608)]).dramRead (blobAddr (rooted [(F.HWD_GEN_sweep, 1), (F.HWD_GEN_gen1, 1), (F.HWD_SWEEP_POS_lid, 131070), (F.HWD_BLOB_BASE_LO_addr 1, 8388608)]) 0 131070) 64) 1) 1 = false) ∧
   (({ rooted [(F.HWD_GEN_sweep, 1), (F.HWD_GEN_gen1, 1), (F.HWD_SWEEP_POS_lid, 131071), (F.HWD_BLOB_CFG_en, 0)] with rgp := { pending := some 1 } }).get F.HWD_GEN_sweep = 1 ∧
    activeGen ({ rooted [(F.HWD_GEN_sweep, 1), (F.HWD_GEN_gen1, 1), (F.HWD_SWEEP_POS_lid, 131071), (F.HWD_BLOB_CFG_en, 0)] with rgp := { pending := some 1 } }) = some 0 ∧
    firstBelow 2 (fun n => decide (genState ({ rooted [(F.HWD_GEN_sweep, 1), (F.HWD_GEN_gen1, 1), (F.HWD_SWEEP_POS_lid, 131071), (F.HWD_BLOB_CFG_en, 0)] with rgp := { pending := some 1 } }) n = 1)) = some 1 ∧
    kwpAlive ({ rooted [(F.HWD_GEN_sweep, 1), (F.HWD_GEN_gen1, 1), (F.HWD_SWEEP_POS_lid, 131071), (F.HWD_BLOB_CFG_en, 0)] with rgp := { pending := some 1 } }) = true ∧
    ({ rooted [(F.HWD_GEN_sweep, 1), (F.HWD_GEN_gen1, 1), (F.HWD_SWEEP_POS_lid, 131071), (F.HWD_BLOB_CFG_en, 0)] with rgp := { pending := some 1 } }).get F.HWD_STATUS_locked = 0 ∧
    ({ rooted [(F.HWD_GEN_sweep, 1), (F.HWD_GEN_gen1, 1), (F.HWD_SWEEP_POS_lid, 131071), (F.HWD_BLOB_CFG_en, 0)] with rgp := { pending := some 1 } }).secHalted = false ∧
    ({ rooted [(F.HWD_GEN_sweep, 1), (F.HWD_GEN_gen1, 1), (F.HWD_SWEEP_POS_lid, 131071), (F.HWD_BLOB_CFG_en, 0)] with rgp := { pending := some 1 } }).hwd.lost = [] ∧
    slotCheck ({ rooted [(F.HWD_GEN_sweep, 1), (F.HWD_GEN_gen1, 1), (F.HWD_SWEEP_POS_lid, 131071), (F.HWD_BLOB_CFG_en, 0)] with rgp := { pending := some 1 } }) (2 + 0) 9 none = none ∧
    slotCheck ({ rooted [(F.HWD_GEN_sweep, 1), (F.HWD_GEN_gen1, 1), (F.HWD_SWEEP_POS_lid, 131071), (F.HWD_BLOB_CFG_en, 0)] with rgp := { pending := some 1 } }) (2 + 1) 9 none = none ∧
    ({ rooted [(F.HWD_GEN_sweep, 1), (F.HWD_GEN_gen1, 1), (F.HWD_SWEEP_POS_lid, 131071), (F.HWD_BLOB_CFG_en, 0)] with rgp := { pending := some 1 } }).get F.HWD_SWEEP_POS_lid = 131071 ∧
    ({ rooted [(F.HWD_GEN_sweep, 1), (F.HWD_GEN_gen1, 1), (F.HWD_SWEEP_POS_lid, 131071), (F.HWD_BLOB_CFG_en, 0)] with rgp := { pending := some 1 } }).rgp.pending ≠ none) ∧
   ((up [(F.HWD_DRBG_healthy, 1)]).domOn 0 = true ∧ (up [(F.HWD_DRBG_healthy, 1)]).domOn 2 = true ∧
    (up [(F.HWD_DRBG_healthy, 1)]).get F.HWD_DRBG_healthy = 1 ∧ coreFenced (up [(F.HWD_DRBG_healthy, 1)]) 0 = false) := 
  ⟨by decide +kernel, by decide +kernel, by decide +kernel, by decide +kernel, by decide +kernel⟩

theorem test_SignaturesAndExports_hypotheses :
   (1 < 2 ∧ ({ rooted [] with hwd := { keys := ownKeys, nextIdx := 63, resvIdx := 64 } }).domOn 2 = true ∧
    ({ rooted [] with hwd := { keys := ownKeys, nextIdx := 63, resvIdx := 64 } }).get (F.HWD_CMD_busy 1) = 0 ∧
    ({ rooted [] with hwd := { keys := ownKeys, nextIdx := 63, resvIdx := 64 } }).pruned 11 0 = false ∧
    ({ rooted [] with hwd := { keys := ownKeys, nextIdx := 63, resvIdx := 64 } }).prune.secRestarting = false ∧
    ({ rooted [] with hwd := { keys := ownKeys, nextIdx := 63, resvIdx := 64 } }).secHalted = false ∧
    measured ({ rooted [] with hwd := { keys := ownKeys, nextIdx := 63, resvIdx := 64 } }) = true ∧
    ({ rooted [] with hwd := { keys := ownKeys, nextIdx := 63, resvIdx := 64 } }).get F.HWD_SIGN_CFG_tokens ≠ 0 ∧
    ({ rooted [] with hwd := { keys := ownKeys, nextIdx := 63, resvIdx := 64 } }).hwd.nextIdx < ({ rooted [] with hwd := { keys := ownKeys, nextIdx := 63, resvIdx := 64 } }).hwd.resvIdx ∧
    ({ rooted [] with hwd := { keys := ownKeys, nextIdx := 63, resvIdx := 64 } }).hwd.nextIdx < 2 ^ 40 ∧
    keyBar ({ rooted [] with hwd := { keys := ownKeys, nextIdx := 63, resvIdx := 64 } }) = none ∧
    otherSigning ({ rooted [] with hwd := { keys := ownKeys, nextIdx := 63, resvIdx := 64 } }) 1 = none ∧
    ({ rooted [] with hwd := { keys := ownKeys, nextIdx := 63, resvIdx := 64 } }).domOn 26 = true ∧
    OwnSlots ({ rooted [] with hwd := { keys := ownKeys, nextIdx := 63, resvIdx := 64 } }) [5, 6, 7] 11 ∧
    ({ rooted [] with hwd := { keys := ownKeys, nextIdx := 63, resvIdx := 64 } }).dramOk (cmdBuf ({ rooted [] with hwd := { keys := ownKeys, nextIdx := 63, resvIdx := 64 } }) 1) 32 = true ∧
    ({ rooted [] with hwd := { keys := ownKeys, nextIdx := 63, resvIdx := 64 } }).dramRead (cmdBuf ({ rooted [] with hwd := { keys := ownKeys, nextIdx := 63, resvIdx := 64 } }) 1) 32 = (List.replicate 32 0#8 : List Byte) ∧
    coreFenced ({ rooted [] with hwd := { keys := ownKeys, nextIdx := 63, resvIdx := 64 } }) 0 = false) ∧
   (0 < 2 ∧
    ({ rooted [(F.HWD_CMD_CNT_count 0, 1)] with hwd := { keys := ownKeys, nextIdx := 63, resvIdx := 64 } }).domOn 2 = true ∧
    ({ rooted [(F.HWD_CMD_CNT_count 0, 1)] with hwd := { keys := ownKeys, nextIdx := 63, resvIdx := 64 } }).get (F.HWD_CMD_busy 0) = 0 ∧
    ({ rooted [(F.HWD_CMD_CNT_count 0, 1)] with hwd := { keys := ownKeys, nextIdx := 63, resvIdx := 64 } }).pruned 11 0 = false ∧
    ({ rooted [(F.HWD_CMD_CNT_count 0, 1)] with hwd := { keys := ownKeys, nextIdx := 63, resvIdx := 64 } }).prune.secRestarting = false ∧
    ({ rooted [(F.HWD_CMD_CNT_count 0, 1)] with hwd := { keys := ownKeys, nextIdx := 63, resvIdx := 64 } }).secHalted = false ∧
    measured ({ rooted [(F.HWD_CMD_CNT_count 0, 1)] with hwd := { keys := ownKeys, nextIdx := 63, resvIdx := 64 } }) = true ∧
    ({ rooted [(F.HWD_CMD_CNT_count 0, 1)] with hwd := { keys := ownKeys, nextIdx := 63, resvIdx := 64 } }).get F.HWD_SIGN_CFG_tokens ≠ 0 ∧
    ({ rooted [(F.HWD_CMD_CNT_count 0, 1)] with hwd := { keys := ownKeys, nextIdx := 63, resvIdx := 64 } }).hwd.nextIdx < ({ rooted [(F.HWD_CMD_CNT_count 0, 1)] with hwd := { keys := ownKeys, nextIdx := 63, resvIdx := 64 } }).hwd.resvIdx ∧
    ({ rooted [(F.HWD_CMD_CNT_count 0, 1)] with hwd := { keys := ownKeys, nextIdx := 63, resvIdx := 64 } }).hwd.nextIdx < 2 ^ 40 ∧
    keyBar ({ rooted [(F.HWD_CMD_CNT_count 0, 1)] with hwd := { keys := ownKeys, nextIdx := 63, resvIdx := 64 } }) = none ∧
    otherSigning ({ rooted [(F.HWD_CMD_CNT_count 0, 1)] with hwd := { keys := ownKeys, nextIdx := 63, resvIdx := 64 } }) 0 = none ∧
    ({ rooted [(F.HWD_CMD_CNT_count 0, 1)] with hwd := { keys := ownKeys, nextIdx := 63, resvIdx := 64 } }).domOn 26 = true ∧
    OwnSlots ({ rooted [(F.HWD_CMD_CNT_count 0, 1)] with hwd := { keys := ownKeys, nextIdx := 63, resvIdx := 64 } }) [5, 6, 7] 11 ∧
    OwnSlots ({ rooted [(F.HWD_CMD_CNT_count 0, 1)] with hwd := { keys := ownKeys, nextIdx := 63, resvIdx := 64 } }) [4] 10 ∧
    ({ rooted [(F.HWD_CMD_CNT_count 0, 1)] with hwd := { keys := ownKeys, nextIdx := 63, resvIdx := 64 } }).dramOk (cmdBuf ({ rooted [(F.HWD_CMD_CNT_count 0, 1)] with hwd := { keys := ownKeys, nextIdx := 63, resvIdx := 64 } }) 0) 32 = true ∧
    ({ rooted [(F.HWD_CMD_CNT_count 0, 1)] with hwd := { keys := ownKeys, nextIdx := 63, resvIdx := 64 } }).get (F.HWD_CMD_CNT_count 0) ≤ 4096 ∧
    coreFenced ({ rooted [(F.HWD_CMD_CNT_count 0, 1)] with hwd := { keys := ownKeys, nextIdx := 63, resvIdx := 64 } }) 0 = false) ∧
   (0 < 2 ∧ (rooted [(F.HWD_SIGN_CFG_tokens, 0)]).domOn 2 = true ∧
    (rooted [(F.HWD_SIGN_CFG_tokens, 0)]).get (F.HWD_CMD_busy 0) = 0 ∧
    (rooted [(F.HWD_SIGN_CFG_tokens, 0)]).pruned 11 0 = false ∧
    (rooted [(F.HWD_SIGN_CFG_tokens, 0)]).prune.secRestarting = false ∧
    (rooted [(F.HWD_SIGN_CFG_tokens, 0)]).secHalted = false ∧ measured (rooted [(F.HWD_SIGN_CFG_tokens, 0)]) = true ∧
    (rooted [(F.HWD_SIGN_CFG_tokens, 0)]).domOn 26 = true ∧ keyBar (rooted [(F.HWD_SIGN_CFG_tokens, 0)]) = none ∧
    otherSigning (rooted [(F.HWD_SIGN_CFG_tokens, 0)]) 0 = none ∧ OwnSlots (rooted [(F.HWD_SIGN_CFG_tokens, 0)]) [5, 6, 7] 11 ∧
    (rooted [(F.HWD_SIGN_CFG_tokens, 0)]).dramOk (cmdBuf (rooted [(F.HWD_SIGN_CFG_tokens, 0)]) 0) 32 = true ∧
    (rooted [(F.HWD_SIGN_CFG_tokens, 0)]).get F.HWD_SIGN_CFG_tokens = 0 ∧
    coreFenced (rooted [(F.HWD_SIGN_CFG_tokens, 0)]) 0 = false) ∧
   (0 < 2 ∧ (rooted []).domOn 2 = true ∧ (rooted []).get (F.HWD_CMD_busy 0) = 0 ∧ (rooted []).pruned 11 0 = false ∧
    (rooted []).prune.secRestarting = false ∧ (rooted []).secHalted = false ∧ measured (rooted []) = true ∧
    (rooted []).domOn 26 = true ∧ keyBar (rooted []) = none ∧ OwnSlots (rooted []) [4] 10 ∧
    (rooted []).dramOk (cmdBuf (rooted []) 0) 128 = true ∧ leAt ((rooted []).dramRead (cmdBuf (rooted []) 0) 128) 6 2 = 0 ∧
    (rooted []).dramOk (cmdBuf (rooted []) 0) (160 + 32 * 0) = true ∧
    (rooted []).dramRead (cmdBuf (rooted []) 0) (160 + 32 * 0) = (List.replicate 160 0#8 : List Byte) ∧
    coreFenced (rooted []) 0 = false) ∧
   (1 < 2 ∧ (rooted []).domOn 2 = true ∧ (rooted []).get (F.HWD_CMD_busy 1) = 0 ∧ (rooted []).pruned 11 0 = false ∧
    (rooted []).prune.secRestarting = false ∧ (rooted []).secHalted = false ∧ rootIndex (rooted []) ≠ 0 ∧
    OwnSlots (rooted []) [8, 9] 12 ∧ coreFenced (rooted []) 0 = false) ∧
   (2 = max 1 ((({ up [(F.HWD_SIGN_CFG_tokens, 61), (F.HWD_SIGN_CFG_rate, 1)] with time := { ns := 2999999999 } }).now - ({ up [(F.HWD_SIGN_CFG_tokens, 61), (F.HWD_SIGN_CFG_rate, 1)] with time := { ns := 2999999999 } }).hwd.refilled) / tokenPeriod ({ up [(F.HWD_SIGN_CFG_tokens, 61), (F.HWD_SIGN_CFG_rate, 1)] with time := { ns := 2999999999 } })) ∧
    ({ up [(F.HWD_SIGN_CFG_tokens, 61), (F.HWD_SIGN_CFG_rate, 1)] with time := { ns := 2999999999 } }).hwd.refilled + tokenPeriod ({ up [(F.HWD_SIGN_CFG_tokens, 61), (F.HWD_SIGN_CFG_rate, 1)] with time := { ns := 2999999999 } }) ≤ ({ up [(F.HWD_SIGN_CFG_tokens, 61), (F.HWD_SIGN_CFG_rate, 1)] with time := { ns := 2999999999 } }).now) ∧
   ((up [(F.HWD_SIGN_CFG_tokens, 64)]).now < (up [(F.HWD_SIGN_CFG_tokens, 64)]).hwd.refilled + tokenPeriod (up [(F.HWD_SIGN_CFG_tokens, 64)]) ∧
    (up [(F.HWD_SIGN_CFG_tokens, 64)]).hwd.refilled ≤ (up [(F.HWD_SIGN_CFG_tokens, 64)]).now) := 
  ⟨by decide +kernel, by decide +kernel, by decide +kernel, by decide +kernel, by decide +kernel, by decide +kernel, by decide +kernel⟩

theorem test_KeyUpdateMessages_hypotheses :
   (0 < 2 ∧ (rooted []).domOn 2 = true ∧ (rooted []).get (F.HWD_CMD_busy 0) = 0 ∧ (rooted []).pruned 11 0 = false ∧
    (rooted []).prune.secRestarting = false ∧ (rooted []).secHalted = false ∧
    (tabFind (rooted []).hwd.runs (1 - 0)).map HwdRun.op ≠ some 16 ∧ otherSigning (rooted []) 0 = none ∧
    coreFenced (rooted []) 0 = false) ∧
   (1 < 2 ∧ ({ rooted [] with hwd := { runs := [(0, ⟨16, 0, false, true, 0, 0, none, 0, 0, []⟩)] } }).domOn 2 = true ∧
    ({ rooted [] with hwd := { runs := [(0, ⟨16, 0, false, true, 0, 0, none, 0, 0, []⟩)] } }).get (F.HWD_CMD_busy 1) = 0 ∧
    ({ rooted [] with hwd := { runs := [(0, ⟨16, 0, false, true, 0, 0, none, 0, 0, []⟩)] } }).pruned 11 0 = false ∧
    ({ rooted [] with hwd := { runs := [(0, ⟨16, 0, false, true, 0, 0, none, 0, 0, []⟩)] } }).prune.secRestarting = false ∧
    ({ rooted [] with hwd := { runs := [(0, ⟨16, 0, false, true, 0, 0, none, 0, 0, []⟩)] } }).secHalted = false ∧
    (tabFind ({ rooted [] with hwd := { runs := [(0, ⟨16, 0, false, true, 0, 0, none, 0, 0, []⟩)] } }).hwd.runs (1 - 1)).map HwdRun.op = some 16 ∧
    coreFenced ({ rooted [] with hwd := { runs := [(0, ⟨16, 0, false, true, 0, 0, none, 0, 0, []⟩)] } }) 0 = false) ∧
   (0 < 2 ∧ ({ rooted [] with hwd := { runs := [(0, ⟨16, 0, false, true, 0, 0, none, 0, 0, []⟩)] } }).domOn 2 = true ∧
    ({ rooted [] with hwd := { runs := [(0, ⟨16, 0, false, true, 0, 0, none, 0, 0, []⟩)] } }).prune.secRestarting = false ∧
    ({ rooted [] with hwd := { runs := [(0, ⟨16, 0, false, true, 0, 0, none, 0, 0, []⟩)] } }).secHalted = false ∧
    measured ({ rooted [] with hwd := { runs := [(0, ⟨16, 0, false, true, 0, 0, none, 0, 0, []⟩)] } }) = true ∧
    tabFind ({ rooted [] with hwd := { runs := [(0, ⟨16, 0, false, true, 0, 0, none, 0, 0, []⟩)] } }).hwd.runs 0 = some ⟨16, 0, false, true, 0, 0, none, 0, 0, []⟩ ∧
    rootIndex ({ rooted [] with hwd := { runs := [(0, ⟨16, 0, false, true, 0, 0, none, 0, 0, []⟩)] } }) ≠ 0 ∧
    ({ rooted [] with hwd := { runs := [(0, ⟨16, 0, false, true, 0, 0, none, 0, 0, []⟩)] } }).get F.HWD_STATUS_locked = 0 ∧
    ({ rooted [] with hwd := { runs := [(0, ⟨16, 0, false, true, 0, 0, none, 0, 0, []⟩)] } }).domOn 26 = true ∧
    ({ rooted [] with hwd := { runs := [(0, ⟨16, 0, false, true, 0, 0, none, 0, 0, []⟩)] } }).dramOk (cmdBuf ({ rooted [] with hwd := { runs := [(0, ⟨16, 0, false, true, 0, 0, none, 0, 0, []⟩)] } }) 0) 64 = true ∧
    ({ rooted [] with hwd := { runs := [(0, ⟨16, 0, false, true, 0, 0, none, 0, 0, []⟩)] } }).dramRead (cmdBuf ({ rooted [] with hwd := { runs := [(0, ⟨16, 0, false, true, 0, 0, none, 0, 0, []⟩)] } }) 0) 64 = (List.replicate 64 0#8 : List Byte) ∧
    kuFormat (List.replicate 64 0#8 : List Byte) = none) ∧
   (1 < 2 ∧ ({ unlocking with hwd := { runs := [(1, ⟨16, 0, false, true, 0, 0, none, 0, 0, []⟩)] } }).domOn 2 = true ∧
    ({ unlocking with hwd := { runs := [(1, ⟨16, 0, false, true, 0, 0, none, 0, 0, []⟩)] } }).prune.secRestarting = false ∧
    ({ unlocking with hwd := { runs := [(1, ⟨16, 0, false, true, 0, 0, none, 0, 0, []⟩)] } }).secHalted = false ∧
    measured ({ unlocking with hwd := { runs := [(1, ⟨16, 0, false, true, 0, 0, none, 0, 0, []⟩)] } }) = true ∧
    tabFind ({ unlocking with hwd := { runs := [(1, ⟨16, 0, false, true, 0, 0, none, 0, 0, []⟩)] } }).hwd.runs 1 = some ⟨16, 0, false, true, 0, 0, none, 0, 0, []⟩ ∧
    rootIndex ({ unlocking with hwd := { runs := [(1, ⟨16, 0, false, true, 0, 0, none, 0, 0, []⟩)] } }) ≠ 0 ∧
    ({ unlocking with hwd := { runs := [(1, ⟨16, 0, false, true, 0, 0, none, 0, 0, []⟩)] } }).domOn 26 = true ∧
    ({ unlocking with hwd := { runs := [(1, ⟨16, 0, false, true, 0, 0, none, 0, 0, []⟩)] } }).dramOk (cmdBuf ({ unlocking with hwd := { runs := [(1, ⟨16, 0, false, true, 0, 0, none, 0, 0, []⟩)] } }) 1) 2892 = true ∧
    ({ unlocking with hwd := { runs := [(1, ⟨16, 0, false, true, 0, 0, none, 0, 0, []⟩)] } }).dramRead (cmdBuf ({ unlocking with hwd := { runs := [(1, ⟨16, 0, false, true, 0, 0, none, 0, 0, []⟩)] } }) 1) 64 = unlockHeader ∧
    ({ unlocking with hwd := { runs := [(1, ⟨16, 0, false, true, 0, 0, none, 0, 0, []⟩)] } }).dramRead (cmdBuf ({ unlocking with hwd := { runs := [(1, ⟨16, 0, false, true, 0, 0, none, 0, 0, []⟩)] } }) 1) 2892 = (unlockHeader ++ List.replicate 2828 0#8 : List Byte) ∧
    kuFormat unlockHeader = some (⟨1, [2, 3, 4], false, 8⟩ : KuKind) ∧ byteAt unlockHeader 5 = 5 ∧ byteAt unlockHeader 6 = 1) ∧
   (1 < 2 ∧ unlocking.domOn 2 = true ∧ unlocking.get (F.HWD_CMD_busy 1) = 0 ∧ unlocking.pruned 11 0 = false ∧
    unlocking.prune.secRestarting = false ∧ unlocking.secHalted = false ∧ measured unlocking = true ∧ rootIndex unlocking ≠ 0 ∧
    unlocking.domOn 26 = true ∧ (tabFind unlocking.hwd.runs (1 - 1)).map HwdRun.op ≠ some 16 ∧
    unlocking.dramOk (cmdBuf unlocking 1) 2892 = true ∧ unlocking.dramRead (cmdBuf unlocking 1) 64 = unlockHeader ∧
    unlocking.dramRead (cmdBuf unlocking 1) 2892 = (unlockHeader ++ List.replicate 2828 0#8 : List Byte) ∧
    kuFormat unlockHeader = some (⟨1, [2, 3, 4], false, 8⟩ : KuKind) ∧ byteAt unlockHeader 5 = 5 ∧ byteAt unlockHeader 6 = 1 ∧
    coreFenced unlocking 0 = false) := 
  ⟨by decide +kernel, by decide +kernel, by decide +kernel, by decide +kernel, by decide +kernel⟩

theorem test_TamperSensors_hypotheses_1 :
   (5 < 10 ∧ sensorMet (up [(F.BRK_SENSOR_CFG_class 5, 1)]) 5 ([] : List Bool) = true ∧
    barkClass (up [(F.BRK_SENSOR_CFG_class 5, 1)]) 5 false = 1 ∧
    (up [(F.BRK_SENSOR_CFG_class 5, 1)]).get (F.BRK_SENSOR_CFG_episode 5) = 0 ∧
    (up [(F.BRK_SENSOR_CFG_class 5, 1)]).bark.lc = none) ∧
   (5 < 10 ∧ sensorMet (up [(F.BRK_SENSOR_CFG_class 5, 2)]) 5 ([] : List Bool) = true ∧
    barkClass (up [(F.BRK_SENSOR_CFG_class 5, 2)]) 5 false = 2 ∧ 2 ≤ 2 ∧
    (up [(F.BRK_SENSOR_CFG_class 5, 2)]).get (F.BRK_SENSOR_CFG_episode 5) = 0 ∧
    (up [(F.BRK_SENSOR_CFG_class 5, 2)]).bark.lc = none ∧ (up [(F.BRK_SENSOR_CFG_class 5, 2)]).get F.BRK_CTL_boot_done = 0 ∧
    (up [(F.BRK_SENSOR_CFG_class 5, 2)]).bark.hold = false) ∧
   (0 < 10 ∧
    sensorMet ({ up [(F.BRK_SENSOR_CFG_class 0, 3), (F.BRK_CTL_boot_done, 1)] with hwd := { cache := [(5, [⟨5, 1, ⟨[], []⟩⟩])] } }) 0 ([] : List Bool) = true ∧
    barkClass ({ up [(F.BRK_SENSOR_CFG_class 0, 3), (F.BRK_CTL_boot_done, 1)] with hwd := { cache := [(5, [⟨5, 1, ⟨[], []⟩⟩])] } }) 0 false = 3 ∧
    ({ up [(F.BRK_SENSOR_CFG_class 0, 3), (F.BRK_CTL_boot_done, 1)] with hwd := { cache := [(5, [⟨5, 1, ⟨[], []⟩⟩])] } }).get (F.BRK_SENSOR_CFG_episode 0) = 0 ∧
    ({ up [(F.BRK_SENSOR_CFG_class 0, 3), (F.BRK_CTL_boot_done, 1)] with hwd := { cache := [(5, [⟨5, 1, ⟨[], []⟩⟩])] } }).bark.lc = none ∧
    ({ up [(F.BRK_SENSOR_CFG_class 0, 3), (F.BRK_CTL_boot_done, 1)] with hwd := { cache := [(5, [⟨5, 1, ⟨[], []⟩⟩])] } }).get F.BRK_CTL_boot_done = 1 ∧
    ({ up [(F.BRK_SENSOR_CFG_class 0, 3), (F.BRK_CTL_boot_done, 1)] with hwd := { cache := [(5, [⟨5, 1, ⟨[], []⟩⟩])] } }).domOn 2 = true) ∧
   (0 < 10 ∧
    sensorMet ({ up [(F.BRK_SENSOR_CFG_class 0, 2), (F.BRK_CTL_boot_done, 1)] with hwd := { cache := [(5, [⟨5, 1, ⟨[], []⟩⟩])] } }) 0 ([] : List Bool) = true ∧
    barkClass ({ up [(F.BRK_SENSOR_CFG_class 0, 2), (F.BRK_CTL_boot_done, 1)] with hwd := { cache := [(5, [⟨5, 1, ⟨[], []⟩⟩])] } }) 0 false = 2 ∧
    ({ up [(F.BRK_SENSOR_CFG_class 0, 2), (F.BRK_CTL_boot_done, 1)] with hwd := { cache := [(5, [⟨5, 1, ⟨[], []⟩⟩])] } }).get (F.BRK_SENSOR_CFG_episode 0) = 0 ∧
    ({ up [(F.BRK_SENSOR_CFG_class 0, 2), (F.BRK_CTL_boot_done, 1)] with hwd := { cache := [(5, [⟨5, 1, ⟨[], []⟩⟩])] } }).bark.lc = none ∧
    ({ up [(F.BRK_SENSOR_CFG_class 0, 2), (F.BRK_CTL_boot_done, 1)] with hwd := { cache := [(5, [⟨5, 1, ⟨[], []⟩⟩])] } }).get F.BRK_CTL_boot_done = 1 ∧
    ({ up [(F.BRK_SENSOR_CFG_class 0, 2), (F.BRK_CTL_boot_done, 1)] with hwd := { cache := [(5, [⟨5, 1, ⟨[], []⟩⟩])] } }).domOn 2 = true) ∧
   (9 < 10) := 
  ⟨by decide +kernel, by decide +kernel, by decide +kernel, by decide +kernel, by decide +kernel⟩

theorem test_TamperSensors_hypotheses_2 :
   (9 < 10 ∧ State.reset.domOn 0 = true ∧ lifecycle State.reset ≠ 3 ∧ coreFenced State.reset 0 = false) ∧
   (0 < 10 ∧ (up [(F.BRK_LC_state, 3), (F.BRK_SENSOR_CFG_class 0, 3)]).domOn 0 = true ∧
    lifecycle (up [(F.BRK_LC_state, 3), (F.BRK_SENSOR_CFG_class 0, 3)]) = 3 ∧
    (2#32 : Word).toNat % 4 < (up [(F.BRK_LC_state, 3), (F.BRK_SENSOR_CFG_class 0, 3)]).get (F.BRK_SENSOR_CFG_class 0) ∧
    coreFenced (up [(F.BRK_LC_state, 3), (F.BRK_SENSOR_CFG_class 0, 3)]) 0 = false) ∧
   ((up [(F.BRK_SENSOR_CFG_class 9, 2)]).domOn 0 = true ∧ lifecycle (up [(F.BRK_SENSOR_CFG_class 9, 2)]) ≠ 3 ∧
    coreFenced (up [(F.BRK_SENSOR_CFG_class 9, 2)]) 0 = false) ∧
   ((up [(F.DDR_SIZE_mib, 16)]).domOn 0 = true ∧ (up [(F.DDR_SIZE_mib, 16)]).domOn 26 = true ∧
    (up [(F.DDR_SIZE_mib, 16)]).bark.lc = none ∧
    (up [(F.DDR_SIZE_mib, 16)]).pair F.BRK_LC_ADDR_LO_addr F.BRK_LC_ADDR_HI_addr / 16 * 16 = 0 ∧
    (up [(F.DDR_SIZE_mib, 16)]).dramOk 0 (72 + 9893) = true ∧
    (up [(F.DDR_SIZE_mib, 16)]).dramRead 0 72 = (List.replicate 72 0#8 : List Byte) ∧
    coreFenced (up [(F.DDR_SIZE_mib, 16)]) 0 = false) ∧
   (({ State.reset with bark := { lc := some 3 } }).bark.lc = some 3 ∧ (3 = 2 ∨ 3 = 3 ∨ 3 = 5) ∧
    ({ State.reset with bark := { lc := some 3 } }).bark.waiting = []) := 
  ⟨by decide +kernel, by decide +kernel, by decide +kernel, by decide +kernel, by decide +kernel⟩

theorem test_LifecycleTransitions_hypotheses :
   ((up [(F.HWD_DRBG_healthy, 1)]).domOn 0 = true ∧ (up [(F.HWD_DRBG_healthy, 1)]).domOn 2 = true ∧
    (up [(F.HWD_DRBG_healthy, 1)]).get F.HWD_DRBG_healthy = 1 ∧ coreFenced (up [(F.HWD_DRBG_healthy, 1)]) 0 = false) ∧
   ((up [(F.DDR_SIZE_mib, 16)]).domOn 0 = true ∧ (up [(F.DDR_SIZE_mib, 16)]).domOn 26 = true ∧
    (up [(F.DDR_SIZE_mib, 16)]).bark.lc = none ∧
    (up [(F.DDR_SIZE_mib, 16)]).pair F.BRK_LC_ADDR_LO_addr F.BRK_LC_ADDR_HI_addr / 16 * 16 = 0 ∧
    (up [(F.DDR_SIZE_mib, 16)]).dramOk 0 (72 + 9893) = true ∧
    (up [(F.DDR_SIZE_mib, 16)]).dramRead 0 72 = (List.replicate 72 0#8 : List Byte) ∧
    coreFenced (up [(F.DDR_SIZE_mib, 16)]) 0 = false) ∧
   (({ State.reset with bark := { lc := some 3 } }).domOn 0 = true ∧
    ({ State.reset with bark := { lc := some 3 } }).bark.lc ≠ none ∧
    coreFenced ({ State.reset with bark := { lc := some 3 } }) 0 = false) ∧
   (State.reset.domOn 0 = true ∧ State.reset.domOn 2 = true ∧ State.reset.get F.HWD_DRBG_healthy = 0 ∧
    coreFenced State.reset 0 = false) ∧
   (({ State.reset with bark := { lc := some 3 } }).bark.lc = some 3 ∧ 1 ≤ 3 ∧ 3 ≤ 5 ∧
    ({ State.reset with bark := { lc := some 3 } }).bark.waiting = [] ∧
    (needsRoot 3 ({ State.reset with bark := { lc := some 3 } }) = false ∨ ({ State.reset with bark := { lc := some 3 } }).get F.HWD_DRBG_healthy = 1)) ∧
   (({ State.reset with bark := { lc := some 5 } }).bark.lc = some 5 ∧
    ({ State.reset with bark := { lc := some 5 } }).bark.waiting = [] ∧ 5 < 8 ∧
    (needsRoot 5 ({ State.reset with bark := { lc := some 5 } }) = false ∨ ({ State.reset with bark := { lc := some 5 } }).get F.HWD_DRBG_healthy = 1)) := 
  ⟨by decide +kernel, by decide +kernel, by decide +kernel, by decide +kernel, by decide +kernel, by decide +kernel⟩

theorem test_BootAndPlans_hypotheses_1 :
   (mayBoot ({ State.reset with board := { suppliesGood := true } }) = true) ∧
   (mayBoot ({ State.reset with board := { suppliesGood := true } }) = true ∧
    otpState ({ State.reset with board := { suppliesGood := true } }) ≠ 5 ∧
    ([(1, 1), (1, 0)] : List (Nat × Nat)).contains (1, 0) = true ∧ ([(1, 1), (1, 0)] : List (Nat × Nat)).contains (1, 1) = true) ∧
   (mayBoot (up [(F.BRK_CTL_boot_done, 1)]) = false) ∧
   ((up [(F.GRF_PLAN_types, 4 + 16), (F.GRF_READY_types, 31)]).domOn 2 = true ∧
    (up [(F.GRF_PLAN_types, 4 + 16), (F.GRF_READY_types, 31)]).secHalted = false ∧
    planBusy (up [(F.GRF_PLAN_types, 4 + 16), (F.GRF_READY_types, 31)]) = false ∧
    (onesOf ((up [(F.GRF_PLAN_types, 4 + 16), (F.GRF_READY_types, 31)]).get F.GRF_PLAN_types) 5).map (· + 1) = ([3, 5] : List Nat) ∧
    ([3, 5] : List Nat).find? (fun t => !bit ((up [(F.GRF_PLAN_types, 4 + 16), (F.GRF_READY_types, 31)]).get F.GRF_READY_types) (t - 1)) = none ∧
    ([3, 5] : List Nat).find? (fun t => decide (manSecurity (manifestStaged (up [(F.GRF_PLAN_types, 4 + 16), (F.GRF_READY_types, 31)]) t) < (up [(F.GRF_PLAN_types, 4 + 16), (F.GRF_READY_types, 31)]).get (F.GRF_FLOOR_security_ver t))) = none ∧
    ([3, 5] : List Nat).contains 2 = false ∧
    planOrder (up [(F.GRF_PLAN_types, 4 + 16), (F.GRF_READY_types, 31)]) ([3, 5] : List Nat) = some (3 :: ([5] : List Nat)) ∧
    coreFenced (up [(F.GRF_PLAN_types, 4 + 16), (F.GRF_READY_types, 31)]) 0 = false) ∧
   (({ up [] with grf := { plan := some (aPlan 3 false false) } }).domOn 2 = true ∧
    ({ up [] with grf := { plan := some (aPlan 3 false false) } }).secHalted = false ∧
    planBusy ({ up [] with grf := { plan := some (aPlan 3 false false) } }) = true ∧
    coreFenced ({ up [] with grf := { plan := some (aPlan 3 false false) } }) 0 = false) ∧
   (State.reset.domOn 2 = true ∧ State.reset.secHalted = false ∧ planBusy State.reset = false ∧
    State.reset.get F.GRF_PLAN_types = 0 ∧ coreFenced State.reset 0 = false) := 
  ⟨by decide +kernel, by decide +kernel, by decide +kernel, by decide +kernel, by decide +kernel, by decide +kernel⟩

theorem test_BootAndPlans_hypotheses_2 :
   (({ up [(F.HWD_GEN_sweep, 1)] with grf := { plan := some (aPlan 5 false false) } }).domOn 2 = true ∧
    ({ up [(F.HWD_GEN_sweep, 1)] with grf := { plan := some (aPlan 5 false false) } }).secHalted = false ∧
    ({ up [(F.HWD_GEN_sweep, 1)] with grf := { plan := some (aPlan 5 false false) } }).grf.plan = some (aPlan 5 false false : PlanRun) ∧
    (aPlan 5 false false : PlanRun).activated = false ∧ (aPlan 5 false false : PlanRun).type < 8 ∧
    coreFenced ({ up [(F.HWD_GEN_sweep, 1)] with grf := { plan := some (aPlan 5 false false) } }) 0 = false) ∧
   (({ up [] with grf := { plan := some (aPlan 5 true false) } }).domOn 2 = true ∧
    ({ up [] with grf := { plan := some (aPlan 5 true false) } }).secHalted = false ∧
    ({ up [] with grf := { plan := some (aPlan 5 true false) } }).grf.plan = some (aPlan 5 true false : PlanRun) ∧
    (aPlan 5 true false : PlanRun).activated = true ∧
    coreFenced ({ up [] with grf := { plan := some (aPlan 5 true false) } }) 0 = false) ∧
   (({ up [] with grf := { plan := some (aPlan 5 true false) } }).domOn 2 = true ∧
    ({ up [] with grf := { plan := some (aPlan 5 true false) } }).secHalted = false ∧
    ({ up [] with grf := { plan := some (aPlan 5 true false) } }).grf.plan = some (aPlan 5 true false : PlanRun) ∧
    (aPlan 5 true false : PlanRun).activated = true ∧ (aPlan 5 true false : PlanRun).type = 5 ∧
    coreFenced ({ up [] with grf := { plan := some (aPlan 5 true false) } }) 0 = false) ∧
   (({ up [(F.GRF_READY_types, 31)] with nv := { grafts := [(9, { manifest := aManifest })] } }).domOn 2 = true ∧
    ({ up [(F.GRF_READY_types, 31)] with nv := { grafts := [(9, { manifest := aManifest })] } }).secHalted = false ∧
    ({ up [(F.GRF_READY_types, 31)] with nv := { grafts := [(9, { manifest := aManifest })] } }).grf.plan = none ∧
    ({ up [(F.GRF_READY_types, 31)] with nv := { grafts := [(9, { manifest := aManifest })] } }).grf.applying = none ∧
    coreFenced ({ up [(F.GRF_READY_types, 31)] with nv := { grafts := [(9, { manifest := aManifest })] } }) 0 = false) ∧
   ((up [(F.GRF_BOOT_halt, 2)]).domOn 2 = true ∧ (up [(F.GRF_BOOT_halt, 2)]).secHalted = true ∧
    coreFenced (up [(F.GRF_BOOT_halt, 2)]) 0 = false) := 
  ⟨by decide +kernel, by decide +kernel, by decide +kernel, by decide +kernel, by decide +kernel⟩

theorem test_StepsOfAPlan_hypotheses :
   (({ up [(F.HWD_GEN_sweep, 2), (F.GRF_READY_types, 31)] with grf := { plan := some (aPlan 4 false false) } }).grf.plan = some (aPlan 4 false false : PlanRun) ∧
    (aPlan 4 false false : PlanRun).activated = false ∧
    ({ up [(F.HWD_GEN_sweep, 2), (F.GRF_READY_types, 31)] with grf := { plan := some (aPlan 4 false false) } }).get F.HWD_GEN_sweep = 2 ∧
    2 ≤ (aPlan 4 false false : PlanRun).type ∧ (aPlan 4 false false : PlanRun).type ≤ 5 ∧
    (aPlan 4 false false : PlanRun).oldSlot < 2) ∧
   (({ up [(F.HWD_GEN_sweep, 2)] with grf := { plan := some (aPlan 1 false false) } }).grf.plan = some (aPlan 1 false false : PlanRun) ∧
    (aPlan 1 false false : PlanRun).activated = false ∧
    ({ up [(F.HWD_GEN_sweep, 2)] with grf := { plan := some (aPlan 1 false false) } }).get F.HWD_GEN_sweep = 2 ∧
    (aPlan 1 false false : PlanRun).type = 1 ∧ (aPlan 1 false false : PlanRun).oldSlot < 2) ∧
   (({ up [] with grf := { plan := some (aPlan 3 true false) } }).grf.plan = some (aPlan 3 true false : PlanRun) ∧
    (aPlan 3 true false : PlanRun).activated = true ∧ 2 ≤ (aPlan 3 true false : PlanRun).type ∧
    (aPlan 3 true false : PlanRun).type ≤ 5) ∧
   (({ up [] with grf := { plan := some (aPlan 5 true true) } }).grf.plan = some (aPlan 5 true true : PlanRun) ∧
    (aPlan 5 true true : PlanRun).activated = true ∧ (aPlan 5 true true : PlanRun).rest = [] ∧
    (aPlan 5 true true : PlanRun).type = 5 ∧ 2 ≤ 5 ∧ 5 ≤ 5 ∧
    stepFailed (aPlan 5 true true : PlanRun) (({ up [] with grf := { plan := some (aPlan 5 true true) } }).reach (aPlan 5 true true : PlanRun).ends) = false ∧
    (aPlan 5 true true : PlanRun).oldSlot < 2) ∧
   (({ State.reset with grf := { plan := some { aPlan 3 true false with rest := [5] } } }).grf.plan = some ({ aPlan 3 true false with rest := [5] } : PlanRun) ∧
    ({ aPlan 3 true false with rest := [5] } : PlanRun).activated = true ∧
    ({ aPlan 3 true false with rest := [5] } : PlanRun).rest = 5 :: ([] : List Nat) ∧
    ({ aPlan 3 true false with rest := [5] } : PlanRun).cancelled = false ∧
    ({ aPlan 3 true false with rest := [5] } : PlanRun).type = 3 ∧ 2 ≤ 3 ∧ 3 ≤ 5 ∧
    stepFailed ({ aPlan 3 true false with rest := [5] } : PlanRun) (({ State.reset with grf := { plan := some { aPlan 3 true false with rest := [5] } } }).reach ({ aPlan 3 true false with rest := [5] } : PlanRun).ends) = false ∧
    ({ aPlan 3 true false with rest := [5] } : PlanRun).oldSlot < 2 ∧ 5 < 8) ∧
   (({ up [] with grf := { plan := some (aPlan 5 true false) } }).grf.plan = some (aPlan 5 true false : PlanRun) ∧
    (aPlan 5 true false : PlanRun).activated = true ∧ (aPlan 5 true false : PlanRun).type = 5 ∧ 2 ≤ 5 ∧ 5 ≤ 5 ∧
    (stepFailed (aPlan 5 true false : PlanRun) (({ up [] with grf := { plan := some (aPlan 5 true false) } }).reach (aPlan 5 true false : PlanRun).ends) = true ∨ (5 = 5 ∧ (aPlan 5 true false : PlanRun).confirmed = false))) ∧
   (({ up [(F.GRF_READY_types, 31)] with nv := { grafts := [(9, { manifest := aManifest })] } }).grf.applying = none ∧
    ({ up [(F.GRF_READY_types, 31)] with nv := { grafts := [(9, { manifest := aManifest })] } }).board.flashOp = none ∧
    allHeld (graft ({ up [(F.GRF_READY_types, 31)] with nv := { grafts := [(9, { manifest := aManifest })] } }) 9) = true ∧
    manPart (graft ({ up [(F.GRF_READY_types, 31)] with nv := { grafts := [(9, { manifest := aManifest })] } }) 9).manifest = 0x7160 ∧
    byteAt (graft ({ up [(F.GRF_READY_types, 31)] with nv := { grafts := [(9, { manifest := aManifest })] } }) 9).manifest 0x0A ≤ ({ up [(F.GRF_READY_types, 31)] with nv := { grafts := [(9, { manifest := aManifest })] } }).get F.GLB_ID_stepping ∧
    planHas ({ up [(F.GRF_READY_types, 31)] with nv := { grafts := [(9, { manifest := aManifest })] } }) (manType (graft ({ up [(F.GRF_READY_types, 31)] with nv := { grafts := [(9, { manifest := aManifest })] } }) 9).manifest) = false ∧
    manFull (graft ({ up [(F.GRF_READY_types, 31)] with nv := { grafts := [(9, { manifest := aManifest })] } }) 9).manifest = true ∧
    1 ≤ manType (graft ({ up [(F.GRF_READY_types, 31)] with nv := { grafts := [(9, { manifest := aManifest })] } }) 9).manifest ∧
    manType (graft ({ up [(F.GRF_READY_types, 31)] with nv := { grafts := [(9, { manifest := aManifest })] } }) 9).manifest ≤ 5) ∧
   (({ State.reset with nv := { grafts := [(9, { manifest := aManifest })] }, grf := { applying := some 9 } }).grf.applying = some 9 ∧
    manType (graft ({ State.reset with nv := { grafts := [(9, { manifest := aManifest })] }, grf := { applying := some 9 } }) 9).manifest = 3 ∧
    1 ≤ 3 ∧ 3 ≤ 5 ∧
    ((((none : Option (List Byte)) : Option (List Byte)).bind (fun x => (imageSlot ({ State.reset with nv := { grafts := [(9, { manifest := aManifest })] }, grf := { applying := some 9 } }) 3 (1 - (bootRec ({ State.reset with nv := { grafts := [(9, { manifest := aManifest })] }, grf := { applying := some 9 } }) 3).active)).map (fun z => decide (page (graft ({ State.reset with nv := { grafts := [(9, { manifest := aManifest })] }, grf := { applying := some 9 } }) 9).manifest.length + x.length ≤ z.2)))).getD false) = false ∧
    applyDelta (graft ({ State.reset with nv := { grafts := [(9, { manifest := aManifest })] }, grf := { applying := some 9 } }) 9).manifest (graftDelta (graft ({ State.reset with nv := { grafts := [(9, { manifest := aManifest })] }, grf := { applying := some 9 } }) 9)) (((activeImage ({ State.reset with nv := { grafts := [(9, { manifest := aManifest })] }, grf := { applying := some 9 } }) 3).map Image.bytes).getD []) = ((none : Option (List Byte)) : Option (List Byte))) := 
  ⟨by decide +kernel, by decide +kernel, by decide +kernel, by decide +kernel, by decide +kernel, by decide +kernel, by decide +kernel, by decide +kernel⟩

theorem test_GroveMessages_hypotheses_1 :
   (MessageArrives (inGrove [(F.GRV_PEER_STATUS_state 3, 1)]) 0x01 2 (groveEth (groveMsg 0x01 [1#8, 2#8, 0#8, 0#8]) : List Byte) (groveMsg 0x01 [1#8, 2#8, 0#8, 0#8] : List Byte) 0) ∧
   (MessageArrives (inGrove []) 0x02 2 (groveEth (groveMsg 0x02 [2#8, 0#8, 0#8, 0#8]) : List Byte) (groveMsg 0x02 [2#8, 0#8, 0#8, 0#8] : List Byte) 0 ∧
    byteAt (bodyOf (groveMsg 0x02 [2#8, 0#8, 0#8, 0#8] : List Byte)) 0 = 2 ∧ 2 < 4) ∧
   (MessageArrives (inGrove [(F.GRV_PEER_STATUS_state 3, 1), (F.GRV_PEER_STATUS_misses 3, 2)]) 0x03 2 (groveEth (groveMsg 0x03 (List.replicate 24 0#8)) : List Byte) (groveMsg 0x03 (List.replicate 24 0#8) : List Byte) 0) ∧
   (MessageArrives (inGrove [(F.BGH_SET0_epoch 4095, 7), (F.BGH_SET1_valid 4095, 1), (F.BGH_SET1_owner 4095, 1)]) 0x04 2 (groveEth (groveMsg 0x04 ([1#8, 0#8, 0#8, 0#8, 0xFF#8, 0x0F#8, 0#8, 0#8] ++ leBytes 4 8)) : List Byte) (groveMsg 0x04 ([1#8, 0#8, 0#8, 0#8, 0xFF#8, 0x0F#8, 0#8, 0#8] ++ leBytes 4 8) : List Byte) 0 ∧
    leAt (bodyOf (groveMsg 0x04 ([1#8, 0#8, 0#8, 0#8, 0xFF#8, 0x0F#8, 0#8, 0#8] ++ leBytes 4 8) : List Byte)) 0 2 = 1 ∧
    12 ≤ (bodyOf (groveMsg 0x04 ([1#8, 0#8, 0#8, 0#8, 0xFF#8, 0x0F#8, 0#8, 0#8] ++ leBytes 4 8) : List Byte)).length ∧
    leAt (bodyOf (groveMsg 0x04 ([1#8, 0#8, 0#8, 0#8, 0xFF#8, 0x0F#8, 0#8, 0#8] ++ leBytes 4 8) : List Byte)) 4 2 = 4095 ∧
    4095 < 4096 ∧
    leAt (bodyOf (groveMsg 0x04 ([1#8, 0#8, 0#8, 0#8, 0xFF#8, 0x0F#8, 0#8, 0#8] ++ leBytes 4 8) : List Byte)) 8 4 = 8 ∧
    (inGrove [(F.BGH_SET0_epoch 4095, 7), (F.BGH_SET1_valid 4095, 1), (F.BGH_SET1_owner 4095, 1)]).get (F.BGH_SET0_epoch 4095) < 8) ∧
   (MessageArrives (inGrove []) 0x05 2 (groveEth (groveMsg 0x05 []) : List Byte) (groveMsg 0x05 [] : List Byte) 0 ∧
    canTake (inGrove []) 5 (ceilDiv (groveEth (groveMsg 0x05 []) : List Byte).length 256) = true ∧
    (inGrove []).get (F.TRF_POOL_USED_used 1) = 0 ∧ (inGrove []).get F.GRV_CFG_q = 0 ∧
    tabGet (inGrove []).traffic.hosts 0 [] = [] ∧ (inGrove []).get (F.TRF_HQ_TH_CFG_en 0) = 0) := 
  ⟨by decide +kernel, by decide +kernel, by decide +kernel, by decide +kernel, by decide +kernel⟩

theorem test_GroveMessages_hypotheses_2 :
   (MessageArrives (inGrove []) 0x06 2 (groveEth (groveMsg 0x06 []) : List Byte) (groveMsg 0x06 [] : List Byte) 0 ∧
    canTake (inGrove []) 5 (ceilDiv (groveEth (groveMsg 0x06 []) : List Byte).length 256) = true ∧
    (inGrove []).get (F.TRF_POOL_USED_used 1) = 0 ∧ (inGrove []).get F.GRV_CFG_q = 0 ∧
    tabGet (inGrove []).traffic.hosts 0 [] = [] ∧ (inGrove []).get (F.TRF_HQ_TH_CFG_en 0) = 0 ∧
    (inGrove []).get (F.GRV_PEER_STATUS_ver (byteAt (groveMsg 0x06 [] : List Byte) 3)) ≠ 1) ∧
   (MessageArrives (inGrove [(F.GRV_CFG_q, 7)]) 0x07 2 (groveEth (groveMsg 0x07 []) : List Byte) (groveMsg 0x07 [] : List Byte) 0 ∧
    canTake (inGrove [(F.GRV_CFG_q, 7)]) 5 (ceilDiv (groveEth (groveMsg 0x07 []) : List Byte).length 256) = true ∧
    (inGrove [(F.GRV_CFG_q, 7)]).get (F.TRF_POOL_USED_used 1) = 0 ∧ (inGrove [(F.GRV_CFG_q, 7)]).get F.GRV_CFG_q = 7 ∧
    tabGet (inGrove [(F.GRV_CFG_q, 7)]).traffic.hosts 7 [] = [] ∧ (inGrove [(F.GRV_CFG_q, 7)]).get (F.TRF_HQ_TH_CFG_en 7) = 0 ∧
    (inGrove [(F.GRV_CFG_q, 7)]).get (F.GRV_PEER_STATUS_ver (byteAt (groveMsg 0x07 [] : List Byte) 3)) ≠ 1) ∧
   (MessageArrives (inGrove []) 0x08 2 (groveEth (groveMsg 0x08 []) : List Byte) (groveMsg 0x08 [] : List Byte) 0 ∧
    canTake (inGrove []) 5 (ceilDiv (groveEth (groveMsg 0x08 []) : List Byte).length 256) = true ∧
    (inGrove []).get (F.TRF_POOL_USED_used 1) = 0 ∧ (inGrove []).get F.GRV_CFG_q = 0 ∧
    tabGet (inGrove []).traffic.hosts 0 [] = [] ∧ (inGrove []).get (F.TRF_HQ_TH_CFG_en 0) = 0 ∧
    (inGrove []).get (F.GRV_PEER_STATUS_ver (byteAt (groveMsg 0x08 [] : List Byte) 3)) ≠ 1) ∧
   (MessageArrives (inGrove [(F.GRV_PEER_STATUS_ver 3, 1)]) 0x08 2 (groveEth (groveMsg 0x08 []) : List Byte) (groveMsg 0x08 [] : List Byte) 0 ∧
    (inGrove [(F.GRV_PEER_STATUS_ver 3, 1)]).get (F.GRV_PEER_STATUS_ver (byteAt (groveMsg 0x08 [] : List Byte) 3)) = 1) := 
  ⟨by decide +kernel, by decide +kernel, by decide +kernel, by decide +kernel⟩

theorem test_ChainRelay_hypotheses :
   (MessageArrives (inGrove [(F.GRF_CTL_relay_en, 1)]) 0x40 2 (groveEth (groveMsg 0x40 (relayBody 0x40 0 9 3 2 [1#8, 2#8])) : List Byte) (groveMsg 0x40 (relayBody 0x40 0 9 3 2 [1#8, 2#8]) : List Byte) 0 ∧
    RelayHears (inGrove [(F.GRF_CTL_relay_en, 1)]) (groveMsg 0x40 (relayBody 0x40 0 9 3 2 [1#8, 2#8]) : List Byte) 9 3 2 ([1#8, 2#8] : List Byte) ∧
    (graft (inGrove [(F.GRF_CTL_relay_en, 1)]) 9).manifest = [] ∧ 3 < 4 ∧ 2 ≤ 4096 ∧
    ((upTo 4).map (fun j => tabGet (tabPut (graft (inGrove [(F.GRF_CTL_relay_en, 1)]) 9).chunks 3 (([1#8, 2#8] : List Byte).take 2)) j [])).flatten = ([1#8, 2#8] : List Byte) ∧
    ([1#8, 2#8] : List Byte).length ≠ manLength ([1#8, 2#8] : List Byte)) ∧
   (MessageArrives ({ inGrove [(F.GRF_CTL_relay_en, 1), (F.GRV_PEER_STATUS_state 3, 1)] with nv := { grafts := [(9, { manifest := onePiece })] } }) 0x41 2 (groveEth (groveMsg 0x41 (relayBody 0x41 0 9 1 5 [1#8, 2#8, 3#8, 4#8, 5#8])) : List Byte) (groveMsg 0x41 (relayBody 0x41 0 9 1 5 [1#8, 2#8, 3#8, 4#8, 5#8]) : List Byte) 0 ∧
    RelayHears ({ inGrove [(F.GRF_CTL_relay_en, 1), (F.GRV_PEER_STATUS_state 3, 1)] with nv := { grafts := [(9, { manifest := onePiece })] } }) (groveMsg 0x41 (relayBody 0x41 0 9 1 5 [1#8, 2#8, 3#8, 4#8, 5#8]) : List Byte) 9 1 5 ([1#8, 2#8, 3#8, 4#8, 5#8] : List Byte) ∧
    (graft ({ inGrove [(F.GRF_CTL_relay_en, 1), (F.GRV_PEER_STATUS_state 3, 1)] with nv := { grafts := [(9, { manifest := onePiece })] } }) 9).manifest ≠ [] ∧
    tabFind (graft ({ inGrove [(F.GRF_CTL_relay_en, 1), (F.GRV_PEER_STATUS_state 3, 1)] with nv := { grafts := [(9, { manifest := onePiece })] } }) 9).pieces 1 = none ∧
    pieceGood (graft ({ inGrove [(F.GRF_CTL_relay_en, 1), (F.GRV_PEER_STATUS_state 3, 1)] with nv := { grafts := [(9, { manifest := onePiece })] } }) 9).manifest 1 (slice ([1#8, 2#8, 3#8, 4#8, 5#8] : List Byte) (32 * byteAt (bodyOf (groveMsg 0x41 (relayBody 0x41 0 9 1 5 [1#8, 2#8, 3#8, 4#8, 5#8]) : List Byte)) 3) 5) (pieces 32 (byteAt (bodyOf (groveMsg 0x41 (relayBody 0x41 0 9 1 5 [1#8, 2#8, 3#8, 4#8, 5#8]) : List Byte)) 3) (([1#8, 2#8, 3#8, 4#8, 5#8] : List Byte).take (32 * byteAt (bodyOf (groveMsg 0x41 (relayBody 0x41 0 9 1 5 [1#8, 2#8, 3#8, 4#8, 5#8]) : List Byte)) 3))) = false) ∧
   (MessageArrives ({ inGrove [(F.GRF_CTL_relay_en, 1), (F.GRV_PEER_STATUS_state 3, 1)] with nv := { grafts := [(9, { manifest := onePiece, pieces := [(0, [1#8, 2#8, 3#8, 4#8, 5#8])] })] } }) 0x42 2 (groveEth (groveMsg 0x42 (relayBody 0x42 0 9 0 1 [3#8])) : List Byte) (groveMsg 0x42 (relayBody 0x42 0 9 0 1 [3#8]) : List Byte) 0 ∧
    RelayHears ({ inGrove [(F.GRF_CTL_relay_en, 1), (F.GRV_PEER_STATUS_state 3, 1)] with nv := { grafts := [(9, { manifest := onePiece, pieces := [(0, [1#8, 2#8, 3#8, 4#8, 5#8])] })] } }) (groveMsg 0x42 (relayBody 0x42 0 9 0 1 [3#8]) : List Byte) 9 0 1 ([3#8] : List Byte) ∧
    ({ inGrove [(F.GRF_CTL_relay_en, 1), (F.GRV_PEER_STATUS_state 3, 1)] with nv := { grafts := [(9, { manifest := onePiece, pieces := [(0, [1#8, 2#8, 3#8, 4#8, 5#8])] })] } }).get (F.GRV_PEER_CFG_en (byteAt (groveMsg 0x42 (relayBody 0x42 0 9 0 1 [3#8]) : List Byte) 3)) = 1 ∧
    ((upTo (8 * (([3#8] : List Byte).take 1).length)).filter (fun j => bit (byteAt (([3#8] : List Byte).take 1) (j / 8)) (j % 8) && (tabFind (graft ({ inGrove [(F.GRF_CTL_relay_en, 1), (F.GRV_PEER_STATUS_state 3, 1)] with nv := { grafts := [(9, { manifest := onePiece, pieces := [(0, [1#8, 2#8, 3#8, 4#8, 5#8])] })] } }) 9).pieces (0 + j)).isSome)).length = 1) ∧
   (MessageArrives (inGrove [(F.GRF_CTL_relay_en, 1)]) 0x43 2 (groveEth (groveMsg 0x43 (relayBody 0x43 0 9 1 0 [])) : List Byte) (groveMsg 0x43 (relayBody 0x43 0 9 1 0 []) : List Byte) 0 ∧
    RelayHears (inGrove [(F.GRF_CTL_relay_en, 1)]) (groveMsg 0x43 (relayBody 0x43 0 9 1 0 []) : List Byte) 9 1 0 ([] : List Byte)) ∧
   (({ inGrove [(F.GRF_CTL_relay_en, 1), (F.GRV_PEER_STATUS_state 3, 1)] with nv := { grafts := [(9, { manifest := onePiece })] } }).get F.GRF_CTL_relay_en = 1 ∧
    stagingContested ({ inGrove [(F.GRF_CTL_relay_en, 1), (F.GRV_PEER_STATUS_state 3, 1)] with nv := { grafts := [(9, { manifest := onePiece })] } }) = false ∧
    ((upTo (pieceCount (graft ({ inGrove [(F.GRF_CTL_relay_en, 1), (F.GRV_PEER_STATUS_state 3, 1)] with nv := { grafts := [(9, { manifest := onePiece })] } }) 9).manifest)).filter (fun i => (tabFind (graft ({ inGrove [(F.GRF_CTL_relay_en, 1), (F.GRV_PEER_STATUS_state 3, 1)] with nv := { grafts := [(9, { manifest := onePiece })] } }) 9).pieces i).isNone)).head? = some 0 ∧
    ({ inGrove [(F.GRF_CTL_relay_en, 1), (F.GRV_PEER_STATUS_state 3, 1)] with nv := { grafts := [(9, { manifest := onePiece })] } }).get F.GRF_RELAY_CFG_want_ms = 500 ∧
    500 ≠ 0 ∧
    (groveKey ({ inGrove [(F.GRF_CTL_relay_en, 1), (F.GRV_PEER_STATUS_state 3, 1)] with nv := { grafts := [(9, { manifest := onePiece })] } })).isSome = true ∧
    ({ inGrove [(F.GRF_CTL_relay_en, 1), (F.GRV_PEER_STATUS_state 3, 1)] with nv := { grafts := [(9, { manifest := onePiece })] } }).get (F.HWD_SLOT_EXP_expiry (({ inGrove [(F.GRF_CTL_relay_en, 1), (F.GRV_PEER_STATUS_state 3, 1)] with nv := { grafts := [(9, { manifest := onePiece })] } }).get F.GRV_CFG_slot)) = 0) := 
  ⟨by decide +kernel, by decide +kernel, by decide +kernel, by decide +kernel, by decide +kernel⟩

theorem test_PollenFrames_hypotheses :
   (({ up [(F.GRF_CTL_pollen_en, 1)] with nv := { grafts := [(9, { objLen := 195 })] } }).get F.GRF_CTL_pollen_en = 1 ∧
    byteAt ([0xF7#8, 1#8, 9#8, 0#8, 0#8, 0#8, 2#8, 0#8, 0#8, 0#8, 3#8, 1#8, 2#8, 3#8] ++ leBytes 2 (crc16 [1#8, 2#8, 3#8]) : List Byte) 0 = 0xF7 ∧
    byteAt ([0xF7#8, 1#8, 9#8, 0#8, 0#8, 0#8, 2#8, 0#8, 0#8, 0#8, 3#8, 1#8, 2#8, 3#8] ++ leBytes 2 (crc16 [1#8, 2#8, 3#8]) : List Byte) 1 = 1 ∧
    leAt ([0xF7#8, 1#8, 9#8, 0#8, 0#8, 0#8, 2#8, 0#8, 0#8, 0#8, 3#8, 1#8, 2#8, 3#8] ++ leBytes 2 (crc16 [1#8, 2#8, 3#8]) : List Byte) 2 4 = 9 ∧
    leAt ([0xF7#8, 1#8, 9#8, 0#8, 0#8, 0#8, 2#8, 0#8, 0#8, 0#8, 3#8, 1#8, 2#8, 3#8] ++ leBytes 2 (crc16 [1#8, 2#8, 3#8]) : List Byte) 6 4 = 2 ∧
    byteAt ([0xF7#8, 1#8, 9#8, 0#8, 0#8, 0#8, 2#8, 0#8, 0#8, 0#8, 3#8, 1#8, 2#8, 3#8] ++ leBytes 2 (crc16 [1#8, 2#8, 3#8]) : List Byte) 10 = 3 ∧
    3 ≠ 0 ∧
    3 = min 96 ((graft ({ up [(F.GRF_CTL_pollen_en, 1)] with nv := { grafts := [(9, { objLen := 195 })] } }) 9).objLen - 96 * 2) ∧
    13 + 3 ≤ ([0xF7#8, 1#8, 9#8, 0#8, 0#8, 0#8, 2#8, 0#8, 0#8, 0#8, 3#8, 1#8, 2#8, 3#8] ++ leBytes 2 (crc16 [1#8, 2#8, 3#8]) : List Byte).length ∧
    slice ([0xF7#8, 1#8, 9#8, 0#8, 0#8, 0#8, 2#8, 0#8, 0#8, 0#8, 3#8, 1#8, 2#8, 3#8] ++ leBytes 2 (crc16 [1#8, 2#8, 3#8]) : List Byte) 11 3 = ([1#8, 2#8, 3#8] : List Byte) ∧
    leAt ([0xF7#8, 1#8, 9#8, 0#8, 0#8, 0#8, 2#8, 0#8, 0#8, 0#8, 3#8, 1#8, 2#8, 3#8] ++ leBytes 2 (crc16 [1#8, 2#8, 3#8]) : List Byte) (11 + 3) 2 = crc16 ([1#8, 2#8, 3#8] : List Byte) ∧
    (graft ({ up [(F.GRF_CTL_pollen_en, 1)] with nv := { grafts := [(9, { objLen := 195 })] } }) 9).manifest = [] ∧
    tabFind (graft ({ up [(F.GRF_CTL_pollen_en, 1)] with nv := { grafts := [(9, { objLen := 195 })] } }) 9).small 0 = none ∧
    2 ≠ 0 ∧
    tabFind (graft ({ up [(F.GRF_CTL_pollen_en, 1)] with nv := { grafts := [(9, { objLen := 195 })] } }) 9).small 2 = none) ∧
   (leAt ([0xF7#8, 1#8, 9#8, 0#8, 0#8, 0#8, 2#8, 0#8, 0#8, 0#8, 3#8, 1#8, 2#8, 3#8, 0#8, 1#8] : List Byte) (11 + byteAt ([0xF7#8, 1#8, 9#8, 0#8, 0#8, 0#8, 2#8, 0#8, 0#8, 0#8, 3#8, 1#8, 2#8, 3#8, 0#8, 1#8] : List Byte) 10) 2 ≠ crc16 (slice ([0xF7#8, 1#8, 9#8, 0#8, 0#8, 0#8, 2#8, 0#8, 0#8, 0#8, 3#8, 1#8, 2#8, 3#8, 0#8, 1#8] : List Byte) 11 (byteAt ([0xF7#8, 1#8, 9#8, 0#8, 0#8, 0#8, 2#8, 0#8, 0#8, 0#8, 3#8, 1#8, 2#8, 3#8, 0#8, 1#8] : List Byte) 10))) ∧
   (({ up [(F.GRF_CTL_pollen_en, 1)] with nv := { grafts := [(9, { small := [(1, [5#8])] })] } }).get F.GRF_CTL_pollen_en = 1 ∧
    byteAt ([0xF7#8, 2#8, 9#8, 0#8, 0#8, 0#8, 0#8, 0#8, 0#8, 0#8, 8#8, 0#8, 255#8] : List Byte) 0 = 0xF7 ∧
    byteAt ([0xF7#8, 2#8, 9#8, 0#8, 0#8, 0#8, 0#8, 0#8, 0#8, 0#8, 8#8, 0#8, 255#8] : List Byte) 1 = 2 ∧
    leAt ([0xF7#8, 2#8, 9#8, 0#8, 0#8, 0#8, 0#8, 0#8, 0#8, 0#8, 8#8, 0#8, 255#8] : List Byte) 2 4 = 9 ∧
    leAt ([0xF7#8, 2#8, 9#8, 0#8, 0#8, 0#8, 0#8, 0#8, 0#8, 0#8, 8#8, 0#8, 255#8] : List Byte) 6 4 = 0) ∧
   ((up [(F.GRF_CTL_pollen_en, 1), (F.GRF_STAGE_SIZE_bytes, 1000)]).get F.GRF_CTL_pollen_en = 1 ∧
    byteAt ([0xF7#8, 3#8, 9#8, 0#8, 0#8, 0#8, 0xE8#8, 3#8] ++ List.replicate 16 0#8 : List Byte) 0 = 0xF7 ∧
    byteAt ([0xF7#8, 3#8, 9#8, 0#8, 0#8, 0#8, 0xE8#8, 3#8] ++ List.replicate 16 0#8 : List Byte) 1 = 3 ∧
    ([0xF7#8, 3#8, 9#8, 0#8, 0#8, 0#8, 0xE8#8, 3#8] ++ List.replicate 16 0#8 : List Byte).length = 24 ∧
    leAt ([0xF7#8, 3#8, 9#8, 0#8, 0#8, 0#8, 0xE8#8, 3#8] ++ List.replicate 16 0#8 : List Byte) 2 4 = 9 ∧
    leAt ([0xF7#8, 3#8, 9#8, 0#8, 0#8, 0#8, 0xE8#8, 3#8] ++ List.replicate 16 0#8 : List Byte) 6 4 = 1000 ∧ 1000 ≠ 0 ∧
    (graft (up [(F.GRF_CTL_pollen_en, 1), (F.GRF_STAGE_SIZE_bytes, 1000)]) 9).objLen = 0 ∧
    allHeld (graft (up [(F.GRF_CTL_pollen_en, 1), (F.GRF_STAGE_SIZE_bytes, 1000)]) 9) = false ∧
    stagingUsed (up [(F.GRF_CTL_pollen_en, 1), (F.GRF_STAGE_SIZE_bytes, 1000)]) 9 + 1000 ≤ stagingSize (up [(F.GRF_CTL_pollen_en, 1), (F.GRF_STAGE_SIZE_bytes, 1000)])) := 
  ⟨by decide +kernel, by decide +kernel, by decide +kernel, by decide +kernel⟩

theorem test_GroveTimers_hypotheses :
   (({ State.reset with stand := { inForce := some { owns := [⟨4, 31, 1, 0x0500⟩] } } }).domOn 24 = true ∧
    wordField (0x80060032#32 : Word) 31 1 = 1 ∧
    firstBelow 32 (fun k => decide (({ State.reset with stand := { inForce := some { owns := [⟨4, 31, 1, 0x0500⟩] } } }).owner 4 k = 0x0500)) = some 31 ∧
    coreFenced ({ State.reset with stand := { inForce := some { owns := [⟨4, 31, 1, 0x0500⟩] } } }) 0 = false) ∧
   (State.reset.domOn 24 = true ∧ wordField (0x80000032#32 : Word) 31 1 = 1 ∧
    firstBelow 32 (fun u => decide (State.reset.owner 4 u = 0x0500)) = none ∧ coreFenced State.reset 0 = false) ∧
   (beats ({ up [(F.GRV_CFG_en, 1), (F.GRV_HB_CFG_hb_en, 1), (F.GRV_PEER_CFG_en 63, 1), (F.GRV_PEER_STATUS_state 63, 1)] with grove := { unit := some 3, marked := true } }) = true ∧
    atMark ({ up [(F.GRV_CFG_en, 1), (F.GRV_HB_CFG_hb_en, 1), (F.GRV_PEER_CFG_en 63, 1), (F.GRV_PEER_STATUS_state 63, 1)] with grove := { unit := some 3, marked := true } }) = true ∧
    63 < 64 ∧
    ({ up [(F.GRV_CFG_en, 1), (F.GRV_HB_CFG_hb_en, 1), (F.GRV_PEER_CFG_en 63, 1), (F.GRV_PEER_STATUS_state 63, 1)] with grove := { unit := some 3, marked := true } }).get (F.GRV_PEER_CFG_en 63) = 1 ∧
    peerState ({ up [(F.GRV_CFG_en, 1), (F.GRV_HB_CFG_hb_en, 1), (F.GRV_PEER_CFG_en 63, 1), (F.GRV_PEER_STATUS_state 63, 1)] with grove := { unit := some 3, marked := true } }) 63 = 1 ∧
    (({ up [(F.GRV_CFG_en, 1), (F.GRV_HB_CFG_hb_en, 1), (F.GRV_PEER_CFG_en 63, 1), (F.GRV_PEER_STATUS_state 63, 1)] with grove := { unit := some 3, marked := true } }).peer 63).beat = false ∧
    ({ up [(F.GRV_CFG_en, 1), (F.GRV_HB_CFG_hb_en, 1), (F.GRV_PEER_CFG_en 63, 1), (F.GRV_PEER_STATUS_state 63, 1)] with grove := { unit := some 3, marked := true } }).get (F.GRV_PEER_STATUS_misses 63) + 1 < missLimit ({ up [(F.GRV_CFG_en, 1), (F.GRV_HB_CFG_hb_en, 1), (F.GRV_PEER_CFG_en 63, 1), (F.GRV_PEER_STATUS_state 63, 1)] with grove := { unit := some 3, marked := true } })) ∧
   (beats ({ up [(F.GRV_CFG_en, 1), (F.GRV_HB_CFG_hb_en, 1), (F.GRV_PEER_CFG_en 63, 1), (F.GRV_PEER_CFG_spare_rank 63, 1), (F.GRV_PEER_STATUS_state 63, 1), (F.GRV_PEER_STATUS_misses 63, 5)] with grove := { unit := some 3, marked := true } }) = true ∧
    atMark ({ up [(F.GRV_CFG_en, 1), (F.GRV_HB_CFG_hb_en, 1), (F.GRV_PEER_CFG_en 63, 1), (F.GRV_PEER_CFG_spare_rank 63, 1), (F.GRV_PEER_STATUS_state 63, 1), (F.GRV_PEER_STATUS_misses 63, 5)] with grove := { unit := some 3, marked := true } }) = true ∧
    63 < 64 ∧
    ({ up [(F.GRV_CFG_en, 1), (F.GRV_HB_CFG_hb_en, 1), (F.GRV_PEER_CFG_en 63, 1), (F.GRV_PEER_CFG_spare_rank 63, 1), (F.GRV_PEER_STATUS_state 63, 1), (F.GRV_PEER_STATUS_misses 63, 5)] with grove := { unit := some 3, marked := true } }).get (F.GRV_PEER_CFG_en 63) = 1 ∧
    peerState ({ up [(F.GRV_CFG_en, 1), (F.GRV_HB_CFG_hb_en, 1), (F.GRV_PEER_CFG_en 63, 1), (F.GRV_PEER_CFG_spare_rank 63, 1), (F.GRV_PEER_STATUS_state 63, 1), (F.GRV_PEER_STATUS_misses 63, 5)] with grove := { unit := some 3, marked := true } }) 63 = 1 ∧
    (({ up [(F.GRV_CFG_en, 1), (F.GRV_HB_CFG_hb_en, 1), (F.GRV_PEER_CFG_en 63, 1), (F.GRV_PEER_CFG_spare_rank 63, 1), (F.GRV_PEER_STATUS_state 63, 1), (F.GRV_PEER_STATUS_misses 63, 5)] with grove := { unit := some 3, marked := true } }).peer 63).beat = false ∧
    missLimit ({ up [(F.GRV_CFG_en, 1), (F.GRV_HB_CFG_hb_en, 1), (F.GRV_PEER_CFG_en 63, 1), (F.GRV_PEER_CFG_spare_rank 63, 1), (F.GRV_PEER_STATUS_state 63, 1), (F.GRV_PEER_STATUS_misses 63, 5)] with grove := { unit := some 3, marked := true } }) ≤ ({ up [(F.GRV_CFG_en, 1), (F.GRV_HB_CFG_hb_en, 1), (F.GRV_PEER_CFG_en 63, 1), (F.GRV_PEER_CFG_spare_rank 63, 1), (F.GRV_PEER_STATUS_state 63, 1), (F.GRV_PEER_STATUS_misses 63, 5)] with grove := { unit := some 3, marked := true } }).get (F.GRV_PEER_STATUS_misses 63) + 1) ∧
   (beats ({ up [(F.GRV_CFG_en, 1), (F.GRV_HB_CFG_hb_en, 1), (F.GRV_PEER_CFG_en 0, 1), (F.GRV_PEER_STATUS_state 0, 1)] with grove := { unit := some 3, marked := true, peers := [(0, { beat := true })] } }) = true ∧
    atMark ({ up [(F.GRV_CFG_en, 1), (F.GRV_HB_CFG_hb_en, 1), (F.GRV_PEER_CFG_en 0, 1), (F.GRV_PEER_STATUS_state 0, 1)] with grove := { unit := some 3, marked := true, peers := [(0, { beat := true })] } }) = true ∧
    0 < 64 ∧
    ({ up [(F.GRV_CFG_en, 1), (F.GRV_HB_CFG_hb_en, 1), (F.GRV_PEER_CFG_en 0, 1), (F.GRV_PEER_STATUS_state 0, 1)] with grove := { unit := some 3, marked := true, peers := [(0, { beat := true })] } }).get (F.GRV_PEER_CFG_en 0) = 1 ∧
    peerState ({ up [(F.GRV_CFG_en, 1), (F.GRV_HB_CFG_hb_en, 1), (F.GRV_PEER_CFG_en 0, 1), (F.GRV_PEER_STATUS_state 0, 1)] with grove := { unit := some 3, marked := true, peers := [(0, { beat := true })] } }) 0 = 1 ∧
    (({ up [(F.GRV_CFG_en, 1), (F.GRV_HB_CFG_hb_en, 1), (F.GRV_PEER_CFG_en 0, 1), (F.GRV_PEER_STATUS_state 0, 1)] with grove := { unit := some 3, marked := true, peers := [(0, { beat := true })] } }).peer 0).beat = true ∧
    (useGroveKey ({ up [(F.GRV_CFG_en, 1), (F.GRV_HB_CFG_hb_en, 1), (F.GRV_PEER_CFG_en 0, 1), (F.GRV_PEER_STATUS_state 0, 1)] with grove := { unit := some 3, marked := true, peers := [(0, { beat := true })] } })).1 = none) ∧
   (beats ({ inGrove [(F.GRV_HB_CFG_hb_en, 1), (F.GRV_PEER_STATUS_state 3, 1)] with grove := { unit := some 3, marked := true, peers := [(3, { beat := true })] } }) = true ∧
    atMark ({ inGrove [(F.GRV_HB_CFG_hb_en, 1), (F.GRV_PEER_STATUS_state 3, 1)] with grove := { unit := some 3, marked := true, peers := [(3, { beat := true })] } }) = true ∧
    (useGroveKey ({ inGrove [(F.GRV_HB_CFG_hb_en, 1), (F.GRV_PEER_STATUS_state 3, 1)] with grove := { unit := some 3, marked := true, peers := [(3, { beat := true })] } })).1.isSome = true ∧
    (∀ r < 64, peerState ({ inGrove [(F.GRV_HB_CFG_hb_en, 1), (F.GRV_PEER_STATUS_state 3, 1)] with grove := { unit := some 3, marked := true, peers := [(3, { beat := true })] } }) r = 1 → (({ inGrove [(F.GRV_HB_CFG_hb_en, 1), (F.GRV_PEER_STATUS_state 3, 1)] with grove := { unit := some 3, marked := true, peers := [(3, { beat := true })] } }).peer r).beat = true)) ∧
   ((up [(F.GRV_CFG_en, 1), (F.GRV_PEER_CFG_en 63, 1), (F.GRV_PEER_STATUS_state 63, 2)]).get F.GRV_CFG_en = 1 ∧ 63 < 64 ∧
    (up [(F.GRV_CFG_en, 1), (F.GRV_PEER_CFG_en 63, 1), (F.GRV_PEER_STATUS_state 63, 2)]).get (F.GRV_PEER_CFG_en 63) = 1 ∧
    (peerState (up [(F.GRV_CFG_en, 1), (F.GRV_PEER_CFG_en 63, 1), (F.GRV_PEER_STATUS_state 63, 2)]) 63 = 0 ∨ peerState (up [(F.GRV_CFG_en, 1), (F.GRV_PEER_CFG_en 63, 1), (F.GRV_PEER_STATUS_state 63, 2)]) 63 = 2)) ∧
   (63 < 64 ∧
    ({ State.reset with grove := { rank2 := [(63, 700, [(5, 0)])] } }).grove.rank2.find? (fun (q, _, _) => decide (q = 63)) = some (63, 700, ([(5, 0)] : List (Nat × Nat))) ∧
    ([(5, 0)] : List (Nat × Nat)).any (fun (n, e) => decide (({ State.reset with grove := { rank2 := [(63, 700, [(5, 0)])] } }).get (F.BGH_SET0_epoch n) ≤ e)) = true) := 
  ⟨by decide +kernel, by decide +kernel, by decide +kernel, by decide +kernel, by decide +kernel, by decide +kernel, by decide +kernel, by decide +kernel⟩

theorem test_DomainPolicy_hypotheses_1 :
   (State.reset.domOn 0 = true ∧ 6 < 7 ∧ coreFenced State.reset 0 = false) ∧
   (State.reset.domOn 0 = true ∧ 1 ≤ 15 ∧ 15 ≤ 26 ∧ forceRefused State.reset 15 (wordField (0x10#32 : Word) 4 2) = false ∧
    coreFenced State.reset 0 = false) ∧
   ((up [(F.PWR_DOM_CFG_floor 26, 1)]).domOn 0 = true ∧ 1 ≤ 26 ∧ 26 ≤ 26 ∧
    forceRefused (up [(F.PWR_DOM_CFG_floor 26, 1)]) 26 (wordField (0x10#32 : Word) 4 2) = true ∧
    coreFenced (up [(F.PWR_DOM_CFG_floor 26, 1)]) 0 = false) ∧
   (State.reset.domOn 0 = true ∧ 1 ≤ 15 ∧ 15 ≤ 26 ∧ State.reset.domOn 15 = true ∧ wordField (0x10#32 : Word) 4 2 = 1 ∧
    forceRefused State.reset 15 1 = false ∧ barredByHold State.reset 15 = false ∧ coreFenced State.reset 0 = false) ∧
   (1 ≤ 26 ∧ 26 ≤ 26 ∧ ({ up [(F.PWR_DOM_CFG_force 26, 2)] with power := { budgetSet := true } }).domOn 26 = true ∧
    wanted ({ up [(F.PWR_DOM_CFG_force 26, 2)] with power := { budgetSet := true } }) 26 = 1 ∧ 1 ≠ 2) := 
  ⟨by decide +kernel, by decide +kernel, by decide +kernel, by decide +kernel, by decide +kernel⟩

theorem test_DomainPolicy_hypotheses_2 :
   (1 ≤ 26 ∧ 26 ≤ 26 ∧ ((dom 26 .toRet [(F.PWR_DOM_CFG_force 26, 2)]).dom 26).st = .toRet ∧
    ((dom 26 .toRet [(F.PWR_DOM_CFG_force 26, 2)]).dom 26).wake = false ∧
    wanted (dom 26 .toRet [(F.PWR_DOM_CFG_force 26, 2)]) 26 = 1 ∧ LevelsAgree (dom 26 .toRet [(F.PWR_DOM_CFG_force 26, 2)])) ∧
   (1 ≤ 26 ∧ 26 ≤ 26 ∧ ((State.reset.setDom 26 ⟨.toRet, true⟩).dom 26).st = .toRet ∧
    ((State.reset.setDom 26 ⟨.toRet, true⟩).dom 26).wake = true) ∧
   ((({ dom 26 .toOff [(F.PWR_DOM_CFG_force 26, 1)] with dram := [(7, 7#8)] }).dom 26).st = .toOff ∧
    (({ dom 26 .toOff [(F.PWR_DOM_CFG_force 26, 1)] with dram := [(7, 7#8)] }).dom 26).wake = false ∧
    wanted ({ dom 26 .toOff [(F.PWR_DOM_CFG_force 26, 1)] with dram := [(7, 7#8)] }) 26 = 0) ∧
   (26 ≤ 26 ∧ (((dom 26 .retToOn []).dom 26).st = .retToOn ∨ ((dom 26 .retToOn []).dom 26).st = .offToOn) ∧
    (dom 26 .retToOn []).get (F.PWR_DOM_CFG_force 26) = 0 ∧ (dom 26 .retToOn []).power.stalled = []) := 
  ⟨by decide +kernel, by decide +kernel, by decide +kernel, by decide +kernel⟩

theorem test_OperatingPoints_hypotheses :
   (State.reset.domOn 0 = true ∧ State.reset.power.opPhase = .idle ∧ 0 < 4 ∧ wordField (0#32 : Word) 0 2 = 0 ∧
    opRefused State.reset 0 = false ∧ 0 ≤ State.reset.get F.PWR_DVFS_op_now ∧ coreFenced State.reset 0 = false) ∧
   ((up [(F.PWR_DVFS_op_now, 0), (F.DDR_CFG_max_rate, 3), (F.PWR_VCORE_applied_mv, 650)]).domOn 0 = true ∧
    (up [(F.PWR_DVFS_op_now, 0), (F.DDR_CFG_max_rate, 3), (F.PWR_VCORE_applied_mv, 650)]).power.opPhase = .idle ∧ 3 < 4 ∧
    wordField (3#32 : Word) 0 2 = 3 ∧
    opRefused (up [(F.PWR_DVFS_op_now, 0), (F.DDR_CFG_max_rate, 3), (F.PWR_VCORE_applied_mv, 650)]) 3 = false ∧
    (up [(F.PWR_DVFS_op_now, 0), (F.DDR_CFG_max_rate, 3), (F.PWR_VCORE_applied_mv, 650)]).get F.PWR_DVFS_op_now < 3 ∧
    (up [(F.PWR_DVFS_op_now, 0), (F.DDR_CFG_max_rate, 3), (F.PWR_VCORE_applied_mv, 650)]).power.avsFailed = false ∧
    (up [(F.PWR_DVFS_op_now, 0), (F.DDR_CFG_max_rate, 3), (F.PWR_VCORE_applied_mv, 650)]).get F.PWR_VCORE_applied_mv < opFloor 3 ∧
    coreFenced (up [(F.PWR_DVFS_op_now, 0), (F.DDR_CFG_max_rate, 3), (F.PWR_VCORE_applied_mv, 650)]) 0 = false) ∧
   ((up [(F.PWR_DVFS_op_now, 0), (F.DDR_CFG_max_rate, 3), (F.PWR_VCORE_applied_mv, 650)]).domOn 0 = true ∧
    (up [(F.PWR_DVFS_op_now, 0), (F.DDR_CFG_max_rate, 3), (F.PWR_VCORE_applied_mv, 650)]).power.opPhase = .idle ∧ 3 < 4 ∧
    wordField (3#32 : Word) 0 2 = 3 ∧
    opRefused (up [(F.PWR_DVFS_op_now, 0), (F.DDR_CFG_max_rate, 3), (F.PWR_VCORE_applied_mv, 650)]) 3 = false ∧
    (up [(F.PWR_DVFS_op_now, 0), (F.DDR_CFG_max_rate, 3), (F.PWR_VCORE_applied_mv, 650)]).get F.PWR_DVFS_op_now < 3 ∧
    (up [(F.PWR_DVFS_op_now, 0), (F.DDR_CFG_max_rate, 3), (F.PWR_VCORE_applied_mv, 650)]).power.avsFailed = false ∧
    (up [(F.PWR_DVFS_op_now, 0), (F.DDR_CFG_max_rate, 3), (F.PWR_VCORE_applied_mv, 650)]).get F.PWR_VCORE_applied_mv < opFloor 3 ∧
    coreFenced (up [(F.PWR_DVFS_op_now, 0), (F.DDR_CFG_max_rate, 3), (F.PWR_VCORE_applied_mv, 650)]) 0 = false) ∧
   ((up [(F.DDR_CFG_max_rate, 2)]).domOn 0 = true ∧ (up [(F.DDR_CFG_max_rate, 2)]).power.opPhase = .idle ∧ 3 < 4 ∧
    wordField (3#32 : Word) 0 2 = 3 ∧ opRefused (up [(F.DDR_CFG_max_rate, 2)]) 3 = true ∧
    coreFenced (up [(F.DDR_CFG_max_rate, 2)]) 0 = false) ∧
   (({ State.reset with power := { opPhase := .raiseSettling 3 } }).power.opPhase = .raiseSettling 3) ∧
   (vcoreLoops ({ up [(F.PWR_VCORE_applied_mv, 848)] with power := { paced := true } }) = true ∧
    ({ up [(F.PWR_VCORE_applied_mv, 848)] with power := { paced := true } }).power.opPhase = .idle ∧
    ({ up [(F.PWR_VCORE_applied_mv, 848)] with power := { paced := true } }).get F.GLB_PACE_min_pace < ({ up [(F.PWR_VCORE_applied_mv, 848)] with power := { paced := true } }).get F.PWR_AVS_CFG_pace_tgt ∧
    ({ up [(F.PWR_VCORE_applied_mv, 848)] with power := { paced := true } }).get F.PWR_VCORE_applied_mv < 850) ∧
   (vcoreLoops ({ up [(F.PWR_VCORE_applied_mv, 722), (F.GLB_PACE_min_pace, 2000)] with power := { paced := true } }) = true ∧
    ({ up [(F.PWR_VCORE_applied_mv, 722), (F.GLB_PACE_min_pace, 2000)] with power := { paced := true } }).power.opPhase = .idle ∧
    ({ up [(F.PWR_VCORE_applied_mv, 722), (F.GLB_PACE_min_pace, 2000)] with power := { paced := true } }).get F.PWR_AVS_CFG_pace_tgt + 96 < ({ up [(F.PWR_VCORE_applied_mv, 722), (F.GLB_PACE_min_pace, 2000)] with power := { paced := true } }).get F.GLB_PACE_min_pace ∧
    ({ up [(F.PWR_VCORE_applied_mv, 722), (F.GLB_PACE_min_pace, 2000)] with power := { paced := true } }).get F.PWR_VCORE_floor_mv < ({ up [(F.PWR_VCORE_applied_mv, 722), (F.GLB_PACE_min_pace, 2000)] with power := { paced := true } }).get F.PWR_VCORE_applied_mv) ∧
   (({ State.reset with power := { avsFailed := true } }).domOn 0 = true ∧
    coreFenced ({ State.reset with power := { avsFailed := true } }) 0 = false) := 
  ⟨by decide +kernel, by decide +kernel, by decide +kernel, by decide +kernel, by decide +kernel, by decide +kernel, by decide +kernel, by decide +kernel⟩

theorem test_WakeSources_hypotheses :
   (bit (({ up [(F.PWR_WAKE_HOST_host, 16), (F.TPR_LINK_pm, 1)] with time := { ns := 77 } }).get F.PWR_WAKE_EN_en) 4 = true ∧
    ({ up [(F.PWR_WAKE_HOST_host, 16), (F.TPR_LINK_pm, 1)] with time := { ns := 77 } }).now < 2 ^ 64) ∧
   (bit ((up [(F.PWR_GPIO_WAKE_pins, 2147483648)]).get F.PWR_WAKE_EN_en) 8 = true ∧ 31 < 32 ∧
    bit ((up [(F.PWR_GPIO_WAKE_pins, 2147483648)]).get F.PWR_GPIO_WAKE_pins) 31 = true ∧
    bit ((up [(F.PWR_GPIO_WAKE_pins, 2147483648)]).get F.PWR_GPIO_POL_pol) 31 = !true) ∧
   (bit (({ up [(F.PWR_BUD_CFG_en, 1), (F.PWR_BUD_CFG_chain, 15)] with power := { budOpen := true } }).get F.PWR_WAKE_EN_en) 6 = true ∧
    ({ up [(F.PWR_BUD_CFG_en, 1), (F.PWR_BUD_CFG_chain, 15)] with power := { budOpen := true } }).get F.PWR_BUD_CFG_en = 1 ∧
    (({ up [(F.PWR_BUD_CFG_en, 1), (F.PWR_BUD_CFG_chain, 15)] with power := { budOpen := true } }).power.budOpen = true ∨ budContinuous ({ up [(F.PWR_BUD_CFG_en, 1), (F.PWR_BUD_CFG_chain, 15)] with power := { budOpen := true } }) = true) ∧
    56 ≤ 64 ∧ 64 ≤ 64) ∧
   (55 < 56) ∧
   ((up [(F.PWR_BUD_CFG_en, 1)]).get F.PWR_BUD_CFG_en = 1 ∧ budContinuous (up [(F.PWR_BUD_CFG_en, 1)]) = false) := 
  ⟨by decide +kernel, by decide +kernel, by decide +kernel, by decide +kernel, by decide +kernel⟩

theorem test_LiveRestands_hypotheses :
   ((up [(F.DDR_SIZE_mib, 16), (F.STP_LOAD_LEN_len, 3)]).domOn 2 = true ∧
    (up [(F.DDR_SIZE_mib, 16), (F.STP_LOAD_LEN_len, 3)]).get F.STP_STAT_busy = 0 ∧
    (up [(F.DDR_SIZE_mib, 16), (F.STP_LOAD_LEN_len, 3)]).get F.STP_LOAD_LEN_len = 3 ∧
    (up [(F.DDR_SIZE_mib, 16), (F.STP_LOAD_LEN_len, 3)]).domOn 26 = true ∧
    (up [(F.DDR_SIZE_mib, 16), (F.STP_LOAD_LEN_len, 3)]).dramOk ((up [(F.DDR_SIZE_mib, 16), (F.STP_LOAD_LEN_len, 3)]).pair F.STP_LOAD_ADDR_LO_addr F.STP_LOAD_ADDR_HI_addr / 16 * 16) 3 = true ∧
    coreFenced (up [(F.DDR_SIZE_mib, 16), (F.STP_LOAD_LEN_len, 3)]) 0 = false) ∧
   ((up [(F.STP_STAT_busy, 1)]).domOn 2 = true ∧ (up [(F.STP_STAT_busy, 1)]).get F.STP_STAT_busy = 1 ∧
    coreFenced (up [(F.STP_STAT_busy, 1)]) 0 = false) ∧
   (({ up [(F.STP_STAT_busy, 1)] with stand := { phase := .armed } }).domOn 2 = true ∧
    (({ up [(F.STP_STAT_busy, 1)] with stand := { phase := .armed } }).stand.phase = .verify ∨ ({ up [(F.STP_STAT_busy, 1)] with stand := { phase := .armed } }).stand.phase = .prepare ∨ ({ up [(F.STP_STAT_busy, 1)] with stand := { phase := .armed } }).stand.phase = .armed ∨ ({ up [(F.STP_STAT_busy, 1)] with stand := { phase := .armed } }).stand.phase = .drain) ∧
    coreFenced ({ up [(F.STP_STAT_busy, 1)] with stand := { phase := .armed } }) 0 = false) ∧
   (({ State.reset with stand := { phase := .verify } }).stand.phase = .verify ∧
    ({ State.reset with stand := { phase := .verify } }).stand.staged = ([] : List Byte) ∧
    planResult ({ State.reset with stand := { phase := .verify } }) (if ({ State.reset with stand := { phase := .verify } }).stand.planner then .planner else .live) ([] : List Byte) (if ({ State.reset with stand := { phase := .verify } }).stand.planner then ([] : List Byte).length else ({ State.reset with stand := { phase := .verify } }).get F.STP_LOAD_LEN_len) = 1 ∧
    1 < 256) ∧
   (({ State.reset with stand := { phase := .prepare } }).stand.phase = .prepare ∧
    (restandDomains ({ State.reset with stand := { phase := .prepare } })).all ({ State.reset with stand := { phase := .prepare } }).domOn = true ∧
    ({ State.reset with stand := { phase := .prepare } }).stand.atAsn = false) ∧
   (({ up [(F.STP_LIVE_ASN_HI_asn, 255)] with stand := { phase := .prepare, atAsn := true } }).stand.phase = .prepare ∧
    (restandDomains ({ up [(F.STP_LIVE_ASN_HI_asn, 255)] with stand := { phase := .prepare, atAsn := true } })).all ({ up [(F.STP_LIVE_ASN_HI_asn, 255)] with stand := { phase := .prepare, atAsn := true } }).domOn = true ∧
    ({ up [(F.STP_LIVE_ASN_HI_asn, 255)] with stand := { phase := .prepare, atAsn := true } }).stand.atAsn = true ∧
    ({ up [(F.STP_LIVE_ASN_HI_asn, 255)] with stand := { phase := .prepare, atAsn := true } }).pair F.STP_LIVE_ASN_LO_asn F.STP_LIVE_ASN_HI_asn = (255 * 2 ^ 32 : Nat)) ∧
   (543 < 544 ∧
    ({ State.reset with stand := { lateLanes := [(543, 2)] } }).stand.lateLanes.find? (fun x => decide (x.1 = 543)) = some (543, 2) ∧
    tabFind ({ State.reset with stand := { lateLanes := [(543, 2)] } }).lanes.frames 543 = none ∧
    ({ State.reset with stand := { lateLanes := [(543, 2)] } }).get (F.SRH_LANE_MAP_role 543) ≠ 2 ∧
    ({ State.reset with stand := { lateLanes := [(543, 2)] } }).get (F.SRH_LANE_MAP_role 543) ≠ 3) ∧
   (({ up [(F.STP_PLAN_SEQ_plan_seq, 9)] with stand := { phase := .persisting } }).stand.phase = .persisting) := 
  ⟨by decide +kernel, by decide +kernel, by decide +kernel, by decide +kernel, by decide +kernel, by decide +kernel, by decide +kernel, by decide +kernel⟩

theorem test_ContainmentFaults_hypotheses_1 :
   ((⟨7, 3, 3, 0, []⟩ : UnitFault).inst < unitCount (⟨7, 3, 3, 0, []⟩ : UnitFault).cls ∧
    State.reset.pruned (⟨7, 3, 3, 0, []⟩ : UnitFault).cls (⟨7, 3, 3, 0, []⟩ : UnitFault).inst = false ∧
    (⟨7, 3, 3, 0, []⟩ : UnitFault).cause < 16 ∧
    ((⟨7, 3, 3, 0, []⟩ : UnitFault).cls = 10 → (⟨7, 3, 3, 0, []⟩ : UnitFault).cause ≠ 5)) ∧
   ((⟨1, 543, 3, 0, []⟩ : UnitFault).inst < unitCount (⟨1, 543, 3, 0, []⟩ : UnitFault).cls ∧
    State.reset.pruned (⟨1, 543, 3, 0, []⟩ : UnitFault).cls (⟨1, 543, 3, 0, []⟩ : UnitFault).inst = false ∧
    (⟨2, 15, 3, 0, []⟩ : UnitFault).inst < unitCount (⟨2, 15, 3, 0, []⟩ : UnitFault).cls ∧
    State.reset.pruned (⟨2, 15, 3, 0, []⟩ : UnitFault).cls (⟨2, 15, 3, 0, []⟩ : UnitFault).inst = false ∧
    (⟨1, 543, 3, 0, []⟩ : UnitFault).cls < (⟨2, 15, 3, 0, []⟩ : UnitFault).cls ∧ (⟨2, 15, 3, 0, []⟩ : UnitFault).cls < 10 ∧
    (⟨1, 543, 3, 0, []⟩ : UnitFault).cause < 16 ∧ (⟨2, 15, 3, 0, []⟩ : UnitFault).cause < 16) ∧
   ((⟨10, 0, 5, 0, []⟩ : UnitFault).cls = 10 ∧ (⟨10, 0, 5, 0, []⟩ : UnitFault).cause = 5 ∧
    (⟨10, 0, 5, 0, []⟩ : UnitFault).inst < 2 ∧ (up [(F.SSE_PAIR_inst0, 1), (F.SSE_PAIR_inst1, 1)]).get F.SSE_PAIR_inst0 = 1 ∧
    (up [(F.SSE_PAIR_inst0, 1), (F.SSE_PAIR_inst1, 1)]).get F.SSE_PAIR_inst1 = 1 ∧
    (if (⟨10, 0, 5, 0, []⟩ : UnitFault).words.contains 0 then 0 else 1) = 1 ∧
    ((⟨10, 0, 5, 0, []⟩ : UnitFault).words.contains 0 = true → (⟨10, 0, 5, 0, []⟩ : UnitFault).words.contains 1 = false)) ∧
   ((⟨6, 295, 3, 0, []⟩ : UnitFault).inst < unitCount (⟨6, 295, 3, 0, []⟩ : UnitFault).cls ∧
    (up [(F.PRN_PRUNED_pruned 6 9, 128)]).pruned (⟨6, 295, 3, 0, []⟩ : UnitFault).cls (⟨6, 295, 3, 0, []⟩ : UnitFault).inst = true ∧
    (⟨6, 295, 3, 0, []⟩ : UnitFault).cls ≠ 1 ∧
    (up [(F.PRN_PRUNED_pruned 6 9, 128)]).prune.readmit ≠ some ((⟨6, 295, 3, 0, []⟩ : UnitFault).cls, (⟨6, 295, 3, 0, []⟩ : UnitFault).inst)) ∧
   (15 < unitCount 2 ∧ State.reset.pruned 2 15 = false) ∧
   (287 < 288 ∧
    ({ up [(F.PRN_PRUNED_pruned 6 8, 2147483648)] with prune := { bankCopy := [(287, [⟨9, 7, 1⟩, ⟨9, 9, 1⟩])] } }).prune.bankCopy = [(287, ([⟨9, 7, 1⟩, ⟨9, 9, 1⟩] : List PoisonRange))] ∧
    ({ up [(F.PRN_PRUNED_pruned 6 8, 2147483648)] with prune := { bankCopy := [(287, [⟨9, 7, 1⟩, ⟨9, 9, 1⟩])] } }).get (F.PRN_SPARE_BANK_in_use (bankGroup 287)) = 0 ∧
    tabGet ({ up [(F.PRN_PRUNED_pruned 6 8, 2147483648)] with prune := { bankCopy := [(287, [⟨9, 7, 1⟩, ⟨9, 9, 1⟩])] } }).prune.groupSpare (bankGroup 287) (288 + bankGroup 287) = 295 ∧
    295 ≠ 287 ∧
    ({ up [(F.PRN_PRUNED_pruned 6 8, 2147483648)] with prune := { bankCopy := [(287, [⟨9, 7, 1⟩, ⟨9, 9, 1⟩])] } }).pruned 6 295 = false ∧
    serving ({ up [(F.PRN_PRUNED_pruned 6 8, 2147483648)] with prune := { bankCopy := [(287, [⟨9, 7, 1⟩, ⟨9, 9, 1⟩])] } }) 287 ≠ 0) ∧
   (295 < 296 ∧ 262143 < 262144 ∧
    tabGet State.reset.prune.rowErrors (295 * 512 + 262143 / 512) 0 + 1 < max 1 (State.reset.get F.PRN_CE_CFG_thr)) := 
  ⟨by decide +kernel, by decide +kernel, by decide +kernel, by decide +kernel, by decide +kernel, by decide +kernel, by decide +kernel⟩

theorem test_ContainmentFaults_hypotheses_2 :
   (0 < 296 ∧ 0 < 262144 ∧
    max 1 ((up [(F.PRN_CE_CFG_thr, 1)]).get F.PRN_CE_CFG_thr) ≤ tabGet (up [(F.PRN_CE_CFG_thr, 1)]).prune.rowErrors (0 * 512 + 0 / 512) 0 + 1 ∧
    tabGet (up [(F.PRN_CE_CFG_thr, 1)]).prune.rowsSpared 0 0 < 16) ∧
   (({ State.reset with prune := { mismatchTimes := [0] } }).pruned 11 0 = false ∧
    (({ State.reset with prune := { mismatchTimes := [0] } }).prune.mismatchTimes.filter (fun a => decide (({ State.reset with prune := { mismatchTimes := [0] } }).now ≤ a + 60000000000))).length < 2) ∧
   (({ State.reset with prune := { mismatchTimes := [0, 1] } }).pruned 11 0 = false ∧
    2 ≤ (({ State.reset with prune := { mismatchTimes := [0, 1] } }).prune.mismatchTimes.filter (fun a => decide (({ State.reset with prune := { mismatchTimes := [0, 1] } }).now ≤ a + 60000000000))).length) ∧
   (({ State.reset with prune := { secRestarting := true } }).nv.kuOpen = false) ∧
   (({ State.reset with prune := { secRestarting := true }, nv := { kuOpen := true } }).nv.kuOpen = true) ∧
   ((up [(F.PRN_PRUNED_pruned 6 9, 128)]).domOn 0 = true ∧ 2 ≤ 6 ∧ 295 < unitCount 6 ∧
    (up [(F.PRN_PRUNED_pruned 6 9, 128)]).prune.readmit = none ∧ (up [(F.PRN_PRUNED_pruned 6 9, 128)]).pruned 6 295 = true ∧
    coreFenced (up [(F.PRN_PRUNED_pruned 6 9, 128)]) 0 = false) ∧
   (State.reset.domOn 0 = true ∧ 1 < 256 ∧ 543 < unitCount 1 ∧ State.reset.prune.readmit = none ∧
    State.reset.pruned 1 543 = false ∧ coreFenced State.reset 0 = false) := 
  ⟨by decide +kernel, by decide +kernel, by decide +kernel, by decide +kernel, by decide +kernel, by decide +kernel, by decide +kernel⟩

theorem test_ContainmentFaults_hypotheses_3 :
   (({ up [(F.PRN_PRUNED_pruned 7 0, 8)] with prune := { readmit := some (7, 3) } }).prune.readmit = some (7, 3) ∧ 2 ≤ 7 ∧
    7 < 11 ∧ 3 < unitCount 7 ∧
    ({ up [(F.PRN_PRUNED_pruned 7 0, 8)] with prune := { readmit := some (7, 3) } }).pruned 7 3 = true) ∧
   (({ up [(F.PRN_PRUNED_pruned 11 0, 1)] with prune := { readmit := some (11, 0) } }).prune.readmit = some (11, 0) ∧
    ({ up [(F.PRN_PRUNED_pruned 11 0, 1)] with prune := { readmit := some (11, 0) } }).pruned 11 0 = true) ∧
   (State.reset.domOn 0 = true ∧ lifecycle State.reset ≤ 2 ∧ 3 < unitCount 7 ∧ State.reset.pruned 7 3 = false ∧
    coreFenced State.reset 0 = false) ∧
   ((up [(F.BRK_LC_state, 3)]).domOn 0 = true ∧ 2 < lifecycle (up [(F.BRK_LC_state, 3)]) ∧
    (0 ≠ 6 ∨ (up [(F.BRK_LC_state, 3)]).mon.session = none) ∧ 7 < 256 ∧ 3 < 65536 ∧
    coreFenced (up [(F.BRK_LC_state, 3)]) 0 = false) ∧
   (privBar (up [(F.PRN_PRUNED_pruned 6 9, 128)]) 0x14 = none ∧ 2 ≤ 6 ∧ 295 < unitCount 6 ∧
    (up [(F.PRN_PRUNED_pruned 6 9, 128)]).prune.readmit = none ∧ (up [(F.PRN_PRUNED_pruned 6 9, 128)]).pruned 6 295 = true) ∧
   (privBar State.reset 0x15 = none ∧ (lifecycle State.reset ≤ 2 ∨ State.reset.mon.session ≠ none) ∧ 3 < unitCount 7 ∧
    State.reset.pruned 7 3 = false) := 
  ⟨by decide +kernel, by decide +kernel, by decide +kernel, by decide +kernel, by decide +kernel, by decide +kernel⟩

theorem test_RingAndPowerLoss_hypotheses :
   ((up [(F.RRC_HEAD_index, 1)]).domOn 0 = true ∧ (up [(F.RRC_HEAD_index, 1)]).get F.RRC_FREEZE_frozen = 0 ∧
    coreFenced (up [(F.RRC_HEAD_index, 1)]) 0 = false) ∧
   ((up [(F.RRC_FREEZE_frozen, 1)]).domOn 0 = true ∧ coreFenced (up [(F.RRC_FREEZE_frozen, 1)]) 0 = false) ∧
   (State.reset.ring.copying = none ∧ State.reset.ring.sinceFlush = true ∧ State.reset.get F.RRC_FREEZE_frozen = 0 ∧
    ringProtected State.reset (State.reset.get F.RRC_HEAD_index) = false) ∧
   (({ State.reset with ring := { copying := some 1, flushes := [(1, ⟨[0x42#8, 0x58#8, 0x52#8, 0x46#8], 1, 1, 5, 4, 4, 1, 9, [], 0⟩)] } }).ring.copying = some 1 ∧
    ({ State.reset with ring := { copying := some 1, flushes := [(1, ⟨[0x42#8, 0x58#8, 0x52#8, 0x46#8], 1, 1, 5, 4, 4, 1, 9, [], 0⟩)] } }).ring.flushes = [(1, (⟨[0x42#8, 0x58#8, 0x52#8, 0x46#8], 1, 1, 5, 4, 4, 1, 9, [], 0⟩ : RrFlush))] ∧
    1 < 2 ∧
    (⟨[0x42#8, 0x58#8, 0x52#8, 0x46#8], 1, 1, 5, 4, 4, 1, 9, [], 0⟩ : RrFlush).magic = [0x42#8, 0x58#8, 0x52#8, 0x46#8] ∧
    (⟨[0x42#8, 0x58#8, 0x52#8, 0x46#8], 1, 1, 5, 4, 4, 1, 9, [], 0⟩ : RrFlush).version = 1) ∧
   (privBar (up [(F.RRC_FREEZE_frozen, 1)]) 0x16 = none) := 
  ⟨by decide +kernel, by decide +kernel, by decide +kernel, by decide +kernel, by decide +kernel⟩

theorem test_Resets_hypotheses_1 :
   (({ up [(F.BRK_CTL_boot_done, 1), (F.BRK_STATUS_live, 513)] with dram := [(9, 9#8)] }).bark.lc = none ∧
    (∀ x ∈ ({ up [(F.BRK_CTL_boot_done, 1), (F.BRK_STATUS_live, 513)] with dram := [(9, 9#8)] }).hwd.runs, x.2.op ≠ 16) ∧
    ({ up [(F.BRK_CTL_boot_done, 1), (F.BRK_STATUS_live, 513)] with dram := [(9, 9#8)] }).bark.hold = false) ∧
   (({ up [(F.BRK_STATUS_live, 1)] with bark := { hold := true } }).bark.lc = none ∧
    (∀ x ∈ ({ up [(F.BRK_STATUS_live, 1)] with bark := { hold := true } }).hwd.runs, x.2.op ≠ 16) ∧
    ({ up [(F.BRK_STATUS_live, 1)] with bark := { hold := true } }).bark.hold = true ∧ 0 < 10 ∧
    bit (({ up [(F.BRK_STATUS_live, 1)] with bark := { hold := true } }).get F.BRK_STATUS_live) 0 = true ∧
    storedClass ({ up [(F.BRK_STATUS_live, 1)] with bark := { hold := true } }) 0 = 2 ∧ 2 ≤ 2 ∧ 2 < 4) ∧
   (({ State.reset with bark := { hold := true } }).bark.lc = none ∧
    (∀ x ∈ ({ State.reset with bark := { hold := true } }).hwd.runs, x.2.op ≠ 16) ∧
    ({ State.reset with bark := { hold := true } }).bark.hold = true ∧
    (∀ i < 10, bit (({ State.reset with bark := { hold := true } }).get F.BRK_STATUS_live) i = false)) ∧
   (({ up [(F.BRK_CTL_boot_done, 1), (F.GRF_BOOT_halt, 2)] with dram := [(9, 9#8)] }).bark.lc = none ∧
    (∀ x ∈ ({ up [(F.BRK_CTL_boot_done, 1), (F.GRF_BOOT_halt, 2)] with dram := [(9, 9#8)] }).hwd.runs, x.2.op ≠ 16)) ∧
   ((up [(F.STP_LOAD_LEN_len, 7)]).bark.lc = none ∧ (∀ x ∈ (up [(F.STP_LOAD_LEN_len, 7)]).hwd.runs, x.2.op ≠ 16) ∧
    (∀ c < 12, ∀ i < unitCount c, (up [(F.STP_LOAD_LEN_len, 7)]).pruned c i = false)) := 
  ⟨by decide +kernel, by decide +kernel, by decide +kernel, by decide +kernel, by decide +kernel⟩

theorem test_Resets_hypotheses_2 :
   (3 ≠ 0) ∧
   (({ State.reset with board := { suppliesGood := false, porLow := true }, mon := { session := some ⟨1, 1, 9⟩ } }).board.porLow = true) ∧
   (({ State.reset with board := { suppliesGood := false, resetLow := true }, mon := { session := some ⟨1, 1, 9⟩ } }).board.porLow = false ∧
    ({ State.reset with board := { suppliesGood := false, resetLow := true }, mon := { session := some ⟨1, 1, 9⟩ } }).board.resetLow = true) ∧
   ((up [(F.BRK_CTL_boot_done, 1)]).board.porLow = false ∧ (up [(F.BRK_CTL_boot_done, 1)]).board.resetLow = false) ∧
   (privBar ({ up [(F.BRK_CTL_boot_done, 1)] with dram := [(9, 9#8)] }) 0x17 = none) := 
  ⟨by decide +kernel, by decide +kernel, by decide +kernel, by decide +kernel, by decide +kernel⟩

theorem test_MonitorReads_hypotheses_1 :
   (4095 < 4096 ∧ 1 ≤ 2 ∧ 2 ≤ 32) ∧
   ((4096 ≤ 0 ∨ 33 = 0 ∨ 32 < 33 ∨ 1 < 0)) ∧
   (State.reset.bark.hold = false ∧ 1 ≤ 64 ∧ 64 ≤ 64 ∧ 0x61010 % 4 = 0) ∧
   ((up [(F.RRC_SEQ_seq, 5)]).bark.hold = false ∧ 0x61030 % 4 = 0 ∧ mapped 0x61030 = true ∧
    (up [(F.RRC_SEQ_seq, 5)]).domOn (decidingDomain (up [(F.RRC_SEQ_seq, 5)]) 0x61030) = true) ∧
   (State.reset.bark.hold = false ∧ (1 = 0 ∨ 64 < 1 ∨ 2 % 4 ≠ 0)) ∧
   (({ State.reset with bark := { hold := true } }).bark.hold = true) ∧
   (State.reset.bark.hold = false) := 
  ⟨by decide +kernel, by decide +kernel, by decide +kernel, by decide +kernel, by decide +kernel, by decide +kernel, by decide +kernel⟩

theorem test_MonitorReads_hypotheses_2 :
   (State.reset.bark.hold = false ∧ [115200, 230400, 460800, 921600, 1500000, 3000000].contains 3000000 = true) ∧
   (State.reset.bark.hold = false ∧ [115200, 230400, 460800, 921600, 1500000, 3000000].contains 9600 = false) ∧
   (({ up [(F.MON_BAUD_rate, 3000000)] with mon := { baudPending := true } }).mon.baudPending = true) ∧
   (monRequest ([0xA5#8, 1#8, 0#8, 0#8, 7#8, 7#8] : List Byte) = true ∧
    monCrc ([0xA5#8, 1#8, 0#8, 0#8, 7#8, 7#8] : List Byte) = false) ∧
   (monRequest ([0xA5#8, 0x77#8, 0#8, 0#8] ++ leBytes 2 (crc16 [0x77#8, 0#8, 0#8]) : List Byte) = true ∧
    monCrc ([0xA5#8, 0x77#8, 0#8, 0#8] ++ leBytes 2 (crc16 [0x77#8, 0#8, 0#8]) : List Byte) = true ∧
    monCommands.contains (byteAt ([0xA5#8, 0x77#8, 0#8, 0#8] ++ leBytes 2 (crc16 [0x77#8, 0#8, 0#8]) : List Byte) 1) = false) ∧
   (monRequest ([0xA5#8, 1#8, 9#8, 0#8, 7#8, 7#8] : List Byte) = false) ∧
   (bit (State.reset.get F.PWR_WAKE_EN_en) 9 = true) := 
  ⟨by decide +kernel, by decide +kernel, by decide +kernel, by decide +kernel, by decide +kernel, by decide +kernel, by decide +kernel⟩

theorem test_MonitorReads_hypotheses_3 :
   (privBar ({ State.reset with mon := { session := some ⟨255, 1, 9⟩ } }) 0x18 = none) ∧
   (({ up [(F.MON_STATUS_session, 1)] with mon := { session := some ⟨255, 1, 9⟩ } }).domOn 0 = true ∧
    ({ up [(F.MON_STATUS_session, 1)] with mon := { session := some ⟨255, 1, 9⟩ } }).get F.MON_CTL_priv_off = 0 ∧
    ({ up [(F.MON_STATUS_session, 1)] with mon := { session := some ⟨255, 1, 9⟩ } }).mon.privOff = false ∧
    coreFenced ({ up [(F.MON_STATUS_session, 1)] with mon := { session := some ⟨255, 1, 9⟩ } }) 0 = false) ∧
   (({ up [(F.MON_STATUS_session, 1)] with mon := { session := some ⟨255, 1, 9⟩ } }).mon.session = some (⟨255, 1, 9⟩ : MonSession)) ∧
   (privBar ({ up [(F.BRK_LC_state, 4)] with mon := { failures := 7, nonce := some (List.replicate 32 0#8) } }) 0x10 = none ∧
    ({ up [(F.BRK_LC_state, 4)] with mon := { failures := 7, nonce := some (List.replicate 32 0#8) } }).mon.lockout = false ∧
    authStatus ({ up [(F.BRK_LC_state, 4)] with mon := { failures := 7, nonce := some (List.replicate 32 0#8) } }) ({ up [(F.BRK_LC_state, 4)] with mon := { failures := 7, nonce := some (List.replicate 32 0#8) } }).mon.nonce aChallenge = 0 ∧
    byteAt aChallenge 6 = 0) ∧
   (({ State.reset with mon := { lockout := true, failures := 9 } }).mon.lockout = true) := 
  ⟨by decide +kernel, by decide +kernel, by decide +kernel, by decide +kernel, by decide +kernel⟩

theorem test_MonitorPrivileged_hypotheses_1 :
   (privBar (up [(F.GRF_BOOT_halt, 2)]) 0x10 = some 3) ∧
   (privBar (up [(F.GRF_BOOT_halt, 2)]) 0x11 = some 3) ∧
   (privBar (up [(F.GRF_BOOT_halt, 2)]) 0x12 = some 3) ∧
   (privBar (up [(F.GRF_BOOT_halt, 2)]) 0x13 = some 3) ∧
   (privBar (up [(F.GRF_BOOT_halt, 2)]) 0x14 = some 3) ∧
   (privBar (up [(F.GRF_BOOT_halt, 2)]) 0x15 = some 3) ∧
   (privBar (up [(F.GRF_BOOT_halt, 2)]) 0x16 = some 3) ∧
   (privBar (up [(F.GRF_BOOT_halt, 2)]) 0x17 = some 3) := 
  ⟨by decide +kernel, by decide +kernel, by decide +kernel, by decide +kernel, by decide +kernel, by decide +kernel, by decide +kernel, by decide +kernel⟩

theorem test_MonitorPrivileged_hypotheses_2 :
   (privBar (up [(F.GRF_BOOT_halt, 2)]) 0x18 = some 3) ∧
   (privBar State.reset 0x11 = none ∧ ([7#32] : List Word) ≠ [] ∧ ([7#32] : List Word).length ≤ 64 ∧ 0x20020 % 4 = 0) ∧
   (privBar State.reset 0x11 = none ∧ State.reset.domOn 2 = true) ∧
   (privBar ({ up [(F.DDR_SIZE_mib, 1)] with dram := [(0xFFFFC, 3#8)] }) 0x12 = none ∧ 1 ≤ 2 ∧ 2 ≤ 256 ∧ 0xFFFF8 % 4 = 0 ∧
    ({ up [(F.DDR_SIZE_mib, 1)] with dram := [(0xFFFFC, 3#8)] }).domOn 26 = true ∧
    ({ up [(F.DDR_SIZE_mib, 1)] with dram := [(0xFFFFC, 3#8)] }).dramOk 0xFFFF8 (4 * 2) = true) ∧
   (privBar (up [(F.DDR_SIZE_mib, 1)]) 0x13 = none ∧ ([1#32, 0x80000000#32] : List Word) ≠ [] ∧
    ([1#32, 0x80000000#32] : List Word).length ≤ 256 ∧ 0xFFFF8 % 4 = 0 ∧ (up [(F.DDR_SIZE_mib, 1)]).domOn 26 = true ∧
    (up [(F.DDR_SIZE_mib, 1)]).dramOk 0xFFFF8 (4 * ([1#32, 0x80000000#32] : List Word).length) = true) ∧
   (privBar (up [(F.PRN_PRUNED_pruned 6 9, 128)]) 0x14 = none ∧ 2 ≤ 6 ∧ 295 < unitCount 6 ∧
    (up [(F.PRN_PRUNED_pruned 6 9, 128)]).prune.readmit = none ∧ (up [(F.PRN_PRUNED_pruned 6 9, 128)]).pruned 6 295 = true) ∧
   (privBar State.reset 0x15 = none ∧ (lifecycle State.reset ≤ 2 ∨ State.reset.mon.session ≠ none) ∧ 3 < unitCount 7 ∧
    State.reset.pruned 7 3 = false) ∧
   (privBar (up [(F.RRC_FREEZE_frozen, 1)]) 0x16 = none) := 
  ⟨by decide +kernel, by decide +kernel, by decide +kernel, by decide +kernel, by decide +kernel, by decide +kernel, by decide +kernel, by decide +kernel⟩

theorem test_MonitorPrivileged_hypotheses_3 :
   (privBar ({ up [(F.BRK_CTL_boot_done, 1)] with dram := [(9, 9#8)] }) 0x17 = none) ∧
   (privBar ({ State.reset with mon := { session := some ⟨255, 1, 9⟩ } }) 0x18 = none) ∧
   (privBar ({ State.reset with mon := { failures := 7, session := some ⟨255, 1, 9⟩ } }) 0x10 = none ∧
    (if ({ State.reset with mon := { failures := 7, session := some ⟨255, 1, 9⟩ } }).mon.lockout then 8 else authStatus ({ State.reset with mon := { failures := 7, session := some ⟨255, 1, 9⟩ } }) ({ State.reset with mon := { failures := 7, session := some ⟨255, 1, 9⟩ } }).mon.nonce ([] : List Byte)) = 7 ∧
    7 ≠ 0) ∧
   (privBar ({ up [(F.BRK_LC_state, 4)] with mon := { failures := 7, nonce := some (List.replicate 32 0#8) } }) 0x10 = none ∧
    ({ up [(F.BRK_LC_state, 4)] with mon := { failures := 7, nonce := some (List.replicate 32 0#8) } }).mon.lockout = false ∧
    authStatus ({ up [(F.BRK_LC_state, 4)] with mon := { failures := 7, nonce := some (List.replicate 32 0#8) } }) ({ up [(F.BRK_LC_state, 4)] with mon := { failures := 7, nonce := some (List.replicate 32 0#8) } }).mon.nonce aChallenge = 0 ∧
    byteAt aChallenge 6 = 0) ∧
   (privBar debugPart 0x10 = none ∧ debugPart.mon.lockout = false ∧
    authStatus debugPart debugPart.mon.nonce aDebugChallenge = 0 ∧ byteAt aDebugChallenge 6 = 1 ∧
    debugPart.hwd.lost.contains 10 = false ∧ slotCheck debugPart 10 13 none = none) ∧
   (({ State.reset with mon := { lockout := true, failures := 9 } }).mon.lockout = true) ∧
   (({ up [(F.MON_STATUS_session, 1)] with mon := { session := some ⟨255, 1, 9⟩ } }).mon.session = some (⟨255, 1, 9⟩ : MonSession)) ∧
   (({ up [(F.MON_STATUS_session, 1)] with mon := { session := some ⟨255, 1, 9⟩ } }).domOn 0 = true ∧
    ({ up [(F.MON_STATUS_session, 1)] with mon := { session := some ⟨255, 1, 9⟩ } }).get F.MON_CTL_priv_off = 0 ∧
    ({ up [(F.MON_STATUS_session, 1)] with mon := { session := some ⟨255, 1, 9⟩ } }).mon.privOff = false ∧
    coreFenced ({ up [(F.MON_STATUS_session, 1)] with mon := { session := some ⟨255, 1, 9⟩ } }) 0 = false) := 
  ⟨by decide +kernel,
   by decide +kernel,
   by decide +kernel,
   by decide +kernel,
   ⟨by decide +kernel, by decide +kernel, (by unfold authStatus; rw [debugPart_record]; decide +kernel), by decide +kernel, by decide +kernel, by decide +kernel⟩,
   by decide +kernel,
   by decide +kernel,
   by decide +kernel⟩

theorem test_HostLink_hypotheses_1 :
   (({ State.reset with tap := { perstLow := true }, power := { wakeL := true } }).tap.perstLow = true ∧
    bit (({ State.reset with tap := { perstLow := true }, power := { wakeL := true } }).get F.PWR_WAKE_EN_en) 3 = true) ∧
   (State.reset.get F.TPR_LINK_pm = 0 ∧ State.reset.tap.perstLow = false ∧ LevelsAgree State.reset) ∧
   ((dom 27 .ret [(F.TPR_LINK_pm, 1)]).get F.TPR_LINK_pm = 1 ∧ ((dom 27 .ret [(F.TPR_LINK_pm, 1)]).dom 27).st = .ret ∧
    bit ((dom 27 .ret [(F.TPR_LINK_pm, 1)]).get F.PWR_WAKE_EN_en) 2 = true) ∧
   (({ dom 27 .retToOn [(F.TPR_LINK_pm, 1)] with tap := { pba := [63], msix := [(63, ⟨16, 5, false⟩)] } }).tap.perstLow = false ∧
    trains 4 2 = true) ∧
   (({ dom 27 .retToOn [(F.TPR_LINK_pm, 1)] with tap := { pba := [63], msix := [(63, ⟨16, 5, false⟩)] } }).tap.perstLow = false ∧
    trains 4 2 = true ∧ 63 < 64 ∧
    ({ dom 27 .retToOn [(F.TPR_LINK_pm, 1)] with tap := { pba := [63], msix := [(63, ⟨16, 5, false⟩)] } }).tap.pba.contains 63 = true ∧
    (tabGet ({ dom 27 .retToOn [(F.TPR_LINK_pm, 1)] with tap := { pba := [63], msix := [(63, ⟨16, 5, false⟩)] } }).tap.msix 63 {}).masked = false ∧
    ({ dom 27 .retToOn [(F.TPR_LINK_pm, 1)] with tap := { pba := [63], msix := [(63, ⟨16, 5, false⟩)] } }).tap.funcMask = false) ∧
   (({ State.reset with tap := { gapRunning := [0, 34] } }).tap.gapRunning.contains 34 = true ∧
    ({ State.reset with tap := { gapRunning := [0, 34] } }).tap.coalesced.contains 34 = false) := 
  ⟨by decide +kernel, by decide +kernel, by decide +kernel, by decide +kernel, by decide +kernel, by decide +kernel⟩

theorem test_HostLink_hypotheses_2 :
   (({ State.reset with tap := { gapRunning := [34], coalesced := [34], msix := [(34, ⟨16, 5, false⟩)] } }).tap.gapRunning.contains 34 = true ∧
    ({ State.reset with tap := { gapRunning := [34], coalesced := [34], msix := [(34, ⟨16, 5, false⟩)] } }).tap.coalesced.contains 34 = true ∧
    ({ State.reset with tap := { gapRunning := [34], coalesced := [34], msix := [(34, ⟨16, 5, false⟩)] } }).owner 6 (vectorBlock 34) = 0x0800 ∧
    ({ State.reset with tap := { gapRunning := [34], coalesced := [34], msix := [(34, ⟨16, 5, false⟩)] } }).get F.TPR_LINK_pm = 0 ∧
    (tabGet ({ State.reset with tap := { gapRunning := [34], coalesced := [34], msix := [(34, ⟨16, 5, false⟩)] } }).tap.msix 34 {}).masked = false ∧
    ({ State.reset with tap := { gapRunning := [34], coalesced := [34], msix := [(34, ⟨16, 5, false⟩)] } }).tap.funcMask = false) ∧
   ((up [(F.DDR_SIZE_mib, 1)]).domOn 27 = true ∧ (up [(F.DDR_SIZE_mib, 1)]).domOn 26 = true ∧
    (up [(F.DDR_SIZE_mib, 1)]).get F.TPR_BAR2_WIN_win * 2 ^ 32 + 0xFFFFF % 2 ^ 32 / 4 * 4 = 0xFFFFC ∧
    (up [(F.DDR_SIZE_mib, 1)]).dramOk 0xFFFFC 4 = true) ∧
   (({ up [(F.DDR_SIZE_mib, 1)] with dram := [(0, 7#8)] }).domOn 27 = true ∧
    ({ up [(F.DDR_SIZE_mib, 1)] with dram := [(0, 7#8)] }).domOn 26 = true ∧
    ({ up [(F.DDR_SIZE_mib, 1)] with dram := [(0, 7#8)] }).get F.TPR_BAR2_WIN_win * 2 ^ 32 + 3 % 2 ^ 32 / 4 * 4 = 0 ∧
    ({ up [(F.DDR_SIZE_mib, 1)] with dram := [(0, 7#8)] }).dramOk 0 4 = true) ∧
   ((up [(F.DDR_SIZE_mib, 1)]).domOn 27 = true ∧ (up [(F.DDR_SIZE_mib, 1)]).domOn 26 = true ∧
    (up [(F.DDR_SIZE_mib, 1)]).get F.TPR_BAR2_WIN_win * 2 ^ 32 + 0x100000 % 2 ^ 32 / 4 * 4 = 0x100000 ∧
    (up [(F.DDR_SIZE_mib, 1)]).dramOk 0x100000 4 = false) ∧
   (({ up ([(F.DDR_SIZE_mib, 1), (F.TPR_MB_TP_CFG_en, 1), (F.TPR_MB_TP_TAIL_index, 15), (F.TPR_MB_VER_valid, 0), (F.TPR_MB_VER_major, 3)]) with dram := memWrite [] 0xF00 (fit 256 ([1#8, 0#8, 1#8, 0#8, 4#8, 0#8, 0#8, 0#8, 9#8, 0#8, 0#8, 0#8, 0#8, 0#8, 0#8, 0#8, 1#8, 0#8, 3#8, 7#8])) }).domOn 26 = true ∧
    mailFront ({ up ([(F.DDR_SIZE_mib, 1), (F.TPR_MB_TP_CFG_en, 1), (F.TPR_MB_TP_TAIL_index, 15), (F.TPR_MB_VER_valid, 0), (F.TPR_MB_VER_major, 3)]) with dram := memWrite [] 0xF00 (fit 256 ([1#8, 0#8, 1#8, 0#8, 4#8, 0#8, 0#8, 0#8, 9#8, 0#8, 0#8, 0#8, 0#8, 0#8, 0#8, 0#8, 1#8, 0#8, 3#8, 7#8])) }) = some 0xF00 ∧
    ({ up ([(F.DDR_SIZE_mib, 1), (F.TPR_MB_TP_CFG_en, 1), (F.TPR_MB_TP_TAIL_index, 15), (F.TPR_MB_VER_valid, 0), (F.TPR_MB_VER_major, 3)]) with dram := memWrite [] 0xF00 (fit 256 ([1#8, 0#8, 1#8, 0#8, 4#8, 0#8, 0#8, 0#8, 9#8, 0#8, 0#8, 0#8, 0#8, 0#8, 0#8, 0#8, 1#8, 0#8, 3#8, 7#8])) }).dramOk 0xF00 256 = true ∧
    ({ up ([(F.DDR_SIZE_mib, 1), (F.TPR_MB_TP_CFG_en, 1), (F.TPR_MB_TP_TAIL_index, 15), (F.TPR_MB_VER_valid, 0), (F.TPR_MB_VER_major, 3)]) with dram := memWrite [] 0xF00 (fit 256 ([1#8, 0#8, 1#8, 0#8, 4#8, 0#8, 0#8, 0#8, 9#8, 0#8, 0#8, 0#8, 0#8, 0#8, 0#8, 0#8, 1#8, 0#8, 3#8, 7#8])) }).dramRead 0xF00 256 = (fit 256 ([1#8, 0#8, 1#8, 0#8, 4#8, 0#8, 0#8, 0#8, 9#8, 0#8, 0#8, 0#8, 0#8, 0#8, 0#8, 0#8, 1#8, 0#8, 3#8, 7#8]) : List Byte) ∧
    leAt (fit 256 ([1#8, 0#8, 1#8, 0#8, 4#8, 0#8, 0#8, 0#8, 9#8, 0#8, 0#8, 0#8, 0#8, 0#8, 0#8, 0#8, 1#8, 0#8, 3#8, 7#8]) : List Byte) 2 2 = 1 ∧
    leAt (fit 256 ([1#8, 0#8, 1#8, 0#8, 4#8, 0#8, 0#8, 0#8, 9#8, 0#8, 0#8, 0#8, 0#8, 0#8, 0#8, 0#8, 1#8, 0#8, 3#8, 7#8]) : List Byte) 4 2 ≤ 240 ∧
    chooseVersion (helloOffers ((fit 256 ([1#8, 0#8, 1#8, 0#8, 4#8, 0#8, 0#8, 0#8, 9#8, 0#8, 0#8, 0#8, 0#8, 0#8, 0#8, 0#8, 1#8, 0#8, 3#8, 7#8]) : List Byte).drop 16)) = some (3, 2) ∧
    ({ up ([(F.DDR_SIZE_mib, 1), (F.TPR_MB_TP_CFG_en, 1), (F.TPR_MB_TP_TAIL_index, 15), (F.TPR_MB_VER_valid, 0), (F.TPR_MB_VER_major, 3)]) with dram := memWrite [] 0xF00 (fit 256 ([1#8, 0#8, 1#8, 0#8, 4#8, 0#8, 0#8, 0#8, 9#8, 0#8, 0#8, 0#8, 0#8, 0#8, 0#8, 0#8, 1#8, 0#8, 3#8, 7#8])) }).get F.TPR_MB_TH_CFG_en = 0) ∧
   (({ up ([(F.DDR_SIZE_mib, 1), (F.TPR_MB_TP_CFG_en, 1), (F.TPR_MB_TP_TAIL_index, 15), (F.TPR_MB_VER_valid, 1), (F.TPR_MB_VER_major, 3)]) with dram := memWrite [] 0xF00 (fit 256 ([1#8, 0#8, 1#8, 0#8, 4#8, 0#8, 0#8, 0#8, 9#8, 0#8, 0#8, 0#8, 0#8, 0#8, 0#8, 0#8, 0#8, 0#8])) }).domOn 26 = true ∧
    mailFront ({ up ([(F.DDR_SIZE_mib, 1), (F.TPR_MB_TP_CFG_en, 1), (F.TPR_MB_TP_TAIL_index, 15), (F.TPR_MB_VER_valid, 1), (F.TPR_MB_VER_major, 3)]) with dram := memWrite [] 0xF00 (fit 256 ([1#8, 0#8, 1#8, 0#8, 4#8, 0#8, 0#8, 0#8, 9#8, 0#8, 0#8, 0#8, 0#8, 0#8, 0#8, 0#8, 0#8, 0#8])) }) = some 0xF00 ∧
    ({ up ([(F.DDR_SIZE_mib, 1), (F.TPR_MB_TP_CFG_en, 1), (F.TPR_MB_TP_TAIL_index, 15), (F.TPR_MB_VER_valid, 1), (F.TPR_MB_VER_major, 3)]) with dram := memWrite [] 0xF00 (fit 256 ([1#8, 0#8, 1#8, 0#8, 4#8, 0#8, 0#8, 0#8, 9#8, 0#8, 0#8, 0#8, 0#8, 0#8, 0#8, 0#8, 0#8, 0#8])) }).dramOk 0xF00 256 = true ∧
    ({ up ([(F.DDR_SIZE_mib, 1), (F.TPR_MB_TP_CFG_en, 1), (F.TPR_MB_TP_TAIL_index, 15), (F.TPR_MB_VER_valid, 1), (F.TPR_MB_VER_major, 3)]) with dram := memWrite [] 0xF00 (fit 256 ([1#8, 0#8, 1#8, 0#8, 4#8, 0#8, 0#8, 0#8, 9#8, 0#8, 0#8, 0#8, 0#8, 0#8, 0#8, 0#8, 0#8, 0#8])) }).dramRead 0xF00 256 = (fit 256 ([1#8, 0#8, 1#8, 0#8, 4#8, 0#8, 0#8, 0#8, 9#8, 0#8, 0#8, 0#8, 0#8, 0#8, 0#8, 0#8, 0#8, 0#8]) : List Byte) ∧
    leAt (fit 256 ([1#8, 0#8, 1#8, 0#8, 4#8, 0#8, 0#8, 0#8, 9#8, 0#8, 0#8, 0#8, 0#8, 0#8, 0#8, 0#8, 0#8, 0#8]) : List Byte) 2 2 = 1 ∧
    leAt (fit 256 ([1#8, 0#8, 1#8, 0#8, 4#8, 0#8, 0#8, 0#8, 9#8, 0#8, 0#8, 0#8, 0#8, 0#8, 0#8, 0#8, 0#8, 0#8]) : List Byte) 4 2 ≤ 240 ∧
    chooseVersion (helloOffers ((fit 256 ([1#8, 0#8, 1#8, 0#8, 4#8, 0#8, 0#8, 0#8, 9#8, 0#8, 0#8, 0#8, 0#8, 0#8, 0#8, 0#8, 0#8, 0#8]) : List Byte).drop 16)) = none ∧
    ({ up ([(F.DDR_SIZE_mib, 1), (F.TPR_MB_TP_CFG_en, 1), (F.TPR_MB_TP_TAIL_index, 15), (F.TPR_MB_VER_valid, 1), (F.TPR_MB_VER_major, 3)]) with dram := memWrite [] 0xF00 (fit 256 ([1#8, 0#8, 1#8, 0#8, 4#8, 0#8, 0#8, 0#8, 9#8, 0#8, 0#8, 0#8, 0#8, 0#8, 0#8, 0#8, 0#8, 0#8])) }).get F.TPR_MB_TH_CFG_en = 0) := 
  ⟨by decide +kernel, by decide +kernel, by decide +kernel, by decide +kernel, by decide +kernel, by decide +kernel⟩

theorem test_HostLink_hypotheses_3 :
   (({ up ([(F.DDR_SIZE_mib, 1), (F.TPR_MB_TP_CFG_en, 1), (F.TPR_MB_TP_TAIL_index, 15), (F.TPR_MB_VER_valid, 1), (F.TPR_MB_VER_major, 3)] ++ [(F.TPR_MB_TH_CFG_en, 1), (F.TPR_MB_TH_BASE_LO_addr, 0x2000), (F.TPR_MB_TH_HEAD_index, 15), (F.TPR_MB_TH_TAIL_index, 1)]) with dram := memWrite [] 0xF00 (fit 256 ([3#8, 0#8, 2#8, 0#8, 2#8, 0#8, 0#8, 0#8, 9#8, 0#8, 0#8, 0#8, 0#8, 0#8, 0#8, 0#8, 0xAB#8, 0xCD#8])) }).domOn 26 = true ∧
    mailFront ({ up ([(F.DDR_SIZE_mib, 1), (F.TPR_MB_TP_CFG_en, 1), (F.TPR_MB_TP_TAIL_index, 15), (F.TPR_MB_VER_valid, 1), (F.TPR_MB_VER_major, 3)] ++ [(F.TPR_MB_TH_CFG_en, 1), (F.TPR_MB_TH_BASE_LO_addr, 0x2000), (F.TPR_MB_TH_HEAD_index, 15), (F.TPR_MB_TH_TAIL_index, 1)]) with dram := memWrite [] 0xF00 (fit 256 ([3#8, 0#8, 2#8, 0#8, 2#8, 0#8, 0#8, 0#8, 9#8, 0#8, 0#8, 0#8, 0#8, 0#8, 0#8, 0#8, 0xAB#8, 0xCD#8])) }) = some 0xF00 ∧
    ({ up ([(F.DDR_SIZE_mib, 1), (F.TPR_MB_TP_CFG_en, 1), (F.TPR_MB_TP_TAIL_index, 15), (F.TPR_MB_VER_valid, 1), (F.TPR_MB_VER_major, 3)] ++ [(F.TPR_MB_TH_CFG_en, 1), (F.TPR_MB_TH_BASE_LO_addr, 0x2000), (F.TPR_MB_TH_HEAD_index, 15), (F.TPR_MB_TH_TAIL_index, 1)]) with dram := memWrite [] 0xF00 (fit 256 ([3#8, 0#8, 2#8, 0#8, 2#8, 0#8, 0#8, 0#8, 9#8, 0#8, 0#8, 0#8, 0#8, 0#8, 0#8, 0#8, 0xAB#8, 0xCD#8])) }).dramOk 0xF00 256 = true ∧
    ({ up ([(F.DDR_SIZE_mib, 1), (F.TPR_MB_TP_CFG_en, 1), (F.TPR_MB_TP_TAIL_index, 15), (F.TPR_MB_VER_valid, 1), (F.TPR_MB_VER_major, 3)] ++ [(F.TPR_MB_TH_CFG_en, 1), (F.TPR_MB_TH_BASE_LO_addr, 0x2000), (F.TPR_MB_TH_HEAD_index, 15), (F.TPR_MB_TH_TAIL_index, 1)]) with dram := memWrite [] 0xF00 (fit 256 ([3#8, 0#8, 2#8, 0#8, 2#8, 0#8, 0#8, 0#8, 9#8, 0#8, 0#8, 0#8, 0#8, 0#8, 0#8, 0#8, 0xAB#8, 0xCD#8])) }).dramRead 0xF00 256 = (fit 256 ([3#8, 0#8, 2#8, 0#8, 2#8, 0#8, 0#8, 0#8, 9#8, 0#8, 0#8, 0#8, 0#8, 0#8, 0#8, 0#8, 0xAB#8, 0xCD#8]) : List Byte) ∧
    leAt (fit 256 ([3#8, 0#8, 2#8, 0#8, 2#8, 0#8, 0#8, 0#8, 9#8, 0#8, 0#8, 0#8, 0#8, 0#8, 0#8, 0#8, 0xAB#8, 0xCD#8]) : List Byte) 2 2 = 2 ∧
    leAt (fit 256 ([3#8, 0#8, 2#8, 0#8, 2#8, 0#8, 0#8, 0#8, 9#8, 0#8, 0#8, 0#8, 0#8, 0#8, 0#8, 0#8, 0xAB#8, 0xCD#8]) : List Byte) 4 2 ≤ 240 ∧
    ({ up ([(F.DDR_SIZE_mib, 1), (F.TPR_MB_TP_CFG_en, 1), (F.TPR_MB_TP_TAIL_index, 15), (F.TPR_MB_VER_valid, 1), (F.TPR_MB_VER_major, 3)] ++ [(F.TPR_MB_TH_CFG_en, 1), (F.TPR_MB_TH_BASE_LO_addr, 0x2000), (F.TPR_MB_TH_HEAD_index, 15), (F.TPR_MB_TH_TAIL_index, 1)]) with dram := memWrite [] 0xF00 (fit 256 ([3#8, 0#8, 2#8, 0#8, 2#8, 0#8, 0#8, 0#8, 9#8, 0#8, 0#8, 0#8, 0#8, 0#8, 0#8, 0#8, 0xAB#8, 0xCD#8])) }).get F.TPR_MB_VER_valid = 1 ∧
    byteAt (fit 256 ([3#8, 0#8, 2#8, 0#8, 2#8, 0#8, 0#8, 0#8, 9#8, 0#8, 0#8, 0#8, 0#8, 0#8, 0#8, 0#8, 0xAB#8, 0xCD#8]) : List Byte) 0 = ({ up ([(F.DDR_SIZE_mib, 1), (F.TPR_MB_TP_CFG_en, 1), (F.TPR_MB_TP_TAIL_index, 15), (F.TPR_MB_VER_valid, 1), (F.TPR_MB_VER_major, 3)] ++ [(F.TPR_MB_TH_CFG_en, 1), (F.TPR_MB_TH_BASE_LO_addr, 0x2000), (F.TPR_MB_TH_HEAD_index, 15), (F.TPR_MB_TH_TAIL_index, 1)]) with dram := memWrite [] 0xF00 (fit 256 ([3#8, 0#8, 2#8, 0#8, 2#8, 0#8, 0#8, 0#8, 9#8, 0#8, 0#8, 0#8, 0#8, 0#8, 0#8, 0#8, 0xAB#8, 0xCD#8])) }).get F.TPR_MB_VER_major ∧
    ({ up ([(F.DDR_SIZE_mib, 1), (F.TPR_MB_TP_CFG_en, 1), (F.TPR_MB_TP_TAIL_index, 15), (F.TPR_MB_VER_valid, 1), (F.TPR_MB_VER_major, 3)] ++ [(F.TPR_MB_TH_CFG_en, 1), (F.TPR_MB_TH_BASE_LO_addr, 0x2000), (F.TPR_MB_TH_HEAD_index, 15), (F.TPR_MB_TH_TAIL_index, 1)]) with dram := memWrite [] 0xF00 (fit 256 ([3#8, 0#8, 2#8, 0#8, 2#8, 0#8, 0#8, 0#8, 9#8, 0#8, 0#8, 0#8, 0#8, 0#8, 0#8, 0#8, 0xAB#8, 0xCD#8])) }).get F.TPR_MB_TH_CFG_en = 1 ∧
    ({ up ([(F.DDR_SIZE_mib, 1), (F.TPR_MB_TP_CFG_en, 1), (F.TPR_MB_TP_TAIL_index, 15), (F.TPR_MB_VER_valid, 1), (F.TPR_MB_VER_major, 3)] ++ [(F.TPR_MB_TH_CFG_en, 1), (F.TPR_MB_TH_BASE_LO_addr, 0x2000), (F.TPR_MB_TH_HEAD_index, 15), (F.TPR_MB_TH_TAIL_index, 1)]) with dram := memWrite [] 0xF00 (fit 256 ([3#8, 0#8, 2#8, 0#8, 2#8, 0#8, 0#8, 0#8, 9#8, 0#8, 0#8, 0#8, 0#8, 0#8, 0#8, 0#8, 0xAB#8, 0xCD#8])) }).tap.outbox = [] ∧
    mailSlots (({ up ([(F.DDR_SIZE_mib, 1), (F.TPR_MB_TP_CFG_en, 1), (F.TPR_MB_TP_TAIL_index, 15), (F.TPR_MB_VER_valid, 1), (F.TPR_MB_VER_major, 3)] ++ [(F.TPR_MB_TH_CFG_en, 1), (F.TPR_MB_TH_BASE_LO_addr, 0x2000), (F.TPR_MB_TH_HEAD_index, 15), (F.TPR_MB_TH_TAIL_index, 1)]) with dram := memWrite [] 0xF00 (fit 256 ([3#8, 0#8, 2#8, 0#8, 2#8, 0#8, 0#8, 0#8, 9#8, 0#8, 0#8, 0#8, 0#8, 0#8, 0#8, 0#8, 0xAB#8, 0xCD#8])) }).get F.TPR_MB_TH_CFG_log2_size) = 16 ∧
    ({ up ([(F.DDR_SIZE_mib, 1), (F.TPR_MB_TP_CFG_en, 1), (F.TPR_MB_TP_TAIL_index, 15), (F.TPR_MB_VER_valid, 1), (F.TPR_MB_VER_major, 3)] ++ [(F.TPR_MB_TH_CFG_en, 1), (F.TPR_MB_TH_BASE_LO_addr, 0x2000), (F.TPR_MB_TH_HEAD_index, 15), (F.TPR_MB_TH_TAIL_index, 1)]) with dram := memWrite [] 0xF00 (fit 256 ([3#8, 0#8, 2#8, 0#8, 2#8, 0#8, 0#8, 0#8, 9#8, 0#8, 0#8, 0#8, 0#8, 0#8, 0#8, 0#8, 0xAB#8, 0xCD#8])) }).get F.TPR_MB_TH_HEAD_index % 16 = 15 ∧
    (15 + 1) % 16 ≠ ({ up ([(F.DDR_SIZE_mib, 1), (F.TPR_MB_TP_CFG_en, 1), (F.TPR_MB_TP_TAIL_index, 15), (F.TPR_MB_VER_valid, 1), (F.TPR_MB_VER_major, 3)] ++ [(F.TPR_MB_TH_CFG_en, 1), (F.TPR_MB_TH_BASE_LO_addr, 0x2000), (F.TPR_MB_TH_HEAD_index, 15), (F.TPR_MB_TH_TAIL_index, 1)]) with dram := memWrite [] 0xF00 (fit 256 ([3#8, 0#8, 2#8, 0#8, 2#8, 0#8, 0#8, 0#8, 9#8, 0#8, 0#8, 0#8, 0#8, 0#8, 0#8, 0#8, 0xAB#8, 0xCD#8])) }).get F.TPR_MB_TH_TAIL_index % 16 ∧
    ({ up ([(F.DDR_SIZE_mib, 1), (F.TPR_MB_TP_CFG_en, 1), (F.TPR_MB_TP_TAIL_index, 15), (F.TPR_MB_VER_valid, 1), (F.TPR_MB_VER_major, 3)] ++ [(F.TPR_MB_TH_CFG_en, 1), (F.TPR_MB_TH_BASE_LO_addr, 0x2000), (F.TPR_MB_TH_HEAD_index, 15), (F.TPR_MB_TH_TAIL_index, 1)]) with dram := memWrite [] 0xF00 (fit 256 ([3#8, 0#8, 2#8, 0#8, 2#8, 0#8, 0#8, 0#8, 9#8, 0#8, 0#8, 0#8, 0#8, 0#8, 0#8, 0#8, 0xAB#8, 0xCD#8])) }).dramOk (({ up ([(F.DDR_SIZE_mib, 1), (F.TPR_MB_TP_CFG_en, 1), (F.TPR_MB_TP_TAIL_index, 15), (F.TPR_MB_VER_valid, 1), (F.TPR_MB_VER_major, 3)] ++ [(F.TPR_MB_TH_CFG_en, 1), (F.TPR_MB_TH_BASE_LO_addr, 0x2000), (F.TPR_MB_TH_HEAD_index, 15), (F.TPR_MB_TH_TAIL_index, 1)]) with dram := memWrite [] 0xF00 (fit 256 ([3#8, 0#8, 2#8, 0#8, 2#8, 0#8, 0#8, 0#8, 9#8, 0#8, 0#8, 0#8, 0#8, 0#8, 0#8, 0#8, 0xAB#8, 0xCD#8])) }).pair F.TPR_MB_TH_BASE_LO_addr F.TPR_MB_TH_BASE_HI_addr + 256 * 15) 256 = true) ∧
   (({ up ([(F.DDR_SIZE_mib, 1), (F.TPR_MB_TP_CFG_en, 1), (F.TPR_MB_TP_TAIL_index, 15), (F.TPR_MB_VER_valid, 1), (F.TPR_MB_VER_major, 3)]) with dram := memWrite [] 0xF00 (fit 256 ([3#8, 0#8, 0#8, 0x10#8, 2#8, 0#8, 0#8, 0#8, 9#8, 0#8, 0#8, 0#8, 0#8, 0#8, 0#8, 0#8, 0xAB#8, 0xCD#8])), grf := { started := true } }).domOn 26 = true ∧
    mailFront ({ up ([(F.DDR_SIZE_mib, 1), (F.TPR_MB_TP_CFG_en, 1), (F.TPR_MB_TP_TAIL_index, 15), (F.TPR_MB_VER_valid, 1), (F.TPR_MB_VER_major, 3)]) with dram := memWrite [] 0xF00 (fit 256 ([3#8, 0#8, 0#8, 0x10#8, 2#8, 0#8, 0#8, 0#8, 9#8, 0#8, 0#8, 0#8, 0#8, 0#8, 0#8, 0#8, 0xAB#8, 0xCD#8])), grf := { started := true } }) = some 0xF00 ∧
    ({ up ([(F.DDR_SIZE_mib, 1), (F.TPR_MB_TP_CFG_en, 1), (F.TPR_MB_TP_TAIL_index, 15), (F.TPR_MB_VER_valid, 1), (F.TPR_MB_VER_major, 3)]) with dram := memWrite [] 0xF00 (fit 256 ([3#8, 0#8, 0#8, 0x10#8, 2#8, 0#8, 0#8, 0#8, 9#8, 0#8, 0#8, 0#8, 0#8, 0#8, 0#8, 0#8, 0xAB#8, 0xCD#8])), grf := { started := true } }).dramOk 0xF00 256 = true ∧
    ({ up ([(F.DDR_SIZE_mib, 1), (F.TPR_MB_TP_CFG_en, 1), (F.TPR_MB_TP_TAIL_index, 15), (F.TPR_MB_VER_valid, 1), (F.TPR_MB_VER_major, 3)]) with dram := memWrite [] 0xF00 (fit 256 ([3#8, 0#8, 0#8, 0x10#8, 2#8, 0#8, 0#8, 0#8, 9#8, 0#8, 0#8, 0#8, 0#8, 0#8, 0#8, 0#8, 0xAB#8, 0xCD#8])), grf := { started := true } }).dramRead 0xF00 256 = (fit 256 ([3#8, 0#8, 0#8, 0x10#8, 2#8, 0#8, 0#8, 0#8, 9#8, 0#8, 0#8, 0#8, 0#8, 0#8, 0#8, 0#8, 0xAB#8, 0xCD#8]) : List Byte) ∧
    0x1000 ≤ leAt (fit 256 ([3#8, 0#8, 0#8, 0x10#8, 2#8, 0#8, 0#8, 0#8, 9#8, 0#8, 0#8, 0#8, 0#8, 0#8, 0#8, 0#8, 0xAB#8, 0xCD#8]) : List Byte) 2 2 ∧
    leAt (fit 256 ([3#8, 0#8, 0#8, 0x10#8, 2#8, 0#8, 0#8, 0#8, 9#8, 0#8, 0#8, 0#8, 0#8, 0#8, 0#8, 0#8, 0xAB#8, 0xCD#8]) : List Byte) 2 2 ≤ 0x7FFF ∧
    mailRefusal (fit 256 ([3#8, 0#8, 0#8, 0x10#8, 2#8, 0#8, 0#8, 0#8, 9#8, 0#8, 0#8, 0#8, 0#8, 0#8, 0#8, 0#8, 0xAB#8, 0xCD#8]) : List Byte) ({ up ([(F.DDR_SIZE_mib, 1), (F.TPR_MB_TP_CFG_en, 1), (F.TPR_MB_TP_TAIL_index, 15), (F.TPR_MB_VER_valid, 1), (F.TPR_MB_VER_major, 3)]) with dram := memWrite [] 0xF00 (fit 256 ([3#8, 0#8, 0#8, 0x10#8, 2#8, 0#8, 0#8, 0#8, 9#8, 0#8, 0#8, 0#8, 0#8, 0#8, 0#8, 0#8, 0xAB#8, 0xCD#8])), grf := { started := true } }) = none) ∧
   (({ up ([(F.DDR_SIZE_mib, 1), (F.TPR_MB_TP_CFG_en, 1), (F.TPR_MB_TP_TAIL_index, 15), (F.TPR_MB_VER_valid, 1), (F.TPR_MB_VER_major, 3)]) with dram := memWrite [] 0xF00 (fit 256 ([3#8, 0#8, 0#8, 0x10#8, 2#8, 0#8, 0#8, 0#8, 9#8, 0#8, 0#8, 0#8, 0#8, 0#8, 0#8, 0#8, 0xAB#8, 0xCD#8])) }).domOn 26 = true ∧
    mailFront ({ up ([(F.DDR_SIZE_mib, 1), (F.TPR_MB_TP_CFG_en, 1), (F.TPR_MB_TP_TAIL_index, 15), (F.TPR_MB_VER_valid, 1), (F.TPR_MB_VER_major, 3)]) with dram := memWrite [] 0xF00 (fit 256 ([3#8, 0#8, 0#8, 0x10#8, 2#8, 0#8, 0#8, 0#8, 9#8, 0#8, 0#8, 0#8, 0#8, 0#8, 0#8, 0#8, 0xAB#8, 0xCD#8])) }) = some 0xF00 ∧
    ({ up ([(F.DDR_SIZE_mib, 1), (F.TPR_MB_TP_CFG_en, 1), (F.TPR_MB_TP_TAIL_index, 15), (F.TPR_MB_VER_valid, 1), (F.TPR_MB_VER_major, 3)]) with dram := memWrite [] 0xF00 (fit 256 ([3#8, 0#8, 0#8, 0x10#8, 2#8, 0#8, 0#8, 0#8, 9#8, 0#8, 0#8, 0#8, 0#8, 0#8, 0#8, 0#8, 0xAB#8, 0xCD#8])) }).dramOk 0xF00 256 = true ∧
    ({ up ([(F.DDR_SIZE_mib, 1), (F.TPR_MB_TP_CFG_en, 1), (F.TPR_MB_TP_TAIL_index, 15), (F.TPR_MB_VER_valid, 1), (F.TPR_MB_VER_major, 3)]) with dram := memWrite [] 0xF00 (fit 256 ([3#8, 0#8, 0#8, 0x10#8, 2#8, 0#8, 0#8, 0#8, 9#8, 0#8, 0#8, 0#8, 0#8, 0#8, 0#8, 0#8, 0xAB#8, 0xCD#8])) }).dramRead 0xF00 256 = (fit 256 ([3#8, 0#8, 0#8, 0x10#8, 2#8, 0#8, 0#8, 0#8, 9#8, 0#8, 0#8, 0#8, 0#8, 0#8, 0#8, 0#8, 0xAB#8, 0xCD#8]) : List Byte) ∧
    leAt (fit 256 ([3#8, 0#8, 0#8, 0x10#8, 2#8, 0#8, 0#8, 0#8, 9#8, 0#8, 0#8, 0#8, 0#8, 0#8, 0#8, 0#8, 0xAB#8, 0xCD#8]) : List Byte) 2 2 ≠ 1 ∧
    leAt (fit 256 ([3#8, 0#8, 0#8, 0x10#8, 2#8, 0#8, 0#8, 0#8, 9#8, 0#8, 0#8, 0#8, 0#8, 0#8, 0#8, 0#8, 0xAB#8, 0xCD#8]) : List Byte) 2 2 ≠ 2 ∧
    mailRefusal (fit 256 ([3#8, 0#8, 0#8, 0x10#8, 2#8, 0#8, 0#8, 0#8, 9#8, 0#8, 0#8, 0#8, 0#8, 0#8, 0#8, 0#8, 0xAB#8, 0xCD#8]) : List Byte) ({ up ([(F.DDR_SIZE_mib, 1), (F.TPR_MB_TP_CFG_en, 1), (F.TPR_MB_TP_TAIL_index, 15), (F.TPR_MB_VER_valid, 1), (F.TPR_MB_VER_major, 3)]) with dram := memWrite [] 0xF00 (fit 256 ([3#8, 0#8, 0#8, 0x10#8, 2#8, 0#8, 0#8, 0#8, 9#8, 0#8, 0#8, 0#8, 0#8, 0#8, 0#8, 0#8, 0xAB#8, 0xCD#8])) }) = some 3 ∧
    ({ up ([(F.DDR_SIZE_mib, 1), (F.TPR_MB_TP_CFG_en, 1), (F.TPR_MB_TP_TAIL_index, 15), (F.TPR_MB_VER_valid, 1), (F.TPR_MB_VER_major, 3)]) with dram := memWrite [] 0xF00 (fit 256 ([3#8, 0#8, 0#8, 0x10#8, 2#8, 0#8, 0#8, 0#8, 9#8, 0#8, 0#8, 0#8, 0#8, 0#8, 0#8, 0#8, 0xAB#8, 0xCD#8])) }).get F.TPR_MB_TH_CFG_en = 0) ∧
   (privBar State.reset 0x11 = none ∧ State.reset.domOn 2 = true) ∧
   (privBar ({ up [(F.DDR_SIZE_mib, 1)] with dram := [(0xFFFFC, 3#8)] }) 0x12 = none ∧ 1 ≤ 2 ∧ 2 ≤ 256 ∧ 0xFFFF8 % 4 = 0 ∧
    ({ up [(F.DDR_SIZE_mib, 1)] with dram := [(0xFFFFC, 3#8)] }).domOn 26 = true ∧
    ({ up [(F.DDR_SIZE_mib, 1)] with dram := [(0xFFFFC, 3#8)] }).dramOk 0xFFFF8 (4 * 2) = true) ∧
   (privBar (up [(F.DDR_SIZE_mib, 1)]) 0x13 = none ∧ ([1#32, 0x80000000#32] : List Word) ≠ [] ∧
    ([1#32, 0x80000000#32] : List Word).length ≤ 256 ∧ 0xFFFF8 % 4 = 0 ∧ (up [(F.DDR_SIZE_mib, 1)]).domOn 26 = true ∧
    (up [(F.DDR_SIZE_mib, 1)]).dramOk 0xFFFF8 (4 * ([1#32, 0x80000000#32] : List Word).length) = true) := 
  ⟨by decide +kernel, by decide +kernel, by decide +kernel, by decide +kernel, by decide +kernel, by decide +kernel⟩

theorem test_BoardAndPins_hypotheses_1 :
   ((up [(F.XSP_ADDR_addr, 5), (F.XSP_LEN_len, 7), (F.BRK_LC_state, 2)]).domOn 0 = true ∧
    (up [(F.XSP_ADDR_addr, 5), (F.XSP_LEN_len, 7), (F.BRK_LC_state, 2)]).board.flashHeld = false ∧
    (up [(F.XSP_ADDR_addr, 5), (F.XSP_LEN_len, 7), (F.BRK_LC_state, 2)]).board.flashOp = none ∧
    coreFenced (up [(F.XSP_ADDR_addr, 5), (F.XSP_LEN_len, 7), (F.BRK_LC_state, 2)]) 0 = false) ∧
   ((up [(F.XSP_ADDR_addr, 5), (F.XSP_LEN_len, 7), (F.BRK_LC_state, 2)]).domOn 0 = true ∧
    (up [(F.XSP_ADDR_addr, 5), (F.XSP_LEN_len, 7), (F.BRK_LC_state, 2)]).board.flashHeld = false ∧
    (up [(F.XSP_ADDR_addr, 5), (F.XSP_LEN_len, 7), (F.BRK_LC_state, 2)]).board.flashOp = none ∧
    (lifecycle (up [(F.XSP_ADDR_addr, 5), (F.XSP_LEN_len, 7), (F.BRK_LC_state, 2)]) ≤ 2 ∨ 0 = 6) ∧
    coreFenced (up [(F.XSP_ADDR_addr, 5), (F.XSP_LEN_len, 7), (F.BRK_LC_state, 2)]) 0 = false) ∧
   ((up [(F.XSP_ADDR_addr, 5), (F.XSP_LEN_len, 7), (F.BRK_LC_state, 2)]).domOn 0 = true ∧
    (up [(F.XSP_ADDR_addr, 5), (F.XSP_LEN_len, 7), (F.BRK_LC_state, 2)]).board.flashHeld = false ∧
    (up [(F.XSP_ADDR_addr, 5), (F.XSP_LEN_len, 7), (F.BRK_LC_state, 2)]).board.flashOp = none ∧
    (lifecycle (up [(F.XSP_ADDR_addr, 5), (F.XSP_LEN_len, 7), (F.BRK_LC_state, 2)]) ≤ 2 ∨ 0 = 6) ∧
    coreFenced (up [(F.XSP_ADDR_addr, 5), (F.XSP_LEN_len, 7), (F.BRK_LC_state, 2)]) 0 = false) ∧
   ((up [(F.XSP_ADDR_addr, 5), (F.XSP_LEN_len, 7), (F.BRK_LC_state, 2)]).domOn 0 = true ∧
    (up [(F.XSP_ADDR_addr, 5), (F.XSP_LEN_len, 7), (F.BRK_LC_state, 2)]).board.flashHeld = false ∧
    (up [(F.XSP_ADDR_addr, 5), (F.XSP_LEN_len, 7), (F.BRK_LC_state, 2)]).board.flashOp = none ∧
    coreFenced (up [(F.XSP_ADDR_addr, 5), (F.XSP_LEN_len, 7), (F.BRK_LC_state, 2)]) 0 = false) ∧
   ((up [(F.BRK_LC_state, 3)]).domOn 0 = true ∧ (up [(F.BRK_LC_state, 3)]).board.flashHeld = false ∧
    (up [(F.BRK_LC_state, 3)]).board.flashOp = none ∧ 2 < lifecycle (up [(F.BRK_LC_state, 3)]) ∧ 0 ≠ 6 ∧
    coreFenced (up [(F.BRK_LC_state, 3)]) 0 = false) ∧
   (({ State.reset with board := { flashHeld := true } }).domOn 0 = true ∧
    (({ State.reset with board := { flashHeld := true } }).board.flashHeld = true ∨ ({ State.reset with board := { flashHeld := true } }).board.flashOp ≠ none) ∧
    coreFenced ({ State.reset with board := { flashHeld := true } }) 0 = false) ∧
   (({ up [(F.DDR_SIZE_mib, 1)] with board := { flashOp := some ⟨0, 5, 3, 0xFFFFD⟩, flash := [(6, 7#8)] } }).board.flashOp = some (⟨0, 5, 3, 0xFFFFD⟩ : FlashOp) ∧
    (⟨0, 5, 3, 0xFFFFD⟩ : FlashOp).op = 0 ∧
    ({ up [(F.DDR_SIZE_mib, 1)] with board := { flashOp := some ⟨0, 5, 3, 0xFFFFD⟩, flash := [(6, 7#8)] } }).domOn 26 = true ∧
    ({ up [(F.DDR_SIZE_mib, 1)] with board := { flashOp := some ⟨0, 5, 3, 0xFFFFD⟩, flash := [(6, 7#8)] } }).dramOk (⟨0, 5, 3, 0xFFFFD⟩ : FlashOp).buf (⟨0, 5, 3, 0xFFFFD⟩ : FlashOp).len = true) ∧
   (({ up [(F.DDR_SIZE_mib, 1)] with board := { flashOp := some ⟨1, 5, 3, 0xFFFFD⟩ }, dram := [(0xFFFFE, 9#8)] }).board.flashOp = some (⟨1, 5, 3, 0xFFFFD⟩ : FlashOp) ∧
    (⟨1, 5, 3, 0xFFFFD⟩ : FlashOp).op = 1 ∧
    ({ up [(F.DDR_SIZE_mib, 1)] with board := { flashOp := some ⟨1, 5, 3, 0xFFFFD⟩ }, dram := [(0xFFFFE, 9#8)] }).domOn 26 = true ∧
    ({ up [(F.DDR_SIZE_mib, 1)] with board := { flashOp := some ⟨1, 5, 3, 0xFFFFD⟩ }, dram := [(0xFFFFE, 9#8)] }).dramOk (⟨1, 5, 3, 0xFFFFD⟩ : FlashOp).buf (⟨1, 5, 3, 0xFFFFD⟩ : FlashOp).len = true) := 
  ⟨by decide +kernel, by decide +kernel, by decide +kernel, by decide +kernel, by decide +kernel, by decide +kernel, by decide +kernel, by decide +kernel⟩

theorem test_BoardAndPins_hypotheses_2 :
   (({ State.reset with board := { flashOp := some ⟨2, 5, 3, 0⟩, flash := [(6, 9#8)] } }).board.flashOp = some (⟨2, 5, 3, 0⟩ : FlashOp) ∧
    (⟨2, 5, 3, 0⟩ : FlashOp).op = 2 ∧ (⟨2, 5, 3, 0⟩ : FlashOp).addr ≤ 7 ∧
    7 < (⟨2, 5, 3, 0⟩ : FlashOp).addr + (⟨2, 5, 3, 0⟩ : FlashOp).len) ∧
   (({ State.reset with board := { flashOp := some ⟨3, 5, 3, 0⟩ } }).board.flashOp = some (⟨3, 5, 3, 0⟩ : FlashOp)) ∧
   (({ up [(F.DDR_SIZE_mib, 1)] with dram := memWrite [] 0 (([0x42#8, 0x58#8, 0x42#8, 0x52#8, 1#8, 3#8, 3#8, 0#8, 0#8, 100#8] ++ List.replicate 50 0#8) ++ leBytes 4 (crc32 ([0x42#8, 0x58#8, 0x42#8, 0x52#8, 1#8, 3#8, 3#8, 0#8, 0#8, 100#8] ++ List.replicate 50 0#8))) }).domOn 26 = true ∧
    lifecycle ({ up [(F.DDR_SIZE_mib, 1)] with dram := memWrite [] 0 (([0x42#8, 0x58#8, 0x42#8, 0x52#8, 1#8, 3#8, 3#8, 0#8, 0#8, 100#8] ++ List.replicate 50 0#8) ++ leBytes 4 (crc32 ([0x42#8, 0x58#8, 0x42#8, 0x52#8, 1#8, 3#8, 3#8, 0#8, 0#8, 100#8] ++ List.replicate 50 0#8))) }) ≤ 1 ∧
    ({ up [(F.DDR_SIZE_mib, 1)] with dram := memWrite [] 0 (([0x42#8, 0x58#8, 0x42#8, 0x52#8, 1#8, 3#8, 3#8, 0#8, 0#8, 100#8] ++ List.replicate 50 0#8) ++ leBytes 4 (crc32 ([0x42#8, 0x58#8, 0x42#8, 0x52#8, 1#8, 3#8, 3#8, 0#8, 0#8, 100#8] ++ List.replicate 50 0#8))) }).pair F.DDR_BOARD_ADDR_LO_addr F.DDR_BOARD_ADDR_HI_addr = 0 ∧
    ({ up [(F.DDR_SIZE_mib, 1)] with dram := memWrite [] 0 (([0x42#8, 0x58#8, 0x42#8, 0x52#8, 1#8, 3#8, 3#8, 0#8, 0#8, 100#8] ++ List.replicate 50 0#8) ++ leBytes 4 (crc32 ([0x42#8, 0x58#8, 0x42#8, 0x52#8, 1#8, 3#8, 3#8, 0#8, 0#8, 100#8] ++ List.replicate 50 0#8))) }).dramOk 0 64 = true ∧
    ({ up [(F.DDR_SIZE_mib, 1)] with dram := memWrite [] 0 (([0x42#8, 0x58#8, 0x42#8, 0x52#8, 1#8, 3#8, 3#8, 0#8, 0#8, 100#8] ++ List.replicate 50 0#8) ++ leBytes 4 (crc32 ([0x42#8, 0x58#8, 0x42#8, 0x52#8, 1#8, 3#8, 3#8, 0#8, 0#8, 100#8] ++ List.replicate 50 0#8))) }).dramRead 0 64 = (([0x42#8, 0x58#8, 0x42#8, 0x52#8, 1#8, 3#8, 3#8, 0#8, 0#8, 100#8] ++ List.replicate 50 0#8) ++ leBytes 4 (crc32 ([0x42#8, 0x58#8, 0x42#8, 0x52#8, 1#8, 3#8, 3#8, 0#8, 0#8, 100#8] ++ List.replicate 50 0#8)) : List Byte) ∧
    boardValid (([0x42#8, 0x58#8, 0x42#8, 0x52#8, 1#8, 3#8, 3#8, 0#8, 0#8, 100#8] ++ List.replicate 50 0#8) ++ leBytes 4 (crc32 ([0x42#8, 0x58#8, 0x42#8, 0x52#8, 1#8, 3#8, 3#8, 0#8, 0#8, 100#8] ++ List.replicate 50 0#8)) : List Byte) = true ∧
    otpRead ({ up [(F.DDR_SIZE_mib, 1)] with dram := memWrite [] 0 (([0x42#8, 0x58#8, 0x42#8, 0x52#8, 1#8, 3#8, 3#8, 0#8, 0#8, 100#8] ++ List.replicate 50 0#8) ++ leBytes 4 (crc32 ([0x42#8, 0x58#8, 0x42#8, 0x52#8, 1#8, 3#8, 3#8, 0#8, 0#8, 100#8] ++ List.replicate 50 0#8))) }) 0x1200 64 = List.replicate 64 0#8 ∧
    coreFenced ({ up [(F.DDR_SIZE_mib, 1)] with dram := memWrite [] 0 (([0x42#8, 0x58#8, 0x42#8, 0x52#8, 1#8, 3#8, 3#8, 0#8, 0#8, 100#8] ++ List.replicate 50 0#8) ++ leBytes 4 (crc32 ([0x42#8, 0x58#8, 0x42#8, 0x52#8, 1#8, 3#8, 3#8, 0#8, 0#8, 100#8] ++ List.replicate 50 0#8))) }) 0 = false) ∧
   (State.reset.domOn 26 = true ∧ coreFenced State.reset 0 = false) ∧
   (State.reset.domOn 0 = true ∧ 31 < 32 ∧ coreFenced State.reset 0 = false) ∧
   (({ State.reset with stand := { inForce := some { owns := [⟨1, 31, 1, 0x0300⟩] } } }).domOn 0 = true ∧ 31 < 32 ∧
    coreFenced ({ State.reset with stand := { inForce := some { owns := [⟨1, 31, 1, 0x0300⟩] } } }) 0 = false) ∧
   (State.reset.domOn 0 = true ∧ 11 < 12 ∧ coreFenced State.reset 0 = false) ∧
   (({ State.reset with stand := { inForce := some { owns := [⟨3, 0, 12, 0x0100⟩] } } }).domOn 0 = true ∧ 11 < 12 ∧
    coreFenced ({ State.reset with stand := { inForce := some { owns := [⟨3, 0, 12, 0x0100⟩] } } }) 0 = false) := 
  ⟨by decide +kernel, by decide +kernel, by decide +kernel, by decide +kernel, by decide +kernel, by decide +kernel, by decide +kernel, by decide +kernel⟩

theorem test_StepRunsFrontCommand_hypotheses :
    ({ State.reset with pending := [.wakeIn] } : State).pending = [.wakeIn] := by decide +kernel

theorem test_StepKeepsInterruptLevels_hypotheses :
    ∃ t, LevelsAgree State.reset ∧ step { State.reset with pending := [.wakeIn] } = .next t :=
  ⟨_, by decide +kernel, rfl⟩

theorem test_FieldAccessTypes_hypotheses :
    (∃ r ix, regRow 0x240024 = some (r, ix)) ∧ State.reset.domOn 2 = true ∧ coreFenced State.reset 0 = false :=
  ⟨⟨_, _, rfl⟩, by decide +kernel, by decide +kernel⟩

end Sys2Proof.Tests
end

section
/-!
SUPPORT. Outputs: the close of a command shows interrupt messages after what the command itself showed, and nothing else.
-/

namespace Sys2Proof.Machine

/-- A message that raising an interrupt can send (R414). -/
def InterruptMessage (o : Output) : Prop := (∃ v a d, o = .msix v a d) ∨ ∃ b, o = .crownInterrupt b

/-- Nothing is shown but interrupt messages, after what was shown before. -/
def AddsMessages (s t : State) : Prop := ∃ l, t.out = s.out ++ l ∧ ∀ o ∈ l, InterruptMessage o

theorem addsMessages_of_out {s t : State} (h : t.out = s.out) : AddsMessages s t := ⟨[], by simp [h]⟩

theorem AddsMessages.trans {s t u : State} (h : AddsMessages s t) (k : AddsMessages t u) : AddsMessages s u := by
  obtain ⟨l, ht, hl⟩ := h
  obtain ⟨m, hu, hm⟩ := k
  exact ⟨l ++ m, by rw [hu, ht, List.append_assoc], fun o ho => (List.mem_append.mp ho).elim (hl o) (hm o)⟩

theorem addsMessages_emit {o : Output} (s : State) (h : InterruptMessage o) : AddsMessages s (s.emit o) :=
  ⟨[o], rfl, by simpa using h⟩

theorem addsMessages_each {α : Type} (l : List α) (f : α → State → State) (hf : ∀ x s, AddsMessages s (f x s)) (s : State) :
    AddsMessages s (each l f s) := by
  induction l generalizing s with
  | nil => exact addsMessages_of_out rfl
  | cons x rest ih => exact (hf x s).trans (ih (f x s))

theorem addsMessages_when (b : Bool) (f : State → State) (hf : ∀ s, AddsMessages s (f s)) (s : State) :
    AddsMessages s (s.when b f) := by
  cases b
  · exact addsMessages_of_out rfl
  · exact hf s

theorem wakeDomain_out (d : Nat) (s : State) : (wakeDomain d s).out = s.out := by
  unfold wakeDomain
  split <;> rfl

theorem addsMessages_wakeCrown (s : State) : AddsMessages s (wakeCrown s) :=
  addsMessages_each _ _ (fun d _ => addsMessages_when _ _ (fun s => addsMessages_of_out (wakeDomain_out d s)) _) s

theorem addsMessages_sendMsix (v : Nat) (s : State) : AddsMessages s (sendMsix v s) := by
  unfold sendMsix
  dsimp only
  split
  · exact addsMessages_of_out rfl
  · split
    · exact addsMessages_emit s (.inl ⟨_, _, _, rfl⟩)
    · split
      · exact addsMessages_of_out (wakeDomain_out ..)
      · exact addsMessages_of_out rfl

theorem addsMessages_raiseIrq (v b : Nat) (s : State) : AddsMessages s (raiseIrq v b s) := by
  unfold raiseIrq
  dsimp only
  split
  · exact addsMessages_sendMsix v s
  · split
    · split
      · exact (addsMessages_wakeCrown s).trans (addsMessages_of_out rfl)
      · exact (addsMessages_wakeCrown s).trans (addsMessages_emit _ (.inr ⟨_, rfl⟩))
    · exact addsMessages_of_out rfl

theorem follow_out (f : Fld) (v : Nat) (s : State) : (follow f v s).out = s.out := by
  unfold follow
  split <;> rfl

theorem derive_out (s : State) : (derive s).out = s.out := (follow_out ..).trans (follow_out ..)

theorem addsMessages_used (s : State) : AddsMessages s s.used := addsMessages_of_out rfl

theorem addsMessages_noted (s : State) (lv : List Nat) (c : List (Nat × Nat)) :
    AddsMessages s { s with irqLevel := lv, cleared := c } := addsMessages_of_out rfl

/-- The close of a command shows interrupt messages and nothing else (R26). -/
theorem addsMessages_settle (s0 s : State) : AddsMessages s (settle s0 s) :=
  (addsMessages_of_out (derive_out s)).trans
    ((addsMessages_each _ _ (fun (q : IrqSource) s => addsMessages_raiseIrq q.vector q.block s) _).trans
      ((addsMessages_each _ _ (fun (q : IrqSource) s =>
        (addsMessages_when _ _ (addsMessages_raiseIrq q.vector q.block) s).trans (addsMessages_used _)) _).trans
          (addsMessages_noted _ _ _)))

/-- What a command shows first stays first at its close. -/
theorem settle_head? {s0 s : State} {o : Output} (h : s.out.head? = some o) : (settle s0 s).out.head? = some o := by
  obtain ⟨l, hl, -⟩ := addsMessages_settle s0 s
  simp [hl, List.head?_append, h]

theorem mem_settle_out {s0 s : State} {o : Output} (h : o ∈ s.out) : o ∈ (settle s0 s).out := by
  obtain ⟨l, hl, -⟩ := addsMessages_settle s0 s
  exact hl ▸ List.mem_append_left l h

/-- The close of a command raises no bus error. -/
theorem busError_not_mem_settle_out {s0 s : State} {core : Nat} (h : .busError core ∉ s.out) :
    .busError core ∉ (settle s0 s).out := by
  obtain ⟨l, hl, hm⟩ := addsMessages_settle s0 s
  intro ho
  rcases List.mem_append.mp (hl ▸ ho) with ho | ho
  · exact h ho
  · rcases hm _ ho with ⟨_, _, _, ho⟩ | ⟨_, ho⟩ <;> cases ho

end Sys2Proof.Machine
end

section
/-!
SUPPORT. Frames of the register operations, and what a command does by the state its effect makes.
-/

namespace Sys2Proof.Machine

/-! A second write of a register replaces the first. -/

theorem tabErase_erase {α : Type} (t : Tab α) (k : Nat) : tabErase (tabErase t k) k = tabErase t k := by
  induction t with
  | nil => rfl
  | cons x rest ih =>
    obtain ⟨k', v⟩ := x
    by_cases h : k' = k <;> simp [tabErase, h, ih]

theorem tabErase_insert {α : Type} (t : Tab α) (k : Nat) (v : α) : tabErase (tabInsert t k v) k = tabErase t k := by
  induction t with
  | nil => simp [tabInsert, tabErase]
  | cons x rest ih =>
    obtain ⟨k', v'⟩ := x
    by_cases hlt : k < k' <;> by_cases h : k' = k <;> simp [tabInsert, tabErase, hlt, h, ih]

@[simp] theorem tabPut_put {α : Type} (t : Tab α) (k : Nat) (v w : α) : tabPut (tabPut t k v) k w = tabPut t k w := by
  rw [tabPut, tabPut, tabErase_insert, tabErase_erase, tabPut]

@[simp] theorem State.setReg_setReg (s : State) (off : Nat) (w w' : Word) : (s.setReg off w).setReg off w' = s.setReg off w' := by
  simp [State.setReg]

/-! Frames. -/

theorem frame_of_setReg {off : Nat} (s : State) (w : Word) : Frame [off] [] s (s.setReg off w) :=
  ⟨fun _ ho _ => s.reg_setReg_ne w (by simpa using ho), fun p _ => by cases p <;> simp [Part.same]⟩

theorem frame_of_quiet {s t : State} (h : Quiet s t) : Frame [] [] s t :=
  ⟨fun off _ _ => State.reg_congr h.1 off, fun p _ => h.2 p⟩

theorem frame_mono {l l' : List Nat} {ps ps' : List Part} {s t : State} (h : Frame l ps s t) (hl : l ⊆ l') (hp : ps ⊆ ps') :
    Frame l' ps' s t :=
  ⟨fun off ho => h.1 off (fun hm => ho (hl hm)), fun p hm => h.2 p (fun hq => hm (hp hq))⟩

theorem frame_trans {l : List Nat} {ps : List Part} {s t u : State} (h : Frame l ps s t) (k : Frame l ps t u) :
    Frame l ps s u :=
  ⟨fun off ho hf => (k.1 off ho hf).trans (h.1 off ho hf), fun p hp => Part.same_trans (h.2 p hp) (k.2 p hp)⟩

/-- A flag's event changes the registers of the flag and of its counter. -/
theorem frame_of_event (s : State) (f c : Fld) : Frame [f.off, c.off] [] s (s.event f c) :=
  frame_trans (frame_mono (frame_of_setReg s _) (by simp) (by simp)) (frame_mono (frame_of_setReg _ _) (by simp) (by simp))

/-! What a command does, by the state its effect makes. -/

/-- The state a command starts from: the one before it, with nothing shown yet. -/
abbrev State.started (s : State) : State := { s with out := [] }

/-- A command whose effect makes the state `u` ends in the close of `u`. -/
theorem does_of_effect {c : Instr} {s u : State} {f : State → State} {P : State → Prop} (hc : exec c s = run f s)
    (hu : f s.started = u) (h : P (settle s u)) : Does c s P := does_run hc (hu ▸ h)

theorem does_imp {c : Instr} {s : State} {P Q : State → Prop} (h : Does c s P) (k : ∀ t, P t → Q t) : Does c s Q := by
  obtain ⟨t, ht, hP⟩ := h
  exact ⟨t, ht, k t hP⟩

/-- A command has one outcome: what two claims say of it holds together. -/
theorem does_and {c : Instr} {s : State} {P Q : State → Prop} (h : Does c s P) (k : Does c s Q) : Does c s (fun t => P t ∧ Q t) := by
  obtain ⟨t, ht, hP⟩ := h
  obtain ⟨u, hu, hQ⟩ := k
  cases Host.Outcome.next.inj (ht.symm.trans hu)
  exact ⟨t, ht, hP, hQ⟩

end Sys2Proof.Machine
end

section
/-!
SUPPORT. Accesses whose domain lets them through (R5, R24, R372), and the table windows (R23).
-/

namespace Sys2Proof.Machine

theorem fromCore_of_free {s : State} {i : Nat} (f : State → State) (h : coreFenced s i = false) : fromCore i f s = f s := by
  simp [fromCore, h]

theorem gate_of_domOn {s : State} {d : Nat} (h : s.domOn d = true) : gate s d = .pass := by
  have hst : (s.dom d).st = .on := of_decide_eq_true h
  simp [gate, hst]

/-- A block in one domain is decided by that domain (R450). -/
theorem decidingDomain_of_single (s : State) {off d : Nat} (h : accessDomains off = [d]) : decidingDomain s off = d := by
  simp only [decidingDomain, h, List.find?_singleton, List.headD_cons]
  split <;> rfl

theorem gate_of_single {s : State} {off d : Nat} (h : accessDomains off = [d]) (hd : s.domOn d = true) :
    gate s (decidingDomain s off) = .pass :=
  gate_of_domOn ((decidingDomain_of_single s h).symm ▸ hd)

theorem gatedAs_of_pass {s : State} (narrow : Option (Nat × Nat)) {a : Access} (f : State → State)
    (hc : coreFenced s a.initiator = false) (hg : gate s (decidingDomain s a.off) = .pass) : gatedAs narrow a f s = f s := by
  rw [gatedAs, fromCore_of_free _ hc]
  simp only [hg]

/-- An access whose domain lets it through is performed (R372). -/
theorem access_of_pass {s : State} {a : Access} (hm : mapped a.off = true) (hc : coreFenced s a.initiator = false)
    (hg : gate s (decidingDomain s a.off) = .pass) : access a s = performAccess a s := by
  rw [access, if_pos hm]
  exact gatedAs_of_pass none _ hc hg

theorem performAccess_write {i off : Nat} (v : Word) (s : State) (h : off < 2 ^ 40) :
    performAccess ⟨i, off, true, v⟩ s = applyWrite i off v s := by
  have : ¬ dramTag ≤ off := by simp only [dramTag]; omega
  simp only [performAccess, this, if_false, if_true]

/-- A read of part of a word shows the bits asked for (R5). -/
theorem narrowRead_of_pass {s : State} {i off : Nat} (lsb n : Nat) (hm : mapped (off - off % 4) = true)
    (hc : coreFenced s i = false) (hg : gate s (decidingDomain s (off - off % 4)) = .pass) :
    narrowRead i off lsb n s = performNarrow (off - off % 4) lsb n s := by
  simp only [narrowRead, hm, if_true]
  exact gatedAs_of_pass _ _ hc hg

/-- No MASK register lies in a table window. -/
theorem irqMask_lt : ∀ q ∈ irqSources, q.mask < 0x1000000 := by decide

theorem findMask_eq_none {off : Nat} (h : ∀ q ∈ irqSources, q.mask ≠ off) :
    irqSources.find? (fun q => decide (q.mask = off)) = none := by
  simpa using h

/-- A word written to a table window is dropped, and GLB_STAT says so (R24). -/
theorem applyWrite_tableWindow {off : Nat} (i : Nat) (v : Word) (s : State) (hlo : 0x1000000 ≤ off) (hhi : off < 0x3400000) :
    applyWrite i off v s = s.event F.GLB_STAT_acc_err F.GLB_EVCNT_acc_err_cnt := by
  have hmask : irqSources.find? (fun q => decide (q.mask = off)) = none :=
    findMask_eq_none (fun q hq => by have := irqMask_lt q hq; omega)
  simp only [applyWrite, hmask]
  iterate 10 rw [if_neg (by omega)]
  exact if_pos ⟨hlo, hhi⟩

/-- The domains of the table windows (R23): PD_MEM0 for the Leaf Table, PD_MEM1 for the others. -/
theorem accessDomains_tableWindow {off : Nat} (hlo : 0x1000000 ≤ off) (hhi : off < 0x3400000) :
    accessDomains off = [if off < 0x2800000 then 7 else 8] := by
  unfold accessDomains
  iterate 26 rw [if_neg (by omega)]
  by_cases h : off < 0x2800000
  · rw [if_pos ⟨hlo, h⟩, if_pos h]
  · rw [if_neg (by omega), if_pos ⟨by omega, hhi⟩, if_neg h]

end Sys2Proof.Machine
end

section
/-!
SUPPORT. Accesses that the buses do not take as whole words (R5, R24, R25, R387).
-/

namespace Sys2Proof.Machine

section
variable {c : Instr} {s : State} {f : State → State}

/-- A command that raises acc_err does nothing else (R5, R24). -/
theorem does_accErr (hc : exec c s = run f s) (hf : f s.started = s.started.event F.GLB_STAT_acc_err F.GLB_EVCNT_acc_err_cnt) :
    Does c s (fun t => t.get F.GLB_STAT_acc_err = 1 ∧ Counts F.GLB_EVCNT_acc_err_cnt s t ∧ Frame [0x10, 0x18] [] s t) := by
  refine does_of_effect hc hf ⟨?_, ?_, settle_frame _ _ (frame_of_event s.started F.GLB_STAT_acc_err F.GLB_EVCNT_acc_err_cnt)⟩
  · rw [settle_get _ _ (by decide), State.event, State.inc, State.add, State.get_set_off _ _ _ _ (by decide),
      State.get_set_same _ _ _ (by decide)]
    rfl
  · rw [Counts, settle_get _ _ (by decide), State.event, State.get_inc_same _ _ (by decide),
      State.get_set_off _ _ _ _ (by decide)]
    rfl

/-- A command that raises a bus error of a core shows it and does nothing else (R5, R25). -/
theorem does_busError {core : Nat} (hc : exec c s = run f s) (hf : f s.started = crownError core s.started) :
    Does c s (fun t => t.out.head? = some (.busError core) ∧ Frame [] [] s t) :=
  does_of_effect hc hf ⟨settle_head? rfl, settle_frame _ _ (frame_of_quiet (quiet_emit s.started _))⟩

/-- A command that reads part of a word shows it and does nothing else (R5). -/
theorem does_narrow {off lsb n : Nat} {w : Word} (hc : exec c s = run f s) (hf : f s.started = performNarrow off lsb n s.started)
    (hw : BitVec.ofNat 32 (bits (regRead s off).toNat lsb n) = w) :
    Does c s (fun t => t.out.head? = some (.read w) ∧ Frame [] [] s t) :=
  does_of_effect hc hf ⟨settle_head? (congrArg (fun w => some (Output.read w)) hw),
    settle_frame _ _ (frame_of_quiet ((quiet_emit s.started _).trans (quiet_used _)))⟩

end

/-- A write to a table window whose memory is ON (R24). -/
theorem tableWindowWrite_event {s : State} {i off : Nat} (v : Word) (hlo : 0x1000000 ≤ off) (hhi : off < 0x3400000)
    (hd : s.domOn (decidingDomain s off) = true) (hc : coreFenced s i = false) :
    access ⟨i, off, true, v⟩ s = s.event F.GLB_STAT_acc_err F.GLB_EVCNT_acc_err_cnt := by
  have hm : mapped off = true := by simp [mapped, hlo, hhi]
  rw [access_of_pass hm hc (gate_of_domOn hd), performAccess_write v s (by omega), applyWrite_tableWindow i v s hlo hhi]

/-- TABLE_WINDOW_WRITE (R24). -/
theorem does_tableWindowWrite {s : State} {i off : Nat} (v : Word) (hlo : 0x1000000 ≤ off) (hhi : off < 0x3400000)
    (hd : s.domOn (decidingDomain s off) = true) (hc : coreFenced s i = false) :
    Does (.tableWindowWrite i off v) s (fun t => t.get F.GLB_STAT_acc_err = 1 ∧ Counts F.GLB_EVCNT_acc_err_cnt s t ∧
      Frame [0x10, 0x18] [] s t) :=
  does_accErr rfl ((if_pos ⟨hlo, hhi⟩).trans (tableWindowWrite_event v hlo hhi hd hc))

/-- A PCIe write of part of a word sets acc_err (R5). -/
theorem exec_partialWrite (s : State) (off : Nat) :
    exec (.pciePartialWrite off true) s = run (·.event F.GLB_STAT_acc_err F.GLB_EVCNT_acc_err_cnt) s := rfl

/-- A PCIe read of part of a word is one of the whole aligned word (R5). -/
theorem exec_partialRead (s : State) (off : Nat) : exec (.pciePartialWrite off false) s = run (narrowRead 0 off 0 32) s := rfl

/-- The word that a narrow read of all its bits shows is the whole word. -/
theorem ofNat_bits_whole (w : Word) : BitVec.ofNat 32 (bits w.toNat 0 32) = w :=
  BitVec.eq_of_toNat_eq (by simpa [bits] using w.isLt)

theorem ofNat_bits (w : Word) (lsb n : Nat) : BitVec.ofNat 32 (bits w.toNat lsb n) = BitVec.ofNat 32 (w.toNat / 2 ^ lsb % 2 ^ n) := by
  rw [bits, Nat.shiftRight_eq_div_pow]

/-- An access of a core in service that ends in a bus error (R5, R25). -/
theorem does_coreBusError {c : Instr} {s : State} {core : Nat} {f : State → State} (hc : exec c s = run (fromCore (core + 1) f) s)
    (hfree : coreFenced s (core + 1) = false) (hf : f s.started = crownError core s.started) :
    Does c s (fun t => t.out.head? = some (.busError core) ∧ Frame [] [] s t) :=
  does_busError hc ((fromCore_of_free f (by exact hfree)).trans hf)

/-- A pruned core is fenced (R387). -/
theorem coreFenced_of_pruned {s : State} {core : Nat} (hcore : core < 4) (hp : s.pruned 5 core = true) :
    coreFenced s (core + 1) = true := by
  rw [coreFenced, Nat.add_sub_cancel, hp, Bool.and_true]
  exact decide_eq_true (by omega)

/-- What a pruned core sends is counted at its fence, and raises no bus error (R387). -/
theorem does_fenced {c : Instr} {s : State} {i core : Nat} {f : State → State} (hc : exec c s = run (fromCore i f) s)
    (hfence : coreFenced s i = true) :
    Does c s (fun t => .busError core ∉ t.out ∧ Counts F.PRN_FENCE_DROP_CNT_count s t ∧ t.get F.PRN_STAT_fence_drop = 1) := by
  have hdrop : fromCore i f s.started = fenceDrop s.started := if_pos hfence
  refine does_of_effect hc hdrop ⟨busError_not_mem_settle_out List.not_mem_nil, ?_, ?_⟩
  · rw [Counts, settle_get _ _ (by decide), fenceDrop, State.get_set_off _ _ _ _ (by decide), State.get_inc_same _ _ (by decide)]
    rfl
  · rw [settle_get _ _ (by decide), fenceDrop, State.get_set_same _ _ _ (by decide)]
    rfl

end Sys2Proof.Machine
end

section
/-!
SUPPORT. Software writes of a register: each field is written as if it were alone, by its access type (R6).
-/

namespace Sys2Proof.Machine

/-! The fields of a register's row share no bits. -/

/-- Two fields share no bit. -/
abbrev Apart (f g : FieldRow) : Prop := f.lsb + f.width ≤ g.lsb ∨ g.lsb + g.width ≤ f.lsb

/-- The fields of a row lie within the word and share no bit with one another. -/
abbrev FieldsApart (fs : List FieldRow) : Prop := (∀ f ∈ fs, f.lsb + f.width ≤ 32) ∧ fs.Pairwise Apart

/-- The fields of every row of a table are apart. -/
abbrev RowsApart (rows : List RegRow) : Prop := ∀ r ∈ rows, FieldsApart r.fields

theorem rowsApart_regsNear (off : Nat) : RowsApart (regsNear off) := by
  unfold regsNear
  iterate 27 refine iteInduction (motive := RowsApart) (fun _ => by decide +kernel) (fun _ => ?_)
  decide +kernel

theorem mem_of_findRow {rows : List RegRow} {off : Nat} {r : RegRow} {ix : List Nat} (h : findRow rows off = some (r, ix)) :
    r ∈ rows := by
  induction rows with
  | nil => cases h
  | cons x rest ih =>
    rw [findRow] at h
    split at h
    · exact List.mem_cons_of_mem _ (ih h)
    · split at h
      · cases h; exact List.mem_cons_self
      · exact List.mem_cons_of_mem _ (ih h)

theorem regRow_fieldsApart {off : Nat} {r : RegRow} {ix : List Nat} (h : regRow off = some (r, ix)) : FieldsApart r.fields :=
  rowsApart_regsNear off r (mem_of_findRow h)

/-! A software write of one field (R6). -/

theorem wordField_and (a b : Word) (lsb width : Nat) :
    wordField (a &&& b) lsb width = wordField a lsb width &&& wordField b lsb width := by
  apply Nat.eq_of_testBit_eq
  intro i
  simp only [testBit_wordField, Nat.testBit_and, BitVec.toNat_and]
  cases decide (i < width) <;> rfl

/-- A write of a field leaves the word or sets that field. -/
theorem writeField_cases (written : Bool) (v w : Word) (f : FieldRow) :
    writeField written v w f = w ∨ ∃ x, writeField written v w f = wordSet w f.lsb f.width x := by
  unfold writeField
  split
  · exact .inr ⟨_, rfl⟩
  · exact .inr ⟨_, rfl⟩
  · split
    · exact .inl rfl
    · exact .inr ⟨_, rfl⟩
  · exact .inl rfl

theorem testBit_writeField_outside (written : Bool) (v w : Word) (f : FieldRow) {i : Nat} (hi : i < 32)
    (h : ¬(f.lsb ≤ i ∧ i < f.lsb + f.width)) : (writeField written v w f).toNat.testBit i = w.toNat.testBit i := by
  rcases writeField_cases written v w f with e | ⟨x, e⟩
  · rw [e]
  · rw [e, testBit_wordSet _ _ _ _ _ hi, if_neg h]

theorem wordField_writeField_apart (written : Bool) (v w : Word) {f g : FieldRow} (hg : g.lsb + g.width ≤ 32)
    (h : Apart f g) : wordField (writeField written v w f) g.lsb g.width = wordField w g.lsb g.width := by
  rcases writeField_cases written v w f with e | ⟨x, e⟩
  · rw [e]
  · rw [e, wordField_wordSet_apart _ _ _ _ _ _ hg h.symm]

/-- What a field of the word `w` holds after a software write of `v`, by its access type (R6). -/
def fieldAfter (written : Bool) (v w : Word) (f : FieldRow) : Nat :=
  match f.acc with
  | .rw => wordField v f.lsb f.width
  | .w1c => wordField (w &&& ~~~v) f.lsb f.width
  | .rwo => if written then wordField w f.lsb f.width else wordField v f.lsb f.width
  | _ => wordField w f.lsb f.width

theorem wordField_writeField_same (written : Bool) (v w : Word) {f : FieldRow} (hf : f.lsb + f.width ≤ 32) :
    wordField (writeField written v w f) f.lsb f.width = fieldAfter written v w f := by
  have hset (x : Word) : wordField (wordSet w f.lsb f.width (wordField x f.lsb f.width)) f.lsb f.width = wordField x f.lsb f.width := by
    rw [wordField_wordSet_same _ _ _ _ hf, Nat.mod_eq_of_lt (wordField_lt ..)]
  obtain ⟨lsb, width, acc, reset⟩ := f
  cases acc with
  | rw => exact hset v
  | w1c => exact hset (w &&& ~~~v)
  | rwo => cases written with
    | false => exact hset v
    | true => rfl
  | ro => rfl
  | w1s => rfl
  | wo => rfl

/-- What a field holds after a software write depends on what it held, and on no other bit of the word. -/
theorem wordField_writeField_congr (written : Bool) (v : Word) {w w' : Word} {f : FieldRow} (hf : f.lsb + f.width ≤ 32)
    (h : wordField w f.lsb f.width = wordField w' f.lsb f.width) :
    wordField (writeField written v w f) f.lsb f.width = wordField (writeField written v w' f) f.lsb f.width := by
  rw [wordField_writeField_same _ _ _ hf, wordField_writeField_same _ _ _ hf]
  unfold fieldAfter
  cases f.acc <;> simp only [wordField_and, h]

/-! A software write of a whole row. -/

theorem wordField_foldl_apart (written : Bool) (v : Word) {fs : List FieldRow} {g : FieldRow} (hg : g.lsb + g.width ≤ 32)
    (h : ∀ f ∈ fs, Apart f g) (w : Word) :
    wordField (fs.foldl (writeField written v) w) g.lsb g.width = wordField w g.lsb g.width := by
  induction fs generalizing w with
  | nil => rfl
  | cons f rest ih =>
    rw [List.foldl_cons, ih (fun x hx => h x (List.mem_cons_of_mem _ hx)),
      wordField_writeField_apart written v w hg (h f List.mem_cons_self)]

/-- A write of a row writes each of its fields as if it were alone. -/
theorem wordField_foldl_writeField (written : Bool) (v : Word) {fs : List FieldRow} (hfs : FieldsApart fs) {f : FieldRow}
    (hf : f ∈ fs) (w : Word) :
    wordField (fs.foldl (writeField written v) w) f.lsb f.width = wordField (writeField written v w f) f.lsb f.width := by
  induction fs generalizing w with
  | nil => cases hf
  | cons g rest ih =>
    obtain ⟨hin, hap⟩ := hfs
    obtain ⟨hg, hrest⟩ := List.pairwise_cons.mp hap
    rw [List.foldl_cons]
    rcases List.mem_cons.mp hf with rfl | hf'
    · exact wordField_foldl_apart written v (hin f hf) (fun x hx => (hg x hx).symm) _
    · rw [ih ⟨fun x hx => hin x (List.mem_cons_of_mem _ hx), hrest⟩ hf']
      exact wordField_writeField_congr written v (hin f hf) (wordField_writeField_apart written v w (hin f hf) (hg f hf'))

/-- A field of a row after a software write of the row. -/
theorem wordField_foldl_row (written : Bool) (v w : Word) {off : Nat} {r : RegRow} {ix : List Nat} (h : regRow off = some (r, ix))
    {f : FieldRow} (hf : f ∈ r.fields) :
    wordField (r.fields.foldl (writeField written v) w) f.lsb f.width = fieldAfter written v w f :=
  (wordField_foldl_writeField written v (regRow_fieldsApart h) hf w).trans
    (wordField_writeField_same written v w ((regRow_fieldsApart h).1 f hf))

theorem testBit_foldl_outside (written : Bool) (v : Word) {fs : List FieldRow} {i : Nat} (hi : i < 32)
    (h : ∀ f ∈ fs, ¬(f.lsb ≤ i ∧ i < f.lsb + f.width)) (w : Word) :
    (fs.foldl (writeField written v) w).toNat.testBit i = w.toNat.testBit i := by
  induction fs generalizing w with
  | nil => rfl
  | cons f rest ih =>
    rw [List.foldl_cons, ih (fun x hx => h x (List.mem_cons_of_mem _ hx)),
      testBit_writeField_outside written v w f hi (h f List.mem_cons_self)]

/-! A software write of a register with no effect beyond its fields (R6 to R8). -/

section
variable (s : State) {off : Nat} (v : Word)

theorem writePlain_of_none (h : regRow off = none) : writePlain off v s = s := by simp only [writePlain, h]

/-- The word of a register after a software write of it. -/
abbrev writtenWord (off : Nat) (v : Word) (s : State) (r : RegRow) : Word :=
  r.fields.foldl (writeField (s.rwoWritten.contains off) v) (s.reg off)

/-- A software write stores the register's word, and may note the first write of an RWO field. -/
theorem writePlain_of_some {r : RegRow} {ix : List Nat} (h : regRow off = some (r, ix)) :
    ∃ l, writePlain off v s = { s.setReg off (writtenWord off v s r) with rwoWritten := l } := by
  simp only [writePlain, h]
  split <;> exact ⟨_, rfl⟩

theorem writePlain_reg {r : RegRow} {ix : List Nat} (h : regRow off = some (r, ix)) :
    (writePlain off v s).reg off = writtenWord off v s r := by
  obtain ⟨l, hw⟩ := writePlain_of_some s v h
  rw [hw]
  exact s.reg_setReg_same off _

theorem frame_of_rwoWritten (l : List Nat) : Frame [] [.firstWrites] s { s with rwoWritten := l } :=
  ⟨fun _ _ _ => rfl, fun p hp => by cases p <;> simp_all [Part.same]⟩

theorem frame_writePlain : Frame [off] [.firstWrites] s (writePlain off v s) := by
  cases h : regRow off with
  | none =>
    rw [writePlain_of_none s v h]
    exact frame_mono (frame_of_quiet (.refl s)) (List.nil_subset _) (List.nil_subset _)
  | some x =>
    obtain ⟨l, hw⟩ := writePlain_of_some s v h
    rw [hw]
    exact frame_trans (frame_mono (frame_of_setReg s _) (List.Subset.refl _) (List.nil_subset _))
      (frame_mono (frame_of_rwoWritten _ l) (List.nil_subset _) (List.Subset.refl _))

theorem writePlain_started : writePlain off v s.started = (writePlain off v s).started := by
  cases h : regRow off with
  | none => simp only [writePlain_of_none _ v h]
  | some x =>
    simp only [writePlain, h]
    split <;> rfl

end

end Sys2Proof.Machine
end

section
/-!
SUPPORT. Register writes of the regulatory block (R6, R23).
-/

namespace Sys2Proof.Machine

/-! REGISTER_WRITE (R6, R27). -/

theorem findStat_eq_none {off : Nat} (h : ∀ q ∈ irqSources, q.stat ≠ off) :
    irqSources.find? (fun q => decide (q.stat = off)) = none := by
  simpa using h

/-- A write of a register that is no STAT register is an access: no flag of it races (R27). -/
theorem writeRace_of_plain {s : State} {a : Access} (race : Word) (h : statSource s a.off = none) :
    writeRace a race s = access a s := by
  simp only [writeRace, h]

/-- A register write whose domain lets it through and which no flag races. -/
theorem writeRace_of_pass {s : State} {i off : Nat} (v race : Word) (hstat : statSource s off = none) (hm : mapped off = true)
    (hlt : off < 2 ^ 40) (hg : gate s (decidingDomain s off) = .pass) (hc : coreFenced s i = false) :
    writeRace ⟨i, off, true, v⟩ race s = applyWrite i off v s := by
  rw [writeRace_of_plain race hstat, access_of_pass hm hc hg, performAccess_write v s hlt]

/-- An offset of the regulatory block (R23). -/
abbrev Regulatory (off : Nat) : Prop := 0x240000 ≤ off ∧ off < 0x280000

/-- The one STAT and MASK pair of the regulatory block. -/
theorem irqSources_regulatory :
    ∀ q ∈ irqSources, (Regulatory q.stat → q.stat = 0x240010) ∧ (Regulatory q.mask → q.mask = 0x240014) := by decide

section
variable {s : State} {off : Nat} (hoff : Regulatory off)
include hoff

theorem accessDomains_regulatory : accessDomains off = [2] := by
  obtain ⟨hlo, hhi⟩ := hoff
  unfold accessDomains
  iterate 13 rw [if_neg (by omega)]
  exact if_pos ⟨hlo, hhi⟩

theorem mapped_regulatory : mapped off = true := by
  have hlo : 0x100000 ≤ off := by omega
  have hhi : off < 0x480000 := by omega
  simp [mapped, hlo, hhi]

theorem statSource_regulatory (h : off ≠ 0x240010) : statSource s off = none := by
  have hfind := findStat_eq_none (off := off) (fun q hq e => h (e ▸ (irqSources_regulatory q hq).1 (e ▸ hoff)))
  simp only [statSource, hfind]
  rw [if_neg (by omega), if_neg (by omega)]

/-- The registers of the regulatory block but MASK and RGP_OTP_CTL have no effect beyond their fields. -/
theorem applyWrite_regulatory (i : Nat) (v : Word) (h14 : off ≠ 0x240014) (h2C : off ≠ 0x24002C) :
    applyWrite i off v s = writePlain off v s := by
  have hfind := findMask_eq_none (off := off) (fun q hq e => h14 (e ▸ (irqSources_regulatory q hq).2 (e ▸ hoff)))
  simp only [applyWrite, hfind]
  iterate 7 rw [if_neg (by omega)]
  exact if_pos hoff.2

/-- A register write of the regulatory block acts on the register's fields and on nothing else (R6). -/
theorem does_regulatoryWrite (i : Nat) (v race : Word) (h10 : off ≠ 0x240010) (h14 : off ≠ 0x240014) (h2C : off ≠ 0x24002C)
    (hd : s.domOn 2 = true) (hc : coreFenced s i = false) :
    Does (.registerWrite i off v race) s (fun t => t.reg off = (writePlain off v s).reg off ∧ Frame [off] [.firstWrites] s t) := by
  have hg : gate s.started (decidingDomain s.started off) = .pass := gate_of_single (accessDomains_regulatory hoff) hd
  have hwrite : writeRace ⟨i, off, true, v⟩ race s.started = (writePlain off v s).started := by
    rw [writeRace_of_pass v race (statSource_regulatory hoff h10) (mapped_regulatory hoff) (by omega) hg hc,
      applyWrite_regulatory hoff i v h14 h2C, writePlain_started]
  have hfol : off ∉ followers := by simp only [followers, List.mem_cons, List.not_mem_nil, or_false]; omega
  exact does_of_effect rfl hwrite ⟨settle_reg _ _ hfol, settle_frame _ _ (frame_writePlain s v)⟩

end

end Sys2Proof.Machine
end

section
/-!
SUPPORT. Register writes of GLB_PACE_THR (R449) and of GLB_STAT (R26, R27).
-/

namespace Sys2Proof.Machine

/-- A field of one bit. -/
theorem wordField_bit (w : Word) (l : Nat) : wordField w l 1 = b2n (w.getLsbD l) := by
  rw [wordField, bits, Nat.shiftRight_eq_div_pow, Nat.pow_one, ← Nat.toNat_testBit, BitVec.testBit_toNat]
  cases w.getLsbD l <;> rfl

theorem b2n_inj {a b : Bool} (h : b2n a = b2n b) : a = b := by
  cases a <;> cases b <;> first | rfl | cases h

/-! GLB_PACE_THR. -/

theorem statSource_paceThr (s : State) : statSource s 0x24 = none := rfl

theorem applyWrite_paceThr (i : Nat) (v : Word) (s : State) :
    applyWrite i 0x24 v s = s.set F.GLB_PACE_THR_thr (wordField v 0 16) := rfl

theorem does_paceThrWrite {s : State} {i : Nat} (v race : Word) (hd : s.domOn 0 = true) (hc : coreFenced s i = false) :
    Does (.registerWrite i 0x24 v race) s (fun t => t.get F.GLB_PACE_THR_thr = v.toNat % 65536 ∧ Frame [0x24] [] s t) := by
  have hg : gate s.started (decidingDomain s.started 0x24) = .pass := gate_of_single rfl hd
  have hwrite := writeRace_of_pass v race (statSource_paceThr s.started) rfl (by decide) hg hc
  refine does_of_effect rfl (hwrite.trans (applyWrite_paceThr i v _)) ⟨?_, settle_frame _ _ (frame_of_setReg _ _)⟩
  rw [settle_get _ _ (by decide), State.get_set_same _ _ _ (by decide)]
  simp [wordField, bits, F.GLB_PACE_THR_thr]

/-! GLB_STAT: software clears flags, and hardware may set some in the same arbitration (R27). -/

theorem statSource_globalStat (s : State) : statSource s 0x10 = some (⟨0x10, 0x14, 0x7, 52, 0x00⟩, true) := rfl

/-- The row of GLB_STAT in the register map. -/
abbrev globalStatRow : RegRow := ⟨"GLB_STAT", 0x10, [], [⟨2, 1, .w1c, 0⟩, ⟨1, 1, .w1c, 0⟩, ⟨0, 1, .w1c, 0⟩]⟩

theorem regRow_globalStat : regRow 0x10 = some (globalStatRow, []) := rfl

theorem applyWrite_globalStat (i : Nat) (v : Word) (s : State) :
    applyWrite i 0x10 v s = s.setReg 0x10 (writtenWord 0x10 v s globalStatRow) := rfl

/-- GLB_STAT after a write of `v` in whose arbitration hardware sets the flags `set`. -/
def globalStatAfter (v set : Word) (s : State) : Word := writtenWord 0x10 (v &&& ~~~set) s globalStatRow ||| set

/-- Whether hardware sets an unmasked flag that stood and that the write would clear. -/
def globalStatAgain (v set : Word) (s : State) : Bool := decide (v &&& set &&& s.reg 0x10 &&& ~~~(s.reg 0x14) ≠ 0#32)

/-- acc_err stands after the write if hardware sets it, or if it stood and was not written 1. -/
theorem globalStatAfter_accErr (v set : Word) (s : State) :
    (globalStatAfter v set s).getLsbD 0 = (set.getLsbD 0 || ((s.reg 0x10).getLsbD 0 && !v.getLsbD 0)) := by
  have hfield : wordField (writtenWord 0x10 (v &&& ~~~set) s globalStatRow) 0 1 = wordField (s.reg 0x10 &&& ~~~(v &&& ~~~set)) 0 1 :=
    wordField_foldl_row _ _ _ regRow_globalStat (f := ⟨0, 1, .w1c, 0⟩) (by simp)
  rw [wordField_bit, wordField_bit] at hfield
  rw [globalStatAfter, BitVec.getLsbD_or, b2n_inj hfield]
  simp only [BitVec.getLsbD_and, BitVec.getLsbD_not]
  cases set.getLsbD 0 <;> cases (s.reg 0x10).getLsbD 0 <;> cases v.getLsbD 0 <;> rfl

theorem globalStatAgain_of_accErr {s : State} {v set : Word} (hv : v.getLsbD 0 = true) (hset : set.getLsbD 0 = true)
    (hflag : (s.reg 0x10).getLsbD 0 = true) (hmask : (s.reg 0x14).getLsbD 0 = false) : globalStatAgain v set s = true := by
  refine decide_eq_true (fun h => ?_)
  have hbit := congrArg (·.getLsbD 0) h
  simp only [BitVec.getLsbD_and, BitVec.getLsbD_not, hv, hset, hflag, hmask] at hbit
  exact absurd hbit (by decide)

/-- A write of GLB_STAT stores its flags, and then raises the interrupt of one that hardware sets again. -/
theorem writeRace_globalStat {s : State} {i : Nat} (v race : Word) (hd : s.domOn 0 = true) (hc : coreFenced s i = false) :
    writeRace ⟨i, 0x10, true, v⟩ race s =
      (s.setReg 0x10 (globalStatAfter v (race &&& 7#32) s)).when (globalStatAgain v (race &&& 7#32) s) (raiseIrq 52 0x00) := by
  have hg : gate s (decidingDomain s 0x10) = .pass := gate_of_single rfl hd
  have haccess (w : Word) : access ⟨i, 0x10, true, w⟩ s = s.setReg 0x10 (writtenWord 0x10 w s globalStatRow) := by
    rw [access_of_pass rfl hc hg, performAccess_write w s (by decide), applyWrite_globalStat]
  simp only [writeRace, statSource_globalStat, hg, haccess, if_true, State.reg_setReg_same, State.setReg_setReg, Bool.true_and]
  rfl

theorem does_globalStatWrite {s : State} {i : Nat} (v race : Word) (hd : s.domOn 0 = true) (hc : coreFenced s i = false) :
    Does (.registerWrite i 0x10 v race) s (fun t => t.get F.GLB_STAT_acc_err = (if race.toNat.testBit 0 then 1 else
      if v.toNat.testBit 0 then 0 else s.get F.GLB_STAT_acc_err) ∧ Frame [0x10] [] s t) := by
  have hquiet := quiet_when (globalStatAgain v (race &&& 7#32) s.started) _ (quiet_raiseIrq 52 0x00)
    (s.started.setReg 0x10 (globalStatAfter v (race &&& 7#32) s.started))
  refine does_of_effect rfl (writeRace_globalStat (s := s.started) v race hd hc) ⟨?_, settle_frame _ _
    (frame_trans (frame_of_setReg s.started _) (frame_mono (frame_of_quiet hquiet) (List.nil_subset _) (List.Subset.refl _)))⟩
  have hafter : (globalStatAfter v (race &&& 7#32) s.started).getLsbD 0
      = (race.getLsbD 0 || ((s.reg 0x10).getLsbD 0 && !v.getLsbD 0)) :=
    (globalStatAfter_accErr ..).trans (congrArg (· || _) (by simp))
  have hflag : s.get F.GLB_STAT_acc_err = b2n ((s.reg 0x10).getLsbD 0) := wordField_bit _ _
  have hget : (s.started.setReg 0x10 (globalStatAfter v (race &&& 7#32) s.started)).get F.GLB_STAT_acc_err
      = b2n (race.getLsbD 0 || ((s.reg 0x10).getLsbD 0 && !v.getLsbD 0)) := by
    rw [← hafter, ← wordField_bit]
    exact congrArg (wordField · 0 1) (State.reg_setReg_same ..)
  rw [settle_get _ _ (by decide), State.get_congr _ (State.reg_congr hquiet.1 _), hget, hflag, BitVec.testBit_toNat, BitVec.testBit_toNat]
  cases race.getLsbD 0 <;> cases v.getLsbD 0 <;> simp [b2n]

/-- The owner of a block is the host, its vector is unmasked and the link is in L0: the interrupt is a message (R414, R415). -/
theorem raiseIrq_of_host {s : State} {vector block : Nat} (ho : s.owner 6 block = 0x0800) (hf : s.tap.funcMask = false)
    (hm : (tabGet s.tap.msix vector {}).masked = false) (hpm : s.get F.TPR_LINK_pm = 0) :
    raiseIrq vector block s = s.emit (.msix vector (tabGet s.tap.msix vector {}).addr (tabGet s.tap.msix vector {}).data) := by
  simp [raiseIrq, sendMsix, ho, hf, hm, hpm]

/-- acc_err is set again in the arbitration of the write that clears it: its message is sent again (R27). -/
theorem does_globalStatRace {s : State} {i : Nat} {v race : Word} (hd : s.domOn 0 = true) (hc : coreFenced s i = false)
    (hflag : s.get F.GLB_STAT_acc_err = 1) (hmask : s.get F.GLB_MASK_acc_err = 0)
    (hv : v.toNat.testBit 0 = true) (hr : race.toNat.testBit 0 = true) (ho : s.owner 6 0 = 0x0800) (hf : s.tap.funcMask = false)
    (hm : (tabGet s.tap.msix 52 {}).masked = false) (hpm : s.get F.TPR_LINK_pm = 0) :
    Does (.registerWrite i 0x10 v race) s (fun t =>
      .msix 52 (tabGet s.tap.msix 52 {}).addr (tabGet s.tap.msix 52 {}).data ∈ t.out) := by
  have hagain : globalStatAgain v (race &&& 7#32) s.started = true := by
    rw [BitVec.testBit_toNat] at hv hr
    exact globalStatAgain_of_accErr hv (by simpa using hr) (b2n_inj ((wordField_bit _ _).symm.trans hflag))
      (b2n_inj ((wordField_bit _ _).symm.trans hmask))
  have hwrite := writeRace_globalStat (s := s.started) v race hd hc
  rw [hagain] at hwrite
  refine does_of_effect rfl hwrite (mem_settle_out ?_)
  have hpm' : (s.started.setReg 0x10 (globalStatAfter v (race &&& 7#32) s.started)).get F.TPR_LINK_pm = 0 :=
    (State.get_congr _ (State.reg_setReg_ne _ _ (by decide))).trans hpm
  have hmsg := raiseIrq_of_host (vector := 52) (block := 0x00) (s := s.started.setReg 0x10 _) ho hf hm hpm'
  exact congrArg State.out hmsg ▸ List.mem_append_right _ List.mem_cons_self

end Sys2Proof.Machine
end

section
/-!
SUPPORT. The state after reset: no flag of a STAT register stands (R9); and a part whose pins are not all low.
-/

namespace Sys2Proof.Machine

theorem irqHigh_reset (q : IrqSource) : irqHigh State.reset q = false := rfl

theorem not_irqHigh_reset (q : IrqSource) : ¬ irqHigh State.reset q = true := Bool.eq_false_iff.mp (irqHigh_reset q)

theorem irqLevels_reset : irqLevels State.reset = [] :=
  congrArg (List.map IrqSource.stat) (List.filter_eq_nil_iff.mpr (fun q _ => not_irqHigh_reset q))

theorem chainEvent_reset : chainEvent State.reset = false := List.any_eq_false.mpr (fun _ _ => not_irqHigh_reset _)

theorem unitSum_reset : unitSum State.reset = 0 :=
  congrArg maskOf (List.filter_eq_nil_iff.mpr (fun _ _ => not_irqHigh_reset _))

theorem settle_tmu (s0 s : State) : (settle s0 s).tmu = s.tmu := settle_same .timers s0 s

/-- A part right after reset whose pin GPIO_0 is driven high from outside. -/
def pinHigh : State := { State.reset with board := { gpioIn := 1 } }

/-- The release of POR_L starts the synchronisers of the timers' GPIO inputs at the levels on the pins. -/
theorem resetPor_pinHigh_tmu : (resetPor pinHigh).tmu = { sampled := 1, seen := 1 } := by decide +kernel

end Sys2Proof.Machine
end

section
/-!
The statements about the scope of the part, settled.
-/

namespace Sys2Proof.Scope

open Machine

/-- Settles O5: no flag stands at reset, so no level is noted and none is to be noted. -/
theorem resetInterruptLevels : Obligations.ResetInterruptLevels := by
  unfold Obligations.ResetInterruptLevels
  refine ⟨irqLevels_reset.symm, ?_, ?_⟩
  · rw [chainEvent_reset]; rfl
  · rw [unitSum_reset]; rfl

/-- Settles O7, one access after another: the effect of each is acc_err, a bus error, a read or a drop at the fence. -/
theorem busErrors : Obligations.BusErrors := by
  unfold Obligations.BusErrors
  intro s
  refine ⟨fun off => does_accErr (exec_partialWrite s off) rfl, fun off hm hg => ?pcieRead,
    fun core off bytes hn hfree => ?narrowStore, fun core off bytes hn hfree => does_coreBusError rfl hfree (if_pos hn),
    fun core off bytes ha hb hcore hfree hm hg => ?narrowLoad, fun core hfree => does_coreBusError rfl hfree rfl,
    fun core addr hm hfree => ?unmapped, fun core hcore hp => does_fenced rfl (coreFenced_of_pruned hcore hp),
    fun i off v hlo hhi hd hfree => does_tableWindowWrite v hlo hhi hd hfree⟩
  case pcieRead =>
    exact does_narrow (exec_partialRead s off) (narrowRead_of_pass 0 32 hm rfl hg) (ofNat_bits_whole _)
  case narrowStore =>
    refine does_coreBusError rfl hfree ?_
    by_cases ha : off % bytes = 0
    · have hb : ¬ 4 ≤ bytes := by omega
      simp [ha, hb]
    · simp [ha]
  case narrowLoad =>
    have hb : ¬ 4 ≤ bytes := by omega
    have hread : narrowRead (core + 1) off (8 * (off % 4)) (8 * bytes) s.started
        = performNarrow (off - off % 4) (8 * (off % 4)) (8 * bytes) s.started := narrowRead_of_pass _ _ hm hfree hg
    refine does_narrow rfl ((fromCore_of_free _ (by exact hfree)).trans ?_) (ofNat_bits _ _ _)
    simp [ha, hb, hread]
  case unmapped =>
    refine does_coreBusError rfl hfree ?_
    have hm' : crownMapped s.started addr = false := hm
    simp [hm']

/-- Settles O9: the fields of a row are disjoint, so a write of the row writes each field as if it were alone. -/
theorem fieldAccessTypes : Obligations.FieldAccessTypes := by
  unfold Obligations.FieldAccessTypes
  intro s off v r ix hrow
  refine ⟨fun f hf => ?_, fun i hi hout => ?_, fun hlo hhi h10 h14 h2C hd i x hc => ?_⟩
  · rw [writePlain_reg s v hrow]
    exact wordField_foldl_row _ v _ hrow hf
  · rw [writePlain_reg s v hrow]
    exact testBit_foldl_outside _ v hi hout _
  · exact does_regulatoryWrite ⟨hlo, hhi⟩ i v x h10 h14 h2C hd hc

/-- Settles O10, one register or window after another. -/
theorem registerWrites : Obligations.RegisterWrites := by
  unfold Obligations.RegisterWrites
  intro s
  refine ⟨fun i v r hd hc => does_paceThrWrite v r hd hc, fun i v r hd hc => does_globalStatWrite v r hd hc,
    fun i v r hd hflag hmask hv hr ho hf hm hpm hc => ?raced,
    fun i off v r hlo hhi h10 h14 h2C hd hc => does_regulatoryWrite ⟨hlo, hhi⟩ i v r h10 h14 h2C hd hc,
    fun i off v hlo hhi hd hc => ?leafTable, fun i off v hlo hhi hd hc => ?otherTables⟩
  case raced =>
    exact does_and (does_imp (does_globalStatWrite v r hd hc) (fun t ht => ht.1.trans (if_pos hr)))
      (does_globalStatRace hd hc hflag hmask hv hr ho hf hm hpm)
  case leafTable =>
    have hdom : decidingDomain s off = 7 :=
      decidingDomain_of_single s ((accessDomains_tableWindow hlo (by omega)).trans (by rw [if_pos hhi]))
    exact does_tableWindowWrite v hlo (by omega) (hdom ▸ hd) hc
  case otherTables =>
    have hdom : decidingDomain s off = 8 :=
      decidingDomain_of_single s ((accessDomains_tableWindow (by omega) hhi).trans (by rw [if_neg (by omega)]))
    exact does_tableWindowWrite v (by omega) hhi (hdom ▸ hd) hc

/-- Refutes O56: it asks that the release of POR_L leave the timers' state empty, but the release starts the synchronisers
of the GPIO inputs at the levels on the pins, so on a part with GPIO_0 high they hold 1 and not 0. -/
theorem not_resets : ¬ Obligations.Resets := by
  unfold Obligations.Resets
  intro h
  obtain ⟨hpor, -⟩ := h pinHigh
  obtain ⟨t, ht, -, -, -, -, -, -, -, -, -, -, -, -, -, -, htmu, -⟩ := hpor rfl (fun x hx => absurd hx List.not_mem_nil) rfl
  have hrun : exec .porLRelease pinHigh = .next (settle pinHigh (resetPor pinHigh)) := rfl
  have hteq : settle pinHigh (resetPor pinHigh) = t := Host.Outcome.next.inj (hrun.symm.trans ht)
  rw [← hteq, settle_tmu, resetPor_pinHigh_tmu] at htmu
  exact absurd htmu (by decide)

end Sys2Proof.Scope
end

section
/-!
SUPPORT. The interrupt condition of a STAT and MASK pair bit by bit (R26), and what writes of other registers leave of it.
-/

namespace Sys2Proof.Machine

/-! The condition of one pair. -/

/-- An unmasked flag stands: bit `i` of STAT is a flag of the pair, set and not masked. -/
abbrev FlagStands (s : State) (q : IrqSource) (i : Nat) : Prop :=
  (statWord s q.stat).getLsbD i = true ∧ (s.reg q.mask).getLsbD i = false ∧ q.flags.testBit i = true

/-- (STAT AND NOT MASK) of a pair is non-zero where an unmasked flag stands (R26). -/
theorem irqHigh_iff (s : State) (q : IrqSource) : irqHigh s q = true ↔ ∃ i, FlagStands s q i := by
  have hbit (i : Nat) : ((statWord s q.stat &&& ~~~(s.reg q.mask)).toNat &&& q.flags).testBit i = true ↔ FlagStands s q i := by
    rw [Nat.testBit_and, BitVec.testBit_toNat, BitVec.getLsbD_and, BitVec.getLsbD_not]
    have hlt : (statWord s q.stat).getLsbD i = true → i < 32 := BitVec.lt_of_getLsbD
    constructor
    · intro h
      obtain ⟨hand, hf⟩ := Bool.and_eq_true_iff.mp h
      obtain ⟨hs, hnot⟩ := Bool.and_eq_true_iff.mp hand
      obtain ⟨-, hm⟩ := Bool.and_eq_true_iff.mp hnot
      rw [Bool.not_eq_true'] at hm
      exact ⟨hs, hm, hf⟩
    · rintro ⟨hs, hm, hf⟩
      rw [hs, hm, hf, decide_eq_true (hlt hs)]
      rfl
  unfold irqHigh
  split
  next h0 =>
    refine iff_of_false Bool.false_ne_true (fun ⟨i, hs, _⟩ => ?_)
    rw [h0, BitVec.getLsbD_zero] at hs
    cases hs
  next =>
    rw [decide_eq_true_iff]
    refine ⟨fun hne => ?_, fun ⟨i, hi⟩ h0 => ?_⟩
    · obtain ⟨i, hi⟩ := Nat.exists_testBit_of_ne_zero hne
      exact ⟨i, (hbit i).mp hi⟩
    · have hset := (hbit i).mpr hi
      rw [h0, Nat.zero_testBit] at hset
      cases hset

/-- The condition of a pair depends on its two registers alone. -/
theorem irqHigh_congr {s t : State} {q : IrqSource} (hstat : statWord s q.stat = statWord t q.stat)
    (hmask : s.reg q.mask = t.reg q.mask) : irqHigh s q = irqHigh t q := by
  simp only [irqHigh, hstat, hmask]

theorem irqHigh_of_regs {s t : State} (h : s.regs = t.regs) (q : IrqSource) : irqHigh s q = irqHigh t q :=
  irqHigh_congr (congrArg (tabGet · q.stat 0#32) h) (State.reg_congr h _)

theorem statWord_setReg_same (s : State) (off : Nat) (w : Word) : statWord (s.setReg off w) off = w := tabGet_put_same ..

theorem statWord_setReg_ne (s : State) {off off' : Nat} (w : Word) (h : off' ≠ off) :
    statWord (s.setReg off w) off' = statWord s off' := tabGet_put_ne _ _ _ h

/-- A write of another register leaves the condition of a pair. -/
theorem irqHigh_setReg (s : State) {off : Nat} (w : Word) {q : IrqSource} (hstat : q.stat ≠ off) (hmask : q.mask ≠ off) :
    irqHigh (s.setReg off w) q = irqHigh s q :=
  irqHigh_congr (statWord_setReg_ne s w hstat) (s.reg_setReg_ne w hmask)

/-! What the noted levels, CNP_STAT and TMU_STAT show depends on the register file alone. -/

section
variable {s t : State} (h : s.regs = t.regs)
include h

theorem irqLevels_of_regs : irqLevels s = irqLevels t := by
  simp only [irqLevels, funext (irqHigh_of_regs h)]

theorem chainEvent_of_regs : chainEvent s = chainEvent t := by
  simp only [chainEvent, funext (irqHigh_of_regs h)]

theorem unitSum_of_regs : unitSum s = unitSum t := by
  simp only [unitSum, funext (irqHigh_of_regs h)]

end

/-! The registers that follow others (R277). -/

theorem mem_followers {off : Nat} : off ∈ followers ↔ off = 0x100010 ∨ off = 0x90010 := by
  simp only [followers, List.mem_cons, List.not_mem_nil, or_false]

/-- No flag of a chain or of a timer unit stands in a register that follows others: a write of one leaves them. -/
theorem chainEvent_setReg (s : State) {off : Nat} (w : Word) (h : off ∈ followers) : chainEvent (s.setReg off w) = chainEvent s := by
  have hoff : off = 0x100010 ∨ off = 0x90010 := mem_followers.mp h
  unfold chainEvent
  congr 1
  funext n
  exact irqHigh_setReg s w (by dsimp only; omega) (by dsimp only; omega)

theorem unitSum_setReg (s : State) {off : Nat} (w : Word) (h : off ∈ followers) : unitSum (s.setReg off w) = unitSum s := by
  have hoff : off = 0x100010 ∨ off = 0x90010 := mem_followers.mp h
  refine congrArg maskOf (List.filter_congr (fun u hu => ?_))
  have hu32 : u < 32 := List.mem_range.mp hu
  exact irqHigh_setReg s w (by dsimp only; omega) (by dsimp only; omega)

section
variable (s : State) {f : Fld} (v : Nat)

theorem follow_cases : follow f v s = s ∨ ∃ w, follow f v s = s.setReg f.off w := by
  unfold follow
  split
  · exact .inl rfl
  · exact .inr ⟨_, rfl⟩

theorem chainEvent_follow (h : f.off ∈ followers) : chainEvent (follow f v s) = chainEvent s := by
  rcases follow_cases s (f := f) v with e | ⟨w, e⟩
  · rw [e]
  · rw [e, chainEvent_setReg s w h]

theorem unitSum_follow (h : f.off ∈ followers) : unitSum (follow f v s) = unitSum s := by
  rcases follow_cases s (f := f) v with e | ⟨w, e⟩
  · rw [e]
  · rw [e, unitSum_setReg s w h]

theorem follow_get_same (hf : f.lsb + f.width ≤ 32) (hv : v < 2 ^ f.width) : (follow f v s).get f = v := by
  unfold follow
  split
  · assumption
  · rw [s.get_set_same f v hf, Nat.mod_eq_of_lt hv]

theorem follow_get_off {g : Fld} (h : g.off ≠ f.off) : (follow f v s).get g = s.get g := by
  unfold follow
  split
  · rfl
  · exact s.get_set_off f g v h

end

theorem b2n_lt (b : Bool) : b2n b < 2 := by cases b <;> decide

theorem derive_chainEvent (s : State) : chainEvent (derive s) = chainEvent s :=
  (chainEvent_follow _ _ (by decide)).trans (chainEvent_follow _ _ (by decide))

theorem derive_unitSum (s : State) : unitSum (derive s) = unitSum s :=
  (unitSum_follow _ _ (by decide)).trans (unitSum_follow _ _ (by decide))

/-- CNP_STAT.chain_evt brought up to date shows the chains' flags. -/
theorem derive_chain_evt (s : State) : (derive s).get F.CNP_STAT_chain_evt = b2n (chainEvent (derive s)) := by
  rw [derive_chainEvent, derive, follow_get_off _ _ (by decide)]
  exact follow_get_same s _ (by decide) (b2n_lt _)

/-- TMU_STAT.unit_evt brought up to date shows the timer units' flags. -/
theorem derive_unit_evt (s : State) : (derive s).get F.TMU_STAT_unit_evt = b2n (decide (unitSum (derive s) ≠ 0)) := by
  rw [derive_unitSum, derive, follow_get_same _ _ (by decide) (b2n_lt _), unitSum_follow _ _ (by decide)]

/-- Where the two registers show the flags they follow, bringing them up to date changes nothing. -/
theorem derive_of_shown {s : State} (hchain : s.get F.CNP_STAT_chain_evt = b2n (chainEvent s))
    (hunit : s.get F.TMU_STAT_unit_evt = b2n (decide (unitSum s ≠ 0))) : derive s = s := by
  have hfirst : follow F.CNP_STAT_chain_evt (b2n (chainEvent s)) s = s := if_pos hchain
  rw [derive, hfirst]
  exact if_pos hunit

/-! The close of a command. -/

/-- Once the followers are up to date, the close of a command changes no register (R26). -/
theorem quiet_settle (s0 s : State) : Quiet (derive s) (settle s0 s) :=
  (each_quiet _ _ (fun (q : IrqSource) s => quiet_raiseIrq q.vector q.block s) _).trans
    ((each_quiet _ _ (fun (q : IrqSource) s => (quiet_when _ _ (quiet_raiseIrq q.vector q.block) s).trans (quiet_used _)) _).trans
      (quiet_noted _ _ _))

/-- The close of a command notes the levels of the state it closes, whatever the levels before it were. -/
theorem levelsAgree_settle (s0 s : State) : LevelsAgree (settle s0 s) := by
  have hregs : (settle s0 s).regs = (derive s).regs := (quiet_settle s0 s).1
  have hget (f : Fld) : (settle s0 s).get f = (derive s).get f := State.get_congr f (State.reg_congr hregs _)
  refine ⟨(settle_irqLevel s0 s).trans (irqLevels_of_regs hregs).symm, ?_, ?_⟩
  · rw [hget, derive_chain_evt, chainEvent_of_regs hregs]
  · rw [hget, derive_unit_evt, unitSum_of_regs hregs]

/-- Every command is an effect on the state, closed by `settle`. -/
theorem exec_settles (c : Instr) (s : State) : ∃ s0 u, exec c s = .next (settle s0 u) := by
  cases c <;> exact ⟨s, _, rfl⟩

/-- Every step is an effect on the state, closed by `settle`: a command's, or that of a tick. -/
theorem step_settles (s : State) : ∃ s0 u, step s = .next (settle s0 u) := by
  unfold step
  split
  · exact ⟨s, _, rfl⟩
  · exact exec_settles ..

end Sys2Proof.Machine
end

section
/-!
SUPPORT. When the close of a command sends an interrupt message, and when it sends none (R26, R414, R415).
-/

namespace Sys2Proof.Machine

theorem each_append {α σ : Type} (l m : List α) (f : α → σ → σ) (s : σ) : each (l ++ m) f s = each m f (each l f s) := by
  induction l generalizing s with
  | nil => rfl
  | cons x rest ih => exact ih (f x s)

theorem AddsMessages.mem {s t : State} {o : Output} (h : AddsMessages s t) (ho : o ∈ s.out) : o ∈ t.out := by
  obtain ⟨l, hl, -⟩ := h
  exact hl ▸ List.mem_append_left l ho

/-- A message of `vector` for `block` goes out as soon as its interrupt is raised: the host owns the block, neither the vector
nor the function is masked, and the link is in L0 (R414, R415). -/
abbrev HostTakes (s : State) (vector block : Nat) : Prop :=
  s.owner 6 block = 0x0800 ∧ s.tap.funcMask = false ∧ (tabGet s.tap.msix vector {}).masked = false ∧ s.get F.TPR_LINK_pm = 0

/-- Messages and domains that wake change neither who takes an interrupt nor the MSI-X table. -/
theorem HostTakes.of_settled {s t : State} {vector block : Nat} (h : HostTakes s vector block) (k : Settled s t) :
    HostTakes t vector block ∧ t.tap.msix = s.tap.msix := by
  obtain ⟨howner, hfunc, hvec, hpm⟩ := h
  have hstand : t.stand = s.stand := k.2 .stand
  have htap : { t.tap with pba := s.tap.pba } = s.tap := k.2 .host
  have hmsix : t.tap.msix = s.tap.msix := (congrArg TaprootState.msix htap :)
  refine ⟨⟨?_, (congrArg TaprootState.funcMask htap :).trans hfunc, hmsix ▸ hvec, ?_⟩, hmsix⟩
  · rw [← howner]
    simp only [State.owner, hstand]
  · rw [← hpm]
    exact State.get_congr _ (k.1 _ (by decide))

/-- A level is noted now and was not noted before. -/
theorem rises_iff (now before : List Nat) (off : Nat) :
    (now.contains off && !before.contains off) = true ↔ off ∈ now ∧ off ∉ before := by
  rw [Bool.and_eq_true, List.contains_iff_mem, Bool.not_eq_true', ← Bool.not_eq_true, List.contains_iff_mem]

/-- An interrupt whose level rises with a command, and that the host takes, is sent as its message (R26). -/
theorem msix_mem_settle {s0 s : State} {q : IrqSource} (hq : q ∈ irqSources) (hhigh : irqHigh (derive s) q = true)
    (hlow : q.stat ∉ s0.irqLevel) (htakes : HostTakes s q.vector q.block) :
    .msix q.vector (tabGet s.tap.msix q.vector {}).addr (tabGet s.tap.msix q.vector {}).data ∈ (settle s0 s).out := by
  have hlevel : q.stat ∈ irqLevels (derive s) := List.mem_map_of_mem (List.mem_filter.mpr ⟨hq, hhigh⟩)
  have hnew : q ∈ irqSources.filter (fun q => (irqLevels (derive s)).contains q.stat && !s0.irqLevel.contains q.stat) :=
    List.mem_filter.mpr ⟨hq, (rises_iff _ _ _).mpr ⟨hlevel, hlow⟩⟩
  obtain ⟨before, after, hsplit⟩ := List.append_of_mem hnew
  have hquiet := each_quiet before _ (fun (q : IrqSource) s => quiet_raiseIrq q.vector q.block s) (derive s)
  obtain ⟨⟨howner, hfunc, hvec, hpm⟩, hmsix⟩ := htakes.of_settled ((settled_derive s).trans hquiet.settled)
  have hsent := raiseIrq_of_host howner hfunc hvec hpm
  rw [hmsix] at hsent
  unfold settle
  simp only [hsplit, each_append, each, hsent]
  refine (addsMessages_each _ _ (fun (q : IrqSource) s =>
    (addsMessages_when _ _ (addsMessages_raiseIrq q.vector q.block) s).trans (addsMessages_used _)) _).mem ?_
  exact (addsMessages_each _ _ (fun (q : IrqSource) s => addsMessages_raiseIrq q.vector q.block s) _).mem
    (List.mem_append_right _ List.mem_cons_self)

/-- No level rises with a command and the command before cleared no flag: its close sends nothing. -/
theorem settle_out_of_levels {s0 s : State} (hlevels : irqLevels (derive s) ⊆ s0.irqLevel) (hcleared : s0.cleared = []) :
    (settle s0 s).out = s.out := by
  have hnew : irqSources.filter (fun q => (irqLevels (derive s)).contains q.stat && !s0.irqLevel.contains q.stat) = [] :=
    List.filter_eq_nil_iff.mpr (fun q _ hrises => ((rises_iff _ _ _).mp hrises).2 (hlevels ((rises_iff _ _ _).mp hrises).1))
  have hraced (t : State) : irqSources.filter (fun q => s0.irqLevel.contains q.stat && setAgain s0 t q) = [] :=
    List.filter_eq_nil_iff.mpr (fun q _ => by
      simp only [setAgain, hcleared, List.lookup_nil, Bool.and_false, Bool.false_eq_true, not_false_eq_true])
  simp only [settle, hnew, hraced, each]
  exact derive_out s

end Sys2Proof.Machine
end

section
/-!
SUPPORT. The interrupt of the fabric's block, GLB (R414): acc_err set by a command.
-/

namespace Sys2Proof.Machine

/-- The STAT and MASK pair of the block. -/
abbrev globalSource : IrqSource := ⟨0x10, 0x14, 0x7, 52, 0x00⟩

theorem globalSource_mem : globalSource ∈ irqSources := List.mem_cons_self

/-- A STAT register resets to 0, so its word is what the register reads. -/
theorem statWord_globalStat (s : State) : statWord s 0x10 = s.reg 0x10 := rfl

/-- Of a state whose levels are noted, whether a pair's level is. -/
theorem stat_mem_irqLevel {s : State} (h : LevelsAgree s) {q : IrqSource} (hq : q ∈ irqSources) :
    q.stat ∈ s.irqLevel ↔ irqHigh s q = true := by
  obtain ⟨hlevel, -⟩ := h
  have hinj : ∀ q ∈ irqSources, ∀ q' ∈ irqSources, q.stat = q'.stat → q = q' := by decide
  rw [hlevel, irqLevels, List.mem_map]
  constructor
  · rintro ⟨q', hq', hstat⟩
    obtain ⟨hmem, hhigh⟩ := List.mem_filter.mp hq'
    exact hinj q' hmem q hq hstat ▸ hhigh
  · exact fun hhigh => ⟨q, List.mem_filter.mpr ⟨hq, hhigh⟩, rfl⟩

/-- The state in which acc_err is set and counted (R5). -/
abbrev accErrSet (s : State) : State := s.event F.GLB_STAT_acc_err F.GLB_EVCNT_acc_err_cnt

/-- acc_err set and counted changes two registers: GLB_STAT in its bit 0, and GLB_EVCNT. -/
theorem accErrSet_eq (s : State) : ∃ w, accErrSet s = (s.setReg 0x10 (wordSet (s.reg 0x10) 0 1 1)).setReg 0x18 w := ⟨_, rfl⟩

/-- No other pair is touched by acc_err. -/
theorem irqHigh_accErrSet_other (s : State) {q : IrqSource} (hstat : q.stat ≠ 0x10 ∧ q.stat ≠ 0x18)
    (hmask : q.mask ≠ 0x10 ∧ q.mask ≠ 0x18) : irqHigh (accErrSet s) q = irqHigh s q := by
  obtain ⟨w, hw⟩ := accErrSet_eq s
  rw [hw, irqHigh_setReg _ _ hstat.2 hmask.2, irqHigh_setReg _ _ hstat.1 hmask.1]

theorem accErrSet_mask (s : State) : (accErrSet s).reg 0x14 = s.reg 0x14 := s.reg_event_ne _ _ (by decide) (by decide)

/-- Bit `i` of GLB_STAT after acc_err is set. -/
theorem accErrSet_stat (s : State) {i : Nat} (hi : i < 32) :
    (statWord (accErrSet s) 0x10).getLsbD i = if i = 0 then true else (statWord s 0x10).getLsbD i := by
  obtain ⟨w, hw⟩ := accErrSet_eq s
  rw [hw, statWord_setReg_ne _ _ (by decide), statWord_setReg_same, statWord_globalStat, ← BitVec.testBit_toNat,
    testBit_wordSet _ _ _ _ _ hi, BitVec.testBit_toNat]
  by_cases h : i = 0
  · subst h
    rfl
  · rw [if_neg (by omega), if_neg h]

/-- Unmasked, acc_err raises the block's level. -/
theorem irqHigh_accErrSet {s : State} (hmask : (s.reg 0x14).getLsbD 0 = false) : irqHigh (accErrSet s) globalSource = true :=
  (irqHigh_iff _ _).mpr ⟨0, accErrSet_stat s (by decide), accErrSet_mask s ▸ hmask, rfl⟩

/-- Masked, acc_err leaves the block's level low. -/
theorem irqHigh_accErrSet_masked {s : State} (hmask : (s.reg 0x14).getLsbD 0 = true) (hlow : irqHigh s globalSource = false) :
    irqHigh (accErrSet s) globalSource = false := by
  refine Bool.eq_false_iff.mpr (fun hhigh => ?_)
  obtain ⟨i, hstat, hunmasked, hflag⟩ := (irqHigh_iff _ _).mp hhigh
  rw [accErrSet_mask s] at hunmasked
  have hi : i ≠ 0 := fun h => absurd (hmask.symm.trans (h ▸ hunmasked)) (by decide)
  rw [accErrSet_stat s (BitVec.lt_of_getLsbD hstat), if_neg hi] at hstat
  exact Bool.eq_false_iff.mp hlow ((irqHigh_iff _ _).mpr ⟨i, hstat, hunmasked, hflag⟩)

/-- acc_err leaves the levels of every other block as they were, and with them what the followers show. -/
theorem derive_accErrSet {s : State} (h : LevelsAgree s) : derive (accErrSet s) = accErrSet s := by
  obtain ⟨-, hchain, hunit⟩ := h
  have hce : chainEvent (accErrSet s) = chainEvent s := by
    unfold chainEvent
    congr 1
    funext n
    exact irqHigh_accErrSet_other s (by dsimp only; omega) (by dsimp only; omega)
  have hus : unitSum (accErrSet s) = unitSum s := by
    unfold unitSum
    congr 2
    funext u
    exact irqHigh_accErrSet_other s (by dsimp only; omega) (by dsimp only; omega)
  have hget (f : Fld) (h1 : f.off ≠ 0x10) (h2 : f.off ≠ 0x18) : (accErrSet s).get f = s.get f :=
    State.get_congr f (s.reg_event_ne _ _ h1 h2)
  refine derive_of_shown ?_ ?_
  · rw [hce, hget _ (by decide) (by decide), hchain]
  · rw [hus, hget _ (by decide) (by decide), hunit]

/-- Masked, acc_err raises no level. -/
theorem irqLevels_accErrSet_masked {s : State} (h : LevelsAgree s) (hmask : (s.reg 0x14).getLsbD 0 = true)
    (hlow : irqHigh s globalSource = false) : irqLevels (accErrSet s) ⊆ s.irqLevel := by
  have hother : ∀ q ∈ irqSources, q ≠ globalSource → (q.stat ≠ 0x10 ∧ q.stat ≠ 0x18) ∧ q.mask ≠ 0x10 ∧ q.mask ≠ 0x18 := by decide
  intro off hoff
  obtain ⟨q, hq, rfl⟩ := List.mem_map.mp hoff
  obtain ⟨hmem, hhigh⟩ := List.mem_filter.mp hq
  have hne : q ≠ globalSource := fun e => by
    rw [e, irqHigh_accErrSet_masked hmask hlow] at hhigh
    cases hhigh
  obtain ⟨hs, hm⟩ := hother q hmem hne
  exact (stat_mem_irqLevel h hmem).mpr (irqHigh_accErrSet_other s hs hm ▸ hhigh)

/-- A partial PCIe write that sets acc_err unmasked sends the block's message (R5, R26). -/
theorem does_partialWrite_message {s : State} (off : Nat) (h : LevelsAgree s) (hlow : irqHigh s globalSource = false)
    (hmask : (s.reg 0x14).getLsbD 0 = false) (htakes : HostTakes s 52 0) :
    Does (.pciePartialWrite off true) s (fun t => .msix 52 (tabGet s.tap.msix 52 {}).addr (tabGet s.tap.msix 52 {}).data ∈ t.out) := by
  refine does_of_effect (exec_partialWrite s off) rfl (msix_mem_settle globalSource_mem ?_ ?_ ?_)
  · rw [derive_accErrSet (s := s.started) h]
    exact irqHigh_accErrSet hmask
  · rw [stat_mem_irqLevel h globalSource_mem, hlow]
    decide
  · obtain ⟨howner, hfunc, hvec, hpm⟩ := htakes
    exact ⟨howner, hfunc, hvec, (State.get_congr _ (s.started.reg_event_ne _ _ (by decide) (by decide))).trans hpm⟩

/-- Where acc_err is masked and no flag was cleared just before, it sends none. -/
theorem does_partialWrite_silent {s : State} (off : Nat) (h : LevelsAgree s) (hcleared : s.cleared = [])
    (hlow : irqHigh s globalSource = false) (hmask : (s.reg 0x14).getLsbD 0 = true) :
    Does (.pciePartialWrite off true) s (fun t => t.out = []) := by
  refine does_of_effect (exec_partialWrite s off) rfl (settle_out_of_levels ?_ hcleared)
  rw [derive_accErrSet (s := s.started) h]
  exact irqLevels_accErrSet_masked h hmask hlow

end Sys2Proof.Machine
end

section
/-!
SUPPORT. What an event of the ring record changes (R395 to R398).
-/

namespace Sys2Proof.Machine

/-- The registers of the ring record, its STAT and MASK included. -/
abbrev RingReg (off : Nat) : Prop := 0x61010 ≤ off ∧ off ≤ 0x61044

section
variable {off : Nat} (h : ¬ RingReg off)
include h

theorem reg_set_ring (s : State) {f : Fld} (v : Nat) (hf : RingReg f.off) : (s.set f v).reg off = s.reg off :=
  s.reg_set_ne f v (fun e => h (e ▸ hf))

theorem ringFreeze_reg (s : State) (f n : Nat) : (ringFreeze s f n).reg off = s.reg off :=
  (reg_set_ring h _ _ (by decide)).trans ((reg_set_ring h _ _ (by decide)).trans (reg_set_ring h s _ (by decide)))

/-- An event is written, or lost, within the registers of the ring record. -/
theorem ringWrite_reg (s : State) (code cls unit domain cause : Nat) (data : List Byte) (trigger : Bool) :
    (ringWrite s code cls unit domain cause data trigger).reg off = s.reg off := by
  have hring (s : State) (r : RingState) : ({ s with ring := r } : State).reg off = s.reg off := rfl
  unfold ringWrite
  dsimp only
  split
  next => simp (disch := decide) only [State.event, State.inc, State.add, reg_set_ring h]
  next =>
    split
    next => rw [ringFreeze_reg h, reg_set_ring h _ _ (by decide), reg_set_ring h _ _ (by decide), hring]
    next => rw [reg_set_ring h _ _ (by decide), reg_set_ring h _ _ (by decide), hring]

end

theorem ringWrite_get (s : State) (code cls unit domain cause : Nat) (data : List Byte) (trigger : Bool) {f : Fld}
    (h : ¬ RingReg f.off) : (ringWrite s code cls unit domain cause data trigger).get f = s.get f :=
  State.get_congr f (ringWrite_reg h s code cls unit domain cause data trigger)

/-- An event that is not lost and that freezes nothing moves the head on by one. -/
theorem ringWrite_head (s : State) (code cls unit domain cause : Nat) (data : List Byte)
    (h : ringProtected s (s.get F.RRC_HEAD_index) = false) :
    (ringWrite s code cls unit domain cause data false).get F.RRC_HEAD_index = (s.get F.RRC_HEAD_index + 1) % 4096 := by
  simp only [ringWrite, h, Bool.false_and, if_false, Bool.false_eq_true]
  rw [State.get_set_off _ _ _ _ (by decide), State.get_set_same _ _ _ (by decide)]
  rfl

/-- Whether the frozen ring protects an index depends on one register and on the ring's own state. -/
theorem ringProtected_congr {s t : State} (hring : s.ring = t.ring) (hfreeze : s.reg 0x6102C = t.reg 0x6102C) (i : Nat) :
    ringProtected s i = ringProtected t i := by
  have hfrozen : s.get F.RRC_FREEZE_frozen = t.get F.RRC_FREEZE_frozen := State.get_congr _ hfreeze
  simp only [ringProtected, State.on, hfrozen, hring]

theorem ringNote_get (s : State) (code : Nat) (data : List Byte) (trigger : Bool) {f : Fld} (h : ¬ RingReg f.off) :
    (ringNote code data trigger s).get f = s.get f :=
  ringWrite_get s.used _ _ _ _ _ _ _ h

theorem ringNote_head (s : State) (code : Nat) (data : List Byte) (h : ringProtected s (s.get F.RRC_HEAD_index) = false) :
    (ringNote code data false s).get F.RRC_HEAD_index = (s.get F.RRC_HEAD_index + 1) % 4096 :=
  ringWrite_head s.used _ _ _ _ _ _ h

end Sys2Proof.Machine
end

section
/-!
SUPPORT. Flags and counters after the event that sets and counts them (R27, R28).
-/

namespace Sys2Proof.Machine

section
variable (s : State)

theorem not_mem_followers {off : Nat} (hchain : off ≠ 0x100010) (hunit : off ≠ 0x90010) : off ∉ followers :=
  fun h => (mem_followers.mp h).elim hchain hunit

/-- A command starts from the registers before it. -/
theorem State.get_started (f : Fld) : s.started.get f = s.get f := State.get_congr f (State.reg_congr rfl _)

theorem State.get_add_off {f g : Fld} (n : Nat) (h : g.off ≠ f.off) : (s.add f n).get g = s.get g := s.get_set_off f g _ h

theorem frame_of_set (f : Fld) (v : Nat) : Frame [f.off] [] s (s.set f v) := frame_of_setReg s _

theorem State.get_event_flag {f c : Fld} (hf : f.lsb + f.width ≤ 32) (hw : 0 < f.width) (h : f.off ≠ c.off) :
    (s.event f c).get f = 1 := by
  rw [State.event, State.inc, State.add, State.get_set_off _ _ _ _ h, State.get_set_same _ _ _ hf]
  exact Nat.mod_eq_of_lt (Nat.one_lt_two_pow (Nat.ne_of_gt hw))

theorem State.get_event_count {f c : Fld} (hc : c.lsb + c.width ≤ 32) (h : c.off ≠ f.off) :
    (s.event f c).get c = min (s.get c + 1) (2 ^ c.width - 1) := by
  rw [State.event, State.get_inc_same _ _ hc, State.get_set_off _ _ _ _ h]

theorem State.get_event_other {f c g : Fld} (hf : g.off ≠ f.off) (hc : g.off ≠ c.off) : (s.event f c).get g = s.get g :=
  State.get_congr g (s.reg_event_ne f c hf hc)

/-- A counter counts several occurrences up to its greatest value (R28). -/
theorem State.get_add_same (f : Fld) (n : Nat) (h : f.lsb + f.width ≤ 32) :
    (s.add f n).get f = min (s.get f + n) (2 ^ f.width - 1) := by
  have := Nat.two_pow_pos f.width
  rw [State.add, State.get_set_same _ _ _ h]
  exact Nat.mod_eq_of_lt (by omega)

end

end Sys2Proof.Machine
end

section
/-!
SUPPORT. Crossings between clock islands (R11 to R13).
-/

namespace Sys2Proof.Machine

section
variable {s : State}

/-! Overflow episodes (R12). -/

/-- The state in which an episode of a crossing is counted and shown. -/
abbrev overflowShown (n k : Nat) (s : State) : State :=
  (s.add (F.GLB_FIFO_OVF_CNT_count n) k).event F.GLB_STAT_fifo_ovf F.GLB_EVCNT_fifo_ovf_cnt

theorem canOverflow_lt {n : Nat} (h : canOverflow n = true) : n < 18 := by
  simp only [canOverflow, Bool.or_eq_true, Bool.and_eq_true, decide_eq_true_iff] at h
  omega

/-- Counting and showing an episode touches no other register. -/
theorem overflowShown_reg (s : State) {n k off : Nat} (hcount : off ≠ 0x100 + 4 * n) (hstat : off ≠ 0x10)
    (hevents : off ≠ 0x18) : (overflowShown n k s).reg off = s.reg off := by
  rw [overflowShown, State.reg_event_ne _ _ _ hstat hevents]
  exact s.reg_add_ne _ _ hcount

/-- An episode of `c` entries is counted and shown, and one event of it is written. -/
def overflowEffect (n c : Nat) (s : State) : State :=
  ringNote 0x10 (leBytes 1 n ++ leBytes 4 (min c 0xFFFFFFFF)) false (overflowShown n c s)

theorem exec_fifoOverflow (s : State) (n k : Nat) :
    exec (.fifoOverflow n k) s = run (fun s => if canOverflow n then overflowEffect n (max 1 k) s else s) s := rfl

/-- FIFO_OVERFLOW of a crossing that can overflow (R12). -/
theorem does_fifoOverflow {n k : Nat} (h : canOverflow n = true) (hk : 1 ≤ k)
    (hring : ringProtected s (s.get F.RRC_HEAD_index) = false) :
    Does (.fifoOverflow n k) s (fun t => t.get (F.GLB_FIFO_OVF_CNT_count n) = min (s.get (F.GLB_FIFO_OVF_CNT_count n) + k) (2 ^ 32 - 1) ∧
      t.get F.GLB_STAT_fifo_ovf = 1 ∧ Counts F.GLB_EVCNT_fifo_ovf_cnt s t ∧
      t.get F.RRC_HEAD_index = (s.get F.RRC_HEAD_index + 1) % 4096) := by
  have hn := canOverflow_lt h
  have hoff : (F.GLB_FIFO_OVF_CNT_count n).off = 0x100 + 4 * n := rfl
  have heffect : (if canOverflow n then overflowEffect n (max 1 k) s.started else s.started) = overflowEffect n k s.started := by
    rw [if_pos h, Nat.max_eq_right hk]
  have hhead : (overflowShown n k s.started).get F.RRC_HEAD_index = s.get F.RRC_HEAD_index :=
    State.get_congr _ (overflowShown_reg s.started (by simp only [F.RRC_HEAD_index]; omega) (by decide) (by decide))
  have hfreeze : (overflowShown n k s.started).reg 0x6102C = s.reg 0x6102C := overflowShown_reg s.started (by omega) (by decide) (by decide)
  have hfree : ringProtected (overflowShown n k s.started) (s.get F.RRC_HEAD_index) = false :=
    (ringProtected_congr (s := overflowShown n k s.started) (t := s) rfl hfreeze _).trans hring
  refine does_of_effect (exec_fifoOverflow s n k) heffect ⟨?count, ?flag, ?events, ?event⟩
  case count =>
    rw [settle_get _ _ (not_mem_followers (by omega) (by omega)), overflowEffect, ringNote_get _ _ _ _ (by omega),
      State.get_event_other _ (by simp only [hoff, F.GLB_STAT_fifo_ovf]; omega) (by simp only [hoff, F.GLB_EVCNT_fifo_ovf_cnt]; omega),
      State.get_add_same _ (F.GLB_FIFO_OVF_CNT_count n) _ (Nat.le_refl 32), State.get_started]
    rfl
  case flag =>
    rw [settle_get _ _ (by decide), overflowEffect, ringNote_get _ _ _ _ (by decide)]
    exact State.get_event_flag _ (by decide) (by decide) (by decide)
  case events =>
    rw [Counts, settle_get _ _ (by decide), overflowEffect, ringNote_get _ _ _ _ (by decide),
      State.get_event_count _ (by decide) (by decide), State.get_add_off _ _ (by simp only [hoff, F.GLB_EVCNT_fifo_ovf_cnt]; omega),
      State.get_started]
  case event =>
    rw [settle_get _ _ (by decide), overflowEffect, ringNote_head _ _ _ (hhead ▸ hfree), hhead]

/-! Gap marks in Ethernet frames (R13). -/

/-- The state in which a frame of a port is counted dropped. -/
abbrev frameDropped (p : Nat) (s : State) : State := (s.inc (F.ETH_RX_DROP_CNT_count p)).set (F.ETH_STAT_rx_drop p) 1

/-- A gap mark at a port's crossing drops the frame in progress there, if there is one. -/
theorem exec_gapMark_port (s : State) {p : Nat} (hp : p < 4) (inFrame : Bool) :
    exec (.gapMark (14 + p) inFrame) s = run (fun s => if inFrame then frameDropped p s else s) s := by
  have hwindow : ¬ 14 + p ≤ 3 := by omega
  have hhost : ¬ 14 + p = 12 := by omega
  have hport : 14 ≤ 14 + p ∧ 14 + p ≤ 17 := by omega
  change execGapMark (14 + p) inFrame s = _
  simp only [execGapMark, hwindow, hhost, hport, true_and, if_false, Nat.add_sub_cancel_left]

theorem frame_frameDropped (p : Nat) (s : State) :
    Frame [(F.ETH_RX_DROP_CNT_count p).off, (F.ETH_STAT_rx_drop p).off] [] s (frameDropped p s) :=
  frame_trans (frame_mono (frame_of_set s (F.ETH_RX_DROP_CNT_count p) _) (List.cons_subset_cons _ (List.nil_subset _)) (List.nil_subset _))
    (frame_mono (frame_of_set _ (F.ETH_STAT_rx_drop p) 1) (List.subset_cons_self _ _) (List.nil_subset _))

theorem does_gapMark_inFrame {p : Nat} (hp : p < 4) :
    Does (.gapMark (14 + p) true) s (fun t => Counts (F.ETH_RX_DROP_CNT_count p) s t ∧ t.get (F.ETH_STAT_rx_drop p) = 1 ∧
      RegsBut [(F.ETH_RX_DROP_CNT_count p).off, (F.ETH_STAT_rx_drop p).off] s t) := by
  have hcount : (F.ETH_RX_DROP_CNT_count p).off = 0x500028 + 0x10000 * p := rfl
  have hstat : (F.ETH_STAT_rx_drop p).off = 0x500010 + 0x10000 * p := rfl
  refine does_of_effect (exec_gapMark_port s hp true) (if_pos rfl) ⟨?_, ?_, (settle_frame _ _ (frame_frameDropped p s.started)).1⟩
  · rw [Counts, settle_get _ _ (not_mem_followers (by omega) (by omega)), State.get_set_off _ _ _ _ (by omega),
      State.get_inc_same _ (F.ETH_RX_DROP_CNT_count p) (Nat.le_refl 32)]
    rfl
  · rw [settle_get _ _ (not_mem_followers (by omega) (by omega)), State.get_set_same _ (F.ETH_STAT_rx_drop p) _ (show 1 + 1 ≤ 32 by decide)]
    rfl

theorem does_gapMark_betweenFrames {p : Nat} (hp : p < 4) : Does (.gapMark (14 + p) false) s (fun t => Frame [] [] s t) :=
  does_of_effect (exec_gapMark_port s hp false) (if_neg Bool.false_ne_true) (settle_frame _ _ (frame_of_quiet (.refl s.started)))

end

end Sys2Proof.Machine
end

section
/-!
SUPPORT. Updates of the pace monitors (R449) while no change of the operating point waits for one (R375).
-/

namespace Sys2Proof.Machine

/-- The state in which GLB_PACE shows a pace and its monitor. -/
abbrev paceShown (pace m : Nat) (s : State) : State := (s.set F.GLB_PACE_min_pace pace).set F.GLB_PACE_mon_id m

/-- The state in which the pace monitors have made an update. -/
abbrev paced (s : State) : State := { s with power := { s.power with paced := true } }

/-- pace_low is set and counted where the pace shown lies below the threshold. -/
def paceLowNoted (s : State) : State :=
  if s.get F.GLB_PACE_min_pace < s.get F.GLB_PACE_THR_thr then s.event F.GLB_STAT_pace_low F.GLB_EVCNT_pace_low_cnt else s

theorem exec_paceUpdate (s : State) (pace m : Nat) (avs : Option Nat) :
    exec (.paceUpdate pace m avs) s = run (fun s => if s.board.porLow || s.board.resetLow then s
      else paceForOp avs (paced (paceLowNoted (paceShown (min pace 65535) m s)))) s := rfl

theorem paceLowNoted_power (s : State) : (paceLowNoted s).power = s.power := by
  unfold paceLowNoted
  split <;> rfl

theorem paced_get (s : State) (f : Fld) : (paced s).get f = s.get f := State.get_congr f (State.reg_congr rfl _)

theorem paceForOp_idle {s : State} (avs : Option Nat) (h : s.power.opPhase = .idle) : paceForOp avs s = s := by
  simp only [paceForOp, h]

theorem paceShown_min (s : State) {pace m : Nat} (h : pace < 65536) : (paceShown pace m s).get F.GLB_PACE_min_pace = pace := by
  rw [State.get_set_apart _ _ _ _ (by decide) (by decide), State.get_set_same _ _ _ (by decide)]
  exact Nat.mod_eq_of_lt h

theorem paceShown_mon (s : State) {pace m : Nat} (h : m < 16) : (paceShown pace m s).get F.GLB_PACE_mon_id = m := by
  rw [State.get_set_same _ _ _ (by decide)]
  exact Nat.mod_eq_of_lt h

theorem paceShown_other (s : State) (pace m : Nat) {f : Fld} (h : f.off ≠ 0x20) : (paceShown pace m s).get f = s.get f := by
  rw [State.get_set_off _ _ _ _ h, State.get_set_off _ _ _ _ h]

theorem frame_paceShown (pace m : Nat) (s : State) : Frame [0x20] [] s (paceShown pace m s) :=
  frame_trans (frame_of_set s F.GLB_PACE_min_pace pace) (frame_of_set _ F.GLB_PACE_mon_id m)

theorem frame_paced (s : State) : Frame [] [.power] s (paced s) :=
  ⟨fun _ _ _ => rfl, fun p hp => by
    cases p with
    | power => exact absurd List.mem_cons_self hp
    | dram => exact fun _ => rfl
    | _ => rfl⟩

section
variable {s : State} {pace m : Nat} {avs : Option Nat} (hpor : s.board.porLow = false) (hreset : s.board.resetLow = false)
  (hidle : s.power.opPhase = .idle) (hpace : pace < 65536)
include hpor hreset hidle hpace

/-- A pace update shows the slowest monitor, notes a pace below the threshold, and helps no change of the operating point. -/
theorem does_of_pace {P : State → Prop} (h : P (settle s (paced (paceLowNoted (paceShown pace m s.started))))) :
    Does (.paceUpdate pace m avs) s P := by
  refine does_of_effect (exec_paceUpdate s pace m avs) ?_ h
  have hmin : min pace 65535 = pace := by omega
  have hphase : (paced (paceLowNoted (paceShown pace m s.started))).power.opPhase = .idle :=
    (congrArg PowerState.opPhase (paceLowNoted_power (paceShown pace m s.started))).trans hidle
  rw [hpor, hreset, hmin, paceForOp_idle avs hphase]
  rfl

/-- At or above the threshold nothing else changes. -/
theorem does_paceUpdate (hm : m < 16) (hthr : s.get F.GLB_PACE_THR_thr ≤ pace) :
    Does (.paceUpdate pace m avs) s (fun t => t.get F.GLB_PACE_min_pace = pace ∧ t.get F.GLB_PACE_mon_id = m ∧
      Frame [0x20] [.power] s t) := by
  refine does_of_pace hpor hreset hidle hpace ?_
  have hnoted : paceLowNoted (paceShown pace m s.started) = paceShown pace m s.started := by
    rw [paceLowNoted, paceShown_min _ hpace, paceShown_other _ _ _ (by decide), State.get_started, if_neg (Nat.not_lt.mpr hthr)]
  rw [hnoted]
  refine ⟨?_, ?_, settle_frame _ _ (frame_trans (frame_mono (frame_paceShown pace m s.started) (List.Subset.refl _) (List.nil_subset _))
    (frame_mono (frame_paced _) (List.nil_subset _) (List.Subset.refl _)))⟩
  · rw [settle_get _ _ (by decide), paced_get]
    exact paceShown_min s.started hpace
  · rw [settle_get _ _ (by decide), paced_get]
    exact paceShown_mon s.started hm

/-- Below the threshold pace_low is set and counted. -/
theorem does_paceUpdate_low (hthr : pace < s.get F.GLB_PACE_THR_thr) :
    Does (.paceUpdate pace m avs) s (fun t => t.get F.GLB_PACE_min_pace = pace ∧ t.get F.GLB_STAT_pace_low = 1 ∧
      Counts F.GLB_EVCNT_pace_low_cnt s t) := by
  refine does_of_pace hpor hreset hidle hpace ?_
  have hnoted : paceLowNoted (paceShown pace m s.started)
      = (paceShown pace m s.started).event F.GLB_STAT_pace_low F.GLB_EVCNT_pace_low_cnt := by
    rw [paceLowNoted, paceShown_min _ hpace, paceShown_other _ _ _ (by decide), State.get_started, if_pos hthr]
  rw [hnoted]
  refine ⟨?_, ?_, ?_⟩
  · rw [settle_get _ _ (by decide), paced_get]
    exact (State.get_event_other _ (by decide) (by decide)).trans (paceShown_min s.started hpace)
  · rw [settle_get _ _ (by decide), paced_get]
    exact State.get_event_flag (paceShown pace m s.started) (by decide) (by decide) (by decide)
  · have hcount := State.get_event_count (paceShown pace m s.started) (f := F.GLB_STAT_pace_low) (c := F.GLB_EVCNT_pace_low_cnt)
      (by decide) (by decide)
    rw [paceShown_other _ _ _ (by decide), State.get_started] at hcount
    rw [Counts, settle_get _ _ (by decide), paced_get]
    exact hcount

end

end Sys2Proof.Machine
end

section
/-!
SUPPORT. The restart of the security cores (R391) while a new SEC image is on trial (R347).
-/

namespace Sys2Proof.Machine

/-- A plan whose SEC image was activated at instant 0, with its health check of 120 s under way. -/
def secTrial : PlanRun :=
  { rest := [], type := 4, oldSlot := 0, oldMeas := [], activated := true, ends := 120000000000, confirmed := false, cancelled := false }

/-- A part 2 s after that activation, its security cores still restarting. -/
def lateRestart : State :=
  { State.reset with time := { ns := 2000000000 }, prune := { secRestarting := true }, grf := { plan := some secTrial } }

theorem settle_grf (s0 s : State) : (settle s0 s).grf = s.grf := settle_same .updates s0 s

/-- What the end of the restart does before its close. -/
theorem exec_secRestartDone (s : State) : exec .secRestartDone s = run (fun s =>
    recoverUpdate (failLate [4] 1000000000 { s with prune := { s.prune with secRestarting := false } })) s := rfl

/-- The cores did not answer within 1 s of the activation: the health check has met a failure (R347). -/
theorem lateRestart_fails :
    (recoverUpdate (failLate [4] 1000000000 { lateRestart.started with prune := { lateRestart.prune with secRestarting := false } })).grf.plan
      = some { secTrial with failed := true } := by decide +kernel

end Sys2Proof.Machine
end

section
/-!
The statements about the fabric and its faults, settled.
-/

namespace Sys2Proof.Fabric

open Machine

/-- Settles O4: whatever a step does, its close notes the levels of the state it leaves. -/
theorem stepKeepsInterruptLevels : Obligations.StepKeepsInterruptLevels := by
  unfold Obligations.StepKeepsInterruptLevels
  intro s t _ ht
  obtain ⟨s0, u, hu⟩ := step_settles s
  cases Host.Outcome.next.inj (hu.symm.trans ht)
  exact levelsAgree_settle s0 u

/-- Settles O6: an unmasked acc_err raises the level of GLB, which the host takes; a masked one raises none. -/
theorem flagRaisesMessage : Obligations.FlagRaisesMessage := by
  unfold Obligations.FlagRaisesMessage
  intro s
  simp only [BitVec.testBit_toNat]
  refine ⟨fun off h hlow hmask howner hfunc hvec hpm => ?_, fun off h hcleared hlow hmask howner => ?_⟩
  · exact does_partialWrite_message off h hlow hmask ⟨howner, hfunc, hvec, hpm⟩
  · exact does_partialWrite_silent off h hcleared hlow hmask

/-- Settles O12, one crossing or pace update after another. -/
theorem crossings : Obligations.Crossings := by
  unfold Obligations.Crossings
  intro s
  refine ⟨fun n k hn hk hring => does_fifoOverflow hn hk hring, fun p hp => does_gapMark_inFrame hp,
    fun p hp => does_gapMark_betweenFrames hp,
    fun pace m avs hpor hreset hidle hpace hm hthr => does_paceUpdate hpor hreset hidle hpace hm hthr,
    fun pace m avs hpor hreset hidle hm hlow => ?_⟩
  have hthr : s.get F.GLB_PACE_THR_thr < 65536 := s.get_lt F.GLB_PACE_THR_thr
  exact does_paceUpdate_low hpor hreset hidle (by omega) hlow

/-- Refutes O54: it asks that the end of a restart of the security cores leave the plan as it was, but where a SEC image was
activated more than 1 s before, the cores answer too late and its health check has met a failure. -/
theorem not_containmentFaults : ¬ Obligations.ContainmentFaults := by
  unfold Obligations.ContainmentFaults
  intro h
  obtain ⟨-, -, -, -, -, -, -, -, -, -, hdone, -⟩ := h lateRestart
  obtain ⟨t, ht, -, -, hparts⟩ := hdone rfl
  have hgrf : t.grf = lateRestart.grf := hparts .updates (by decide)
  rw [exec_secRestartDone] at ht
  cases Host.Outcome.next.inj ht
  have hplan : some { secTrial with failed := true } = some secTrial :=
    lateRestart_fails.symm.trans (congrArg GrfState.plan ((settle_grf ..).symm.trans hgrf))
  exact absurd hplan (by decide)

end Sys2Proof.Fabric
end

section
/-!
SUPPORT. Operations of the receive front, of the traffic blocks and of the power manager leave the registers of the fabric and
of the stand plan, and the plan and its re-stand, as they were.
-/

namespace Sys2Proof.Machine

/-- The registers below those of the first block that operations of other blocks reach: the fabric's and the stand plan's (R23). -/
abbrev PlanReg (off : Nat) : Prop := off < 0x40000

/-- The stand plan's part of the state and its registers are as before. -/
def KeepsPlan (s t : State) : Prop := t.stand = s.stand ∧ ∀ off, PlanReg off → t.reg off = s.reg off

section
variable {s t u : State}

theorem KeepsPlan.refl (s : State) : KeepsPlan s s := ⟨rfl, fun _ _ => rfl⟩

theorem KeepsPlan.trans (h : KeepsPlan s t) (k : KeepsPlan t u) : KeepsPlan s u :=
  ⟨k.1.trans h.1, fun off ho => (k.2 off ho).trans (h.2 off ho)⟩

theorem KeepsPlan.get (h : KeepsPlan s t) {f : Fld} (hf : PlanReg f.off) : t.get f = s.get f := State.get_congr f (h.2 _ hf)

theorem KeepsPlan.counts (h : KeepsPlan s t) {s0 : State} {f : Fld} (hf : PlanReg f.off) (hc : Counts f s0 s) : Counts f s0 t :=
  (h.get hf).trans hc

theorem keepsPlan_of_same (hregs : t.regs = s.regs) (hstand : t.stand = s.stand) : KeepsPlan s t :=
  ⟨hstand, fun off _ => State.reg_congr hregs off⟩

theorem keepsPlan_of_quiet (h : Quiet s t) : KeepsPlan s t := keepsPlan_of_same h.1 (h.2 .stand)

theorem keepsPlan_settle (s0 s : State) : KeepsPlan s (settle s0 s) :=
  ⟨settle_same .stand s0 s, fun _ ho => settle_reg s0 s (not_mem_followers (by omega) (by omega))⟩

theorem keepsPlan_set (s : State) {f : Fld} (v : Nat) (hf : ¬ PlanReg f.off) : KeepsPlan s (s.set f v) :=
  ⟨rfl, fun _ ho => s.reg_set_ne f v (by omega)⟩

theorem keepsPlan_event (s : State) {f c : Fld} (hf : ¬ PlanReg f.off) (hc : ¬ PlanReg c.off) : KeepsPlan s (s.event f c) :=
  (keepsPlan_set s 1 hf).trans (keepsPlan_set _ _ hc)

theorem keepsPlan_each {α : Type} (l : List α) (f : α → State → State) (hf : ∀ x s, KeepsPlan s (f x s)) (s : State) :
    KeepsPlan s (each l f s) := by
  induction l generalizing s with
  | nil => exact .refl s
  | cons x rest ih => exact (hf x s).trans (ih (f x s))

end

/-! The receive front. -/

theorem keepsPlan_streamState (i v : Nat) (s : State) : KeepsPlan s (s.set (F.SRH_STREAM_STATUS_state i) v) :=
  keepsPlan_set s v (by simp only [F.SRH_STREAM_STATUS_state]; omega)

theorem keepsPlan_filled (w v : Nat) (s : State) : KeepsPlan s (s.set (F.CHZ_WIN_CFG_filled w) v) :=
  keepsPlan_set s v (by simp only [F.CHZ_WIN_CFG_filled]; omega)

theorem keepsPlan_included (w v : Nat) (s : State) : KeepsPlan s (s.set (F.SPC_WIN_INCL_incl w) v) :=
  keepsPlan_set s v (by simp only [F.SPC_WIN_INCL_incl]; omega)

theorem keepsPlan_excluded (n v : Nat) (s : State) : KeepsPlan s (s.set (F.CNP_CH_STATUS_excluded n) v) :=
  keepsPlan_set s v (by simp only [F.CNP_CH_STATUS_excluded]; omega)

theorem keepsPlan_unfill (w : Nat) (s : State) : KeepsPlan s (unfill w s) := by
  unfold unfill
  dsimp only
  refine .trans ?_ (keepsPlan_each _ _ (fun i s => keepsPlan_streamState i 0 s) _)
  refine .trans ?_ (keepsPlan_each _ _ (fun i s => keepsPlan_streamState i _ s) _)
  exact (keepsPlan_filled w 0 s).trans (keepsPlan_of_same rfl rfl)

theorem keepsPlan_zeroWindow (w : Nat) (s : State) : KeepsPlan s (zeroWindow w s) :=
  keepsPlan_each _ (fun i s => putWeights i _ s) (fun _ _ => keepsPlan_of_same rfl rfl) s

theorem keepsPlan_restrictStream (mask i : Nat) (s : State) : KeepsPlan s (restrictStream mask i s) := by
  unfold restrictStream
  dsimp only
  split <;> exact keepsPlan_of_same rfl rfl

theorem keepsPlan_beginFill (w : Nat) (s : State) : KeepsPlan s (beginFill w s) := keepsPlan_of_same rfl rfl

theorem keepsPlan_refreshWindow (w : Nat) (s : State) : KeepsPlan s (refreshWindow w s) := by
  unfold refreshWindow
  dsimp only
  split
  next => exact keepsPlan_zeroWindow w s
  next =>
    have hset := keepsPlan_included w (includedMask s w) s
    have hshown := hset.trans (keepsPlan_event _ (f := F.SPC_STAT_incl_change) (c := F.SPC_EVCNT_incl_change_cnt)
      (by decide) (by decide))
    have hstreams (l : List Nat) := hshown.trans (keepsPlan_each l _ (keepsPlan_restrictStream (includedMask s w)) _)
    split
    next => exact (hstreams _).trans (keepsPlan_unfill w _)
    next =>
      split
      · exact (hstreams _).trans (keepsPlan_beginFill w _)
      · exact hstreams _

theorem keepsPlan_refreshChain (n : Nat) (s : State) : KeepsPlan s (refreshChain n s) := by
  unfold refreshChain
  dsimp only
  split
  · exact .refl s
  · exact (keepsPlan_excluded n _ s).trans (keepsPlan_of_same rfl rfl)

theorem keepsPlan_noteUnfed (s : State) : KeepsPlan s (noteUnfed s) := keepsPlan_of_same rfl rfl

theorem keepsPlan_refreshFront (s : State) : KeepsPlan s (refreshFront s) := by
  unfold refreshFront
  refine .trans ?_ (keepsPlan_noteUnfed _)
  exact (keepsPlan_each _ _ keepsPlan_refreshChain s).trans (keepsPlan_each _ _ keepsPlan_refreshWindow _)

theorem keepsPlan_frontLeaves (d : Nat) (s : State) : KeepsPlan s (frontLeaves d s) := by
  unfold frontLeaves
  split
  · exact keepsPlan_refreshFront s
  · split
    · exact keepsPlan_each _ _ keepsPlan_unfill s
    · exact .refl s

/-! The Ethernet links and what is queued to their ports. -/

theorem keepsPlan_putShaper (i : Nat) (x : ShaperState) (s : State) : KeepsPlan s (putShaper i x s) :=
  (keepsPlan_of_same rfl rfl).trans (keepsPlan_set _ _ (by simp only [F.TRF_SHP5_credit]; omega))

theorem keepsPlan_syncShapers (s : State) : KeepsPlan s (syncShapers s) :=
  keepsPlan_each _ _ (fun i _ => keepsPlan_putShaper i _ _) s

theorem keepsPlan_freeCells (k : Nat) (cells : List Nat) (s : State) : KeepsPlan s (freeCells k cells s) :=
  (keepsPlan_set s _ (f := F.TRF_POOL_USED_used k) (by simp only [F.TRF_POOL_USED_used]; omega)).trans (keepsPlan_of_same rfl rfl)

/-- A frame dropped with its port (R232) is counted under its cause and as a drop, and shows no other flag. -/
theorem keepsPlan_countPortDown (s : State) : KeepsPlan s (countDrop 7 s) :=
  (keepsPlan_set s _ (f := F.TRF_DROP_CNT_count 7) (by decide)).trans
    (keepsPlan_event _ (f := F.TRF_STAT_drop) (c := F.TRF_EVCNT_drop_cnt) (by decide) (by decide))

theorem keepsPlan_dropQueued (cells : List Nat) (s : State) : KeepsPlan s (countDrop 7 (freeCells 4 cells s)) :=
  (keepsPlan_freeCells 4 cells s).trans (keepsPlan_countPortDown (freeCells 4 cells s))

theorem keepsPlan_dropPort (p : Nat) (s : State) : KeepsPlan s (dropPort p s) := by
  unfold dropPort
  dsimp only
  refine (keepsPlan_syncShapers s).trans (keepsPlan_each _ _ (fun q s => ?_) _)
  refine .trans ?_ (keepsPlan_each _ _ (fun (f : PortFrame) s => keepsPlan_dropQueued f.cells s) _)
  exact keepsPlan_of_same rfl rfl

theorem keepsPlan_synceLoses (p : Nat) (s : State) : KeepsPlan s (synceLoses p s) := by
  unfold synceLoses
  split
  · exact (keepsPlan_set s (f := F.TMB_SYNCE_active) _ (by decide)).trans
      ((keepsPlan_of_same rfl rfl).trans (keepsPlan_set _ 1 (by decide)))
  · exact .refl s

theorem keepsPlan_linkLost (p : Nat) (s : State) : KeepsPlan s (linkLost p s) := by
  unfold linkLost
  split
  · refine .trans ?_ ((keepsPlan_synceLoses p _).trans (keepsPlan_dropPort p _))
    exact (keepsPlan_set s (f := F.ETH_STATUS_link_up p) 0 (by simp only [F.ETH_STATUS_link_up]; omega)).trans
      ((keepsPlan_set _ (f := F.ETH_STAT_link_change p) 1 (by simp only [F.ETH_STAT_link_change]; omega)).trans
        (keepsPlan_set _ (f := F.ETH_EVCNT_link_cnt p) _ (by simp only [F.ETH_EVCNT_link_cnt]; omega)))
  · exact .refl s

theorem keepsPlan_linksDown (s : State) : KeepsPlan s (linksDown s) :=
  keepsPlan_each _ _ (fun p s => (keepsPlan_linkLost p s).trans
    ((keepsPlan_set _ (f := F.ETH_STATUS_block_lock p) 0 (by simp only [F.ETH_STATUS_block_lock]; omega)).trans
      ((keepsPlan_set _ (f := F.ETH_STATUS_fec_lock p) 0 (by simp only [F.ETH_STATUS_fec_lock]; omega)).trans
        (keepsPlan_set _ (f := F.ETH_STATUS_rx_clk_lock p) 0 (by simp only [F.ETH_STATUS_rx_clk_lock]; omega))))) s

/-! The power manager (R369). -/

theorem keepsPlan_enterState (d target : Nat) (s : State) : KeepsPlan s (enterState d target s) := by
  refine (keepsPlan_of_quiet (t := beginEntry d target s) (quiet_setDom ..)).trans ?_
  unfold enterState domainLeaves
  split
  · exact keepsPlan_linksDown _
  · exact keepsPlan_frontLeaves d _

theorem keepsPlan_review (d : Nat) (s : State) : KeepsPlan s (review d s) := by
  have hwake : KeepsPlan s (wakeDomain d s) := keepsPlan_of_quiet (quiet_wakeDomain d s)
  unfold review
  split
  next => exact .refl s
  next =>
    dsimp only
    split
    next => exact iteInduction (fun _ => keepsPlan_enterState ..) (fun _ => .refl s)
    next => exact iteInduction (fun _ => hwake) (fun _ =>
      iteInduction (fun _ => keepsPlan_of_quiet (quiet_setDom ..)) (fun _ => .refl s))
    next => exact iteInduction (fun _ => .refl s) (fun _ => hwake)
    next => exact .refl s

theorem keepsPlan_reviewAll (s : State) : KeepsPlan s (reviewAll s) := keepsPlan_each _ _ keepsPlan_review s

end Sys2Proof.Machine
end

section
/-!
SUPPORT. The writes of STP_LIVE_CTL (R45, R49), and how a re-stand starts and ends.
-/

namespace Sys2Proof.Machine

/-! Commands told by what they leave of the stand plan. -/

/-- What a command does to the stand plan is told by a state from which the rest of its effect keeps the plan. -/
theorem does_keepsPlan {c : Instr} {s u v : State} {f : State → State} {P : State → Prop} (hc : exec c s = run f s)
    (hf : f s.started = v) (hv : KeepsPlan u v) (h : ∀ t, KeepsPlan u t → P t) : Does c s P :=
  does_of_effect hc hf (h _ (hv.trans (keepsPlan_settle s v)))

/-- A bit of a word written with a number. -/
theorem wordField_ofNat_bit (n l : Nat) (h : n < 2 ^ 32) : wordField (BitVec.ofNat 32 n) l 1 = n / 2 ^ l % 2 := by
  rw [wordField, bits, BitVec.toNat_ofNat, Nat.mod_eq_of_lt h, Nat.shiftRight_eq_div_pow, Nat.pow_one]

theorem State.on_of_get {s : State} {f : Fld} {b : Bool} (h : s.get f = b2n b) : s.on f = b := by
  rw [State.on, h]
  cases b <;> rfl

/-! The end of a re-stand without a swap (R49). -/

/-- A re-stand has ended with a result other than OK, and the plan in force stands. -/
def RestandEnded (code : Nat) (s t : State) : Prop :=
  t.get F.STP_RESULT_code = code ∧ t.get F.STP_STAT_busy = 0 ∧ t.get F.STP_STAT_refused = 1 ∧ Counts F.STP_EVCNT_refuse_cnt s t ∧
    t.stand.phase = .idle ∧ t.stand.shadow = none ∧ t.stand.inForce = s.stand.inForce

/-- The state in which a result is shown and counted as a refusal, before the domains are evaluated again. -/
abbrev refusalShown (code : Nat) (s : State) : State :=
  planRefused ((s.setReg 0x20038 (BitVec.ofNat 32 code)).set F.STP_STAT_busy 0)

/-- The re-stand's part of the state once nothing of the new plan is kept. -/
abbrev restandDropped (s : State) : State :=
  { s with stand := { s.stand with phase := .idle, shadow := none, staged := [], planned := [], affected := [], planner := false } }

theorem endRestand_eq (code : Nat) (s : State) : endRestand code s = reviewAll (refusalShown code (restandDropped s)) := rfl

theorem refusalShown_code (s : State) {code : Nat} (h : code < 256) : (refusalShown code s).get F.STP_RESULT_code = code := by
  have hreg : (refusalShown code s).reg 0x20038 = BitVec.ofNat 32 code := by
    rw [refusalShown, planRefused, State.reg_event_ne _ _ _ (by decide) (by decide), State.reg_set_ne _ _ _ (by decide),
      State.reg_setReg_same]
  change wordField ((refusalShown code s).reg 0x20038) 0 8 = code
  rw [hreg, wordField, bits, BitVec.toNat_ofNat, Nat.shiftRight_zero]
  omega

theorem refusalShown_busy (s : State) (code : Nat) : (refusalShown code s).get F.STP_STAT_busy = 0 := by
  rw [refusalShown, planRefused, State.event, State.inc, State.add, State.get_set_off _ _ _ _ (by decide),
    State.get_set_apart _ _ _ _ (by decide) (by decide), State.get_set_same _ _ _ (by decide)]
  rfl

theorem refusalShown_count (s : State) (code : Nat) : Counts F.STP_EVCNT_refuse_cnt s (refusalShown code s) := by
  rw [Counts, refusalShown, planRefused, State.get_event_count _ (by decide) (by decide), State.get_set_off _ _ _ _ (by decide),
    State.get_congr _ (State.reg_setReg_ne s _ (by decide))]

/-- What a state shows of a re-stand that ended is shown by every state that keeps the plan of it. -/
theorem RestandEnded.keeps {code : Nat} {s u t : State} (h : RestandEnded code s u) (k : KeepsPlan u t) : RestandEnded code s t := by
  obtain ⟨hcode, hbusy, hrefused, hcount, hphase, hshadow, hforce⟩ := h
  rw [RestandEnded, k.1]
  exact ⟨(k.get (by decide)).trans hcode, (k.get (by decide)).trans hbusy, (k.get (by decide)).trans hrefused,
    k.counts (by decide) hcount, hphase, hshadow, hforce⟩

theorem endRestand_ended (s : State) {code : Nat} (h : code < 256) : RestandEnded code s (endRestand code s) := by
  have hshown : RestandEnded code s (refusalShown code (restandDropped s)) :=
    ⟨refusalShown_code _ h, refusalShown_busy _ code, State.get_event_flag _ (by decide) (by decide) (by decide),
      refusalShown_count (restandDropped s) code, rfl, rfl, rfl⟩
  rw [endRestand_eq]
  exact hshown.keeps (keepsPlan_reviewAll _)

/-- A command whose effect ends a re-stand. -/
theorem does_endRestand {c : Instr} {s u : State} {f : State → State} {code : Nat} (hc : exec c s = run f s)
    (hf : f s.started = endRestand code u) (hcode : code < 256) : Does c s (RestandEnded code u) :=
  does_of_effect hc hf ((endRestand_ended u hcode).keeps (keepsPlan_settle _ _))

/-! STP_LIVE_CTL (R45). -/

/-- The fields of STP_LIVE_CTL that a write leaves standing. -/
abbrev liveCtlSet (persist atAsn : Nat) (s : State) : State := (s.set F.STP_LIVE_CTL_at_asn atAsn).set F.STP_LIVE_CTL_persist persist

theorem liveCtlSet_other (persist atAsn : Nat) (s : State) {f : Fld} (h : f.off ≠ 0x2002C) :
    (liveCtlSet persist atAsn s).get f = s.get f := by
  rw [liveCtlSet, State.get_set_off _ _ _ _ h, State.get_set_off _ _ _ _ h]

theorem liveCtlSet_persist (p : Bool) (atAsn : Nat) (s : State) : (liveCtlSet (b2n p) atAsn s).get F.STP_LIVE_CTL_persist = b2n p := by
  rw [liveCtlSet, State.get_set_same _ _ _ (by decide)]
  exact Nat.mod_eq_of_lt (b2n_lt p)

theorem liveCtlSet_atAsn (persist : Nat) (q : Bool) (s : State) : (liveCtlSet persist (b2n q) s).get F.STP_LIVE_CTL_at_asn = b2n q := by
  rw [liveCtlSet, State.get_set_apart _ _ _ _ (by decide) (by decide), State.get_set_same _ _ _ (by decide)]
  exact Nat.mod_eq_of_lt (b2n_lt q)

/-- A write of STP_LIVE_CTL, PD_SEC ON and the initiator no pruned core, is carried out (R372, R387). -/
theorem gated_liveCtl {s : State} {i : Nat} (v : Word) (f : State → State) (hd : s.domOn 2 = true) (hc : coreFenced s i = false) :
    gated ⟨i, 0x2002C, true, v⟩ f s = f s :=
  gatedAs_of_pass none f hc (gate_of_single rfl hd)

/-- STP_LIVE_CTL written with go and without cancel. -/
theorem writeLiveCtl_go {n p q : Nat} (s : State) (hp : p < 2) (hq : q < 2) (hn : n = 1 + 4 * p + 8 * q) :
    writeLiveCtl (BitVec.ofNat 32 n) s = restandGo (liveCtlSet p q s) := by
  have hlt : n < 2 ^ 32 := by omega
  have hgo : n / 2 ^ 0 % 2 = 1 := by omega
  have hcancel : n / 2 ^ 1 % 2 = 0 := by omega
  have hpersist : n / 2 ^ 2 % 2 = p := by omega
  have hasn : n / 2 ^ 3 % 2 = q := by omega
  simp only [writeLiveCtl, wordField_ofNat_bit n _ hlt, hgo, hcancel, hpersist, hasn, if_true, Nat.zero_ne_one, if_false]

/-- STP_LIVE_CTL written with cancel and without go. -/
theorem writeLiveCtl_cancel {n p q : Nat} (s : State) (hp : p < 2) (hq : q < 2) (hn : n = 2 + 4 * p + 8 * q) :
    writeLiveCtl (BitVec.ofNat 32 n) s = restandCancel (liveCtlSet p q s) := by
  have hlt : n < 2 ^ 32 := by omega
  have hgo : n / 2 ^ 0 % 2 = 0 := by omega
  have hcancel : n / 2 ^ 1 % 2 = 1 := by omega
  have hpersist : n / 2 ^ 2 % 2 = p := by omega
  have hasn : n / 2 ^ 3 % 2 = q := by omega
  simp only [writeLiveCtl, wordField_ofNat_bit n _ hlt, hgo, hcancel, hpersist, hasn, if_true, Nat.zero_ne_one, if_false]

/-! LIVE_RESTAND_GO (R46). -/

section
variable {s : State} {i : Nat} (p q : Bool)

/-- The word that a go writes, with its persist and at_asn. -/
abbrev goWord : Word := BitVec.ofNat 32 (1 + 4 * b2n p + 8 * b2n q)

theorem liveRestandGo_effect (hd : s.domOn 2 = true) (hc : coreFenced s i = false) :
    gated ⟨i, 0x2002C, true, goWord p q⟩ (writeLiveCtl (goWord p q)) s.started = restandGo (liveCtlSet (b2n p) (b2n q) s.started) :=
  (gated_liveCtl (s := s.started) _ _ hd hc).trans (writeLiveCtl_go s.started (b2n_lt p) (b2n_lt q) rfl)

/-- A go while a re-stand runs is refused with BUSY, and nothing of it changes (R46). -/
theorem does_liveRestandGo_busy (hd : s.domOn 2 = true) (hbusy : s.get F.STP_STAT_busy = 1) (hc : coreFenced s i = false) :
    Does (.liveRestandGo i p q) s (fun t => t.get F.STP_RESULT_code = 13 ∧ t.get F.STP_STAT_refused = 1 ∧
      Counts F.STP_EVCNT_refuse_cnt s t ∧ t.stand = s.stand) := by
  have hon : (liveCtlSet (b2n p) (b2n q) s.started).on F.STP_STAT_busy = true :=
    State.on_of_get ((liveCtlSet_other _ _ s.started (by decide)).trans hbusy)
  have hrefuse : restandGo (liveCtlSet (b2n p) (b2n q) s.started)
      = planRefused ((liveCtlSet (b2n p) (b2n q) s.started).set F.STP_RESULT_code 13) := if_pos hon
  refine does_keepsPlan rfl ((liveRestandGo_effect p q hd hc).trans hrefuse) (.refl _) (fun t ht => ⟨?_, ?_, ?_, ht.1⟩)
  · rw [ht.get (by decide), planRefused, State.get_event_other _ (by decide) (by decide), State.get_set_same _ _ _ (by decide)]
    rfl
  · rw [ht.get (by decide)]
    exact State.get_event_flag _ (by decide) (by decide) (by decide)
  · rw [Counts, ht.get (by decide), planRefused, State.get_event_count _ (by decide) (by decide),
      State.get_set_off _ _ _ _ (by decide), liveCtlSet_other _ _ _ (by decide), State.get_started]

/-- A hardware read of DRAM that lies in it, PD_DDR ON and no error met, reads its bytes (R373, R421). -/
theorem dramFetch_of_domOn {s : State} (initiator : Nat) {a n : Nat} (hd : s.domOn 26 = true) (hok : s.dramOk a n = true) :
    dramFetch [] initiator a n s = (some (s.dramRead a n), s) := by
  simp [dramFetch, dramReach, hwAccess, gate_of_domOn hd, hok]

/-- Where the container named by STP_LOAD_ADDR starts. -/
abbrev loadAddr (s : State) : Nat := s.pair F.STP_LOAD_ADDR_LO_addr F.STP_LOAD_ADDR_HI_addr / 16 * 16

/-- A go while no re-stand runs captures the container (R46). -/
theorem restandGo_of_idle {s : State} {n : Nat} (hbusy : s.get F.STP_STAT_busy = 0) (hlen : s.get F.STP_LOAD_LEN_len = n)
    (hd : s.domOn 26 = true) (hok : s.dramOk (loadAddr s) n = true) :
    restandGo s = beginRestand false (s.dramRead (loadAddr s) n) s := by
  have hon : s.on F.STP_STAT_busy = false := State.on_of_get (b := false) hbusy
  simp only [restandGo, hon, hlen, Bool.false_eq_true, if_false, dramFetch_of_domOn 6 hd hok, Option.getD_some]

/-- The write of STP_LIVE_CTL that asks for it leaves where the container lies. -/
theorem restandGo_liveCtlSet {s : State} (persist atAsn : Nat) {n : Nat} (hbusy : s.get F.STP_STAT_busy = 0)
    (hlen : s.get F.STP_LOAD_LEN_len = n) (hd : s.domOn 26 = true) (hok : s.dramOk (loadAddr s) n = true) :
    restandGo (liveCtlSet persist atAsn s)
      = beginRestand false (s.dramRead (loadAddr s) n) (liveCtlSet persist atAsn s) := by
  have haddr : loadAddr (liveCtlSet persist atAsn s) = loadAddr s := by
    rw [loadAddr, loadAddr, State.pair, State.pair, liveCtlSet_other _ _ _ (by decide), liveCtlSet_other _ _ _ (by decide)]
  have hsize : (liveCtlSet persist atAsn s).dramOk (loadAddr (liveCtlSet persist atAsn s)) n = true := by
    rw [haddr, State.dramOk, State.dramSize, liveCtlSet_other _ _ _ (by decide)]
    exact hok
  rw [restandGo_of_idle ((liveCtlSet_other _ _ s (by decide)).trans hbusy) ((liveCtlSet_other _ _ s (by decide)).trans hlen) hd hsize,
    haddr]
  rfl

/-! What stands once a re-stand has begun. -/

/-- The registers of a re-stand that has just begun: no result yet, and busy. -/
abbrev restandStarted (s : State) : State := (s.setReg 0x20038 0#32).set F.STP_STAT_busy 1

theorem restandStarted_other (s : State) {f : Fld} (hresult : f.off ≠ 0x20038) (hstat : f.off ≠ 0x20010) :
    (restandStarted s).get f = s.get f := by
  rw [State.get_set_off _ _ _ _ hstat]
  exact State.get_congr f (s.reg_setReg_ne _ hresult)

theorem beginRestand_eq (l : List Byte) (s : State) : ∃ x, beginRestand false l s =
    setPhase .verify { restandStarted s with stand := x } := ⟨_, rfl⟩

theorem beginRestand_other (l : List Byte) (s : State) {f : Fld} (hresult : f.off ≠ 0x20038) (hstat : f.off ≠ 0x20010) :
    (beginRestand false l s).get f = s.get f := by
  obtain ⟨x, hx⟩ := beginRestand_eq l s
  rw [hx]
  exact (State.get_set_off { restandStarted s with stand := x } F.STP_RESULT_phase f _ hresult).trans
    (restandStarted_other s hresult hstat)

theorem beginRestand_busy (l : List Byte) (s : State) : (beginRestand false l s).get F.STP_STAT_busy = 1 := by
  obtain ⟨x, hx⟩ := beginRestand_eq l s
  rw [hx]
  exact (State.get_set_off { restandStarted s with stand := x } F.STP_RESULT_phase _ _ (by decide)).trans
    (State.get_set_same (s.setReg 0x20038 0#32) F.STP_STAT_busy 1 (by decide))

theorem setPhase_phase (p : RestandPhase) (s : State) : (setPhase p s).get F.STP_RESULT_phase = phaseCode p :=
  (State.get_set_same s F.STP_RESULT_phase _ (by decide)).trans (by cases p <;> rfl)

/-- A re-stand that STP_LIVE_CTL asks for keeps the persist and at_asn of its go. -/
theorem beginRestand_stand (l : List Byte) {s : State} {p q : Bool} (hp : s.get F.STP_LIVE_CTL_persist = b2n p)
    (hq : s.get F.STP_LIVE_CTL_at_asn = b2n q) :
    (beginRestand false l s).stand = { s.stand with
      phase := .verify, shadow := none, staged := l, planned := [], affected := [], planner := false, persist := p, atAsn := q } := by
  have hpersist : (restandStarted s).on F.STP_LIVE_CTL_persist = p :=
    State.on_of_get ((restandStarted_other s (by decide) (by decide)).trans hp)
  have hatAsn : (restandStarted s).on F.STP_LIVE_CTL_at_asn = q :=
    State.on_of_get ((restandStarted_other s (by decide) (by decide)).trans hq)
  simp only [beginRestand, setPhase, hpersist, hatAsn, Bool.not_false, Bool.and_true, State.set_stand, State.setReg_stand]

/-- A go while no re-stand runs, PD_DDR ON and the container within DRAM, captures it and starts its verification (R46). -/
theorem does_liveRestandGo {n : Nat} (hd : s.domOn 2 = true) (hbusy : s.get F.STP_STAT_busy = 0) (hlen : s.get F.STP_LOAD_LEN_len = n)
    (hd26 : s.domOn 26 = true) (hok : s.dramOk (loadAddr s) n = true) (hc : coreFenced s i = false) :
    Does (.liveRestandGo i p q) s (fun t => t.stand.phase = .verify ∧ t.get F.STP_STAT_busy = 1 ∧ t.get F.STP_RESULT_phase = 1 ∧
      t.get F.STP_LIVE_CTL_persist = b2n p ∧ t.get F.STP_LIVE_CTL_at_asn = b2n q ∧ t.stand.persist = p ∧ t.stand.atAsn = q ∧
      t.stand.planner = false ∧ t.stand.staged = s.dramRead (loadAddr s) n ∧ t.stand.inForce = s.stand.inForce) := by
  have hcaptured := restandGo_liveCtlSet (b2n p) (b2n q) (s := s.started) ((State.get_started s _).trans hbusy)
    ((State.get_started s _).trans hlen) hd26 hok
  refine does_keepsPlan rfl ((liveRestandGo_effect p q hd hc).trans hcaptured) (.refl _) (fun t ht => ?_)
  obtain ⟨hstand, -⟩ := id ht
  rw [beginRestand_stand _ (liveCtlSet_persist p _ s.started) (liveCtlSet_atAsn _ q s.started)] at hstand
  rw [hstand]
  iterate 4 rw [ht.get (by decide)]
  exact ⟨rfl, beginRestand_busy _ _, setPhase_phase _ _,
    (beginRestand_other _ _ (by decide) (by decide)).trans (liveCtlSet_persist p _ s.started),
    (beginRestand_other _ _ (by decide) (by decide)).trans (liveCtlSet_atAsn _ q s.started), rfl, rfl, rfl, rfl, rfl⟩

/-! LIVE_RESTAND_CANCEL (R49). -/

/-- Before its swap a cancel ends a re-stand, one that the planner began too. -/
theorem restandCancel_of_open {s : State} (h : s.stand.phase = .verify ∨ s.stand.phase = .prepare ∨ s.stand.phase = .armed ∨
    s.stand.phase = .drain) : restandCancel s = endRestand 15 s := by
  rcases h with h | h | h | h <;> simp only [restandCancel, h]

/-- The word that a cancel writes: at_asn and persist stay as they are. -/
abbrev cancelWord (s : State) : Word := BitVec.ofNat 32 (2 + 4 * s.get F.STP_LIVE_CTL_persist + 8 * s.get F.STP_LIVE_CTL_at_asn)

/-- The state once STP_LIVE_CTL has been written with what it held. -/
abbrev liveCtlKept (s : State) : State := liveCtlSet (s.get F.STP_LIVE_CTL_persist) (s.get F.STP_LIVE_CTL_at_asn) s

theorem exec_liveRestandCancel (s : State) (i : Nat) :
    exec (.liveRestandCancel i) s = run (fun s => gated ⟨i, 0x2002C, true, cancelWord s⟩ (writeLiveCtl (cancelWord s)) s) s := rfl

theorem liveRestandCancel_effect (hd : s.domOn 2 = true) (hc : coreFenced s i = false) :
    gated ⟨i, 0x2002C, true, cancelWord s⟩ (writeLiveCtl (cancelWord s)) s = restandCancel (liveCtlKept s) :=
  (gated_liveCtl _ _ hd hc).trans (writeLiveCtl_cancel s (s.get_lt F.STP_LIVE_CTL_persist) (s.get_lt F.STP_LIVE_CTL_at_asn) rfl)

/-- A cancel before the swap ends the re-stand with CANCELLED (R49). -/
theorem does_liveRestandCancel (hd : s.domOn 2 = true) (hphase : s.stand.phase = .verify ∨ s.stand.phase = .prepare ∨
    s.stand.phase = .armed ∨ s.stand.phase = .drain) (hc : coreFenced s i = false) :
    Does (.liveRestandCancel i) s (RestandEnded 15 s) := by
  have hwrite := liveRestandCancel_effect (s := s.started) hd hc
  have hcancel := restandCancel_of_open (s := liveCtlKept s.started) hphase
  have hcount : (liveCtlKept s.started).get F.STP_EVCNT_refuse_cnt = s.get F.STP_EVCNT_refuse_cnt :=
    liveCtlSet_other _ _ s.started (by decide)
  refine does_imp (does_endRestand (exec_liveRestandCancel s i) (hwrite.trans hcancel) (by decide)) (fun t ht => ?_)
  rw [RestandEnded, Counts, hcount] at ht
  exact ht

end

end Sys2Proof.Machine
end

section
/-!
SUPPORT. The verification of a captured container, and the choice of its lanes and of its drain timeslot (R36, R46).
-/

namespace Sys2Proof.Machine

/-! The choice of lanes uses open values up and changes nothing else. -/

theorem quiet_takeOpen {α : Type} [DecidableEq α] (n : Nat) (l : List α) (s : State) : Quiet s (takeOpen n l s).2.2 := by
  induction n generalizing l s with
  | zero => exact .refl s
  | succ n ih =>
    rw [takeOpen]
    split
    · exact .refl s
    · exact (quiet_used s).trans (ih _ _)

theorem quiet_leavers (p : Plan) (b : Nat) (qs : List Nat) (s : State) : Quiet s (leavers p b qs s).2 := by
  induction qs generalizing s with
  | nil => exact .refl s
  | cons q rest ih => exact (quiet_takeOpen _ _ s).trans (ih _)

theorem quiet_bankMoves (p : Plan) (b : Nat) (s : State) : Quiet s (bankMoves p b s).2 :=
  (quiet_leavers p b _ s).trans ((quiet_takeOpen _ _ _).trans (quiet_takeOpen _ _ _))

theorem quiet_laneMoves (p : Plan) (bs : List Nat) (s : State) : Quiet s (laneMoves p bs s).2 := by
  induction bs generalizing s with
  | nil => exact .refl s
  | cons b rest ih => exact (quiet_bankMoves p b s).trans (ih _)

/-! RESTAND_VERIFY_DONE (R36, R46). -/

/-- The result of the checks of the container that a re-stand has captured. -/
abbrev captureResult (s : State) : Nat :=
  planResult s (if s.stand.planner then .planner else .live) s.stand.staged
    (if s.stand.planner then s.stand.staged.length else s.get F.STP_LOAD_LEN_len)

/-- The plan of a container that passed is prepared: its lanes are chosen and its windows known. -/
def prepareRestand (s : State) : State :=
  let p := parsePlan s.stand.staged
  let r := laneMoves p (upTo 4) s
  setPhase .prepare { r.2 with stand := { r.2.stand with shadow := some p, planned := r.1, affected := affectedWindows r.2.stand.inForce p } }

theorem exec_restandVerifyDone (s : State) : exec .restandVerifyDone s = run (fun s =>
    if s.stand.phase ≠ .verify then s
    else if captureResult s ≠ 0 then endRestand (captureResult s) s else reviewAll (prepareRestand s)) s := rfl

theorem prepareRestand_stand (s : State) : ∃ planned affected, (prepareRestand s).stand =
    { s.stand with phase := .prepare, shadow := some (parsePlan s.stand.staged), planned := planned, affected := affected } := by
  have hstand : (laneMoves (parsePlan s.stand.staged) (upTo 4) s).2.stand = s.stand := (quiet_laneMoves _ _ s).2 .stand
  refine ⟨(laneMoves (parsePlan s.stand.staged) (upTo 4) s).1, affectedWindows s.stand.inForce (parsePlan s.stand.staged), ?_⟩
  rw [prepareRestand, setPhase]
  simp only [hstand]

section
variable {s : State}

/-- A container that fails a check ends the re-stand with the check's code (R36). -/
theorem does_restandVerifyDone_refused (hphase : s.stand.phase = .verify) (hcode : captureResult s ≠ 0) (hlt : captureResult s < 256) :
    Does .restandVerifyDone s (RestandEnded (captureResult s) s) := by
  refine does_endRestand (u := s.started) (exec_restandVerifyDone s) ?_ hlt
  rw [if_neg (not_not_intro hphase)]
  exact if_pos hcode

/-- A container that passes them is prepared (R46). -/
theorem does_restandVerifyDone_good (hphase : s.stand.phase = .verify) (hcode : captureResult s = 0) :
    Does .restandVerifyDone s (fun t => t.stand.phase = .prepare ∧ t.stand.shadow = some (parsePlan s.stand.staged) ∧
      t.stand.inForce = s.stand.inForce) := by
  refine does_keepsPlan (exec_restandVerifyDone s) (v := reviewAll (prepareRestand s.started)) ?_ (keepsPlan_reviewAll _) (fun t ht => ?_)
  · rw [if_neg (not_not_intro hphase)]
    exact if_neg (not_not_intro hcode)
  · obtain ⟨planned, affected, hstand⟩ := prepareRestand_stand s.started
    rw [ht.1, hstand]
    exact ⟨rfl, rfl, rfl⟩

/-! RESTAND_ARM (R46). -/

/-- The drain timeslot of a re-stand is chosen. -/
abbrev armed (drainAsn : Nat) (s : State) : State := setPhase .armed { s with stand := { s.stand with drainAsn := drainAsn } }

/-- The timeslot that STP_LIVE_ASN asks for. -/
abbrev liveAsn (s : State) : Nat := s.pair F.STP_LIVE_ASN_LO_asn F.STP_LIVE_ASN_HI_asn

/-- The domains that a prepared re-stand needs are ON. -/
abbrev CanArm (s : State) : Prop := s.stand.phase = .prepare ∧ (restandDomains s).all s.domOn = true

theorem exec_restandArm (s : State) : exec .restandArm s = run (fun s =>
    if CanArm s then
      if s.stand.atAsn then (if liveAsn s ≤ s.asn + 1 then endRestand 14 s else armed (liveAsn s - 1) s) else armed (s.asn + 1) s
    else s) s := rfl

theorem frame_armed (drainAsn : Nat) (s : State) : Frame [F.STP_RESULT_phase.off] [.stand] s (armed drainAsn s) := by
  refine ⟨fun off ho _ => ?_, fun p hp => ?_⟩
  · exact State.reg_set_ne { s with stand := { s.stand with drainAsn := drainAsn } } F.STP_RESULT_phase _ (by simpa using ho)
  · cases p with
    | stand => exact absurd List.mem_cons_self hp
    | dram => exact fun _ => rfl
    | _ => rfl

/-- A command whose effect arms the re-stand for a drain timeslot. -/
theorem does_armed {c : Instr} {f : State → State} {drainAsn : Nat} (hc : exec c s = run f s) (hf : f s.started = armed drainAsn s.started) :
    Does c s (fun t => t.stand.phase = .armed ∧ t.stand.drainAsn = drainAsn ∧ t.get F.STP_RESULT_phase = 3 ∧
      Frame [F.STP_RESULT_phase.off] [.stand] s t) := by
  have hstand := (keepsPlan_settle s (armed drainAsn s.started)).1
  refine does_of_effect hc hf ⟨congrArg StandState.phase hstand, congrArg StandState.drainAsn hstand, ?_,
    settle_frame _ _ (frame_armed drainAsn s.started)⟩
  rw [settle_get _ _ (by decide)]
  exact setPhase_phase _ _

variable (h : CanArm s)
include h

/-- Without at_asn the next timeslot drains. -/
theorem does_restandArm_next (hasn : s.stand.atAsn = false) :
    Does .restandArm s (fun t => t.stand.phase = .armed ∧ t.stand.drainAsn = s.asn + 1 ∧ t.get F.STP_RESULT_phase = 3 ∧
      Frame [F.STP_RESULT_phase.off] [.stand] s t) := by
  have hs : CanArm s.started := h
  have ha : s.started.stand.atAsn = false := hasn
  refine does_armed (exec_restandArm s) ?_
  rw [if_pos hs, ha]
  rfl

/-- With at_asn the timeslot before the one asked for drains. -/
theorem does_restandArm_at (hasn : s.stand.atAsn = true) (hlate : s.asn + 1 < liveAsn s) :
    Does .restandArm s (fun t => t.stand.phase = .armed ∧ t.stand.drainAsn = liveAsn s - 1 ∧ t.get F.STP_RESULT_phase = 3 ∧
      Frame [F.STP_RESULT_phase.off] [.stand] s t) := by
  have hs : CanArm s.started := h
  have ha : s.started.stand.atAsn = true := hasn
  have hn : ¬ liveAsn s.started ≤ s.started.asn + 1 := Nat.not_le.mpr hlate
  refine does_armed (exec_restandArm s) ?_
  rw [if_pos hs, if_pos ha, if_neg hn]
  rfl

/-- A timeslot asked for that has passed ends the re-stand. -/
theorem does_restandArm_passed (hasn : s.stand.atAsn = true) (hpassed : liveAsn s ≤ s.asn + 1) :
    Does .restandArm s (RestandEnded 14 s) := by
  have hs : CanArm s.started := h
  have ha : s.started.stand.atAsn = true := hasn
  have hn : liveAsn s.started ≤ s.started.asn + 1 := hpassed
  refine does_endRestand (u := s.started) (exec_restandArm s) ?_ (by decide)
  rw [if_pos hs, if_pos ha, if_pos hn]

end

end Sys2Proof.Machine
end

section
/-!
SUPPORT. A lane that joins its pool after the swap, and the end of a plan's way into its slot (R46).
-/

namespace Sys2Proof.Machine

section
variable {s : State}

/-! LATE_LANE_JOIN (R46). -/

/-- A lane waits no longer for its frame to end. -/
abbrev lateDone (n : Nat) (s : State) : State :=
  { s with stand := { s.stand with lateLanes := s.stand.lateLanes.filter (fun y => decide (y.1 ≠ n)) } }

/-- An idle lane takes the place of a target. -/
abbrev laneJoined (n t : Nat) (s : State) : State := (s.setReg (0x1A2000 + 4 * n) (laneWord t)).set (F.LNE_STATUS_state n) 0

theorem joinLane_of_role {n : Nat} (t : Nat) (hpruned : s.get (F.SRH_LANE_MAP_role n) ≠ 2) (htest : s.get (F.SRH_LANE_MAP_role n) ≠ 3) :
    joinLane n t s = laneJoined n t s := by
  simp only [joinLane, hpruned, htest, if_false]

theorem exec_lateLaneJoin (s : State) (n : Nat) : exec (.lateLaneJoin n) s = run (fun s =>
    match s.stand.lateLanes.find? (fun x => decide (x.1 = n)) with
    | some x => if laneBusy s n then s else joinLane n x.2 (lateDone n s)
    | none => s) s := rfl

theorem laneJoined_reg (s : State) {n : Nat} (t : Nat) (hn : n < 544) : (laneJoined n t s).reg (0x1A2000 + 4 * n) = laneWord t := by
  rw [laneJoined, State.reg_set_ne _ _ _ (by simp only [F.LNE_STATUS_state]; omega), State.reg_setReg_same]

theorem frame_laneJoined (n t : Nat) (s : State) :
    Frame [0x1A2000 + 4 * n, (F.LNE_STATUS_state n).off] [.stand] s (laneJoined n t (lateDone n s)) := by
  refine frame_trans (t := lateDone n s) ⟨fun _ _ _ => rfl, fun p hp => ?_⟩ (frame_trans
    (frame_mono (frame_of_setReg _ _) (List.cons_subset_cons _ (List.nil_subset _)) (List.nil_subset _))
    (frame_mono (frame_of_set _ (F.LNE_STATUS_state n) 0) (List.subset_cons_self _ _) (List.nil_subset _)))
  cases p with
  | stand => exact absurd List.mem_cons_self hp
  | dram => exact fun _ => rfl
  | _ => rfl

theorem find_lateDone (l : List (Nat × Nat)) (n : Nat) :
    (l.filter (fun y => decide (y.1 ≠ n))).find? (fun x => decide (x.1 = n)) = none := by
  refine List.find?_eq_none.mpr (fun x hx h => ?_)
  exact of_decide_eq_true (List.mem_filter.mp hx).2 (of_decide_eq_true h)

/-- A lane that is not pruned and not in self-test joins the pool it waited for once its frame has ended. -/
theorem does_lateLaneJoin {n t0 : Nat} (hn : n < 544) (hlate : s.stand.lateLanes.find? (fun x => decide (x.1 = n)) = some (n, t0))
    (hidle : tabFind s.lanes.frames n = none) (hpruned : s.get (F.SRH_LANE_MAP_role n) ≠ 2) (htest : s.get (F.SRH_LANE_MAP_role n) ≠ 3) :
    Does (.lateLaneJoin n) s (fun t => t.reg (0x1A2000 + 4 * n) = laneWord t0 ∧ t.get (F.LNE_STATUS_state n) = 0 ∧
      t.stand.lateLanes.find? (fun x => decide (x.1 = n)) = none ∧ Frame [0x1A2000 + 4 * n, (F.LNE_STATUS_state n).off] [.stand] s t) := by
  have hfind : s.started.stand.lateLanes.find? (fun x => decide (x.1 = n)) = some (n, t0) := hlate
  have hbusy : laneBusy s.started n = false := (congrArg Option.isSome hidle :)
  have hjoin : joinLane n t0 (lateDone n s.started) = laneJoined n t0 (lateDone n s.started) := joinLane_of_role t0 hpruned htest
  refine does_of_effect (u := laneJoined n t0 (lateDone n s.started)) (exec_lateLaneJoin s n) ?_ ⟨?_, ?_, ?_,
    settle_frame _ _ (frame_laneJoined n t0 s.started)⟩
  · simp only [hfind, hbusy, Bool.false_eq_true, if_false, hjoin]
  · rw [settle_reg _ _ (not_mem_followers (by omega) (by omega))]
    exact laneJoined_reg _ t0 hn
  · rw [settle_get _ _ (not_mem_followers (by simp only [F.LNE_STATUS_state]; omega) (by simp only [F.LNE_STATUS_state]; omega))]
    exact State.get_set_same _ (F.LNE_STATUS_state n) 0 (show 0 + 3 ≤ 32 by decide)
  · rw [(keepsPlan_settle _ _).1]
    exact find_lateDone _ n

/-! RESTAND_PERSIST (R46). -/

/-- The container of the plan in force is written to a STAND slot of the flash, where the flash has one. -/
def planStored (slot : Nat) (s : State) : State :=
  match imageSlot s 2 slot, s.stand.inForce with
  | some (a, n), some p => flashWrite a p.bytes (flashErase a n s)
  | _, _ => s

/-- A STAND slot becomes active and next to boot, and no new plan is ready any more. -/
abbrev planMarked (slot : Nat) (s : State) : State :=
  (setBootRec 2 ⟨slot, slot, true, 0⟩ s).set F.GRF_READY_types (clrBit (s.get F.GRF_READY_types) 1)

/-- The re-stand is over, its result OK. -/
abbrev restandDone (s : State) : State := setPhase .done ((s.set F.STP_RESULT_code 0).set F.STP_STAT_busy 0)

/-- The re-stand is over, its plan in force and in its slot. -/
abbrev restandPersisted (s : State) : State :=
  { (restandDone s).set F.STP_STAT_persisted 1 with stand := { (restandDone s).stand with staged := [] } }

/-- The slot that is not active. -/
abbrev inactiveSlot (s : State) : Nat := 1 - (bootRec s 2).active

/-- The state in which the container is stored, its slot marked, and STP_SEQ_FLOOR raised to the plan's sequence (R38). -/
def persistEffect (slot : Nat) (s : State) : State :=
  let s := planMarked slot (planStored slot s)
  raiseSeqFloor (s.get F.STP_PLAN_SEQ_plan_seq) s

theorem exec_restandPersist (s : State) : exec .restandPersist s = run (fun s =>
    if s.stand.phase ≠ .persisting then s else restandPersisted (persistEffect (inactiveSlot s) s)) s := rfl

theorem flashErase_board (a n : Nat) (s : State) : ∃ b, flashErase a n s = { s with board := b } := by
  unfold flashErase
  dsimp only
  split <;> exact ⟨_, rfl⟩

theorem planStored_board (slot : Nat) (s : State) : ∃ b, planStored slot s = { s with board := b } := by
  unfold planStored
  split
  next a n _ _ _ =>
    obtain ⟨b, hb⟩ := flashErase_board a n s
    rw [hb]
    exact ⟨_, rfl⟩
  next => exact ⟨_, rfl⟩

/-- The registers of the boot record of the STAND slots, and GRF_READY. -/
abbrev SlotReg (off : Nat) : Prop := off = 0x440088 ∨ off = 0x20064 ∨ off = 0x44002C

theorem setBootRec_get (b : BootRec) (s : State) {f : Fld} (h : ¬ SlotReg f.off) : (setBootRec 2 b s).get f = s.get f := by
  obtain ⟨hgrf, hstp, -⟩ := not_or.mp h |>.imp_right not_or.mp
  simp only [setBootRec, showBootRec, if_true]
  rw [State.get_set_off _ _ _ _ hstp, State.get_set_off _ _ _ _ hgrf, State.get_set_off _ _ _ _ hgrf, State.get_set_off _ _ _ _ hgrf,
    State.get_set_off _ _ _ _ hgrf]
  rfl

theorem planMarked_get (slot : Nat) (s : State) {f : Fld} (h : ¬ SlotReg f.off) : (planMarked slot s).get f = s.get f := by
  obtain ⟨-, -, hready⟩ := not_or.mp h |>.imp_right not_or.mp
  rw [State.get_set_off _ _ _ _ hready, setBootRec_get _ s h]

theorem planStored_get (slot : Nat) (s : State) (f : Fld) : (planStored slot s).get f = s.get f := by
  obtain ⟨b, hb⟩ := planStored_board slot s
  rw [hb]
  exact State.get_congr f (State.reg_congr rfl _)

/-- The floor takes a higher sequence (R38). -/
theorem raiseSeqFloor_floor (s : State) {n : Nat} (hn : n < 2 ^ F.STP_SEQ_FLOOR_floor.width) :
    (raiseSeqFloor n s).get F.STP_SEQ_FLOOR_floor = max n (s.get F.STP_SEQ_FLOOR_floor) := by
  have hset : (raiseSeqFloor n s).get F.STP_SEQ_FLOOR_floor
      = (s.set F.STP_SEQ_FLOOR_floor (max n (s.get F.STP_SEQ_FLOOR_floor))).get F.STP_SEQ_FLOOR_floor :=
    State.get_congr _ (State.reg_congr rfl _)
  rw [hset, State.get_set_same _ _ _ (by decide), Nat.mod_eq_of_lt (Nat.max_lt.mpr ⟨hn, s.get_lt _⟩)]

theorem persistEffect_floor (slot : Nat) (s : State) :
    (persistEffect slot s).get F.STP_SEQ_FLOOR_floor = max (s.get F.STP_PLAN_SEQ_plan_seq) (s.get F.STP_SEQ_FLOOR_floor) := by
  rw [persistEffect, raiseSeqFloor_floor _ (State.get_lt _ F.STP_PLAN_SEQ_plan_seq), planMarked_get _ _ (by decide),
    planMarked_get _ _ (by decide), planStored_get, planStored_get]

theorem persistEffect_stand (slot : Nat) (s : State) : (persistEffect slot s).stand = s.stand := by
  obtain ⟨b, hb⟩ := planStored_board slot s
  rw [persistEffect, hb]
  rfl

theorem persistEffect_bootRec (slot : Nat) (s : State) : bootRec (persistEffect slot s) 2 = ⟨slot, slot, true, 0⟩ :=
  tabGet_put_same _ _ _ _

/-! What stands once a re-stand is over. -/

theorem restandPersisted_persisted (s : State) : (restandPersisted s).get F.STP_STAT_persisted = 1 :=
  State.get_set_same (restandDone s) F.STP_STAT_persisted 1 (by decide)

theorem restandPersisted_busy (s : State) : (restandPersisted s).get F.STP_STAT_busy = 0 := by
  have hdone : (restandPersisted s).get F.STP_STAT_busy = ((s.set F.STP_RESULT_code 0).set F.STP_STAT_busy 0).get F.STP_STAT_busy :=
    (State.get_set_apart (restandDone s) F.STP_STAT_persisted _ 1 (by decide) (by decide)).trans
      (State.get_set_off ((s.set F.STP_RESULT_code 0).set F.STP_STAT_busy 0) F.STP_RESULT_phase _ _ (by decide))
  rw [hdone, State.get_set_same _ _ _ (by decide)]
  rfl

theorem restandPersisted_code (s : State) : (restandPersisted s).get F.STP_RESULT_code = 0 := by
  have hdone : (restandPersisted s).get F.STP_RESULT_code = ((s.set F.STP_RESULT_code 0).set F.STP_STAT_busy 0).get F.STP_RESULT_code :=
    (State.get_set_off (restandDone s) F.STP_STAT_persisted _ 1 (by decide)).trans
      (State.get_set_apart ((s.set F.STP_RESULT_code 0).set F.STP_STAT_busy 0) F.STP_RESULT_phase _ _ (by decide) (by decide))
  rw [hdone, State.get_set_off _ _ _ _ (by decide), State.get_set_same _ _ _ (by decide)]
  rfl

theorem restandPersisted_other (s : State) {f : Fld} (hresult : f.off ≠ 0x20038) (hstat : f.off ≠ 0x20010) :
    (restandPersisted s).get f = s.get f := by
  have hdone : (restandPersisted s).get f = ((s.set F.STP_RESULT_code 0).set F.STP_STAT_busy 0).get f :=
    (State.get_set_off (restandDone s) F.STP_STAT_persisted _ 1 hstat).trans
      (State.get_set_off ((s.set F.STP_RESULT_code 0).set F.STP_STAT_busy 0) F.STP_RESULT_phase _ _ hresult)
  rw [hdone, State.get_set_off _ _ _ _ hstat, State.get_set_off _ _ _ _ hresult]

/-- A plan that is persisted has its slot marked and the floor raised, and the re-stand is over. -/
theorem does_restandPersist (hphase : s.stand.phase = .persisting) :
    Does .restandPersist s (fun t => t.stand.phase = .done ∧ t.get F.STP_STAT_persisted = 1 ∧ t.get F.STP_STAT_busy = 0 ∧
      t.get F.STP_RESULT_code = 0 ∧ bootRec t 2 = ⟨inactiveSlot s, inactiveSlot s, true, 0⟩ ∧
      t.get F.STP_SEQ_FLOOR_floor = max (s.get F.STP_PLAN_SEQ_plan_seq) (s.get F.STP_SEQ_FLOOR_floor) ∧
      t.stand.inForce = s.stand.inForce) := by
  have hrec (u : State) : bootRec (settle s (restandPersisted u)) 2 = bootRec u 2 := by
    have hnv : (settle s (restandPersisted u)).nv = u.nv := settle_same .stored s (restandPersisted u)
    rw [bootRec, hnv, bootRec]
  have hforce : (persistEffect (inactiveSlot s) s.started).stand.inForce = s.stand.inForce :=
    congrArg StandState.inForce (persistEffect_stand _ s.started)
  refine does_of_effect (exec_restandPersist s) (if_neg (not_not_intro hphase)) ?_
  rw [hrec, persistEffect_bootRec, (keepsPlan_settle _ _).1]
  iterate 4 rw [settle_get _ _ (by decide)]
  exact ⟨rfl, restandPersisted_persisted _, restandPersisted_busy _, restandPersisted_code _, rfl,
    (restandPersisted_other _ (by decide) (by decide)).trans (persistEffect_floor _ s.started), hforce⟩

end

end Sys2Proof.Machine
end

section
/-!
The statement about live re-stands, settled.
-/

namespace Sys2Proof.StandPlan

open Machine

/-- Settles O53, one command of a live re-stand after another. -/
theorem liveRestands : Obligations.LiveRestands := by
  unfold Obligations.LiveRestands
  intro s
  refine ⟨fun i n p q hd hbusy hlen hd26 hok hc => does_liveRestandGo p q hd hbusy hlen hd26 hok hc,
    fun i p q hd hbusy hc => does_liveRestandGo_busy p q hd hbusy hc, fun i hd hphase hc => ?cancel,
    fun k l hphase hstaged hresult hlt => ?verify, fun hphase hon hasn => does_restandArm_next (s := s) ⟨hphase, hon⟩ hasn,
    fun a hphase hon hasn ha => ?armAt,
    fun n t0 hn hlate hidle hpruned htest => does_lateLaneJoin hn hlate hidle hpruned htest, fun hphase => does_restandPersist hphase⟩
  case cancel =>
    refine does_imp (does_liveRestandCancel hd hphase hc) (fun t ht => ?_)
    obtain ⟨hcode, hbusy, -, hcount, hidle, hshadow, hforce⟩ := ht
    exact ⟨hcode, hbusy, hidle, hforce, hshadow, hcount⟩
  case verify =>
    subst hstaged
    by_cases hk : k = 0
    · refine does_imp (does_restandVerifyDone_good hphase (hresult.trans hk)) (fun t ht => ?_)
      obtain ⟨hprepare, hshadow, hforce⟩ := ht
      exact ⟨fun h => absurd hk h, fun _ => ⟨hprepare, hshadow⟩, hforce⟩
    · subst hresult
      refine does_imp (does_restandVerifyDone_refused hphase hk hlt) (fun t ht => ?_)
      obtain ⟨hcode, hbusy, hrefused, -, hidle, -, hforce⟩ := ht
      exact ⟨fun _ => ⟨hidle, hcode, hbusy, hrefused⟩, fun h => absurd h hk, hforce⟩
  case armAt =>
    subst ha
    by_cases hpassed : liveAsn s ≤ s.asn + 1
    · refine does_imp (does_restandArm_passed ⟨hphase, hon⟩ hasn hpassed) (fun t ht => ?_)
      obtain ⟨hcode, -, hrefused, -, hidle, -⟩ := ht
      exact ⟨fun _ => ⟨hidle, hcode, hrefused⟩, fun h => absurd hpassed (Nat.not_le.mpr h)⟩
    · refine does_imp (does_restandArm_at ⟨hphase, hon⟩ hasn (Nat.not_le.mp hpassed)) (fun t ht => ?_)
      obtain ⟨harmed, hdrain, -⟩ := ht
      exact ⟨fun h => absurd h hpassed, fun _ => ⟨harmed, hdrain⟩⟩

end Sys2Proof.StandPlan
end

section
/-!
SUPPORT. A change folded over a list: what every step of it keeps, and what the step of one element brings about.
-/

namespace Sys2Proof.Machine

section
variable {α σ : Type} {f : α → σ → σ} {I P : σ → Prop}

theorem each_keeps (hf : ∀ x s, P s → P (f x s)) (l : List α) {s : σ} (h : P s) : P (each l f s) := by
  induction l generalizing s with
  | nil => exact h
  | cons x rest ih => exact ih (hf x s h)

/-- What the step of one element brings about, and every step keeps, holds at the end. -/
theorem each_reaches {x : α} {l : List α} (hx : x ∈ l) (hI : ∀ y s, I s → I (f y s)) (hP : ∀ y s, P s → P (f y s))
    (hset : ∀ s, I s → P (f x s)) {s : σ} (h : I s) : P (each l f s) := by
  obtain ⟨before, after, rfl⟩ := List.append_of_mem hx
  rw [each_append]
  exact each_keeps hP after (hset _ (each_keeps hI before h))

end

end Sys2Proof.Machine
end

section
/-!
SUPPORT. What bringing windows and chains up to date leaves as it was (R50 to R68, R80).
-/

namespace Sys2Proof.Machine

/-- Work on windows and their streams: the registers below the windows' own (R23), the state of the chains, whether the converters
are stopped, and every part but the receive front and the search are as before. -/
def WindowWork (s t : State) : Prop :=
  (∀ off < 0x140100, t.reg off = s.reg off) ∧ t.canopy.chains = s.canopy.chains ∧ t.canopy.stopped = s.canopy.stopped ∧
    PartsBut [.canopy, .search] s t

section
variable {s t u : State}

theorem WindowWork.trans (h : WindowWork s t) (k : WindowWork t u) : WindowWork s u := by
  obtain ⟨hregs, hchains, hstopped, hparts⟩ := h
  obtain ⟨kregs, kchains, kstopped, kparts⟩ := k
  exact ⟨fun off ho => (kregs off ho).trans (hregs off ho), kchains.trans hchains, kstopped.trans hstopped,
    fun p hp => Part.same_trans (hparts p hp) (kparts p hp)⟩

theorem WindowWork.get (h : WindowWork s t) {f : Fld} (hf : f.off < 0x140100) : t.get f = s.get f := State.get_congr f (h.1 _ hf)

theorem WindowWork.stopped (h : WindowWork s t) : t.canopy.stopped = s.canopy.stopped := h.2.2.1

theorem windowWork_update (s : State) (c : CanopyState) (x : SearchState) (hchains : c.chains = s.canopy.chains)
    (hstopped : c.stopped = s.canopy.stopped) : WindowWork s { s with canopy := c, search := x } :=
  ⟨fun _ _ => rfl, hchains, hstopped, fun p hp => by cases p <;> simp_all [Part.same]⟩

theorem WindowWork.refl (s : State) : WindowWork s s := windowWork_update s s.canopy s.search rfl rfl

theorem windowWork_set (s : State) {f : Fld} (v : Nat) (hf : 0x140100 ≤ f.off) : WindowWork s (s.set f v) :=
  ⟨fun _ ho => s.reg_set_ne f v (by omega), rfl, rfl, fun p _ => (frame_of_set s f v).2 p List.not_mem_nil⟩

theorem windowWork_event (s : State) {f c : Fld} (hf : 0x140100 ≤ f.off) (hc : 0x140100 ≤ c.off) : WindowWork s (s.event f c) :=
  (windowWork_set s 1 hf).trans (windowWork_set _ _ hc)

theorem windowWork_each {α : Type} (l : List α) (f : α → State → State) (hf : ∀ x s, WindowWork s (f x s)) (s : State) :
    WindowWork s (each l f s) :=
  each_keeps (P := WindowWork s) (fun x t h => h.trans (hf x t)) l (.refl s)

end

/-! Windows and their streams. -/

theorem windowWork_streamStates (l : List Nat) (v : Nat → State → Nat) (s : State) :
    WindowWork s (each l (fun i s => s.set (F.SRH_STREAM_STATUS_state i) (v i s)) s) :=
  windowWork_each l _ (fun i s => windowWork_set s (v i s) (by simp only [F.SRH_STREAM_STATUS_state]; omega)) s

theorem windowWork_unfill (w : Nat) (s : State) : WindowWork s (unfill w s) := by
  have hfilled : WindowWork s (s.set (F.CHZ_WIN_CFG_filled w) 0) := windowWork_set s 0 (by simp only [F.CHZ_WIN_CFG_filled]; omega)
  refine .trans ?_ (windowWork_streamStates _ (fun _ _ => 0) _)
  refine .trans ?_ (windowWork_streamStates _ (fun i s => searcherState s i) _)
  exact hfilled.trans (windowWork_update _ _ _ rfl rfl)

theorem windowWork_beginFill (w : Nat) (s : State) : WindowWork s (beginFill w s) := windowWork_update s _ _ rfl rfl

theorem windowWork_restrictStream (mask i : Nat) (s : State) : WindowWork s (restrictStream mask i s) := by
  unfold restrictStream
  dsimp only
  split <;> exact windowWork_update s _ _ rfl rfl

theorem windowWork_refreshWindow (w : Nat) (s : State) : WindowWork s (refreshWindow w s) := by
  unfold refreshWindow
  dsimp only
  split
  next => exact windowWork_each _ _ (fun i s => windowWork_update s _ _ rfl rfl) s
  next =>
    have hset : WindowWork s (s.set (F.SPC_WIN_INCL_incl w) (includedMask s w)) :=
      windowWork_set s _ (by simp only [F.SPC_WIN_INCL_incl]; omega)
    have hshown := hset.trans (windowWork_event _ (f := F.SPC_STAT_incl_change) (c := F.SPC_EVCNT_incl_change_cnt)
      (by decide) (by decide))
    have hstreams (l : List Nat) := hshown.trans (windowWork_each l _ (windowWork_restrictStream (includedMask s w)) _)
    split
    next => exact (hstreams _).trans (windowWork_unfill w _)
    next => exact iteInduction (fun _ => (hstreams _).trans (windowWork_beginFill w _)) (fun _ => hstreams _)

theorem windowWork_noteUnfed (s : State) : WindowWork s (noteUnfed s) := windowWork_update s _ _ rfl rfl

/-! The marks of the excluded chains. -/

/-- A field below the windows' registers other than the mark of an excluded chain, bit 6 of CNP_CH_STATUS. -/
abbrev ChainField (f : Fld) : Prop :=
  f.off < 0x140100 ∧ f.lsb + f.width ≤ 32 ∧ (0x101000 ≤ f.off → f.off % 0x100 = 4 → f.lsb + f.width ≤ 6 ∨ 7 ≤ f.lsb)

theorem set_excluded_get (s : State) (n v : Nat) {f : Fld} (hf : ChainField f) :
    (s.set (F.CNP_CH_STATUS_excluded n) v).get f = s.get f := by
  obtain ⟨-, hword, hapart⟩ := hf
  by_cases hoff : f.off = 0x101004 + 0x100 * n
  · exact s.get_set_apart _ _ _ hword (hapart (by omega) (by omega))
  · exact s.get_set_off _ _ _ hoff

theorem refreshChain_chains (n : Nat) (s : State) : (refreshChain n s).canopy.chains = s.canopy.chains := by
  unfold refreshChain
  dsimp only
  split <;> rfl

theorem refreshChain_get (n : Nat) (s : State) {f : Fld} (hf : ChainField f) : (refreshChain n s).get f = s.get f := by
  unfold refreshChain
  dsimp only
  split
  · rfl
  · exact set_excluded_get s n _ hf

/-- A chain brought up to date is marked as it is excluded or not (R50, R56). -/
theorem refreshChain_excluded (n : Nat) (s : State) : (refreshChain n s).get (F.CNP_CH_STATUS_excluded n) = b2n (excluded s n) := by
  unfold refreshChain
  dsimp only
  split
  next h => exact h
  next => exact (s.get_set_same (F.CNP_CH_STATUS_excluded n) _ (show 6 + 1 ≤ 32 by decide)).trans (Nat.mod_eq_of_lt (b2n_lt _))

/-- Bringing another chain up to date leaves a chain's mark. -/
theorem refreshChain_excluded_other {m n : Nat} (h : m ≠ n) (s : State) :
    (refreshChain m s).get (F.CNP_CH_STATUS_excluded n) = s.get (F.CNP_CH_STATUS_excluded n) := by
  unfold refreshChain
  dsimp only
  split
  · rfl
  · exact s.get_set_off _ _ _ (by simp only [F.CNP_CH_STATUS_excluded]; omega)

/-! The whole front. -/

theorem windowWork_windows (s : State) : WindowWork s (noteUnfed (each (upTo 4) refreshWindow s)) :=
  (windowWork_each _ _ windowWork_refreshWindow s).trans (windowWork_noteUnfed _)

theorem refreshFront_chain (s : State) (n : Nat) : (refreshFront s).chain n = s.chain n := by
  have hmarks : (each (upTo 16) refreshChain s).canopy.chains = s.canopy.chains :=
    each_keeps (P := fun t : State => t.canopy.chains = s.canopy.chains) (fun n t h => (refreshChain_chains n t).trans h) _ rfl
  have hchains : (refreshFront s).canopy.chains = s.canopy.chains := (windowWork_windows _).2.1.trans hmarks
  rw [State.chain, hchains, State.chain]

theorem refreshFront_get (s : State) {f : Fld} (hf : ChainField f) : (refreshFront s).get f = s.get f := by
  have hmarks : (each (upTo 16) refreshChain s).get f = s.get f :=
    each_keeps (P := fun t : State => t.get f = s.get f) (fun n t h => (refreshChain_get n t hf).trans h) _ rfl
  exact ((windowWork_windows _).get hf.1).trans hmarks

theorem refreshFront_counts {s t : State} {f : Fld} (hf : ChainField f) (h : Counts f s t) : Counts f s (refreshFront t) :=
  (refreshFront_get t hf).trans h

/-- A field of CNP_CH_STATUS of a chain below bit 6. -/
theorem chainField_of_status {n : Nat} (hn : n < 16) {f : Fld} (hoff : f.off = 0x101004 + 0x100 * n) (hbits : f.lsb + f.width ≤ 6) :
    ChainField f := ⟨by omega, by omega, fun _ _ => .inl hbits⟩

/-- A field of another register of a chain. -/
theorem chainField_of_chain {n k : Nat} (hn : n < 16) {f : Fld} (hoff : f.off = 0x101000 + k + 0x100 * n)
    (hk : k < 0x100 ∧ k ≠ 4) (hword : f.lsb + f.width ≤ 32) : ChainField f :=
  ⟨by omega, hword, fun _ h => absurd h (by omega)⟩

/-- A saturated chain is excluded, and marked so once the front is up to date (R56). -/
theorem refreshFront_excluded {n : Nat} (hn : n < 16) {s : State} (h : s.get (F.CNP_CH_STATUS_saturated n) = 1) :
    (refreshFront s).get (F.CNP_CH_STATUS_excluded n) = 1 := by
  have hsat (m : Nat) (t : State) (ht : t.get (F.CNP_CH_STATUS_saturated n) = 1) :
      (refreshChain m t).get (F.CNP_CH_STATUS_saturated n) = 1 :=
    (refreshChain_get m t (chainField_of_status hn rfl (show 5 + 1 ≤ 6 by decide))).trans ht
  have hset (t : State) (ht : t.get (F.CNP_CH_STATUS_saturated n) = 1) :
      (refreshChain n t).get (F.CNP_CH_STATUS_excluded n) = 1 := by
    have hexcluded : excluded t n = true := by simp [excluded, State.on, ht]
    rw [refreshChain_excluded, hexcluded]
    rfl
  have hmark := each_reaches (P := fun t : State => t.get (F.CNP_CH_STATUS_saturated n) = 1 ∧ t.get (F.CNP_CH_STATUS_excluded n) = 1)
    (List.mem_range.mpr hn) hsat (fun m t ht => ⟨hsat m t ht.1, ?_⟩) (fun t ht => ⟨hsat n t ht, hset t ht⟩) h
  · refine ((windowWork_windows _).get ?_).trans hmark.2
    simp only [F.CNP_CH_STATUS_excluded]
    omega
  · by_cases hm : m = n
    · exact hm ▸ hset t ht.1
    · exact (refreshChain_excluded_other hm t).trans ht.2

end Sys2Proof.Machine
end

section
/-!
SUPPORT. What the close of a command leaves of the receive chains and of the flags of CNP_STAT beside chain_evt (R26, R277).
-/

namespace Sys2Proof.Machine

theorem follow_get_apart (s : State) {f g : Fld} (v : Nat) (hg : g.lsb + g.width ≤ 32)
    (h : g.lsb + g.width ≤ f.lsb ∨ f.lsb + f.width ≤ g.lsb) : (follow f v s).get g = s.get g := by
  unfold follow
  split
  · rfl
  · exact s.get_set_apart f g v hg h

/-- The close of a command leaves the flags of CNP_STAT that follow nothing. -/
theorem settle_get_chainFlag (s0 s : State) {f : Fld} (hoff : f.off = 0x100010) (hbits : f.lsb + f.width ≤ 2) :
    (settle s0 s).get f = s.get f := by
  rw [State.get_congr f (State.reg_congr (quiet_settle s0 s).1 _), derive, follow_get_off _ _ (by rw [hoff]; decide)]
  exact follow_get_apart s _ (by omega) (.inl hbits)

theorem settle_canopy (s0 s : State) : (settle s0 s).canopy = s.canopy := settle_same .canopy s0 s

theorem settle_chain (s0 s : State) (n : Nat) : (settle s0 s).chain n = s.chain n := by
  rw [State.chain, settle_canopy, State.chain]

end Sys2Proof.Machine
end

section
/-!
SUPPORT. The gain ladder of a chain and its LNA_CTL pin (R53 to R55).
-/

namespace Sys2Proof.Machine

theorem State.chain_setChain (s : State) (n : Nat) (c : ChainState) : (s.setChain n c).chain n = c := tabGet_put_same ..

/-- Driving the pin changes no register but CNP_CH_STATUS, in ext_on. -/
theorem drivePin_regs (n ext : Nat) (s : State) :
    (drivePin n ext s).regs = s.regs ∨ ∃ v, (drivePin n ext s).regs = (s.set (F.CNP_CH_STATUS_ext_on n) v).regs := by
  unfold drivePin
  dsimp only
  split
  next =>
    refine .inr ⟨b2n (lnaOn ext (s.get (F.CNP_CH_STATUS_ladder n))), ?_⟩
    split
    · rfl
    · split <;> rfl
  next =>
    refine .inl ?_
    split
    · rfl
    · split <;> rfl

/-- It leaves the pause of the chain's overload detection. -/
theorem drivePin_pauseTo (n ext : Nat) (s : State) : ((drivePin n ext s).chain n).pauseTo = (s.chain n).pauseTo := by
  have hpin (u : State) (c : ChainState) (o : Output) : ((u.setChain n c).emit o).chain n = c := u.chain_setChain n c
  have hpath (u : State) (v : Nat) : (u.set (F.CNP_CH_STATUS_ext_on n) v).chain n = u.chain n := rfl
  unfold drivePin
  dsimp only
  split <;> split
  · rfl
  · split <;> simp only [State.chain_setChain, hpin, hpath]
  · rfl
  · split <;> simp only [State.chain_setChain, hpin]

theorem drivePin_reg (n ext : Nat) (s : State) {off : Nat} (h : off ≠ 0x101004 + 0x100 * n) : (drivePin n ext s).reg off = s.reg off := by
  rcases drivePin_regs n ext s with e | ⟨v, e⟩
  · exact State.reg_congr e off
  · exact (State.reg_congr e off).trans (s.reg_set_ne _ v h)

theorem drivePin_ladder (n ext : Nat) (s : State) :
    (drivePin n ext s).get (F.CNP_CH_STATUS_ladder n) = s.get (F.CNP_CH_STATUS_ladder n) := by
  rcases drivePin_regs n ext s with e | ⟨v, e⟩
  · exact State.get_congr _ (State.reg_congr e _)
  · refine (State.get_congr _ (State.reg_congr e _)).trans (s.get_set_apart _ _ v ?_ ?_)
    · exact show 0 + 3 ≤ 32 by decide
    · exact .inl (show 0 + 3 ≤ 4 by decide)

/-- The state in which a chain is at a ladder index, its pin not yet driven. -/
def ladderMoved (n l : Nat) (s : State) : State :=
  if s.get (F.CNP_CH_STATUS_ladder n) = l then s
  else
    let s := s.set (F.CNP_CH_STATUS_ladder n) l
    { s with canopy := { s.canopy with spoiltChains := s.canopy.spoiltChains ++ [n] } }

theorem setLadder_eq (n l : Nat) (s : State) :
    setLadder n l s = drivePin n ((ladderMoved n l s).chain n).extMode (ladderMoved n l s) := rfl

theorem ladderMoved_chain (n l : Nat) (s : State) (m : Nat) : (ladderMoved n l s).chain m = s.chain m := by
  unfold ladderMoved
  split <;> rfl

theorem ladderMoved_reg (n l : Nat) (s : State) {off : Nat} (h : off ≠ 0x101004 + 0x100 * n) :
    (ladderMoved n l s).reg off = s.reg off := by
  unfold ladderMoved
  split
  · rfl
  · exact s.reg_set_ne _ l h

theorem ladderMoved_ladder (n : Nat) {l : Nat} (s : State) (hl : l < 8) : (ladderMoved n l s).get (F.CNP_CH_STATUS_ladder n) = l := by
  unfold ladderMoved
  split
  · assumption
  · exact (s.get_set_same (F.CNP_CH_STATUS_ladder n) l (show 0 + 3 ≤ 32 by decide)).trans (Nat.mod_eq_of_lt hl)

/-- A chain moved to a ladder index is at it. -/
theorem setLadder_ladder (n : Nat) {l : Nat} (s : State) (hl : l < 8) : (setLadder n l s).get (F.CNP_CH_STATUS_ladder n) = l := by
  rw [setLadder_eq, drivePin_ladder, ladderMoved_ladder n s hl]

theorem setLadder_reg (n l : Nat) (s : State) {off : Nat} (h : off ≠ 0x101004 + 0x100 * n) : (setLadder n l s).reg off = s.reg off := by
  rw [setLadder_eq, drivePin_reg n _ _ h, ladderMoved_reg n l s h]

theorem setLadder_pauseTo (n l : Nat) (s : State) : ((setLadder n l s).chain n).pauseTo = (s.chain n).pauseTo := by
  rw [setLadder_eq, drivePin_pauseTo, ladderMoved_chain]

end Sys2Proof.Machine
end

section
/-!
SUPPORT. Overload detections (R54).
-/

namespace Sys2Proof.Machine

/-- The state in which an overload of a chain is counted and shown. -/
def overloadCounted (n : Nat) (s : State) : State :=
  ((s.inc (F.CNP_CH_OVL_CNT_count n)).set (F.CNP_CH_STAT_ovl n) 1).inc F.CNP_EVCNT_ovl_cnt

/-- The state in which a chain has detected an overload and pauses. -/
def detectionNoted (n pause : Nat) (s : State) : State :=
  s.setChain n { s.chain n with detected := true, pauseTo := s.now + pause }

theorem detectionNoted_get (n pause : Nat) (s : State) (f : Fld) : (detectionNoted n pause s).get f = s.get f :=
  State.get_congr f (State.reg_congr rfl _)

theorem detectionNoted_pauseTo (n pause : Nat) (s : State) : ((detectionNoted n pause s).chain n).pauseTo = s.now + pause := by
  rw [detectionNoted, State.chain_setChain]

/-- The pause after a step, which may switch an external LNA. -/
def stepPause (n : Nat) (s : State) : Nat :=
  if s.get (F.CNP_CH_STATUS_ladder n) = 5 ∧ (s.chain n).extMode = 1 then max 200 (50 * s.get (F.CNP_CH_EXT_settle n)) else 200

/-- An overload of the chain steps its ladder down: it is under AGC and not at ladder 0. -/
abbrev StepsDown (n : Nat) (s : State) : Prop := (s.chain n).gainMode = 0 ∧ s.get (F.CNP_CH_STATUS_ladder n) ≠ 0

/-- What follows an overload that is counted. -/
def overloadEffect (n : Nat) (s : State) : State :=
  let step := decide (StepsDown n s)
  let noted := detectionNoted n (if !step then 100 else stepPause n s) s
  if step then refreshFront (setLadder n (s.get (F.CNP_CH_STATUS_ladder n) - 1) noted) else noted

theorem exec_overloadDetect (s : State) (n : Nat) :
    exec (.overloadDetect n) s = run (fun s => if n < 16 ∧ delivers s n = true ∧ detectionPaused s n = false
      then overloadEffect n (overloadCounted n s) else s) s := rfl

theorem overloadEffect_of_steady {n : Nat} {s : State} (h : ¬ StepsDown n s) : overloadEffect n s = detectionNoted n 100 s := by
  simp [overloadEffect, h]

theorem overloadEffect_of_step {n : Nat} {s : State} (h : StepsDown n s) : overloadEffect n s =
    refreshFront (setLadder n (s.get (F.CNP_CH_STATUS_ladder n) - 1) (detectionNoted n (stepPause n s) s)) := by
  simp [overloadEffect, h]

/-- An overload of a chain is counted and shown (R54). -/
abbrev OverloadShown (n : Nat) (s t : State) : Prop :=
  Counts (F.CNP_CH_OVL_CNT_count n) s t ∧ t.get (F.CNP_CH_STAT_ovl n) = 1 ∧ Counts F.CNP_EVCNT_ovl_cnt s t

section
variable {n : Nat} {s : State}

/-- Counting an overload touches three registers. -/
theorem overloadCounted_reg (n : Nat) (s : State) {off : Nat}
    (h : off ≠ 0x101014 + 0x100 * n ∧ off ≠ 0x101008 + 0x100 * n ∧ off ≠ 0x100018) :
    (overloadCounted n s).reg off = s.reg off := by
  obtain ⟨hcount, hflag, hevents⟩ := h
  rw [overloadCounted, State.reg_inc_ne _ _ hevents, State.reg_set_ne _ _ _ hflag, State.reg_inc_ne _ _ hcount]

theorem overloadCounted_shown (n : Nat) (s : State) : OverloadShown n s (overloadCounted n s) := by
  have hcount : (F.CNP_CH_OVL_CNT_count n).off = 0x101014 + 0x100 * n := rfl
  have hflag : (F.CNP_CH_STAT_ovl n).off = 0x101008 + 0x100 * n := rfl
  have hevents : F.CNP_EVCNT_ovl_cnt.off = 0x100018 := rfl
  refine ⟨?_, ?_, ?_⟩
  · rw [Counts, overloadCounted, State.inc, State.get_add_off _ _ (by omega), State.get_set_off _ _ _ _ (by omega)]
    exact s.get_inc_same _ (show 0 + 32 ≤ 32 by decide)
  · rw [overloadCounted, State.inc, State.get_add_off _ _ (by omega)]
    exact State.get_set_same _ (F.CNP_CH_STAT_ovl n) 1 (show 0 + 1 ≤ 32 by decide)
  · rw [Counts, overloadCounted, State.get_inc_same _ _ (by decide), State.get_set_off _ _ _ _ (by omega), State.inc,
      State.get_add_off _ _ (by omega)]

/-- It stays so as other registers of the chain, and the front, are brought up to date. -/
theorem OverloadShown.of_get {t u : State} (h : OverloadShown n s u) (hn : n < 16)
    (k : ∀ f, ChainField f → f.off ∉ followers → f.off ≠ 0x101004 + 0x100 * n → t.get f = u.get f) : OverloadShown n s t := by
  obtain ⟨hcount, hflag, hevents⟩ := h
  have hcountOff : (F.CNP_CH_OVL_CNT_count n).off = 0x101014 + 0x100 * n := rfl
  have hflagOff : (F.CNP_CH_STAT_ovl n).off = 0x101008 + 0x100 * n := rfl
  have heventsOff : F.CNP_EVCNT_ovl_cnt.off = 0x100018 := rfl
  have hcountField : ChainField (F.CNP_CH_OVL_CNT_count n) :=
    chainField_of_chain (k := 0x14) hn rfl (by decide) (show 0 + 32 ≤ 32 by decide)
  have hflagField : ChainField (F.CNP_CH_STAT_ovl n) := chainField_of_chain (k := 8) hn rfl (by decide) (show 0 + 1 ≤ 32 by decide)
  exact ⟨(k _ hcountField (not_mem_followers (by omega) (by omega)) (by omega)).trans hcount,
    (k _ hflagField (not_mem_followers (by omega) (by omega)) (by omega)).trans hflag,
    (k _ (by decide) (by decide) (by omega)).trans hevents⟩

theorem overloadCounted_ladder (n m : Nat) :
    (overloadCounted n s.started).get (F.CNP_CH_STATUS_ladder m) = s.get (F.CNP_CH_STATUS_ladder m) :=
  State.get_congr _ (overloadCounted_reg n s.started (by simp only [F.CNP_CH_STATUS_ladder]; omega))

theorem stepsDown_counted : StepsDown n (overloadCounted n s.started) ↔ StepsDown n s := by
  rw [StepsDown, overloadCounted_ladder]
  rfl

theorem stepPause_counted : stepPause n (overloadCounted n s.started) = stepPause n s := by
  have hsettle : (overloadCounted n s.started).get (F.CNP_CH_EXT_settle n) = s.get (F.CNP_CH_EXT_settle n) :=
    State.get_congr _ (overloadCounted_reg n s.started (by simp only [F.CNP_CH_EXT_settle]; omega))
  rw [stepPause, overloadCounted_ladder, hsettle]
  rfl

theorem frame_setChain (s : State) (n : Nat) (c : ChainState) : Frame [] [.canopy] s (s.setChain n c) :=
  ⟨fun _ _ _ => rfl, fun p hp => by
    cases p with
    | canopy => exact absurd List.mem_cons_self hp
    | dram => exact fun _ => rfl
    | _ => rfl⟩

theorem frame_overloadCounted (n : Nat) (s : State) :
    Frame [(F.CNP_CH_OVL_CNT_count n).off, (F.CNP_CH_STAT_ovl n).off, F.CNP_EVCNT_ovl_cnt.off] [] s (overloadCounted n s) := by
  refine frame_trans (frame_trans (frame_mono (frame_of_set s (F.CNP_CH_OVL_CNT_count n) _) ?_ (List.Subset.refl _))
    (frame_mono (frame_of_set _ (F.CNP_CH_STAT_ovl n) 1) ?_ (List.Subset.refl _)))
    (frame_mono (frame_of_set _ F.CNP_EVCNT_ovl_cnt _) ?_ (List.Subset.refl _))
  all_goals simp

end

section
variable {n : Nat} {s : State} (hn : n < 16) (hdelivers : delivers s n = true) (hdetects : detectionPaused s n = false)
include hn hdelivers hdetects

theorem does_of_overload {P : State → Prop} (h : P (settle s (overloadEffect n (overloadCounted n s.started)))) :
    Does (.overloadDetect n) s P :=
  does_of_effect (exec_overloadDetect s n) (if_pos ⟨hn, hdelivers, hdetects⟩) h

/-- An overload that changes no gain is counted, and detection pauses for 100 ns. -/
theorem does_overload_steady (hsteady : ¬ StepsDown n s) :
    Does (.overloadDetect n) s (fun t => OverloadShown n s t ∧ t.get (F.CNP_CH_STATUS_ladder n) = s.get (F.CNP_CH_STATUS_ladder n) ∧
      (t.chain n).pauseTo = s.now + 100 ∧
      Frame [(F.CNP_CH_OVL_CNT_count n).off, (F.CNP_CH_STAT_ovl n).off, F.CNP_EVCNT_ovl_cnt.off] [.canopy] s t) := by
  refine does_of_overload hn hdelivers hdetects ?_
  rw [overloadEffect_of_steady (fun h => hsteady (stepsDown_counted.mp h))]
  have hget (f : Fld) (hf : f.off ∉ followers) :
      (settle s (detectionNoted n 100 (overloadCounted n s.started))).get f = (overloadCounted n s.started).get f :=
    (settle_get _ _ hf).trans (detectionNoted_get n 100 _ f)
  refine ⟨(overloadCounted_shown n s.started).of_get hn (fun f _ hf _ => hget f hf), ?ladder, ?pause, settle_frame _ _ ?frame⟩
  case ladder =>
    refine (hget _ ?_).trans (overloadCounted_ladder n n)
    exact not_mem_followers (by simp only [F.CNP_CH_STATUS_ladder]; omega) (by simp only [F.CNP_CH_STATUS_ladder]; omega)
  case pause =>
    rw [settle_chain, detectionNoted_pauseTo]
    rfl
  case frame =>
    exact frame_trans (frame_mono (frame_overloadCounted n s.started) (List.Subset.refl _) (List.nil_subset _))
      (frame_mono (frame_setChain _ n _) (List.nil_subset _) (List.Subset.refl _))

/-- An overload under AGC above ladder 0 is counted, the ladder steps down by one, and detection pauses for longer. -/
theorem does_overload_step (hstep : StepsDown n s) :
    Does (.overloadDetect n) s (fun t => OverloadShown n s t ∧
      t.get (F.CNP_CH_STATUS_ladder n) = s.get (F.CNP_CH_STATUS_ladder n) - 1 ∧ (t.chain n).pauseTo = s.now + stepPause n s ∧
      ∀ m < 16, m ≠ n → t.get (F.CNP_CH_STATUS_ladder m) = s.get (F.CNP_CH_STATUS_ladder m)) := by
  refine does_of_overload hn hdelivers hdetects ?_
  rw [overloadEffect_of_step (stepsDown_counted.mpr hstep), stepPause_counted, overloadCounted_ladder]
  have hladder {m : Nat} (hm : m < 16) : ChainField (F.CNP_CH_STATUS_ladder m) ∧ (F.CNP_CH_STATUS_ladder m).off ∉ followers := by
    refine ⟨chainField_of_status hm rfl (show 0 + 3 ≤ 6 by decide), not_mem_followers ?_ ?_⟩
    all_goals simp only [F.CNP_CH_STATUS_ladder]; omega
  have hpause := detectionNoted_pauseTo n (stepPause n s) (overloadCounted n s.started)
  have hnoted := detectionNoted_get n (stepPause n s) (overloadCounted n s.started)
  generalize detectionNoted n (stepPause n s) (overloadCounted n s.started) = v at hpause hnoted ⊢
  generalize hl : s.get (F.CNP_CH_STATUS_ladder n) - 1 = l
  have hfront (f : Fld) (hf : ChainField f) (hfol : f.off ∉ followers) :
      (settle s (refreshFront (setLadder n l v))).get f = (setLadder n l v).get f :=
    (settle_get _ _ hfol).trans (refreshFront_get _ hf)
  have hother (f : Fld) (hf : ChainField f) (hfol : f.off ∉ followers) (hoff : f.off ≠ 0x101004 + 0x100 * n) :
      (settle s (refreshFront (setLadder n l v))).get f = (overloadCounted n s.started).get f :=
    (hfront f hf hfol).trans ((State.get_congr f (setLadder_reg n l v hoff)).trans (hnoted f))
  refine ⟨(overloadCounted_shown n s.started).of_get hn hother, ?ladder, ?pause, fun m hm hne => ?others⟩
  case ladder =>
    have hlt : s.get (F.CNP_CH_STATUS_ladder n) < 8 := s.get_lt (F.CNP_CH_STATUS_ladder n)
    exact (hfront _ (hladder hn).1 (hladder hn).2).trans (setLadder_ladder n v (by omega))
  case pause =>
    rw [settle_chain, refreshFront_chain, setLadder_pauseTo, hpause]
    rfl
  case others =>
    exact (hother _ (hladder hm).1 (hladder hm).2 (by simp only [F.CNP_CH_STATUS_ladder]; omega)).trans (overloadCounted_ladder n m)

end

/-- A detection in a pause counts for nothing. -/
theorem does_overload_paused {n : Nat} {s : State} (h : detectionPaused s n = true) :
    Does (.overloadDetect n) s (fun t => Frame [] [] s t) := by
  refine does_of_effect (exec_overloadDetect s n) (if_neg (fun hd => ?_)) (settle_frame _ _ (frame_of_quiet (.refl s.started)))
  exact absurd (h.symm.trans hd.2.2) (by decide)

end Sys2Proof.Machine
end

section
/-!
SUPPORT. Saturation episodes (R56), the settle time of an external LNA (R55) and the lock of the sampling clock (R60).
-/

namespace Sys2Proof.Machine

section
variable {n : Nat} {s : State}

theorem status_not_mem_followers {f : Fld} (h : f.off = 0x101004 + 0x100 * n) : f.off ∉ followers :=
  not_mem_followers (by omega) (by omega)

theorem chainField_ladder (hn : n < 16) : ChainField (F.CNP_CH_STATUS_ladder n) :=
  chainField_of_status hn rfl (show 0 + 3 ≤ 6 by decide)

theorem chainField_saturated (hn : n < 16) : ChainField (F.CNP_CH_STATUS_saturated n) :=
  chainField_of_status hn rfl (show 5 + 1 ≤ 6 by decide)

/-! Saturation (R56). -/

/-- The state in which a chain is saturated, and shown and counted so. -/
def saturationShown (n : Nat) (s : State) : State :=
  ((s.set (F.CNP_CH_STAT_sat n) 1).set (F.CNP_CH_STATUS_saturated n) 1).inc F.CNP_EVCNT_sat_cnt

theorem saturationShown_flag (n : Nat) (s : State) : (saturationShown n s).get (F.CNP_CH_STAT_sat n) = 1 := by
  have hflag : (F.CNP_CH_STAT_sat n).off = 0x101008 + 0x100 * n := rfl
  have hstatus : (F.CNP_CH_STATUS_saturated n).off = 0x101004 + 0x100 * n := rfl
  have hevents : F.CNP_EVCNT_sat_cnt.off = 0x100018 := rfl
  rw [saturationShown, State.inc, State.get_add_off _ _ (by omega), State.get_set_off _ _ _ _ (by omega)]
  exact s.get_set_same (F.CNP_CH_STAT_sat n) 1 (show 1 + 1 ≤ 32 by decide)

theorem saturationShown_saturated (n : Nat) (s : State) : (saturationShown n s).get (F.CNP_CH_STATUS_saturated n) = 1 := by
  have hstatus : (F.CNP_CH_STATUS_saturated n).off = 0x101004 + 0x100 * n := rfl
  have hevents : F.CNP_EVCNT_sat_cnt.off = 0x100018 := rfl
  rw [saturationShown, State.inc, State.get_add_off _ _ (by omega)]
  exact State.get_set_same _ (F.CNP_CH_STATUS_saturated n) 1 (show 5 + 1 ≤ 32 by decide)

theorem saturationShown_counts (n : Nat) (s : State) : Counts F.CNP_EVCNT_sat_cnt s (saturationShown n s) := by
  have hflag : (F.CNP_CH_STAT_sat n).off = 0x101008 + 0x100 * n := rfl
  have hstatus : (F.CNP_CH_STATUS_saturated n).off = 0x101004 + 0x100 * n := rfl
  have hevents : F.CNP_EVCNT_sat_cnt.off = 0x100018 := rfl
  rw [Counts, saturationShown, State.get_inc_same _ _ (by decide), State.get_set_off _ _ _ _ (by omega),
    State.get_set_off _ _ _ _ (by omega)]

theorem exec_saturationStart (s : State) (n : Nat) :
    exec (.saturationStart n) s = run (fun s => if n < 16 ∧ delivers s n = true ∧ s.get (F.CNP_CH_STATUS_saturated n) = 0 ∧
        ((s.chain n).gainMode = 1 ∨ s.get (F.CNP_CH_STATUS_ladder n) = 0)
      then refreshFront (saturationShown n s) else s) s := rfl

theorem does_saturationStart (hn : n < 16) (hdelivers : delivers s n = true) (hfirst : s.get (F.CNP_CH_STATUS_saturated n) = 0)
    (hlowest : s.get (F.CNP_CH_STATUS_ladder n) = 0 ∨ (s.chain n).gainMode = 1) :
    Does (.saturationStart n) s (fun t => t.get (F.CNP_CH_STAT_sat n) = 1 ∧ t.get (F.CNP_CH_STATUS_saturated n) = 1 ∧
      t.get (F.CNP_CH_STATUS_excluded n) = 1 ∧ Counts F.CNP_EVCNT_sat_cnt s t) := by
  refine does_of_effect (exec_saturationStart s n) (if_pos ⟨hn, hdelivers, hfirst, hlowest.symm⟩)
    ⟨?flag, ?saturated, ?excluded, ?count⟩
  case flag =>
    have hoff : (F.CNP_CH_STAT_sat n).off = 0x101008 + 0x100 * n := rfl
    rw [settle_get _ _ (not_mem_followers (by omega) (by omega)),
      refreshFront_get _ (chainField_of_chain (k := 8) hn rfl (by decide) (show 1 + 1 ≤ 32 by decide))]
    exact saturationShown_flag n s.started
  case saturated =>
    rw [settle_get _ _ (status_not_mem_followers rfl), refreshFront_get _ (chainField_saturated hn)]
    exact saturationShown_saturated n s.started
  case excluded =>
    rw [settle_get _ _ (status_not_mem_followers rfl)]
    exact refreshFront_excluded hn (saturationShown_saturated n s.started)
  case count =>
    rw [Counts, settle_get _ _ (by decide), refreshFront_get _ (by decide)]
    exact saturationShown_counts n s.started

/-- Within an episode nothing more happens. -/
theorem does_saturationStart_again (h : s.get (F.CNP_CH_STATUS_saturated n) = 1) :
    Does (.saturationStart n) s (fun t => Frame [] [] s t) := by
  refine does_of_effect (exec_saturationStart s n) (if_neg (fun hs => ?_)) (settle_frame _ _ (frame_of_quiet (.refl s.started)))
  obtain ⟨-, -, hfirst, -⟩ := hs
  exact absurd (h.symm.trans hfirst) (by decide)

theorem exec_saturationEnd (s : State) (n : Nat) : exec (.saturationEnd n) s =
    run (fun s => if n < 16 then refreshFront (s.set (F.CNP_CH_STATUS_saturated n) 0) else s) s := rfl

theorem does_saturationEnd (hn : n < 16) :
    Does (.saturationEnd n) s (fun t => t.get (F.CNP_CH_STATUS_saturated n) = 0 ∧
      t.get (F.CNP_CH_STATUS_ladder n) = s.get (F.CNP_CH_STATUS_ladder n)) := by
  refine does_of_effect (exec_saturationEnd s n) (if_pos hn) ⟨?_, ?_⟩
  · rw [settle_get _ _ (status_not_mem_followers rfl), refreshFront_get _ (chainField_saturated hn)]
    exact State.get_set_same _ (F.CNP_CH_STATUS_saturated n) 0 (show 5 + 1 ≤ 32 by decide)
  · rw [settle_get _ _ (status_not_mem_followers rfl), refreshFront_get _ (chainField_ladder hn)]
    exact s.started.get_set_apart (F.CNP_CH_STATUS_saturated n) (F.CNP_CH_STATUS_ladder n) 0 (show 0 + 3 ≤ 32 by decide)
      (.inl (show 0 + 3 ≤ 5 by decide))

/-! The settle time of an external LNA (R55). -/

theorem exec_extLnaSettleEnd (s : State) (n : Nat) : exec (.extLnaSettleEnd n) s =
    run (fun s => if n < 16 then refreshFront (s.setChain n { s.chain n with settling := false }) else s) s := rfl

theorem does_extLnaSettleEnd (hn : n < 16) :
    Does (.extLnaSettleEnd n) s (fun t => (t.chain n).settling = false ∧
      t.get (F.CNP_CH_STATUS_ladder n) = s.get (F.CNP_CH_STATUS_ladder n)) := by
  refine does_of_effect (exec_extLnaSettleEnd s n) (if_pos hn) ⟨?_, ?_⟩
  · rw [settle_chain, refreshFront_chain, State.chain_setChain]
  · rw [settle_get _ _ (status_not_mem_followers rfl), refreshFront_get _ (chainField_ladder hn)]
    exact State.get_congr _ (State.reg_congr rfl _)

end

/-! The lock of the sampling clock (R60). -/

/-- The state in which the sampling clock has locked: that of the source selected clears fell_back. -/
def clockLocked (s : State) : State :=
  let s := s.set F.CNP_CLK_locked 1
  if s.get F.CNP_CLK_active_src = s.get F.CNP_CLK_src then s.set F.CNP_CLK_fell_back 0 else s

/-- The windows with included chains that are not filled begin to fill. -/
def windowsFill (s : State) : State :=
  each ((windowsOn s).filter (fun w => decide (s.get (F.SPC_WIN_INCL_incl w) ≠ 0 ∧ s.get (F.CHZ_WIN_CFG_filled w) = 0))) beginFill s

theorem exec_samplingClockLock (s : State) : exec .samplingClockLock s =
    run (fun s => if s.canopy.stopped = true ∨ s.on F.CNP_CLK_locked = true then s else windowsFill (clockLocked s)) s := rfl

theorem windowsFill_regs (s : State) : (windowsFill s).regs = s.regs :=
  each_keeps (f := beginFill) (P := fun t : State => t.regs = s.regs) (fun _ _ h => h) _ rfl

theorem clockLocked_locked (s : State) : (clockLocked s).get F.CNP_CLK_locked = 1 := by
  have hlocked : (s.set F.CNP_CLK_locked 1).get F.CNP_CLK_locked = 1 := s.get_set_same _ 1 (by decide)
  unfold clockLocked
  dsimp only
  split
  · exact (State.get_set_apart _ _ _ 0 (by decide) (by decide)).trans hlocked
  · exact hlocked

theorem clockLocked_fellBack (s : State) : (clockLocked s).get F.CNP_CLK_fell_back =
    if s.get F.CNP_CLK_active_src = s.get F.CNP_CLK_src then 0 else s.get F.CNP_CLK_fell_back := by
  simp only [clockLocked, s.get_set_apart F.CNP_CLK_locked F.CNP_CLK_active_src 1 (by decide) (by decide),
    s.get_set_apart F.CNP_CLK_locked F.CNP_CLK_src 1 (by decide) (by decide)]
  split
  · exact State.get_set_same _ _ 0 (by decide)
  · exact s.get_set_apart _ _ 1 (by decide) (by decide)

theorem frame_clockLocked (s : State) : Frame [F.CNP_CLK_locked.off] [] s (clockLocked s) := by
  unfold clockLocked
  dsimp only
  split
  · exact frame_trans (frame_of_set s F.CNP_CLK_locked 1) (frame_of_set _ F.CNP_CLK_fell_back 0)
  · exact frame_of_set s F.CNP_CLK_locked 1

theorem does_samplingClockLock {s : State} (hruns : s.canopy.stopped = false) (hunlocked : s.get F.CNP_CLK_locked = 0) :
    Does .samplingClockLock s (fun t => t.get F.CNP_CLK_locked = 1 ∧ t.get F.CNP_CLK_fell_back =
      (if s.get F.CNP_CLK_active_src = s.get F.CNP_CLK_src then 0 else s.get F.CNP_CLK_fell_back) ∧
      RegsBut [F.CNP_CLK_locked.off] s t) := by
  have hstarts : ¬ (s.started.canopy.stopped = true ∨ s.started.on F.CNP_CLK_locked = true) := by
    rw [State.on, State.get_started]
    simp [hruns, hunlocked]
  have hget (f : Fld) : (windowsFill (clockLocked s.started)).get f = (clockLocked s.started).get f :=
    State.get_congr f (State.reg_congr (windowsFill_regs _) _)
  refine does_of_effect (exec_samplingClockLock s) (if_neg hstarts) ⟨?_, ?_, settle_regsBut _ (fun off ho hf => ?_)⟩
  · rw [settle_get _ _ (by decide), hget]
    exact clockLocked_locked s.started
  · rw [settle_get _ _ (by decide), hget]
    exact clockLocked_fellBack s.started
  · exact (State.reg_congr (windowsFill_regs _) off).trans ((frame_clockLocked s.started).1 off ho hf)

end Sys2Proof.Machine
end

section
/-!
SUPPORT. The failure of CNVCLK (R59) while no frame is received and no detection waits.
-/

namespace Sys2Proof.Machine

/-! Gap marks on windows (R13). -/

/-- No lane holds a frame and no detection waits for a lane. -/
def NoReception (s : State) : Prop := s.lanes.frames = [] ∧ s.search.requests = []

/-- The registers above those of the prune controller's fences and below those of the searchers (R23). -/
abbrev FrontReg (off : Nat) : Prop := 0x61000 ≤ off ∧ off < 0x1A0000

/-- Output of a pruned lane that is discarded is counted at the fence and at the collector. -/
theorem discardFenced_reg (n : Nat) (s : State) {off : Nat} (h : FrontReg off) : (discardFenced n s).reg off = s.reg off := by
  have hoff {f : Fld} (hf : ¬ FrontReg f.off) : off ≠ f.off := fun e => hf (e ▸ h)
  rw [discardFenced, discard, State.reg_event_ne _ _ _ (hoff (by decide)) (hoff (by decide)), State.reg_inc_ne _ _ (hoff (by decide)),
    fenceDrop, State.reg_set_ne _ _ _ (hoff (by decide)), State.reg_inc_ne _ _ (hoff (by decide))]
  rfl

theorem noReception_discardFenced (n : Nat) {s : State} (h : NoReception s) : NoReception (discardFenced n s) := h

/-- With nothing received, a gap mark on a window ends no frame: what pruned lanes had of it is discarded. -/
theorem gapWindow_of_noReception (w : Nat) {s : State} (h : NoReception s) :
    (∀ off, FrontReg off → (gapWindow w s).reg off = s.reg off) ∧ NoReception (gapWindow w s) := by
  unfold gapWindow
  dsimp only
  generalize (s.lanes.fenced.filter (fun (_, f) => decide (streamWindow s f.req.stream = w))).map Prod.fst = l
  have hregs (off : Nat) (ho : FrontReg off) : (each l discardFenced s).reg off = s.reg off :=
    each_keeps (P := fun t : State => t.reg off = s.reg off) (fun n t ht => (discardFenced_reg n t ho).trans ht) l rfl
  obtain ⟨hframes, hrequests⟩ :=
    each_keeps (f := discardFenced) (P := NoReception) (fun n _ => noReception_discardFenced n) l h
  simp only [hframes, hrequests, List.filter_nil, List.map_nil, each]
  exact ⟨hregs, hframes, rfl⟩

theorem gapWindows_get (l : List Nat) {s : State} (h : NoReception s) {f : Fld} (hf : FrontReg f.off) :
    (each l gapWindow s).get f = s.get f := by
  have hboth := each_keeps (f := gapWindow) (P := fun t => t.get f = s.get f ∧ NoReception t) (fun w t ht => ?_) l ⟨rfl, h⟩
  · exact hboth.1
  · obtain ⟨hregs, hnone⟩ := gapWindow_of_noReception w ht.2
    exact ⟨(State.get_congr f (hregs _ hf)).trans ht.1, hnone⟩

/-! Windows whose output becomes invalid (R65). -/

/-- The states of streams lie beyond the windows' registers. -/
theorem streamStates_get (l : List Nat) (v : Nat → State → Nat) (s : State) {f : Fld} (h : f.off < 0x1A4000) :
    (each l (fun i s => s.set (F.SRH_STREAM_STATUS_state i) (v i s)) s).get f = s.get f :=
  each_keeps (P := fun t : State => t.get f = s.get f)
    (fun i t ht => (t.get_set_off _ _ _ (by simp only [F.SRH_STREAM_STATUS_state]; omega)).trans ht) l rfl

theorem unfill_get (w : Nat) (s : State) {f : Fld} (h : f.off < 0x1A4000) :
    (unfill w s).get f = (s.set (F.CHZ_WIN_CFG_filled w) 0).get f := by
  unfold unfill streamsOff
  dsimp only
  rw [streamStates_get _ (fun _ _ => 0) _ h, streamStates_get _ (fun i s => searcherState s i) _ h]
  exact State.get_congr f (State.reg_congr rfl _)

/-- A window whose output has become invalid reads not filled, and so it stays as others follow. -/
theorem unfillAll_filled {w : Nat} (hw : w < 4) (s : State) : (each (upTo 4) unfill s).get (F.CHZ_WIN_CFG_filled w) = 0 := by
  have hoff (v : Nat) : (F.CHZ_WIN_CFG_filled v).off = 0x140100 + 0x20 * v := rfl
  have hbelow : (F.CHZ_WIN_CFG_filled w).off < 0x1A4000 := by rw [hoff]; omega
  have hsame (t : State) : (unfill w t).get (F.CHZ_WIN_CFG_filled w) = 0 :=
    (unfill_get w t hbelow).trans (t.get_set_same (F.CHZ_WIN_CFG_filled w) 0 (show 1 + 1 ≤ 32 by decide))
  refine each_reaches (I := fun _ => True) (P := fun t : State => t.get (F.CHZ_WIN_CFG_filled w) = 0) (List.mem_range.mpr hw)
    (fun _ _ _ => trivial) (fun v t ht => ?_) (fun t _ => hsame t) trivial
  by_cases hv : v = w
  · exact hv ▸ hsame t
  · exact (unfill_get v t hbelow).trans ((t.get_set_off _ _ _ (by rw [hoff, hoff]; omega)).trans ht)

/-! CNVCLK (R59). -/

/-- The state in which the failure is shown and counted, and its event written. -/
def clockFailNoted (s : State) : State :=
  ringNote 0x11 [BitVec.ofNat 8 (s.get F.CNP_CLK_fallback)] false (s.event F.CNP_STAT_clk_fail F.CNP_EVCNT_clk_fail_cnt)

/-- The failure and the gap marks it leaves in every window. -/
def clockFailed (s : State) : State := each (upTo 4) gapWindow (clockFailNoted s)

/-- The internal synthesiser takes over. -/
def clockFallsBack (s : State) : State := (s.set F.CNP_CLK_active_src 0).set F.CNP_CLK_fell_back 1

/-- The converters are stopped. -/
def clockStopped (s : State) : State := { s.set F.CNP_CLK_locked 0 with canopy := { s.canopy with stopped := true } }

/-- The converters stop, and the output of every window becomes invalid. -/
def convertersStop (s : State) : State := each (upTo 4) unfill (clockStopped s)

theorem exec_cnvclkFail (s : State) : exec .cnvclkFail s = run (fun s =>
    if (s.on F.CNP_CLK_active_src && !s.canopy.stopped) = true then
      (if s.get F.CNP_CLK_fallback = 1 then clockFallsBack (clockFailed s) else convertersStop (clockFailed s))
    else s) s := by
  change execCnvclkFail s = _
  unfold execCnvclkFail clockFallsBack convertersStop clockStopped clockFailed clockFailNoted
  rfl

/-- An event of the ring record leaves the lanes and the search. -/
theorem ringNote_lanes_search (s : State) (code : Nat) (data : List Byte) (trigger : Bool) :
    (ringNote code data trigger s).lanes = s.lanes ∧ (ringNote code data trigger s).search = s.search := by
  unfold ringNote ringWrite
  dsimp only
  split
  · exact ⟨rfl, rfl⟩
  · split <;> exact ⟨rfl, rfl⟩

section
variable {s : State}

theorem clockFailNoted_get (s : State) {f : Fld} (h : ¬ RingReg f.off) :
    (clockFailNoted s).get f = (s.event F.CNP_STAT_clk_fail F.CNP_EVCNT_clk_fail_cnt).get f := ringNote_get _ _ _ _ h

theorem clockFailNoted_head (h : ringProtected s (s.get F.RRC_HEAD_index) = false) :
    (clockFailNoted s).get F.RRC_HEAD_index = (s.get F.RRC_HEAD_index + 1) % 4096 := by
  have hhead : (s.event F.CNP_STAT_clk_fail F.CNP_EVCNT_clk_fail_cnt).get F.RRC_HEAD_index = s.get F.RRC_HEAD_index :=
    s.get_event_other (by decide) (by decide)
  have hfree := (ringProtected_congr (s := s.event F.CNP_STAT_clk_fail F.CNP_EVCNT_clk_fail_cnt) (t := s) rfl
    (s.reg_event_ne _ _ (by decide) (by decide)) (s.get F.RRC_HEAD_index)).trans h
  rw [clockFailNoted, ringNote_head _ _ _ (hhead ▸ hfree), hhead]

theorem clockFailed_get (h : NoReception s) {f : Fld} (hf : FrontReg f.off) : (clockFailed s).get f = (clockFailNoted s).get f := by
  obtain ⟨hlanes, hsearch⟩ := ringNote_lanes_search (s.event F.CNP_STAT_clk_fail F.CNP_EVCNT_clk_fail_cnt) 0x11
    [BitVec.ofNat 8 (s.get F.CNP_CLK_fallback)] false
  exact gapWindows_get _ ⟨(congrArg LaneState.frames hlanes).trans h.1, (congrArg SearchState.requests hsearch).trans h.2⟩ hf

/-- What the failure shows, and leaves of CNP_CLK. -/
theorem clockFailed_shown (h : NoReception s) :
    (clockFailed s).get F.CNP_STAT_clk_fail = 1 ∧ Counts F.CNP_EVCNT_clk_fail_cnt s (clockFailed s) ∧
      (clockFailed s).get F.CNP_CLK_fell_back = s.get F.CNP_CLK_fell_back := by
  have hget (f : Fld) (hfront : FrontReg f.off) (hring : ¬ RingReg f.off) :
      (clockFailed s).get f = (s.event F.CNP_STAT_clk_fail F.CNP_EVCNT_clk_fail_cnt).get f :=
    (clockFailed_get h hfront).trans (clockFailNoted_get s hring)
  refine ⟨?_, ?_, ?_⟩
  · rw [hget _ (by decide) (by decide)]
    exact s.get_event_flag (by decide) (by decide) (by decide)
  · rw [Counts, hget _ (by decide) (by decide)]
    exact s.get_event_count (by decide) (by decide)
  · rw [hget _ (by decide) (by decide)]
    exact s.get_event_other (by decide) (by decide)

theorem clockFailed_head (h : NoReception s) (hring : ringProtected s (s.get F.RRC_HEAD_index) = false) :
    (clockFailed s).get F.RRC_HEAD_index = (s.get F.RRC_HEAD_index + 1) % 4096 :=
  (clockFailed_get h (by decide)).trans (clockFailNoted_head hring)

theorem clockFallsBack_other (s : State) {f : Fld} (h : f.off ≠ 0x100000) : (clockFallsBack s).get f = s.get f :=
  (State.get_set_off _ F.CNP_CLK_fell_back f 1 h).trans (s.get_set_off F.CNP_CLK_active_src f 0 h)

theorem clockFallsBack_activeSrc (s : State) : (clockFallsBack s).get F.CNP_CLK_active_src = 0 :=
  (State.get_set_apart _ _ _ 1 (by decide) (by decide)).trans (s.get_set_same _ 0 (by decide))

theorem clockFallsBack_fellBack (s : State) : (clockFallsBack s).get F.CNP_CLK_fell_back = 1 := State.get_set_same _ _ 1 (by decide)

theorem windowWork_unfillAll (s : State) : WindowWork s (each (upTo 4) unfill s) := windowWork_each _ _ windowWork_unfill s

theorem clockStopped_get (s : State) (f : Fld) : (clockStopped s).get f = (s.set F.CNP_CLK_locked 0).get f :=
  State.get_congr f (State.reg_congr rfl _)

theorem convertersStop_get (s : State) {f : Fld} (hf : f.off < 0x140100)
    (hlocked : f.off = 0x100000 → 5 ≤ f.lsb ∧ f.lsb + f.width ≤ 32) :
    (convertersStop s).get f = s.get f := by
  rw [convertersStop, (windowWork_unfillAll (clockStopped s)).get hf, clockStopped_get]
  by_cases hoff : f.off = 0x100000
  · exact s.get_set_apart F.CNP_CLK_locked f 0 (hlocked hoff).2 (.inr (hlocked hoff).1)
  · exact s.get_set_off F.CNP_CLK_locked f 0 hoff

theorem convertersStop_stopped (s : State) : (convertersStop s).canopy.stopped = true := by
  rw [convertersStop, (windowWork_unfillAll (clockStopped s)).stopped, clockStopped]

section
variable (hsource : s.get F.CNP_CLK_active_src = 1) (hruns : s.canopy.stopped = false) (hframes : s.lanes.frames = [])
  (hrequests : s.search.requests = [])
include hsource hruns

theorem does_of_clockFail {P : State → Prop} (h : P (settle s (if s.get F.CNP_CLK_fallback = 1
      then clockFallsBack (clockFailed s.started) else convertersStop (clockFailed s.started)))) : Does .cnvclkFail s P := by
  refine does_of_effect (exec_cnvclkFail s) (if_pos ?_) h
  rw [State.on, State.get_started, hsource]
  exact congrArg (true && !·) hruns

include hframes hrequests

/-- CNVCLK fails with a fall-back: the internal synthesiser is the source in use. -/
theorem does_cnvclkFail_fallback (hfallback : s.get F.CNP_CLK_fallback = 1)
    (hring : ringProtected s (s.get F.RRC_HEAD_index) = false) :
    Does .cnvclkFail s (fun t => t.get F.CNP_CLK_active_src = 0 ∧ t.get F.CNP_CLK_fell_back = 1 ∧ t.get F.CNP_STAT_clk_fail = 1 ∧
      Counts F.CNP_EVCNT_clk_fail_cnt s t ∧ t.get F.RRC_HEAD_index = (s.get F.RRC_HEAD_index + 1) % 4096) := by
  refine does_of_clockFail hsource hruns ?_
  rw [if_pos hfallback]
  obtain ⟨hflag, hcount, -⟩ := clockFailed_shown (s := s.started) ⟨hframes, hrequests⟩
  refine ⟨?_, ?_, ?_, ?_, ?_⟩
  · exact (settle_get _ _ (by decide)).trans (clockFallsBack_activeSrc _)
  · exact (settle_get _ _ (by decide)).trans (clockFallsBack_fellBack _)
  · exact (settle_get_chainFlag _ _ rfl (by decide)).trans ((clockFallsBack_other _ (by decide)).trans hflag)
  · exact (settle_get _ _ (by decide)).trans ((clockFallsBack_other _ (by decide)).trans hcount)
  · exact (settle_get _ _ (by decide)).trans ((clockFallsBack_other _ (by decide)).trans
      (clockFailed_head (s := s.started) ⟨hframes, hrequests⟩ hring))

/-- CNVCLK fails without one: the converters stop and no window is filled. -/
theorem does_cnvclkFail_stop (hfallback : s.get F.CNP_CLK_fallback = 0) :
    Does .cnvclkFail s (fun t => t.canopy.stopped = true ∧ clockRuns t = false ∧ t.get F.CNP_STAT_clk_fail = 1 ∧
      t.get F.CNP_CLK_fell_back = s.get F.CNP_CLK_fell_back ∧ Counts F.CNP_EVCNT_clk_fail_cnt s t ∧
      ∀ w < 4, t.get (F.CHZ_WIN_CFG_filled w) = 0) := by
  refine does_of_clockFail hsource hruns ?_
  rw [if_neg (by rw [hfallback]; decide)]
  obtain ⟨hflag, hcount, hfell⟩ := clockFailed_shown (s := s.started) ⟨hframes, hrequests⟩
  have hstopped : (settle s (convertersStop (clockFailed s.started))).canopy.stopped = true :=
    (congrArg CanopyState.stopped (settle_canopy _ _)).trans (convertersStop_stopped _)
  refine ⟨hstopped, ?_, ?_, ?_, ?_, fun w hw => ?_⟩
  · rw [clockRuns, hstopped, Bool.not_true, Bool.and_false]
  · exact (settle_get_chainFlag _ _ rfl (by decide)).trans ((convertersStop_get _ (by decide) (by decide)).trans hflag)
  · exact (settle_get _ _ (by decide)).trans ((convertersStop_get _ (by decide) (by decide)).trans hfell)
  · exact (settle_get _ _ (by decide)).trans ((convertersStop_get _ (by decide) (by decide)).trans hcount)
  · have hoff : (F.CHZ_WIN_CFG_filled w).off = 0x140100 + 0x20 * w := rfl
    exact (settle_get _ _ (not_mem_followers (by omega) (by omega))).trans (unfillAll_filled hw _)

end

/-- CNVCLK is not watched while the internal synthesiser is in use. -/
theorem does_cnvclkFail_unused (h : s.get F.CNP_CLK_active_src = 0) : Does .cnvclkFail s (fun t => Frame [] [] s t) := by
  refine does_of_effect (exec_cnvclkFail s) (if_neg ?_) (settle_frame _ _ (frame_of_quiet (.refl s.started)))
  rw [State.on, State.get_started, h]
  exact Bool.false_ne_true

end

end Sys2Proof.Machine
end

section
/-!
SUPPORT. Writes of CNP_CLK (R58 to R60).
-/

namespace Sys2Proof.Machine

theorem accessDomains_cnpClk : accessDomains 0x100000 = [11, 12, 13, 14] := rfl

/-- With PD_RXG0 ON, an access of a common register of the receive chains passes (R450). -/
theorem gate_cnpClk {s : State} (h : s.domOn 11 = true) : gate s (decidingDomain s 0x100000) = .pass := by
  have hdecides : decidingDomain s 0x100000 = 11 := by
    rw [decidingDomain, accessDomains_cnpClk, List.find?_cons_of_pos h]
    rfl
  exact hdecides ▸ gate_of_domOn h

theorem applyWrite_cnpClk (i : Nat) (v : Word) (s : State) : applyWrite i 0x100000 v s = writeCnpClk v s := rfl

theorem exec_cnpClkWrite (s : State) (i : Nat) (v : Word) : exec (.cnpClkWrite i v) s = run (access ⟨i, 0x100000, true, v⟩) s := rfl

theorem does_of_cnpClkWrite {s : State} {i : Nat} {v : Word} {P : State → Prop} (hd : s.domOn 11 = true) (hc : coreFenced s i = false)
    (h : P (settle s (writeCnpClk v s.started))) : Does (.cnpClkWrite i v) s P := by
  have hwrite : access ⟨i, 0x100000, true, v⟩ s.started = writeCnpClk v s.started := by
    rw [access_of_pass rfl hc (gate_cnpClk (s := s.started) hd), performAccess_write v _ (by decide), applyWrite_cnpClk]
  exact does_of_effect (exec_cnpClkWrite s i v) hwrite h

/-- A write asks for a change of source: of src itself, or of src 1 after a fall-back (R60). -/
def changesSource (v : Word) (s : State) : Bool :=
  decide (b2n (v.toNat.testBit 0) ≠ s.get F.CNP_CLK_src) || (decide (b2n (v.toNat.testBit 0) = 1) && s.on F.CNP_CLK_fell_back)

/-- The state in which a source and its fall-back are selected. -/
def sourceSelected (v : Word) (s : State) : State :=
  (s.set F.CNP_CLK_fallback (b2n (v.toNat.testBit 1))).set F.CNP_CLK_src (b2n (v.toNat.testBit 0))

/-- The source selected is the one in use, and has not locked yet. -/
def sourceTaken (src : Nat) (s : State) : State :=
  (({ s with canopy := { s.canopy with stopped := false } } : State).set F.CNP_CLK_active_src src).set F.CNP_CLK_locked 0

theorem writeCnpClk_eq (v : Word) (s : State) : writeCnpClk v s =
    if (changesSource v s && (upTo 16).any (fun n => s.on (F.CNP_CH_CTL_enable n))) = true then s.set F.CNP_STAT_clk_refused 1
    else if (changesSource v s || (sourceSelected v s).canopy.stopped) = true
      then each (upTo 4) unfill (sourceTaken (b2n (v.toNat.testBit 0)) (sourceSelected v s))
      else sourceSelected v s := rfl

theorem changesSource_of {s : State} {v : Word} (hv : v.toNat.testBit 0 = true)
    (hchange : s.get F.CNP_CLK_src = 0 ∨ s.get F.CNP_CLK_fell_back = 1) :
    changesSource v s = true := by
  rw [changesSource, hv, Bool.or_eq_true]
  rcases hchange with h | h
  · exact .inl (by rw [h]; decide)
  · exact .inr (by rw [State.on, h]; decide)

section
variable {s : State} {i : Nat} {v : Word} (hd : s.domOn 11 = true) (hc : coreFenced s i = false) (hv : v.toNat.testBit 0 = true)
  (hchange : s.get F.CNP_CLK_src = 0 ∨ s.get F.CNP_CLK_fell_back = 1)

include hd hc hv hchange

/-- With every chain disabled, CNVCLK is selected: it is the source in use, and the converters run and lock anew. -/
theorem does_cnpClkWrite_taken (hdisabled : ∀ n < 16, s.get (F.CNP_CH_CTL_enable n) = 0) :
    Does (.cnpClkWrite i v) s (fun t => t.get F.CNP_CLK_src = 1 ∧ t.get F.CNP_CLK_active_src = 1 ∧ t.get F.CNP_CLK_locked = 0 ∧
      t.canopy.stopped = false) := by
  have hnone : (upTo 16).any (fun n => s.started.on (F.CNP_CH_CTL_enable n)) = false := by
    refine List.any_eq_false.mpr (fun n hn => ?_)
    rw [State.on, State.get_started, hdisabled n (List.mem_range.mp hn)]
    decide
  refine does_of_cnpClkWrite hd hc ?_
  rw [writeCnpClk_eq, changesSource_of (s := s.started) hv hchange, hnone, hv, Bool.and_false,
    if_neg Bool.false_ne_true, Bool.true_or, if_pos rfl]
  generalize hu : sourceSelected v s.started = u
  have hsrc : u.get F.CNP_CLK_src = 1 := by
    rw [← hu, sourceSelected, hv]
    exact State.get_set_same _ _ 1 (by decide)
  have hunfilled := windowWork_unfillAll (sourceTaken (b2n true) u)
  have hget (f : Fld) (hf : f.off = 0x100000) :
      (settle s (each (upTo 4) unfill (sourceTaken (b2n true) u))).get f = (sourceTaken (b2n true) u).get f :=
    (settle_get _ _ (by rw [hf]; decide)).trans (hunfilled.get (by rw [hf]; decide))
  refine ⟨?_, ?_, ?_, ?_⟩
  · rw [hget _ rfl, sourceTaken, State.get_set_apart _ _ _ _ (by decide) (by decide), State.get_set_apart _ _ _ _ (by decide) (by decide)]
    exact hsrc
  · rw [hget _ rfl, sourceTaken, State.get_set_apart _ _ _ _ (by decide) (by decide)]
    exact State.get_set_same _ _ 1 (by decide)
  · rw [hget _ rfl]
    exact State.get_set_same _ _ 0 (by decide)
  · exact (congrArg CanopyState.stopped (settle_canopy _ _)).trans hunfilled.stopped

/-- With a chain enabled, the write is refused and nothing else happens. -/
theorem does_cnpClkWrite_refused {n : Nat} (hn : n < 16) (henabled : s.get (F.CNP_CH_CTL_enable n) = 1) :
    Does (.cnpClkWrite i v) s (fun t => t.get F.CNP_STAT_clk_refused = 1 ∧ Frame [F.CNP_STAT_clk_refused.off] [] s t) := by
  have hsome : (upTo 16).any (fun n => s.started.on (F.CNP_CH_CTL_enable n)) = true := by
    refine List.any_eq_true.mpr ⟨n, List.mem_range.mpr hn, ?_⟩
    rw [State.on, State.get_started, henabled]
    decide
  refine does_of_cnpClkWrite hd hc ?_
  rw [writeCnpClk_eq, changesSource_of (s := s.started) hv hchange, hsome, if_pos (by decide)]
  exact ⟨(settle_get_chainFlag _ _ rfl (by decide)).trans (s.started.get_set_same _ 1 (by decide)),
    settle_frame _ _ (frame_of_set s.started F.CNP_STAT_clk_refused 1)⟩

end

end Sys2Proof.Machine
end

section
/-!
SUPPORT. The end of a window's fill time (R65), and a window that loses its last included chain with it (R68, R80).
-/

namespace Sys2Proof.Machine

/-- The spare's output for a window is valid (R67): its chains join at the next edge. -/
def spareFilled (w : Nat) (s : State) : State :=
  match s.canopy.spare with
  | .filling i => if i / 2 = w then { s with canopy := { s.canopy with spare := .joining i } } else s
  | _ => s

/-- The chains that rejoined a window have their part in it from now on (R68). -/
def joinersIncluded (w : Nat) (s : State) : State :=
  if s.canopy.joining.any (fun x => decide (x.1 = w)) then
    refreshWindow w { s with canopy := { s.canopy with joining := s.canopy.joining.filter (fun x => decide (x.1 ≠ w)) } }
  else s

/-- A window that still fills has its output valid where the clock runs (R65). -/
def fillEnds (w : Nat) (s : State) : State :=
  if s.canopy.filling.contains w ∧ clockRuns s then fillWindow w (spoilWindow w s) else s

theorem exec_windowFilled (s : State) (w : Nat) :
    exec (.windowFilled w) s = run (fun s => fillEnds w (joinersIncluded w (spareFilled w s))) s := rfl

/-- Window 0 fills, and chain 0 rejoined it; SPC_WIN_INCL still names chain 0, which is not enabled. -/
def lastChainLost : State :=
  { (State.reset.set F.CNP_CLK_locked 1).set (F.SPC_WIN_INCL_incl 0) 1 with canopy := { filling := [0], joining := [(0, 0)] } }

/-- Its included set becomes empty, so that its output becomes invalid (R68) and it fills no more. -/
theorem lastChainLost_unfilled :
    (fillEnds 0 (joinersIncluded 0 (spareFilled 0 lastChainLost.started))).get (F.CHZ_WIN_CFG_filled 0) = 0 := by
  decide +kernel

end Sys2Proof.Machine
end

section
/-!
The statements about the receive front, settled.
-/

namespace Sys2Proof.ReceiveFront

open Machine

/-- Settles O13, one event of the receive chains or of their clock after another. -/
theorem receiveChainEvents : Obligations.ReceiveChainEvents := by
  unfold Obligations.ReceiveChainEvents
  intro s
  refine ⟨fun n hn hdelivers hdetects hfixed => ?fixed, fun n hn hdelivers hdetects hlowest => ?lowest,
    fun n hn hdelivers hdetects hagc hladder => ?step, fun n hpaused => does_overload_paused hpaused,
    fun n hn hdelivers hfirst hlowest => does_saturationStart hn hdelivers hfirst hlowest,
    fun n hsaturated => does_saturationStart_again hsaturated, fun n hn => does_saturationEnd hn,
    fun n hn => does_extLnaSettleEnd hn, fun hruns hunlocked => does_samplingClockLock hruns hunlocked,
    fun hsource hruns hfallback hframes hrequests hring => does_cnvclkFail_fallback hsource hruns hframes hrequests hfallback hring,
    fun hsource hruns hfallback hframes hrequests => does_cnvclkFail_stop hsource hruns hframes hrequests hfallback,
    fun hunused => does_cnvclkFail_unused hunused,
    fun i v hd hdisabled hv hchange hc => does_cnpClkWrite_taken hd hc hv hchange hdisabled,
    fun i n v hd hn henabled hv hchange hc => does_cnpClkWrite_refused hd hc hv hchange hn henabled⟩
  case fixed =>
    have hsteady : ¬ StepsDown n s := fun h => absurd (hfixed.symm.trans h.1) (by decide)
    refine does_imp (does_overload_steady hn hdelivers hdetects hsteady) (fun t ht => ?_)
    obtain ⟨⟨hcount, hflag, hevents⟩, hladder, hpause, hframe⟩ := ht
    exact ⟨hcount, hflag, hevents, hladder, hpause, hframe⟩
  case lowest =>
    have hsteady : ¬ StepsDown n s := fun h => h.2 hlowest
    refine does_imp (does_overload_steady hn hdelivers hdetects hsteady) (fun t ht => ?_)
    obtain ⟨⟨hcount, hflag, hevents⟩, hladder, hpause, -⟩ := ht
    exact ⟨hcount, hflag, hevents, hladder.trans hlowest, hpause⟩
  case step =>
    refine does_imp (does_overload_step hn hdelivers hdetects ⟨hagc, Nat.pos_iff_ne_zero.mp hladder⟩) (fun t ht => ?_)
    obtain ⟨⟨hcount, hflag, hevents⟩, hdown, hpause, hothers⟩ := ht
    exact ⟨hdown, hcount, hflag, hevents, hpause, hothers⟩

/-- Refutes O14: it asks that the output of every window that fills be valid once its fill time has passed, but where the included
set is found empty as the chains that rejoined are taken in, the output becomes invalid and the window fills no more. -/
theorem not_windowsAndQuietMap : ¬ Obligations.WindowsAndQuietMap := by
  unfold Obligations.WindowsAndQuietMap
  intro h
  obtain ⟨hwindow, -⟩ := h lastChainLost
  obtain ⟨t, ht, hfilled, -⟩ := hwindow 0 (by decide) rfl (by decide +kernel)
  rw [exec_windowFilled] at ht
  cases Host.Outcome.next.inj ht
  rw [settle_get _ _ (by decide), lastChainLost_unfilled] at hfilled
  exact absurd hfilled (by decide)

end Sys2Proof.ReceiveFront
end

section
/-!
SUPPORT. A detection that is the same frame as what a stronger beam detected in a mode no pool takes (R85).
-/

namespace Sys2Proof.Machine

/-- The state a detection is made in: the time base has reached its stamp, and the posts are those of that instant. -/
def detectionReached (d : Detection) (s : State) : State := movePosts (s.reach (d.stamp / 256))

/-- The state in which a detection is shown in its stream's status and counted, and is the last of its stream (R84). -/
def detectionRecorded (d : Detection) (s : State) : State :=
  let bin := s.get (F.SPC_STREAM_bin d.stream)
  let cc := catchClass s bin d.stamp
  let s := { s with canopy := { s.canopy with
    spoiltBins := if s.canopy.spoiltBins.contains bin then s.canopy.spoiltBins else s.canopy.spoiltBins ++ [bin] } }
  let s := ((s.set (F.SRH_STREAM_STATUS_in_cell d.stream) (b2n (cc.1 = 0))).set
    (F.SRH_STREAM_STATUS_last_snr d.stream) d.snr).set (F.SRH_STREAM_STATUS_format d.stream) d.format
  let s := s.set (F.SRH_STREAM_STATUS_det_cnt d.stream) (s.get (F.SRH_STREAM_STATUS_det_cnt d.stream) + 1)
  { s with search := { s.search with lastDetection := tabPut s.search.lastDetection d.stream d } }

/-- A detection a searcher makes is recorded, and then merged with those of other beams. -/
def detectionMade (d : Detection) (s : State) : State :=
  mergeDetection d (catchClass s (s.get (F.SPC_STREAM_bin d.stream)) d.stamp) (detectionRecorded d s)

theorem exec_preambleDetect (d : Detection) (s : State) : exec (.preambleDetect d) s = run (fun s =>
    if detectable (detectionReached d s) d then detectionMade d (detectionReached d s) else detectionReached d s) s := rfl

theorem streamState_not_mem_followers {i : Nat} (h : i < 2048) : (F.SRH_STREAM_STATUS_state i).off ∉ followers :=
  not_mem_followers (by simp only [F.SRH_STREAM_STATUS_state]; omega) (by simp only [F.SRH_STREAM_STATUS_state]; omega)

/-- A detection that merges with no request, but with a stronger one in a mode no pool takes, is counted and nothing else. -/
theorem mergeDetection_of_orphan {s : State} {d e : Detection} (cc : Nat × Int × Option (Nat × Nat)) (hkin : kinOf s d = ([], []))
    (he : e ∈ orphans s d) (hkeeps : keeps e.snr e.stream d.snr d.stream = true) :
    mergeDetection d cc s = s.inc F.SRH_MERGE_CNT_count := by
  have hlost : (orphans s d).any (fun e => keeps e.snr e.stream d.snr d.stream) = true := List.any_eq_true.mpr ⟨e, he, hkeeps⟩
  simp only [mergeDetection, hkin, List.filter_nil, List.append_nil, hlost, if_true]

/-- Such a detection leaves its stream in the state it was recorded in: it makes no request. -/
theorem does_preambleDetect_orphan {s u : State} {d e : Detection} (hstream : d.stream < 2048)
    (hmade : detectable (detectionReached d s.started) d = true) (hu : detectionRecorded d (detectionReached d s.started) = u)
    (hkin : kinOf u d = ([], [])) (he : e ∈ orphans u d) (hkeeps : keeps e.snr e.stream d.snr d.stream = true) :
    Does (.preambleDetect d) s (fun t => t.get (F.SRH_STREAM_STATUS_state d.stream) = u.get (F.SRH_STREAM_STATUS_state d.stream)) := by
  subst hu
  refine does_of_effect (exec_preambleDetect d s) ((if_pos hmade).trans (mergeDetection_of_orphan _ hkin he hkeeps)) ?_
  rw [settle_get _ _ (streamState_not_mem_followers hstream)]
  refine State.get_congr _ (State.reg_inc_ne _ _ ?_)
  simp only [F.SRH_STREAM_STATUS_state, F.SRH_MERGE_CNT_count]
  omega

/-! A part whose plan has one SUN-FSK pool, for mode 2: two beams of a bin detect a frame in modes 3 and 2. -/

/-- What the stronger beam, stream 1, detected: mode 3, which the pool does not take. -/
def strongerInMode3 : Detection := ⟨1, 0, 3, 201, 0, 0⟩

/-- What the weaker beam, stream 0, detects: mode 2, which the pool takes. -/
def weakerInMode2 : Detection := ⟨0, 0, 2, 200, 0, 0⟩

/-- The part: stream 0 correlates in a filled window, and lane 543 is the pool's. -/
def mode3Detected : State :=
  { (((((State.reset.set (F.SPC_STREAM_valid 0) 1).set (F.CHZ_WIN_CFG_filled 0) 1).set (F.CHZ_WIN_CFG_bin_code 0) 8).set
      (F.SRH_STREAM_STATUS_state 0) 1).set (F.SRH_LANE_MAP_role 543) 1).set (F.SRH_LANE_MAP_pool 543) 2 with
    stand := { inForce := some { lanes := [⟨2, 0, 4, [1, 0, 0, 0]⟩] } }
    search := { fmtInForce := [(0, 1)], lastDetection := [(1, strongerInMode3)] } }

/-- Stream 0 goes on correlating once its detection is recorded. -/
theorem mode3Detected_recorded_state : (detectionRecorded weakerInMode2 (detectionReached weakerInMode2 mode3Detected.started)).get
    (F.SRH_STREAM_STATUS_state weakerInMode2.stream) = 1 := by decide +kernel

end Sys2Proof.Machine
end

section
/-!
The statement about the searchers and the lane arbiter, settled.
-/

namespace Sys2Proof.Search

open Machine

/-- Refutes O15: it asks that every detection become a request where no request is the same frame, but one that is the same
frame as what a stronger beam detected in a mode no pool takes, which made no request (notes/assumptions/116), is counted as
merged and makes none either (R85). -/
theorem not_searchAndGrant : ¬ Obligations.SearchAndGrant := by
  unfold Obligations.SearchAndGrant
  intro h
  obtain ⟨hunmerged, -⟩ := h mode3Detected
  have hrequests := hunmerged weakerInMode2 2 (by decide +kernel) (by decide) (by decide +kernel) (by decide +kernel)
    (by decide +kernel)
  have hmerges := does_preambleDetect_orphan (s := mode3Detected) (d := weakerInMode2) (e := strongerInMode3) (by decide)
    (by decide +kernel) rfl (by decide +kernel) (by decide +kernel) (by decide)
  obtain ⟨t, -, ⟨-, -, -, hrequesting, -⟩, hcorrelating⟩ := does_and hrequests hmerges
  rw [hrequesting, mode3Detected_recorded_state] at hcorrelating
  exact absurd hcorrelating (by decide)

end Sys2Proof.Search
end

section
/-!
SUPPORT. Entries of a table found after they are put or erased, and the PRN_PRUNED bit of a unit (R385).
-/

namespace Sys2Proof.Machine

theorem tabFind_of_free {α : Type} {t : Tab α} {k : Nat} (h : tabFree t k) : tabFind t k = none := by
  induction t with
  | nil => rfl
  | cons x rest ih => exact (if_neg (h x List.mem_cons_self)).trans (ih (fun y hy => h y (List.mem_cons_of_mem _ hy)))

@[simp] theorem tabFind_erase_same {α : Type} (t : Tab α) (k : Nat) : tabFind (tabErase t k) k = none :=
  tabFind_of_free (tabFree_erase t k)

theorem tabFind_insert_same {α : Type} {t : Tab α} {k : Nat} (v : α) (h : tabFree t k) : tabFind (tabInsert t k v) k = some v := by
  induction t with
  | nil => exact if_pos rfl
  | cons x rest ih =>
    have hk : x.1 ≠ k := h x List.mem_cons_self
    have hrest : tabFree rest k := fun y hy => h y (List.mem_cons_of_mem _ hy)
    by_cases hlt : k < x.1 <;> simp [tabInsert, tabFind, hlt, hk, ih hrest]

@[simp] theorem tabFind_put_same {α : Type} (t : Tab α) (k : Nat) (v : α) : tabFind (tabPut t k v) k = some v :=
  tabFind_insert_same v (tabFree_erase t k)

theorem testBit_putBit_same (x i : Nat) (b : Bool) : (putBit x i b).testBit i = b := by
  cases b with
  | true => simp [putBit, setBit]
  | false =>
    by_cases hbit : x.testBit i = true
    · have hodd : x / 2 ^ i % 2 = 1 := by simpa [Nat.testBit_eq_decide_div_mod_eq] using hbit
      have hless : (x - 2 ^ i) / 2 ^ i = x / 2 ^ i - 1 := by simpa using Nat.sub_mul_div x (2 ^ i) 1
      simp only [putBit, clrBit, hbit, if_true, Bool.false_eq_true, if_false, Nat.testBit_eq_decide_div_mod_eq, hless,
        decide_eq_false_iff_not]
      omega
    · simp [putBit, clrBit, hbit]

/-- Whether a unit is pruned depends on the register of its bit. -/
theorem State.pruned_congr {s t : State} {cls inst : Nat}
    (h : s.reg (F.PRN_PRUNED_pruned cls (inst / 32)).off = t.reg (F.PRN_PRUNED_pruned cls (inst / 32)).off) :
    s.pruned cls inst = t.pruned cls inst := by
  rw [State.pruned, State.pruned, State.get_congr _ h]

/-- A unit is pruned or not as its bit was last set. -/
theorem State.pruned_setPruned (s : State) {cls : Nat} (hcls : 1 ≤ cls ∧ cls ≤ 0x0B) (inst : Nat) (b : Bool) :
    (s.setPruned cls inst b).pruned cls inst = b := by
  have hbit : inst % 32 < (F.PRN_PRUNED_pruned cls (inst / 32)).width := Nat.mod_lt _ (by decide)
  rw [State.pruned, State.setPruned, State.get_set_same _ (F.PRN_PRUNED_pruned cls (inst / 32)) _ (Nat.le_refl 32),
    decide_eq_true hcls, Bool.true_and, bit, Nat.testBit_mod_two_pow, testBit_putBit_same, decide_eq_true hbit, Bool.true_and]

end Sys2Proof.Machine
end

section
/-!
SUPPORT. What the record of a prune changes (R385).
-/

namespace Sys2Proof.Machine

theorem State.reg_when (s : State) (c : Bool) {f : State → State} {off : Nat} (hf : ∀ s, (f s).reg off = s.reg off) :
    (s.when c f).reg off = s.reg off := by
  cases c with
  | true => exact hf s
  | false => rfl

/-- A failed health check is noted in the plan of updates, not in a register. -/
theorem failCheck_reg (types : List Nat) (s : State) (off : Nat) : (failCheck types s).reg off = s.reg off := by
  unfold failCheck
  split
  · split <;> rfl
  · rfl

theorem failLate_reg (types : List Nat) (limit : Nat) (s : State) (off : Nat) : (failLate types limit s).reg off = s.reg off := by
  unfold failLate
  split
  · exact State.reg_when _ _ (fun s => failCheck_reg types s off)
  · rfl

/-- LNE_UCODE.switching is the one field that follows the lanes that still switch. -/
theorem showSwitching_reg (s : State) {off : Nat} (h : off ≠ 0x1E2000) : (showSwitching s).reg off = s.reg off :=
  (State.reg_set_ne _ _ _ h).trans (State.reg_when _ _ (fun s => failLate_reg _ _ s off))

/-- The record of a prune sets the unit's bit, writes PRN_LAST, PRN_LAST_RR and the ring record, and is counted. -/
theorem recordPrune_cases (inst cause : Nat) {cls : Nat} (hcls : 1 ≤ cls) (data : List Byte) (s : State) :
    ∃ u : State, recordPrune cls inst cause data s = u.event F.PRN_STAT_prune F.PRN_EVCNT_prune_cnt ∧
      ∀ off, off ≠ 0x60028 → off ≠ 0x6002C → ¬ RingReg off → u.reg off = (s.setPruned cls inst true).reg off := by
  refine ⟨_, rfl, fun off hlast hindex hring => ?_⟩
  have hlost (c : Bool) (s : State) (v w : Nat) :
      (if c then (s.set F.PRN_LAST_RR_rr_index v).used else s.set F.PRN_LAST_RR_rr_index w).reg off = s.reg off := by
    cases c <;> exact State.reg_set_ne _ _ _ hindex
  rw [State.reg_when _ _ (fun s => failCheck_reg _ s off), State.reg_when _ _ (fun s => failCheck_reg _ s off), ringWrite_reg hring,
    hlost, State.reg_set_ne _ _ _ hlast, State.reg_set_ne _ _ _ hlast, State.reg_set_ne _ _ _ hlast, decide_eq_true hcls]
  rfl

section
variable (s : State) {cls inst : Nat} (cause : Nat) (data : List Byte)

/-- A prune is recorded within the blocks of the prune network and of the ring record. -/
theorem recordPrune_reg (hcls : 1 ≤ cls ∧ cls ≤ 0x0B) (hinst : inst < 1024) {off : Nat} (h : 0x80000 ≤ off) :
    (recordPrune cls inst cause data s).reg off = s.reg off := by
  obtain ⟨u, hu, hreg⟩ := recordPrune_cases inst cause hcls.1 data s
  have hpruned : (F.PRN_PRUNED_pruned cls (inst / 32)).off = 0x60600 + 0x80 * cls + 0x4 * (inst / 32) := rfl
  rw [hu, State.reg_event_ne _ _ _ (by simp only [F.PRN_STAT_prune]; omega) (by simp only [F.PRN_EVCNT_prune_cnt]; omega),
    hreg off (by omega) (by omega) (by omega), State.setPruned, State.reg_set_ne _ _ _ (by omega)]

theorem recordPrune_pruned (hcls : 1 ≤ cls ∧ cls ≤ 0x0B) (hinst : inst < 1024) :
    (recordPrune cls inst cause data s).pruned cls inst = true := by
  obtain ⟨u, hu, hreg⟩ := recordPrune_cases inst cause hcls.1 data s
  have hpruned : (F.PRN_PRUNED_pruned cls (inst / 32)).off = 0x60600 + 0x80 * cls + 0x4 * (inst / 32) := rfl
  refine (State.pruned_congr ?_).trans (s.pruned_setPruned hcls inst true)
  rw [hu, State.reg_event_ne _ _ _ (by simp only [hpruned, F.PRN_STAT_prune]; omega) (by simp only [hpruned, F.PRN_EVCNT_prune_cnt]; omega),
    hreg _ (by omega) (by omega) (by omega)]

theorem recordPrune_counts (hcls : 1 ≤ cls) : Counts F.PRN_EVCNT_prune_cnt s (recordPrune cls inst cause data s) := by
  obtain ⟨u, hu, hreg⟩ := recordPrune_cases inst cause hcls data s
  have hkept : u.get F.PRN_EVCNT_prune_cnt = s.get F.PRN_EVCNT_prune_cnt :=
    State.get_congr _ ((hreg _ (by decide) (by decide) (by decide)).trans
      (State.reg_set_ne _ _ _ (by simp only [F.PRN_EVCNT_prune_cnt, F.PRN_PRUNED_pruned]; omega)))
  rw [Counts, hu, State.get_event_count _ (by decide) (by decide), hkept]

end

end Sys2Proof.Machine
end

section
/-!
SUPPORT. What the lane map, LNE_STATUS and LNE_ST_RESULT show of a lane's self-test (R115), and the record of a lane's prune.
-/

namespace Sys2Proof.Machine

section
variable {n : Nat} (hn : n < 544) (s : State)

/-- The role, the result and the state that a lane shows. -/
abbrev laneShown (n role result state : Nat) (s : State) : State :=
  ((s.set (F.SRH_LANE_MAP_role n) role).set (F.LNE_ST_RESULT_result n) result).set (F.LNE_STATUS_state n) state

theorem startTest_eq (b : SelfTestBy) : startTest n b s = laneShown n 3 1 5 { s with lanes := { s.lanes with
    tests := tabPut s.lanes.tests n b, oldRole := tabPut s.lanes.oldRole n (s.get (F.SRH_LANE_MAP_role n))
    faulted := s.lanes.faulted.filter (fun x => x ≠ n) } } := rfl

theorem stopTest_eq (result : Nat) : stopTest n result s =
    laneShown n (tabGet s.lanes.oldRole n 0) result (if tabGet s.lanes.oldRole n 0 = 2 then 6 else 0) { s with lanes := { s.lanes with
      tests := tabErase s.lanes.tests n, oldRole := tabErase s.lanes.oldRole n } } := rfl

section
include hn

theorem laneShown_role {role : Nat} (result state : Nat) (h : role < 4) :
    (laneShown n role result state s).get (F.SRH_LANE_MAP_role n) = role := by
  rw [State.get_set_off _ _ _ _ (by simp only [F.SRH_LANE_MAP_role, F.LNE_STATUS_state]; omega),
    State.get_set_off _ _ _ _ (by simp only [F.SRH_LANE_MAP_role, F.LNE_ST_RESULT_result]; omega),
    State.get_set_same _ (F.SRH_LANE_MAP_role n) _ (Nat.le_refl 32)]
  exact Nat.mod_eq_of_lt h

theorem laneShown_reg (role result state : Nat) {off : Nat} (h : off < 0x1A2000 ∨ 0x1E2000 ≤ off) :
    (laneShown n role result state s).reg off = s.reg off := by
  rw [State.reg_set_ne _ _ _ (by simp only [F.LNE_STATUS_state]; omega),
    State.reg_set_ne _ _ _ (by simp only [F.LNE_ST_RESULT_result]; omega),
    State.reg_set_ne _ _ _ (by simp only [F.SRH_LANE_MAP_role]; omega)]

end

theorem laneShown_result (role state : Nat) {result : Nat} (h : result < 16) :
    (laneShown n role result state s).get (F.LNE_ST_RESULT_result n) = result := by
  rw [State.get_set_off _ _ _ _ (by simp only [F.LNE_ST_RESULT_result, F.LNE_STATUS_state]; omega),
    State.get_set_same _ (F.LNE_ST_RESULT_result n) _ (show 0 + 4 ≤ 32 by decide)]
  exact Nat.mod_eq_of_lt h

theorem laneShown_state (role result : Nat) {state : Nat} (h : state < 8) :
    (laneShown n role result state s).get (F.LNE_STATUS_state n) = state := by
  rw [State.get_set_same _ (F.LNE_STATUS_state n) _ (show 0 + 3 ≤ 32 by decide)]
  exact Nat.mod_eq_of_lt h

/-- The close of a command leaves the registers of the searchers, of the lane map and of the lanes. -/
theorem settle_get_lanes (s0 s : State) {f : Fld} (h : 0x1A0000 ≤ f.off) : (settle s0 s).get f = s.get f :=
  settle_get s0 s (not_mem_followers (by omega) (by omega))

theorem settle_lanes (s0 s : State) : (settle s0 s).lanes = s.lanes := settle_same .lanes s0 s

/-- The registers of a lane lie above the searchers' common ones. -/
theorem laneRegs_off (n : Nat) : 0x1A0000 ≤ (F.SRH_LANE_MAP_role n).off ∧ 0x1A0000 ≤ (F.LNE_STATUS_state n).off ∧
    0x1A0000 ≤ (F.LNE_ST_RESULT_result n).off ∧ 0x1A0000 ≤ (F.LNE_PRUNE_CAUSE_cause n).off := by
  simp only [F.SRH_LANE_MAP_role, F.LNE_STATUS_state, F.LNE_ST_RESULT_result, F.LNE_PRUNE_CAUSE_cause]
  omega

/-- A self-test of a lane runs, started as `b` says. -/
abbrev TestRuns (n : Nat) (b : SelfTestBy) (t : State) : Prop := t.get (F.SRH_LANE_MAP_role n) = 3 ∧
  t.get (F.LNE_ST_RESULT_result n) = 1 ∧ t.get (F.LNE_STATUS_state n) = 5 ∧ tabFind t.lanes.tests n = some b

include hn in
/-- A self-test started by a command runs when the command is over. -/
theorem settle_startTest (s0 : State) (b : SelfTestBy) : TestRuns n b (settle s0 (startTest n b s)) := by
  obtain ⟨hrole, hstate, hresult, -⟩ := laneRegs_off n
  rw [TestRuns, settle_get_lanes _ _ hrole, settle_get_lanes _ _ hresult, settle_get_lanes _ _ hstate, settle_lanes, startTest_eq]
  exact ⟨laneShown_role hn _ _ _ (by decide), laneShown_result _ _ _ (by decide), laneShown_state _ _ _ (by decide),
    tabFind_put_same ..⟩

/-! The end of a self-test. -/

/-- The state in which the end of a self-test is shown. -/
def testShown (n result us : Nat) (s : State) : State :=
  ((stopTest n result s).set (F.LNE_ST_RESULT_duration_us n) (min us 65535)).set F.LNE_STAT_selftest_done 1

/-- What the failure of a self-test brings with it, of a lane that had `role`. -/
def testFailed (n result : Nat) (b : SelfTestBy) (role : Nat) (s : State) : State :=
  let s := s.event F.LNE_STAT_selftest_fail F.LNE_EVCNT_selftest_fail_cnt
  let s := if b = .software then ringWrite s 0x13 1 n (19 + n / 136) 3 (leBytes 1 result) false else s
  if role = 0 then recordLanePrune n 3 s else if b = .readmission then s else s.inc F.PRN_FENCE_DROP_CNT_count

/-- A background test of a spare that fails prunes the spare, and writes no event of its own. -/
theorem testFailed_timer (result : Nat) : testFailed n result .timer 0 s =
    recordLanePrune n 3 (s.event F.LNE_STAT_selftest_fail F.LNE_EVCNT_selftest_fail_cnt) := rfl

include hn in
theorem testShown_reg (result us : Nat) {off : Nat} (h : off < 0x1A2000 ∨ 0x1E2010 < off) :
    (testShown n result us s).reg off = s.reg off := by
  rw [testShown, State.reg_set_ne _ _ _ (by simp only [F.LNE_STAT_selftest_done]; omega),
    State.reg_set_ne _ _ _ (by simp only [F.LNE_ST_RESULT_duration_us]; omega), stopTest_eq, laneShown_reg hn _ _ _ _ (by omega)]
  rfl

theorem testShown_result (us : Nat) {result : Nat} (h : result < 16) :
    (testShown n result us s).get (F.LNE_ST_RESULT_result n) = result := by
  rw [testShown, State.get_set_off _ _ _ _ (by simp only [F.LNE_ST_RESULT_result, F.LNE_STAT_selftest_done]; omega),
    State.get_set_apart _ (F.LNE_ST_RESULT_duration_us n) (F.LNE_ST_RESULT_result n) _ (show 0 + 4 ≤ 32 by decide)
      (.inl (show 0 + 4 ≤ 16 by decide)), stopTest_eq, laneShown_result _ _ _ h]

theorem testShown_duration (result : Nat) {us : Nat} (h : us < 65536) :
    (testShown n result us s).get (F.LNE_ST_RESULT_duration_us n) = us := by
  rw [testShown, State.get_set_off _ _ _ _ (by simp only [F.LNE_ST_RESULT_duration_us, F.LNE_STAT_selftest_done]; omega),
    State.get_set_same _ (F.LNE_ST_RESULT_duration_us n) _ (Nat.le_refl 32), Nat.min_eq_left (by omega)]
  exact Nat.mod_eq_of_lt h

theorem testShown_done (result us : Nat) : (testShown n result us s).get F.LNE_STAT_selftest_done = 1 :=
  State.get_set_same _ _ 1 (by decide)

include hn in
theorem testShown_role (result us : Nat) (h : tabGet s.lanes.oldRole n 0 < 4) :
    (testShown n result us s).get (F.SRH_LANE_MAP_role n) = tabGet s.lanes.oldRole n 0 := by
  rw [testShown, State.get_set_off _ _ _ _ (by simp only [F.SRH_LANE_MAP_role, F.LNE_STAT_selftest_done]; omega),
    State.get_set_off _ _ _ _ (by simp only [F.SRH_LANE_MAP_role, F.LNE_ST_RESULT_duration_us]; omega), stopTest_eq,
    laneShown_role hn _ _ _ h]

theorem testShown_tests (result us : Nat) : tabFind (testShown n result us s).lanes.tests n = none := tabFind_erase_same ..

/-! The record of a lane's prune (R385). -/

/-- The state in which a lane's prune is in PRN_LAST and in the lane's own cause register. -/
abbrev lanePruneNoted (n cause : Nat) (s : State) : State :=
  let s := recordPrune 1 n cause [] (laneFaulted n s)
  (s.set (F.LNE_PRUNE_CAUSE_rr_index n) (s.get F.PRN_LAST_RR_rr_index)).set (F.LNE_PRUNE_CAUSE_cause n) (min cause 15)

theorem recordLanePrune_eq (cause : Nat) : recordLanePrune n cause s =
    showSwitching (((lanePruneNoted n cause s).setReg (0x1A2000 + 4 * n) 0x80000000#32).set (F.LNE_STATUS_state n) 6) := rfl

theorem recordLanePrune_cause {cause : Nat} (h : cause < 16) : (recordLanePrune n cause s).get (F.LNE_PRUNE_CAUSE_cause n) = cause := by
  have hoff : (F.LNE_PRUNE_CAUSE_cause n).off = 0x1C000C + 0x100 * n := rfl
  have hreg : (recordLanePrune n cause s).reg (F.LNE_PRUNE_CAUSE_cause n).off
      = (lanePruneNoted n cause s).reg (F.LNE_PRUNE_CAUSE_cause n).off := by
    rw [recordLanePrune_eq, showSwitching_reg _ (by omega), State.reg_set_ne _ _ _ (by simp only [hoff, F.LNE_STATUS_state]; omega),
      State.reg_setReg_ne _ _ (by omega)]
  rw [State.get_congr _ hreg, State.get_set_same _ (F.LNE_PRUNE_CAUSE_cause n) _ (show 0 + 4 ≤ 32 by decide), Nat.min_eq_left (by omega)]
  exact Nat.mod_eq_of_lt h

section
include hn

/-- Outside the lane map and the lanes' registers, a lane's prune changes what the record of a prune changes. -/
theorem recordLanePrune_reg (cause : Nat) {off : Nat} (h : off < 0x1A2000 ∨ 0x1E2000 < off) :
    (recordLanePrune n cause s).reg off = (recordPrune 1 n cause [] (laneFaulted n s)).reg off := by
  rw [recordLanePrune_eq, showSwitching_reg _ (by omega), State.reg_set_ne _ _ _ (by simp only [F.LNE_STATUS_state]; omega),
    State.reg_setReg_ne _ _ (by omega), State.reg_set_ne _ _ _ (by simp only [F.LNE_PRUNE_CAUSE_cause]; omega),
    State.reg_set_ne _ _ _ (by simp only [F.LNE_PRUNE_CAUSE_rr_index]; omega)]

theorem recordLanePrune_role (cause : Nat) : (recordLanePrune n cause s).get (F.SRH_LANE_MAP_role n) = 2 := by
  have hreg : (recordLanePrune n cause s).reg (0x1A2000 + 4 * n) = 0x80000000#32 := by
    rw [recordLanePrune_eq, showSwitching_reg _ (by omega), State.reg_set_ne _ _ _ (by simp only [F.LNE_STATUS_state]; omega),
      State.reg_setReg_same]
  exact congrArg (wordField · 30 2) hreg

theorem recordLanePrune_pruned (cause : Nat) : (recordLanePrune n cause s).pruned 1 n = true :=
  (State.pruned_congr (recordLanePrune_reg hn s cause (.inl (by simp only [F.PRN_PRUNED_pruned]; omega)))).trans
    (recordPrune_pruned _ _ _ (by decide) (by omega))

theorem recordLanePrune_counts (cause : Nat) : Counts F.PRN_EVCNT_prune_cnt s (recordLanePrune n cause s) :=
  (State.get_congr _ (recordLanePrune_reg hn s cause (.inl (by decide)))).trans (recordPrune_counts (laneFaulted n s) _ _ (by decide))

/-- A lane's prune leaves the registers after LNE_UCODE. -/
theorem recordLanePrune_reg_above (cause : Nat) {off : Nat} (h : 0x1E2000 < off) : (recordLanePrune n cause s).reg off = s.reg off := by
  rw [recordLanePrune_reg hn _ _ (.inr h), recordPrune_reg _ _ _ (by decide) (by omega) (by omega)]
  rfl

end

end

end Sys2Proof.Machine
end

section
/-!
SUPPORT. Self-tests of lanes and their return to service (R115 to R117), one command after another.
-/

namespace Sys2Proof.Machine

/-- A command of a domain that is ON has its effect (R364). -/
theorem does_of_runIn {c : Instr} {s u : State} {d : Nat} {f : State → State} {P : State → Prop} (hc : exec c s = runIn d f s)
    (hd : s.domOn d = true) (hu : f s.started = u) (h : P (settle s u)) : Does c s P :=
  does_of_effect hc ((if_pos hd).trans hu) h

theorem exec_laneSelftestDone (s : State) (n result us : Nat) : exec (.laneSelftestDone n result us) s = runIn (19 + n / 136) (fun s =>
    match tabFind s.lanes.tests n with
    | none => s
    | some b =>
      if clamp 2 6 result = 2 then testShown n (clamp 2 6 result) us s
      else testFailed n (clamp 2 6 result) b (tabGet s.lanes.oldRole n 0) (testShown n (clamp 2 6 result) us s)) s := rfl

/-- The state in which the next turn of a bank is that of the lane after `n`. -/
abbrev turnPassed (bank n : Nat) (s : State) : State :=
  { s with lanes := { s.lanes with nextSpare := tabPut s.lanes.nextSpare bank (n % 136 + 1) } }

theorem exec_spareTestTimer (s : State) (bank : Nat) : exec (.spareTestTimer bank) s = run (fun s =>
    if bank < 4 ∧ s.get F.LNE_SPARE_TEST_period_s ≠ 0 ∧ s.domOn (19 + bank) ∧
        !s.lanes.tests.any (fun (n, b) => decide (n / 136 = bank ∧ b = .timer)) then
      match (spareTurn s bank).head? with
      | some n => startTest n .timer (turnPassed bank n s)
      | none => s
    else s) s := rfl

section
variable {s : State} {n : Nat} (hn : n < 544)

/-! LNE_CTL (R115, R116). -/

theorem writeLneCtl_starts (h : s.get (F.SRH_LANE_MAP_role n) = 0 ∨ s.get (F.SRH_LANE_MAP_role n) = 2) :
    writeLneCtl n 1#32 s = startTest n .software s := by
  have hidle : ¬ (s.get (F.SRH_LANE_MAP_role n) = 1 ∨ s.get (F.SRH_LANE_MAP_role n) = 3) := by omega
  simp only [writeLneCtl, hidle, if_false]
  rfl

theorem writeLneCtl_refused (h : s.get (F.SRH_LANE_MAP_role n) = 1) : writeLneCtl n 1#32 s = s.set (F.LNE_ST_RESULT_result n) 8 := by
  simp only [writeLneCtl, h, true_or, if_true]
  rfl

/-- The state in which a pruned lane is a spare again. -/
def laneReadmitted (n : Nat) (s : State) : State :=
  let s := s.setPruned 1 n false
  ({ s with lanes := { s.lanes with fenced := tabErase s.lanes.fenced n } }.setReg (0x1A2000 + 4 * n) 0#32).set (F.LNE_STATUS_state n) 0

theorem loadUcode_of_current (h : s.lanes.oldUcode = []) : loadUcode n s = s := by
  simp only [loadUcode, h, List.contains_nil, Bool.false_eq_true, if_false]

theorem writeLneCtl_readmits (hrole : s.get (F.SRH_LANE_MAP_role n) = 2) (hpass : s.get (F.LNE_ST_RESULT_result n) = 2)
    (hfault : s.lanes.faulted.contains n = false) (hucode : s.lanes.oldUcode = []) : writeLneCtl n 2#32 s = laneReadmitted n s := by
  have hguard : s.get (F.SRH_LANE_MAP_role n) = 2 ∧ s.get (F.LNE_ST_RESULT_result n) = 2 ∧ (!s.lanes.faulted.contains n) = true :=
    ⟨hrole, hpass, by rw [hfault]; rfl⟩
  have hwrite : writeLneCtl n 2#32 s = loadUcode n (laneReadmitted n s) := if_pos hguard
  exact hwrite.trans (loadUcode_of_current hucode)

section
include hn

theorem accessDomains_lane : accessDomains (0x1C0000 + 0x100 * n) = [19 + n / 136] := by
  have hindex : (0x1C0000 + 0x100 * n - 0x1C0000) / 0x100 = n := by omega
  unfold accessDomains
  iterate 8 rw [if_neg (by omega)]
  rw [if_pos (by omega), hindex]

/-- A write of LNE_CTL, the lane's domain ON and the initiator no pruned core, is carried out (R372, R387). -/
theorem laneCtl_of_pass {i : Nat} (v : Word) (hd : s.domOn (19 + n / 136) = true) (hc : coreFenced s i = false) :
    laneCtl i n v s = writeLneCtl n v s :=
  (if_neg (by omega)).trans (gatedAs_of_pass none _ hc (gate_of_single (accessDomains_lane hn) hd))

/-- LANE_SELFTEST of a spare or pruned lane (R115). -/
theorem does_laneSelftest {i : Nat} (hd : s.domOn (19 + n / 136) = true)
    (hrole : s.get (F.SRH_LANE_MAP_role n) = 0 ∨ s.get (F.SRH_LANE_MAP_role n) = 2) (hc : coreFenced s i = false) :
    Does (.laneSelftest i n) s (TestRuns n .software) :=
  does_of_effect rfl ((laneCtl_of_pass (s := s.started) hn 1#32 hd hc).trans (writeLneCtl_starts hrole)) (settle_startTest hn _ _ _)

/-- LANE_SELFTEST of a working lane is refused (R115). -/
theorem does_laneSelftest_refused {i : Nat} (hd : s.domOn (19 + n / 136) = true) (hrole : s.get (F.SRH_LANE_MAP_role n) = 1)
    (hc : coreFenced s i = false) : Does (.laneSelftest i n) s (fun t => t.get (F.LNE_ST_RESULT_result n) = 8 ∧
      t.get (F.SRH_LANE_MAP_role n) = 1 ∧ t.lanes = s.lanes) := by
  obtain ⟨hroleOff, -, hresultOff, -⟩ := laneRegs_off n
  refine does_of_effect rfl ((laneCtl_of_pass (s := s.started) hn 1#32 hd hc).trans (writeLneCtl_refused hrole))
    ⟨?_, ?_, settle_lanes _ _⟩
  · rw [settle_get_lanes _ _ hresultOff]
    exact State.get_set_same _ (F.LNE_ST_RESULT_result n) 8 (show 0 + 4 ≤ 32 by decide)
  · rw [settle_get_lanes _ _ hroleOff, State.get_set_off _ _ _ _ (by simp only [F.SRH_LANE_MAP_role, F.LNE_ST_RESULT_result]; omega)]
    exact hrole

theorem laneReadmitted_pruned (s : State) : (laneReadmitted n s).pruned 1 n = false := by
  refine (State.pruned_congr ?_).trans (s.pruned_setPruned (cls := 1) (by decide) n false)
  rw [laneReadmitted, State.reg_set_ne _ _ _ (by simp only [F.PRN_PRUNED_pruned, F.LNE_STATUS_state]; omega),
    State.reg_setReg_ne _ _ (by simp only [F.PRN_PRUNED_pruned]; omega)]
  rfl

theorem laneReadmitted_role (s : State) : (laneReadmitted n s).get (F.SRH_LANE_MAP_role n) = 0 := by
  have hreg : (laneReadmitted n s).reg (0x1A2000 + 4 * n) = 0#32 := by
    rw [laneReadmitted, State.reg_set_ne _ _ _ (by simp only [F.LNE_STATUS_state]; omega), State.reg_setReg_same]
  exact congrArg (wordField · 30 2) hreg

theorem settle_pruned_lane (s0 s : State) : (settle s0 s).pruned 1 n = s.pruned 1 n :=
  State.pruned_congr (settle_reg _ _ (not_mem_followers (by simp only [F.PRN_PRUNED_pruned]; omega)
    (by simp only [F.PRN_PRUNED_pruned]; omega)))

/-- LANE_READMIT of a pruned lane with a passing result and no fault since (R116). -/
theorem does_laneReadmit {i : Nat} (hd : s.domOn (19 + n / 136) = true) (hrole : s.get (F.SRH_LANE_MAP_role n) = 2)
    (hpass : s.get (F.LNE_ST_RESULT_result n) = 2) (hfault : s.lanes.faulted.contains n = false) (hucode : s.lanes.oldUcode = [])
    (hc : coreFenced s i = false) : Does (.laneReadmit i n) s (fun t => t.pruned 1 n = false ∧
      t.get (F.SRH_LANE_MAP_role n) = 0 ∧ t.get (F.LNE_STATUS_state n) = 0) := by
  obtain ⟨hroleOff, hstateOff, -⟩ := laneRegs_off n
  refine does_of_effect rfl ((laneCtl_of_pass (s := s.started) hn 2#32 hd hc).trans
    (writeLneCtl_readmits hrole hpass hfault hucode)) ⟨?_, ?_, ?_⟩
  · rw [settle_pruned_lane hn, laneReadmitted_pruned hn]
  · rw [settle_get_lanes _ _ hroleOff, laneReadmitted_role hn]
  · rw [settle_get_lanes _ _ hstateOff]
    exact State.get_set_same _ (F.LNE_STATUS_state n) 0 (show 0 + 3 ≤ 32 by decide)

/-! LANE_SELFTEST_DONE (R115). -/

/-- A self-test that passes gives the lane its role back. -/
theorem does_laneSelftestDone_pass {us : Nat} {b : SelfTestBy} (htest : tabFind s.lanes.tests n = some b)
    (hold : tabGet s.lanes.oldRole n 0 < 4) (hus : us < 65536) (hd : s.domOn (19 + n / 136) = true) :
    Does (.laneSelftestDone n 2 us) s (fun t => t.get (F.LNE_ST_RESULT_result n) = 2 ∧
      t.get (F.LNE_ST_RESULT_duration_us n) = us ∧ t.get (F.SRH_LANE_MAP_role n) = tabGet s.lanes.oldRole n 0 ∧
      t.get F.LNE_STAT_selftest_done = 1 ∧ tabFind t.lanes.tests n = none) := by
  obtain ⟨hroleOff, -, hresultOff, -⟩ := laneRegs_off n
  have hfind : tabFind s.started.lanes.tests n = some b := htest
  refine does_of_runIn (u := testShown n 2 us s.started) (exec_laneSelftestDone s n 2 us) hd ?effect ⟨?_, ?_, ?_, ?_, ?_⟩
  case effect =>
    simp only [hfind]
    exact if_pos rfl
  · rw [settle_get_lanes _ _ hresultOff, testShown_result _ _ (by decide)]
  · rw [settle_get_lanes (f := F.LNE_ST_RESULT_duration_us n) _ _ hresultOff, testShown_duration _ _ hus]
  · rw [settle_get_lanes _ _ hroleOff, testShown_role hn s.started _ _ hold]
  · rw [settle_get_lanes _ _ (by decide), testShown_done]
  · rw [settle_lanes, testShown_tests]

/-- A background self-test of a spare that fails is counted and prunes the spare with cause 3. -/
theorem does_laneSelftestDone_fail {us : Nat} (htest : tabFind s.lanes.tests n = some .timer)
    (hold : tabGet s.lanes.oldRole n 0 = 0) (hd : s.domOn (19 + n / 136) = true) :
    Does (.laneSelftestDone n 3 us) s (fun t => t.pruned 1 n = true ∧ t.get (F.SRH_LANE_MAP_role n) = 2 ∧
      t.get (F.LNE_PRUNE_CAUSE_cause n) = 3 ∧ Counts F.LNE_EVCNT_selftest_fail_cnt s t ∧ Counts F.PRN_EVCNT_prune_cnt s t) := by
  obtain ⟨hroleOff, -, -, hcauseOff⟩ := laneRegs_off n
  have hfind : tabFind s.started.lanes.tests n = some .timer := htest
  have hspare : tabGet s.started.lanes.oldRole n 0 = 0 := hold
  refine does_of_runIn
    (u := recordLanePrune n 3 ((testShown n 3 us s.started).event F.LNE_STAT_selftest_fail F.LNE_EVCNT_selftest_fail_cnt))
    (exec_laneSelftestDone s n 3 us) hd ?effect ⟨?_, ?_, ?_, ?_, ?_⟩
  case effect =>
    simp only [hfind, hspare]
    exact (if_neg (by decide)).trans (testFailed_timer _ _)
  · rw [settle_pruned_lane hn, recordLanePrune_pruned hn]
  · rw [settle_get_lanes _ _ hroleOff, recordLanePrune_role hn]
  · rw [settle_get_lanes _ _ hcauseOff, recordLanePrune_cause _ (by decide)]
  · rw [Counts, settle_get_lanes _ _ (by decide), State.get_congr _ (recordLanePrune_reg_above hn _ _ (by decide)),
      State.get_event_count _ (by decide) (by decide), State.get_congr _ (testShown_reg hn s.started _ _ (.inr (by decide)))]
    rfl
  · rw [Counts, settle_get _ _ (by decide), recordLanePrune_counts hn, State.get_event_other _ (by decide) (by decide),
      State.get_congr _ (testShown_reg hn s.started _ _ (.inl (by decide)))]
    rfl

/-! SPARE_TEST_TIMER (R117). -/

/-- The bank's timer starts a test of the spare whose turn is next (R117). -/
theorem does_spareTestTimer {b : Nat} (hb : b < 4) (hperiod : s.get F.LNE_SPARE_TEST_period_s ≠ 0) (hd : s.domOn (19 + b) = true)
    (htests : s.lanes.tests = []) (hturn : (spareTurn s b).head? = some n) : Does (.spareTestTimer b) s (TestRuns n .timer) := by
  have hidle : (!s.started.lanes.tests.any (fun (n, x) => decide (n / 136 = b ∧ x = .timer))) = true := by
    have hnone : s.started.lanes.tests = [] := htests
    rw [hnone]
    rfl
  have hnext : (spareTurn s.started b).head? = some n := hturn
  refine does_of_effect (u := startTest n .timer (turnPassed b n s.started)) (exec_spareTestTimer s b)
    ((if_pos ⟨hb, hperiod, hd, hidle⟩).trans ?_) (settle_startTest hn _ _ _)
  simp only [hnext]

end

end

end Sys2Proof.Machine
end

section
/-!
The statement about the self-tests of the demodulation lanes, settled.
-/

namespace Sys2Proof.Lanes

open Machine

/-- Settles O17, one command of a lane or event of its self-test after another. -/
theorem laneTests : Obligations.LaneTests := by
  unfold Obligations.LaneTests
  intro s
  refine ⟨fun i n hn hd hrole hc => does_laneSelftest hn hd hrole hc,
    fun i n hn hd hrole hc => does_laneSelftest_refused hn hd hrole hc,
    fun n us b hn htest hold hus hd => does_laneSelftestDone_pass hn htest hold hus hd,
    fun n us hn htest hold _ hd => does_laneSelftestDone_fail hn htest hold hd,
    fun i n hn hd hrole hpass hfault hucode hc => does_laneReadmit hn hd hrole hpass hfault hucode hc,
    fun b n hb hperiod hd htests hturn hn => does_imp (does_spareTestTimer hn hb hperiod hd htests hturn) ?_⟩
  rintro t ⟨hrole, -, hstate, htest⟩
  exact ⟨htest, hrole, hstate⟩

end Sys2Proof.Lanes
end

section
/-!
SUPPORT. Time that passes to an instant (R241): the timer units that tick meanwhile leave the regulatory state as it was.
-/

namespace Sys2Proof.Machine

theorem each_rgp {α : Type} {f : α → State → State} (hf : ∀ x s, (f x s).rgp = s.rgp) (l : List α) (s : State) :
    (each l f s).rgp = s.rgp :=
  each_keeps (P := fun t : State => t.rgp = s.rgp) (fun x t h => (hf x t).trans h) l rfl

theorem when_rgp {f : State → State} (hf : ∀ s, (f s).rgp = s.rgp) (b : Bool) (s : State) : (s.when b f).rgp = s.rgp := by
  cases b with
  | true => exact hf s
  | false => rfl

theorem ite_rgp {c : Prop} [Decidable c] {s t u : State} (ht : t.rgp = s.rgp) (hu : u.rgp = s.rgp) :
    (if c then t else u).rgp = s.rgp := iteInduction (motive := fun v : State => v.rgp = s.rgp) (fun _ => ht) (fun _ => hu)

theorem Quiet.rgp {s t : State} (h : Quiet s t) : t.rgp = s.rgp := h.2 .profile

section
variable (s : State)

/-! One timer unit. -/

theorem wakeAllowed_rgp (d : Nat) : (wakeAllowed d s).rgp = s.rgp := when_rgp (fun s => (quiet_wakeDomain d s).rgp) _ s

theorem wakeSource_rgp (code srcDomain detail : Nat) : (wakeSource code srcDomain detail s).rgp = s.rgp := by
  have hwoken (l : List Nat) (u : State) : (each l (fun d s => s.when (decide (d ≠ 27)) (wakeAllowed d)) u).rgp = u.rgp :=
    each_rgp (fun d s => when_rgp (fun s => wakeAllowed_rgp s d) _ s) l u
  simp only [wakeSource, apply_ite State.rgp, State.emit_rgp, State.set_rgp, State.setPair_rgp, State.event_rgp, hwoken, ite_self]

theorem unitFlag_rgp (u b : Nat) : (unitFlag u b s).rgp = s.rgp := ite_rgp (wakeSource_rgp _ 8 1 u) rfl

theorem driveOut_rgp (u : Nat) : (driveOut u s).rgp = s.rgp := by
  unfold driveOut
  dsimp only
  split
  · split <;> rfl
  · rfl

theorem matchChannel_rgp (u k : Nat) : (matchChannel u k s).rgp = s.rgp :=
  ite_rgp (unitFlag_rgp s u (1 + k)) (unitFlag_rgp s u (1 + k))

theorem unitOverflows_rgp (u : Nat) : (unitOverflows u s).rgp = s.rgp := by
  have hset (c : Bool) (u : State) (f : Fld) (v : Nat) : (u.setIf c f v).rgp = u.rgp := by cases c <;> rfl
  have hlinks (t : State) : (issueLinks u 0 (t.setIf (t.on (F.TMU_CTL_oneshot u)) (F.TMU_CTL_run u) 0)).rgp = t.rgp := hset ..
  have hflag : ((unitFlag u 0 (s.set (F.TMU_CNT_count u) 0)).inc (F.TMU_UEVCNT_ovf_cnt u)).rgp = s.rgp :=
    unitFlag_rgp (s.set (F.TMU_CNT_count u) 0) u 0
  exact ite_rgp ((hlinks _).trans hflag) ((hlinks _).trans hflag)

theorem countUnit_rgp (u : Nat) : (countUnit u s).rgp = s.rgp :=
  (each_rgp (fun k s => matchChannel_rgp s u k) _ _).trans (ite_rgp (unitOverflows_rgp _ u) rfl)

theorem wrapPresc_rgp (u : Nat) : (wrapPresc u s).rgp = s.rgp := when_rgp (fun s => countUnit_rgp s u) _ _

theorem clockUnit_rgp (u : Nat) : (clockUnit u s).rgp = s.rgp := ite_rgp rfl (ite_rgp rfl (wrapPresc_rgp s u))

theorem startUnit_rgp (u : Nat) : (startUnit u s).rgp = s.rgp := rfl

theorem arriveLink_rgp (m : LinkMsg) : (arriveLink m s).rgp = s.rgp :=
  ite_rgp rfl (ite_rgp rfl (ite_rgp (ite_rgp (clockUnit_rgp s m.dst) rfl) (ite_rgp rfl (startUnit_rgp s m.dst))))

theorem latch_rgp (v u k : Nat) : (latch v u k s).rgp = s.rgp := by
  have hflag (t : State) : (issueLinks u (5 + k) ((unitFlag u (5 + k) t).inc (F.TMU_UEVCNT_cap_cnt u))).rgp = t.rgp := unitFlag_rgp ..
  have hoverrun : (if s.on (F.TMU_CH_ST_new u k) then (s.set (F.TMU_CH_ST_ovr u k) 1).inc (F.TMU_UEVCNT_ovr_cnt u) else s).rgp = s.rgp :=
    ite_rgp rfl rfl
  exact (hflag _).trans hoverrun

/-! One tick, and the ticks to an instant. -/

theorem arriveGroup_rgp (ms : List LinkMsg) : (arriveGroup ms s).rgp = s.rgp := by
  have harrive (l : List LinkMsg) (t : State) : (each l arriveLink t).rgp = t.rgp := each_rgp (fun m s => arriveLink_rgp s m) l t
  exact (harrive _ _).trans ((harrive _ _).trans ((harrive _ _).trans (harrive _ _)))

theorem clockSource_rgp (src : Nat) (skip : List Nat) : (clockSource src skip s).rgp = s.rgp :=
  each_rgp (fun u s => clockUnit_rgp s u) _ s

theorem clockEdges_rgp (edges : List (Nat × Bool)) (skip : List Nat) : (clockEdges edges skip s).rgp = s.rgp :=
  each_rgp (fun _ s => each_rgp (fun u s => clockUnit_rgp s u) _ s) edges s

theorem outsReach_rgp : (outsReach s).rgp = s.rgp := each_rgp (fun u s => driveOut_rgp s u) _ _

theorem compareWritten_rgp : (compareWritten s).rgp = s.rgp :=
  each_rgp (fun (x : Nat × Nat) s => when_rgp (fun s => matchChannel_rgp s x.1 x.2) _ s) _ _

theorem captureAll_rgp (chs : List (Nat × Nat)) : (captureAll chs s).rgp = s.rgp :=
  each_rgp (fun (x : Nat × Nat) s => latch_rgp s _ x.1 x.2) chs s

theorem tickCaptures_rgp (ms sec : Bool) (edges : List (Nat × Bool)) : (tickCaptures ms sec edges s).rgp = s.rgp :=
  captureAll_rgp _ _

theorem tickUnits_rgp (ms sec : Bool) : (tickUnits ms sec s).rgp = s.rgp := by
  unfold tickUnits
  dsimp only
  rw [tickCaptures_rgp, compareWritten_rgp, clockEdges_rgp, when_rgp (fun s => clockSource_rgp s _ _),
    when_rgp (fun s => clockSource_rgp s _ _), clockSource_rgp, arriveGroup_rgp]
  exact outsReach_rgp s

theorem timeTick_rgp : (timeTick s).rgp = s.rgp := tickUnits_rgp _ _ _

theorem ticksTo_rgp (n t : Nat) : (ticksTo n t s).rgp = s.rgp := by
  induction n generalizing s with
  | zero => rfl
  | succ n ih =>
    exact ite_rgp ((ih _).trans (timeTick_rgp s)) rfl

/-- The state once the timer units that act meanwhile have ticked to an instant. -/
def ticked (t : Nat) : State := if unitsQuiet s then s else ticksTo (ticksLeft s t) t s

/-- The ticks reach the instant, or time passes to it. -/
theorem reach_cases (t : Nat) : (t ≤ (ticked s t).now ∧ s.reach t = ticked s t) ∨
    ((ticked s t).now < t ∧ s.reach t = { ticked s t with time := { (ticked s t).time with ns := t, frac := 0 } }) := by
  by_cases h : (ticked s t).time.ns < t
  · exact .inr ⟨h, if_pos h⟩
  · exact .inl ⟨Nat.le_of_not_lt h, if_neg h⟩

theorem reach_rgp (t : Nat) : (s.reach t).rgp = s.rgp := by
  have hticked : (ticked s t).rgp = s.rgp := ite_rgp rfl (ticksTo_rgp ..)
  obtain ⟨-, h⟩ | ⟨-, h⟩ := reach_cases s t <;> rw [h] <;> exact hticked

/-- The instant is reached, whatever ticks meanwhile. -/
theorem le_reach_now (t : Nat) : t ≤ (s.reach t).now := by
  obtain ⟨hle, h⟩ | ⟨-, h⟩ := reach_cases s t
  · exact h ▸ hle
  · exact h ▸ Nat.le_refl t

/-- An instant to come is met to the nanosecond where no timer unit acts before it. -/
theorem reach_now_of_quiet {s : State} {t : Nat} (hquiet : unitsQuiet s = true) (hlt : s.now < t) : (s.reach t).now = t := by
  have hticked : ticked s t = s := if_pos hquiet
  obtain ⟨hle, -⟩ | ⟨-, h⟩ := reach_cases s t
  · exact absurd (hticked ▸ hle) (Nat.not_le.mpr hlt)
  · exact h ▸ rfl

theorem settle_rgp (s0 s : State) : (settle s0 s).rgp = s.rgp := settle_same .profile s0 s

theorem settle_now (s0 s : State) : (settle s0 s).now = s.now := congrArg TimeState.ns (settle_same .time s0 s)

end

end Sys2Proof.Machine
end

section
/-!
SUPPORT. A new bucket of the duty and dwell accounts (R151, R152).
-/

namespace Sys2Proof.Machine

theorem mem_pruneAccount {acc : Tab Nat} {b : Nat} {x : Nat × Nat} (h : x ∈ pruneAccount acc b) : b ≤ x.1 + 16 :=
  of_decide_eq_true (List.mem_filter.mp h).2

/-- The accounts of the chosen keys without the buckets that no window reaches any more at bucket `b`. -/
def prunedWhere (p : Nat → Prop) [DecidablePred p] (b : Nat) (t : Tab (Tab Nat)) : Tab (Tab Nat) :=
  t.map (fun (k, a) => if p k then (k, pruneAccount a b) else (k, a))

section
variable {p : Nat → Prop} [DecidablePred p] {k : Nat} {b : Nat}

theorem prunedWhere_cons (k' : Nat) (a : Tab Nat) (rest : Tab (Tab Nat)) :
    prunedWhere p b ((k', a) :: rest) = (k', if p k' then pruneAccount a b else a) :: prunedWhere p b rest :=
  congrArg (· :: prunedWhere p b rest) (apply_ite (Prod.mk k') (p k') (pruneAccount a b) a).symm

theorem tabGet_prunedWhere (t : Tab (Tab Nat)) :
    tabGet (prunedWhere p b t) k [] = if p k then pruneAccount (tabGet t k []) b else tabGet t k [] := by
  induction t with
  | nil => exact (ite_self []).symm
  | cons x rest ih =>
    obtain ⟨k', a⟩ := x
    rw [prunedWhere_cons]
    by_cases hk : k' = k
    · subst hk
      simp only [tabGet, if_true]
    · simp only [tabGet, hk, if_false, ih]

theorem mem_tabGet_prunedWhere {t : Tab (Tab Nat)} {x : Nat × Nat} (hk : p k) (h : x ∈ tabGet (prunedWhere p b t) k []) :
    b ≤ x.1 + 16 :=
  mem_pruneAccount ((tabGet_prunedWhere t).trans (if_pos hk) ▸ h)

theorem tabGet_prunedWhere_other (t : Tab (Tab Nat)) (hk : ¬ p k) : tabGet (prunedWhere p b t) k [] = tabGet t k [] :=
  (tabGet_prunedWhere t).trans (if_neg hk)

end

/-- A warning changes the set of ranges warned of, the flag and its counter. -/
theorem warnDuty_cases (r : Nat) (s : State) : ∃ w, warnDuty r s = { s with rgp := { s.rgp with warned := w } } ∨
    warnDuty r s = State.event { s with rgp := { s.rgp with warned := w } } F.RGP_STAT_duty_warn F.RGP_EVCNT_duty_warn_cnt := by
  unfold warnDuty
  dsimp only
  split
  · exact ⟨_, .inr rfl⟩
  · split
    · exact ⟨s.rgp.warned, .inl rfl⟩
    · exact ⟨_, .inl rfl⟩

theorem warnDuty_rgp (r : Nat) (s : State) : ∃ w, (warnDuty r s).rgp = { s.rgp with warned := w } := by
  obtain ⟨w, h | h⟩ := warnDuty_cases r s <;> exact ⟨w, h ▸ rfl⟩

theorem warnDuty_now (r : Nat) (s : State) : (warnDuty r s).now = s.now := by
  obtain ⟨w, h | h⟩ := warnDuty_cases r s <;> rw [h] <;> rfl

/-- The instant at which the next bucket begins. -/
abbrev nextBucket (s : State) (len : Nat) : Nat := (s.now / len + 1) * len

/-- From `s` time has passed to the next bucket's boundary at least, and to no later instant where no timer unit acts. -/
def BucketBegun (s : State) (len : Nat) (u : State) : Prop :=
  u.rgp = s.rgp ∧ nextBucket s len ≤ u.now ∧ (unitsQuiet s = true → u.now = nextBucket s len) ∧ s.now / len + 1 ≤ u.now / len

theorem bucketBegun_reach (s : State) {len : Nat} (hpos : 0 < len) : BucketBegun s len (s.reach (nextBucket s len)) := by
  have hnow : s.now < nextBucket s len := (Nat.div_lt_iff_lt_mul hpos).mp (Nat.lt_succ_self _)
  have hle := le_reach_now s (nextBucket s len)
  exact ⟨reach_rgp s _, hle, fun hquiet => reach_now_of_quiet hquiet hnow, (Nat.le_div_iff_mul_le hpos).mpr hle⟩

/-- The state in which the duty account of a range is rid of the buckets out of reach. -/
def dutyPruned (r b : Nat) (s : State) : State := { s with rgp := { s.rgp with duty := prunedWhere (· = r) b s.rgp.duty } }

/-- The dwell channels of a range of a profile, by their place among all. -/
abbrev dwellPlaces (p : List Byte) (r : Nat) : List Nat := (upTo (dwellCount p r)).map (dwellFirst p r + ·)

/-- The state in which the dwell accounts at these places are rid of the buckets out of reach. -/
def dwellPruned (ks : List Nat) (b : Nat) (s : State) : State :=
  { s with rgp := { s.rgp with dwell := prunedWhere (· ∈ ks) b s.rgp.dwell } }

theorem mem_dwellPlaces {p : List Byte} {r k : Nat} :
    k ∈ dwellPlaces p r ↔ dwellFirst p r ≤ k ∧ k < dwellFirst p r + dwellCount p r := by
  simp only [dwellPlaces, upTo, List.mem_map, List.mem_range]
  constructor
  · rintro ⟨i, hi, rfl⟩
    exact ⟨Nat.le_add_right _ _, Nat.add_lt_add_left hi _⟩
  · rintro ⟨hlo, hhi⟩
    exact ⟨k - dwellFirst p r, by omega, by omega⟩

theorem exec_dutyBucketAdvance_duty (s : State) (r : Nat) : exec (.dutyBucketAdvance r false) s = run (fun s =>
    if dutyBucket s.rgp.inForce r = 0 then s
    else warnDuty r (dutyPruned r ((s.reach (nextBucket s (dutyBucket s.rgp.inForce r))).now / dutyBucket s.rgp.inForce r)
      (s.reach (nextBucket s (dutyBucket s.rgp.inForce r))))) s := by
  change execDutyBucketAdvance r false s = _
  simp only [execDutyBucketAdvance, Bool.false_eq_true, if_false]
  rfl

theorem exec_dutyBucketAdvance_dwell (s : State) (r : Nat) : exec (.dutyBucketAdvance r true) s = run (fun s =>
    if dwellBucket s.rgp.inForce r = 0 then s
    else dwellPruned (dwellPlaces s.rgp.inForce r)
      ((s.reach (nextBucket s (dwellBucket s.rgp.inForce r))).now / dwellBucket s.rgp.inForce r)
      (s.reach (nextBucket s (dwellBucket s.rgp.inForce r)))) s := by
  change execDutyBucketAdvance r true s = _
  simp only [execDutyBucketAdvance, List.contains_iff_mem, if_true]
  rfl

section
variable {s : State} {r len : Nat} {P : State → Prop} (hpos : 0 < len)
include hpos

theorem does_of_dutyBucket (hlen : dutyBucket s.rgp.inForce r = len)
    (h : ∀ u, BucketBegun s len u → P (settle s (warnDuty r (dutyPruned r (u.now / len) u)))) :
    Does (.dutyBucketAdvance r false) s P := by
  subst hlen
  exact does_of_effect (exec_dutyBucketAdvance_duty s r) (if_neg (Nat.ne_of_gt hpos)) (h _ (bucketBegun_reach s.started hpos))

theorem does_of_dwellBucket (hlen : dwellBucket s.rgp.inForce r = len)
    (h : ∀ u, BucketBegun s len u → P (settle s (dwellPruned (dwellPlaces s.rgp.inForce r) (u.now / len) u))) :
    Does (.dutyBucketAdvance r true) s P := by
  subst hlen
  exact does_of_effect (exec_dutyBucketAdvance_dwell s r) (if_neg (Nat.ne_of_gt hpos)) (h _ (bucketBegun_reach s.started hpos))

/-- DUTY_BUCKET_ADVANCE of a duty account (R151). -/
theorem does_dutyBucketAdvance_duty (hlen : dutyBucket s.rgp.inForce r = len) : Does (.dutyBucketAdvance r false) s (fun t =>
    nextBucket s len ≤ t.now ∧ (unitsQuiet s = true → t.now = nextBucket s len) ∧
      (∀ x ∈ tabGet t.rgp.duty r [], s.now / len + 1 ≤ x.1 + 16) ∧ t.rgp.dwell = s.rgp.dwell ∧ t.rgp.inForce = s.rgp.inForce ∧
      (∀ q, q ≠ r → tabGet t.rgp.duty q [] = tabGet s.rgp.duty q [])) := by
  refine does_of_dutyBucket hpos hlen ?_
  rintro u ⟨hrgp, hnow, hquiet, hbucket⟩
  obtain ⟨w, hwarned⟩ := warnDuty_rgp r (dutyPruned r (u.now / len) u)
  rw [settle_rgp, settle_now, warnDuty_now, hwarned]
  exact ⟨hnow, hquiet, fun x hx => Nat.le_trans hbucket (mem_tabGet_prunedWhere (p := (· = r)) rfl hx), hrgp ▸ rfl, hrgp ▸ rfl,
    fun q hq => (tabGet_prunedWhere_other (p := (· = r)) u.rgp.duty hq).trans (hrgp ▸ rfl)⟩

/-- DUTY_BUCKET_ADVANCE of a range's dwell accounts (R152). -/
theorem does_dutyBucketAdvance_dwell (hlen : dwellBucket s.rgp.inForce r = len) : Does (.dutyBucketAdvance r true) s (fun t =>
    nextBucket s len ≤ t.now ∧ (unitsQuiet s = true → t.now = nextBucket s len) ∧ t.rgp.duty = s.rgp.duty ∧
      t.rgp.inForce = s.rgp.inForce ∧
      (∀ k, dwellFirst s.rgp.inForce r ≤ k → k < dwellFirst s.rgp.inForce r + dwellCount s.rgp.inForce r →
        ∀ x ∈ tabGet t.rgp.dwell k [], s.now / len + 1 ≤ x.1 + 16) ∧
      (∀ k, k < dwellFirst s.rgp.inForce r ∨ dwellFirst s.rgp.inForce r + dwellCount s.rgp.inForce r ≤ k →
        tabGet t.rgp.dwell k [] = tabGet s.rgp.dwell k [])) := by
  refine does_of_dwellBucket hpos hlen ?_
  rintro u ⟨hrgp, hnow, hquiet, hbucket⟩
  rw [settle_rgp, settle_now]
  refine ⟨hnow, hquiet, hrgp ▸ rfl, hrgp ▸ rfl, fun k hlo hhi x hx => ?reached, fun k hk => ?others⟩
  case reached =>
    have hin : k ∈ dwellPlaces s.rgp.inForce r := mem_dwellPlaces.mpr ⟨hlo, hhi⟩
    exact Nat.le_trans hbucket (mem_tabGet_prunedWhere (p := (· ∈ dwellPlaces s.rgp.inForce r)) hin hx)
  case others =>
    have hout : k ∉ dwellPlaces s.rgp.inForce r := fun h => by
      have := mem_dwellPlaces.mp h
      omega
    exact (tabGet_prunedWhere_other (p := (· ∈ dwellPlaces s.rgp.inForce r)) u.rgp.dwell hout).trans (hrgp ▸ rfl)

end

end Sys2Proof.Machine
end

section
/-!
SUPPORT. The regulatory profile: shown in its registers, loaded as boot does, programmed to OTP (R147, R155, R156).
-/

namespace Sys2Proof.Machine

section
variable {s : State}

/-! What showing and loading a profile changes. -/

theorem showProfile_rgp (source : Nat) (p : List Byte) (s : State) : (showProfile source p s).rgp = { s.rgp with inForce := p } := rfl

/-- A profile is shown in the three registers below RGP_STAT. -/
theorem showProfile_get (source : Nat) (p : List Byte) (s : State) {f : Fld} (h : 0x240008 < f.off) :
    (showProfile source p s).get f = s.get f := by
  have hset (t : State) (g : Fld) (v : Nat) (hg : g.off ≤ 0x240008) : (t.set g v).get f = t.get f := t.get_set_off g f v (by omega)
  unfold showProfile
  dsimp only
  iterate 5 rw [hset _ _ _ (by decide)]
  exact State.get_congr f (State.reg_congr rfl _)

theorem showProfile_source {source : Nat} (p : List Byte) (s : State) (h : source < 4) :
    (showProfile source p s).get F.RGP_PROFILE_source = source := by
  unfold showProfile
  dsimp only
  rw [State.get_set_off _ _ _ _ (by decide), State.get_set_off _ _ _ _ (by decide), State.get_set_same _ _ _ (by decide)]
  exact Nat.mod_eq_of_lt h

theorem loadProfile_cases (s : State) : ∃ source p, loadProfile s = showProfile source p s := by
  unfold loadProfile
  split
  · exact ⟨_, _, rfl⟩
  · split <;> exact ⟨_, _, rfl⟩

/-- With no replacement held, what is in force is the profile of OTP (R147). -/
theorem loadProfile_of_otp (hslots : s.rgp.slots = []) (hvalid : profileValid s.rgp.otp = true) (hdead : s.rgp.otpDead = false) :
    loadProfile s = showProfile 1 s.rgp.otp s := by
  have hbest : bestSlot s = none := by simp [bestSlot, hslots]
  simp [loadProfile, hbest, hvalid, hdead]

/-! RGP_OTP_CTL.go (R156). -/

/-- Where in DRAM the staged profile stands (R156). -/
abbrev stagedAt (s : State) : Nat := s.pair F.RGP_OTP_ADDR_LO_addr F.RGP_OTP_ADDR_HI_addr / 16 * 16

/-- The state in which a profile stands in OTP. -/
abbrev otpWritten (p : List Byte) (readback : Bool) (s : State) : State := { s with rgp := { s.rgp with otp := p, otpDead := !readback } }

/-- A write of go without the conditions of R156 sets otp_fail. -/
theorem programProfile_refused {vpp : Bool} (readback : Bool) (hlc : s.get F.BRK_LC_state ≤ 1)
    (h : s.rgp.otp ≠ [] ∨ ¬ (vpp = true ∧ profileValid (s.dramRead (stagedAt s) 512) = true)) :
    programProfile vpp readback s = s.set F.RGP_STAT_otp_fail 1 := by
  refine (if_pos hlc).trans (if_neg ?_)
  rintro ⟨hempty, hvpp, -, hvalid⟩
  exact h.elim (· (List.isEmpty_iff.mp hempty)) (· ⟨hvpp, hvalid⟩)

/-- A valid staged profile is programmed where none is yet, and loaded once read back. -/
theorem programProfile_programs (readback : Bool) (hlc : s.get F.BRK_LC_state ≤ 1) (hotp : s.rgp.otp = [])
    (hdram : s.dramOk (stagedAt s) 512 = true) (hvalid : profileValid (s.dramRead (stagedAt s) 512) = true) :
    programProfile true readback s =
      if readback then (loadProfile (otpWritten (s.dramRead (stagedAt s) 512) readback s)).set F.RGP_STAT_otp_done 1
      else (otpWritten (s.dramRead (stagedAt s) 512) readback s).set F.RGP_STAT_otp_fail 1 :=
  (if_pos hlc).trans (if_pos ⟨List.isEmpty_iff.mpr hotp, rfl, hdram, hvalid⟩)

section
variable {i : Nat} {vpp readback : Bool} (hd : s.domOn 2 = true) (hc : coreFenced s i = false)
include hd hc

theorem does_of_programProfile {P : State → Prop} (h : P (settle s (programProfile vpp readback s.started))) :
    Does (.profileOtpProgram i vpp readback) s P :=
  does_of_effect rfl (gatedAs_of_pass (s := s.started) none (a := ⟨i, 0x24002C, true, 1#32⟩) _ hc
    (gate_of_single (accessDomains_regulatory (off := 0x24002C) (by decide)) hd)) h

variable (hlc : s.get F.BRK_LC_state ≤ 1)
include hlc

/-- PROFILE_OTP_PROGRAM that is refused (R156). -/
theorem does_profileOtpProgram_refused
    (h : s.rgp.otp ≠ [] ∨ ¬ (vpp = true ∧ profileValid (s.dramRead (stagedAt s) 512) = true)) :
    Does (.profileOtpProgram i vpp readback) s (fun t => t.get F.RGP_STAT_otp_fail = 1 ∧
      t.get F.RGP_STAT_otp_done = s.get F.RGP_STAT_otp_done ∧ Frame [F.RGP_STAT_otp_fail.off] [] s t) := by
  refine does_of_programProfile hd hc ?_
  rw [programProfile_refused (s := s.started) readback hlc h]
  refine ⟨?_, ?_, settle_frame _ _ (frame_of_set s.started F.RGP_STAT_otp_fail 1)⟩
  · rw [settle_get _ _ (by decide), State.get_set_same _ _ _ (by decide)]
    rfl
  · rw [settle_get _ _ (by decide), State.get_set_apart _ _ _ _ (by decide) (by decide), State.get_started]

section
variable (hotp : s.rgp.otp = []) (hdram : s.dramOk (stagedAt s) 512 = true)
  (hvalid : profileValid (s.dramRead (stagedAt s) 512) = true)
include hotp hdram hvalid

/-- PROFILE_OTP_PROGRAM whose bytes do not read back equal (R156). -/
theorem does_profileOtpProgram_unread : Does (.profileOtpProgram i true false) s (fun t =>
    t.rgp = { s.rgp with otp := s.dramRead (stagedAt s) 512, otpDead := true } ∧ t.get F.RGP_STAT_otp_fail = 1 ∧
      t.get F.RGP_STAT_otp_done = s.get F.RGP_STAT_otp_done) := by
  refine does_of_programProfile hd hc ?_
  rw [programProfile_programs (s := s.started) false hlc hotp hdram hvalid, if_neg Bool.false_ne_true]
  refine ⟨settle_rgp _ _, ?_, ?_⟩
  · rw [settle_get _ _ (by decide), State.get_set_same _ _ _ (by decide)]
    rfl
  · rw [settle_get _ _ (by decide), State.get_set_apart _ _ _ _ (by decide) (by decide)]
    exact State.get_started s _

/-- PROFILE_OTP_PROGRAM whose bytes read back equal (R156): with no replacement held, the profile is in force. -/
theorem does_profileOtpProgram_done : Does (.profileOtpProgram i true true) s (fun t =>
    t.rgp.otp = s.dramRead (stagedAt s) 512 ∧ t.rgp.otpDead = false ∧ t.get F.RGP_STAT_otp_done = 1 ∧
      t.get F.RGP_STAT_otp_fail = s.get F.RGP_STAT_otp_fail ∧
      (s.rgp.slots = [] → t.rgp.inForce = s.dramRead (stagedAt s) 512 ∧ t.get F.RGP_PROFILE_source = 1)) := by
  refine does_of_programProfile hd hc ?_
  have hprog : programProfile true true s.started = (loadProfile (otpWritten (s.dramRead (stagedAt s) 512) true s.started)).set
      F.RGP_STAT_otp_done 1 := (programProfile_programs (s := s.started) true hlc hotp hdram hvalid).trans (if_pos rfl)
  rw [hprog]
  generalize s.dramRead (stagedAt s) 512 = q at *
  have hforce (hslots : s.rgp.slots = []) : loadProfile (otpWritten q true s.started) = showProfile 1 q (otpWritten q true s.started) :=
    loadProfile_of_otp (s := otpWritten q true s.started) hslots hvalid rfl
  obtain ⟨source, p, hload⟩ := loadProfile_cases (otpWritten q true s.started)
  refine ⟨?_, ?_, ?_, ?_, fun hslots => ⟨?_, ?_⟩⟩
  · rw [settle_rgp, State.set_rgp, hload, showProfile_rgp]
  · rw [settle_rgp, State.set_rgp, hload, showProfile_rgp]
    rfl
  · rw [settle_get _ _ (by decide), State.get_set_same _ _ _ (by decide)]
    rfl
  · rw [settle_get _ _ (by decide), State.get_set_apart _ _ _ _ (by decide) (by decide), hload, showProfile_get _ _ _ (by decide)]
    exact State.get_started s _
  · rw [settle_rgp, State.set_rgp, hforce hslots, showProfile_rgp]
  · rw [settle_get _ _ (by decide), State.get_set_off _ _ _ _ (by decide), hforce hslots, showProfile_source _ _ (by decide)]

end

/-- PROFILE_OTP_PROGRAM where OTP holds no profile (R156). -/
theorem does_profileOtpProgram_empty {p : List Byte} (hotp : s.rgp.otp = []) (hdram : s.dramOk (stagedAt s) 512 = true)
    (hp : s.dramRead (stagedAt s) 512 = p) : Does (.profileOtpProgram i vpp readback) s (fun t =>
      t.rgp.otp = (if vpp && profileValid p then p else []) ∧
      t.rgp.otpDead = (if vpp && profileValid p then !readback else s.rgp.otpDead) ∧
      t.get F.RGP_STAT_otp_done = (if vpp && readback && profileValid p then 1 else s.get F.RGP_STAT_otp_done) ∧
      t.get F.RGP_STAT_otp_fail = (if vpp && readback && profileValid p then s.get F.RGP_STAT_otp_fail else 1) ∧
      (vpp = true → readback = true → profileValid p = true → s.rgp.slots = [] →
        t.rgp.inForce = p ∧ t.get F.RGP_PROFILE_source = 1)) := by
  subst hp
  by_cases hgo : vpp = true ∧ profileValid (s.dramRead (stagedAt s) 512) = true
  · obtain ⟨rfl, hvalid⟩ := hgo
    cases readback with
    | true =>
      refine does_imp (does_profileOtpProgram_done hd hc hlc hotp hdram hvalid) ?_
      rintro t ⟨hprog, halive, hdone, hfail, hforce⟩
      simp only [hvalid, Bool.and_true, if_true]
      exact ⟨hprog, halive, hdone, hfail, fun _ _ _ => hforce⟩
    | false =>
      refine does_imp (does_profileOtpProgram_unread hd hc hlc hotp hdram hvalid) ?_
      rintro t ⟨hrgp, hfail, hdone⟩
      simp only [hvalid, Bool.and_true, Bool.and_false, if_true, Bool.false_eq_true, if_false]
      exact ⟨hrgp ▸ rfl, hrgp ▸ rfl, hdone, hfail, fun _ h => h.elim⟩
  · have hno : (vpp && profileValid (s.dramRead (stagedAt s) 512)) = false := by simpa using hgo
    have hnone : (vpp && readback && profileValid (s.dramRead (stagedAt s) 512)) = false := by
      rw [Bool.and_right_comm, hno, Bool.false_and]
    refine does_imp (does_profileOtpProgram_refused hd hc hlc (.inr hgo)) ?_
    rintro t ⟨hfail, hdone, -, hparts⟩
    have hrgp : t.rgp = s.rgp := hparts .profile List.not_mem_nil
    simp only [hno, hnone, Bool.false_eq_true, if_false, hrgp]
    exact ⟨hotp, trivial, hdone, hfail, fun hv _ hvalid => absurd ⟨hv, hvalid⟩ hgo⟩

end

end

end Sys2Proof.Machine
end

section
/-!
SUPPORT. Warnings of duty accounts and work on Heartwood's keys and generations leave the profile in force as it was.
-/

namespace Sys2Proof.Machine

/-- The regulatory state but the ranges warned of, and what the registers show of a replacement, are as before. -/
def KeepsInForce (s t : State) : Prop :=
  (∃ w, t.rgp = { s.rgp with warned := w }) ∧ t.get F.RGP_STAT_switched = s.get F.RGP_STAT_switched ∧
    t.get F.RGP_PROFILE_pending = s.get F.RGP_PROFILE_pending

section
variable {s t u : State}

theorem keepsInForce_of_same (hregs : t.regs = s.regs) (hrgp : t.rgp = s.rgp) : KeepsInForce s t :=
  ⟨⟨s.rgp.warned, hrgp⟩, State.get_congr _ (State.reg_congr hregs _), State.get_congr _ (State.reg_congr hregs _)⟩

theorem KeepsInForce.refl (s : State) : KeepsInForce s s := keepsInForce_of_same rfl rfl

theorem KeepsInForce.trans (h : KeepsInForce s t) (k : KeepsInForce t u) : KeepsInForce s u := by
  obtain ⟨⟨w, hrgp⟩, hswitched, hpending⟩ := h
  obtain ⟨⟨w', hrgp'⟩, hswitched', hpending'⟩ := k
  exact ⟨⟨w', by rw [hrgp', hrgp]⟩, hswitched'.trans hswitched, hpending'.trans hpending⟩

theorem keepsInForce_ite {c : Prop} [Decidable c] (ht : KeepsInForce s t) (hu : KeepsInForce s u) :
    KeepsInForce s (if c then t else u) := iteInduction (fun _ => ht) (fun _ => hu)

theorem keepsInForce_each {α : Type} {f : α → State → State} (hf : ∀ x s, KeepsInForce s (f x s)) (l : List α) (s : State) :
    KeepsInForce s (each l f s) :=
  each_keeps (P := KeepsInForce s) (fun x t h => h.trans (hf x t)) l (.refl s)

end

theorem keepsInForce_warnDuty (r : Nat) (s : State) : KeepsInForce s (warnDuty r s) := by
  obtain ⟨w, h | h⟩ := warnDuty_cases r s
  · exact h ▸ ⟨⟨w, rfl⟩, State.get_congr _ (State.reg_congr rfl _), State.get_congr _ (State.reg_congr rfl _)⟩
  · refine h ▸ ⟨⟨w, rfl⟩, ?_, ?_⟩
    · rw [State.event, State.inc, State.get_add_off _ _ (by decide), State.get_set_apart _ _ _ _ (by decide) (by decide)]
      exact State.get_congr _ (State.reg_congr rfl _)
    · rw [State.get_event_other _ (by decide) (by decide)]
      exact State.get_congr _ (State.reg_congr rfl _)

/-! Heartwood's registers lie above those of the regulatory block (R23). -/

section
variable (s : State)

theorem keepsInForce_setReg {off : Nat} (w : Word) (h : 0x400000 ≤ off) : KeepsInForce s (s.setReg off w) :=
  ⟨⟨s.rgp.warned, rfl⟩, State.get_congr _ (s.reg_setReg_ne w (by simp only [F.RGP_STAT_switched]; omega)),
    State.get_congr _ (s.reg_setReg_ne w (by simp only [F.RGP_PROFILE_pending]; omega))⟩

theorem keepsInForce_set {f : Fld} (v : Nat) (h : 0x400000 ≤ f.off) : KeepsInForce s (s.set f v) := keepsInForce_setReg s _ h

theorem keepsInForce_setWords {fld : Nat → Fld} (h : ∀ j, 0x400000 ≤ (fld j).off) (l : List Byte) :
    KeepsInForce s (setWords fld l s) :=
  keepsInForce_each (fun j s => keepsInForce_set s _ (h j)) _ s

/-! Key slots (R284 to R286). -/

theorem keepsInForce_maskTaken : KeepsInForce s (maskTaken s) := keepsInForce_ite (keepsInForce_of_same rfl rfl) (.refl s)

theorem keepsInForce_fillSlot (i : Nat) (key : List Byte) (usage requester lifetime source expiry : Nat) :
    KeepsInForce s (fillSlot i key usage requester lifetime source expiry s) := by
  have hattr (t : State) (f : Nat → Fld) (v : Nat) (hf : (f i).off = 0x401000 + 8 * i) : KeepsInForce t (t.set (f i) v) :=
    keepsInForce_set t v (by omega)
  have hexpiry (t : State) : KeepsInForce t (t.set (F.HWD_SLOT_EXP_expiry i) expiry) :=
    keepsInForce_set t expiry (by simp only [F.HWD_SLOT_EXP_expiry]; omega)
  refine .trans ?_ (hexpiry _)
  refine .trans ?_ (hattr _ F.HWD_SLOT_ATTR_source source rfl)
  refine .trans ?_ (hattr _ F.HWD_SLOT_ATTR_lifetime lifetime rfl)
  refine .trans ?_ (hattr _ F.HWD_SLOT_ATTR_requester requester rfl)
  refine .trans ?_ (hattr _ F.HWD_SLOT_ATTR_usage usage rfl)
  refine .trans ?_ (hattr _ F.HWD_SLOT_ATTR_valid 1 rfl)
  exact .trans (keepsInForce_of_same rfl rfl) (keepsInForce_maskTaken _)

theorem keepsInForce_clearSlot (i : Nat) : KeepsInForce s (clearSlot i s) :=
  .trans (.trans (keepsInForce_of_same rfl rfl) (keepsInForce_setReg _ 0#32 (Nat.le_add_right_of_le (by decide))))
    (keepsInForce_setReg _ 0#32 (Nat.le_add_right_of_le (by decide)))

theorem keepsInForce_deriveSlot (i : Nat) : KeepsInForce s (deriveSlot i s) := by
  unfold deriveSlot
  split
  · exact keepsInForce_fillSlot ..
  · exact .refl s

theorem keepsInForce_rederive (i : Nat) : KeepsInForce s (rederive i s) := keepsInForce_ite (keepsInForce_deriveSlot s i) (.refl s)

/-! The journal, the generations and the measurements (R281, R296, R317). -/

theorem keepsInForce_putRecord (q : Nat) (whole : Bool) (r : KuRecord) : KeepsInForce s (putRecord q whole r s) :=
  keepsInForce_of_same rfl rfl

theorem keepsInForce_commit (whole : Bool) (r : KuRecord) (fuel : Nat) : KeepsInForce s (commit whole r fuel s) := by
  induction fuel generalizing s with
  | zero => exact keepsInForce_putRecord ..
  | succ fuel ih =>
    unfold commit
    dsimp only
    split
    · exact keepsInForce_ite ((keepsInForce_putRecord ..).trans (ih _)) (keepsInForce_putRecord ..)
    · exact keepsInForce_putRecord ..

/-- The states of the generations are shown and noted in MRAM, and the journal takes a record of it. -/
theorem setGens_cases (g0 g1 : Nat) : ∃ r, setGens g0 g1 s = commit true r 256
    { ((s.set F.HWD_GEN_gen0 g0).set F.HWD_GEN_gen1 g1).set F.HWD_GEN_current (if g1 = 2 then 1 else 0) with
      nv := { s.nv with genStates := (g0, g1) } } := ⟨_, rfl⟩

theorem keepsInForce_setGens (g0 g1 : Nat) : KeepsInForce s (setGens g0 g1 s) := by
  have hshown : KeepsInForce s ((s.set F.HWD_GEN_gen0 g0).set F.HWD_GEN_gen1 g1) :=
    (keepsInForce_set s g0 (by decide)).trans (keepsInForce_set _ g1 (by decide))
  have hcurrent := hshown.trans (keepsInForce_set _ (f := F.HWD_GEN_current) (if g1 = 2 then 1 else 0) (by decide))
  obtain ⟨r, h⟩ := setGens_cases s g0 g1
  rw [h]
  exact (hcurrent.trans (keepsInForce_of_same rfl rfl)).trans (keepsInForce_commit ..)

theorem keepsInForce_moveGens (g a b : Nat) : KeepsInForce s (moveGens g a b s) :=
  keepsInForce_ite (keepsInForce_setGens s a b) (keepsInForce_setGens s b a)

theorem keepsInForce_recommit (g : Nat) : KeepsInForce s (recommit g s) := by
  refine keepsInForce_ite (.refl s) (keepsInForce_each (fun r s => keepsInForce_ite ?_ (.refl s)) _ s)
  split
  · exact keepsInForce_commit ..
  · exact .refl s

theorem keepsInForce_setMeasurement (i : Nat) (m : List Byte) : KeepsInForce s (setMeasurement i m s) := by
  have hwords := keepsInForce_setWords s (fld := F.HWD_MEAS_bytes i) (fun j => by simp only [F.HWD_MEAS_bytes]; omega) m
  have hfinal := hwords.trans (keepsInForce_set _ (f := F.HWD_STATUS_meas_final)
    (setBit ((setWords (F.HWD_MEAS_bytes i) m s).get F.HWD_STATUS_meas_final) i) (by decide))
  exact keepsInForce_ite
    (hfinal.trans (keepsInForce_setWords _ (fun j => by simp only [F.HWD_DIGEST_bytes]; omega) _)) hfinal

theorem keepsInForce_followDigest : KeepsInForce s (followDigest s) :=
  keepsInForce_ite ((keepsInForce_rederive s 1).trans (keepsInForce_deriveSlot _ 4)) (.refl s)

theorem keepsInForce_clearNext : KeepsInForce s (clearNext s) :=
  (keepsInForce_setWords s (fld := F.HWD_DIGEST_NEXT_bytes) (fun j => by simp only [F.HWD_DIGEST_NEXT_bytes]; omega) []).trans
    (keepsInForce_of_same rfl rfl)

theorem keepsInForce_activateGen (i : Nat) (m : List Byte) : KeepsInForce s (activateGen i m s) := by
  have hrest (t : State) : KeepsInForce t (followDigest (clearNext (setMeasurement i m t))) :=
    ((keepsInForce_setMeasurement t i m).trans (keepsInForce_clearNext _)).trans (keepsInForce_followDigest _)
  unfold activateGen
  split
  next g _ => exact ((keepsInForce_recommit s g).trans (keepsInForce_moveGens _ g 2 3)).trans (hrest _)
  next => exact hrest s

theorem keepsInForce_commitGen : KeepsInForce s (commitGen s) := by
  refine .trans (keepsInForce_set s (f := F.HWD_GEN_sweep) 0 (by decide)) ?_
  unfold commitGen
  dsimp only
  split
  next g _ => exact (keepsInForce_moveGens _ g 0 _).trans (keepsInForce_clearSlot _ (2 + g))
  next => exact .refl _

end

end Sys2Proof.Machine
end

section
/-!
SUPPORT. The switch to a committed replacement (R157).
-/

namespace Sys2Proof.Machine

/-- The state in which a replacement is in force, with the accounts it starts from, before warnings of them. -/
def replacementShown (k : Nat) (x : ProfileSlot) (duty dwell : Tab (Tab Nat)) (warned : List Nat) (s : State) : State :=
  ((showProfile (2 + k) x.bytes { s with rgp := { s.rgp with
    pending := none, rewrapped := false, duty := duty, dwell := dwell, warned := warned } }).set F.RGP_PROFILE_pending 0).set
      F.RGP_STAT_switched 1

section
variable {s : State} {k : Nat} {x : ProfileSlot}

theorem replacementShown_switched (duty dwell : Tab (Tab Nat)) (warned : List Nat) :
    (replacementShown k x duty dwell warned s).get F.RGP_STAT_switched = 1 := State.get_set_same _ _ 1 (by decide)

theorem replacementShown_pending (duty dwell : Tab (Tab Nat)) (warned : List Nat) :
    (replacementShown k x duty dwell warned s).get F.RGP_PROFILE_pending = 0 :=
  (State.get_set_off _ _ _ _ (by decide)).trans (State.get_set_same _ _ 0 (by decide))

/-- The switch, and the commit of the generation that holds the keys under the new measurement. -/
theorem exec_profileSwitch (s : State) : exec .profileSwitch s = run (fun s =>
    if s.rgp.pending.isSome && s.rgp.rewrapped then
      commitGen (activateGen 2 (profileDigest (switchProfile s).rgp.inForce) (switchProfile s))
    else s) s := rfl

variable (hpending : s.rgp.pending = some k) (hrewrapped : s.rgp.rewrapped = true) (hslot : tabFind s.rgp.slots k = some x)
include hpending hrewrapped hslot

theorem switchProfile_cases :
    ∃ duty dwell warned, switchProfile s = each (rangesOf x.bytes) warnDuty (replacementShown k x duty dwell warned s) := by
  simp only [switchProfile, hpending, hrewrapped, hslot, if_true]
  exact ⟨_, _, _, rfl⟩

/-- PROFILE_SWITCH (R157). -/
theorem does_profileSwitch : Does .profileSwitch s (fun t => t.rgp.inForce = x.bytes ∧ t.rgp.pending = none ∧
    t.rgp.rewrapped = false ∧ t.get F.RGP_STAT_switched = 1 ∧ t.get F.RGP_PROFILE_pending = 0 ∧ t.rgp.slots = s.rgp.slots) := by
  obtain ⟨duty, dwell, warned, hswitch⟩ := switchProfile_cases (s := s.started) hpending hrewrapped hslot
  obtain ⟨⟨w, hrgp⟩, hswitched, hshown⟩ := ((hswitch ▸ keepsInForce_each keepsInForce_warnDuty _ _ :
      KeepsInForce (replacementShown k x duty dwell warned s.started) (switchProfile s.started)).trans
    (keepsInForce_activateGen _ 2 (profileDigest (switchProfile s.started).rgp.inForce))).trans (keepsInForce_commitGen _)
  refine does_of_effect (exec_profileSwitch s) (if_pos (by simp [hpending, hrewrapped])) ?_
  rw [settle_rgp, settle_get _ _ (by decide), settle_get _ _ (by decide), hrgp, hswitched, hshown]
  exact ⟨rfl, rfl, rfl, replacementShown_switched .., replacementShown_pending .., rfl⟩

end

end Sys2Proof.Machine
end

section
/-!
The statement about the duty accounts and the regulatory profile, settled.
-/

namespace Sys2Proof.Regulatory

open Machine

/-- Settles O21, one command after another. -/
theorem profileAndDuty : Obligations.ProfileAndDuty := by
  unfold Obligations.ProfileAndDuty
  intro s
  refine ⟨fun r len hlen hpos => does_dutyBucketAdvance_duty hpos hlen, fun r len hlen hpos => does_dutyBucketAdvance_dwell hpos hlen,
    fun i v b p hd hlc hotp hdram hp hc => does_profileOtpProgram_empty hd hc hlc hotp hdram hp,
    fun i v b hd hlc hotp hc => does_imp (does_profileOtpProgram_refused hd hc hlc (.inl hotp)) ?_,
    fun k x hpending hrewrapped hslot => does_profileSwitch hpending hrewrapped hslot⟩
  rintro t ⟨hfail, -, hframe⟩
  exact ⟨hfail, hframe⟩

end Sys2Proof.Regulatory
end

section
/-!
SUPPORT. BGH_SET_COMMIT (R213), and a state in which a limb's missed frame is counted on the word that the command commits.
-/

namespace Sys2Proof.Machine

section
variable {n : Nat} (hn : n < 4096)
include hn

/-- The grove set table lies in PD_NET (R23). -/
theorem accessDomains_groveSet : accessDomains (0x368000 + 8 * n) = [24] := by
  unfold accessDomains
  iterate 16 rw [if_neg (by omega)]
  exact if_pos (by omega)

/-- BGH_SET_COMMIT of an initiator that is no pruned core, with PD_NET ON, is the write of word +0 (R213, R372, R387). -/
theorem does_bghSetCommit {s : State} {i : Nat} {v : Word} {P : State → Prop} (hd : s.domOn 24 = true)
    (hc : coreFenced s i = false) (h : P (settle s (writeSet (0x368000 + 8 * n) v s.started))) : Does (.bghSetCommit i n v) s P :=
  does_of_effect rfl (gatedAs_of_pass (s := s.started) none (a := ⟨i, 0x368000 + 8 * n, true, v⟩) _ hc
    (gate_of_single (accessDomains_groveSet hn) hd)) h

end

/-! The model keeps the limb of a frame as any number, and counts a missed frame in TXL_MISS_CNT at that index: the counter of
limb 0x1670 would stand on word +4 of set 4. -/

/-- A frame whose limb is none of the eight. -/
def strayFrame : TxDesc :=
  { limb := 0x1670, format := 1, mode := 0, coded := false, whiten := false, crc16 := true, cxPri := false, interleave := false
    rsc := false, ret := 1, power := 0, preamble := 32, launch := 2560000, chanFw := 600000000, tilt := 0, nextFw := 0
    cells := [], psdu := [1#8, 2#8, 3#8, 4#8, 5#8], sfdGroup := 0, cell := none, lid := 5, tag := 0, weights := [], arrival := 0 }

theorem strayFrame_missCount_off : (F.TXL_MISS_CNT_count strayFrame.limb).off = 0x368004 + 8 * 4 := rfl

/-- Leaf 1, ACTIVE, is of set 4, which is served here and whose word +4 waits to become 0; limb 0, in STANDBY with a power-off
pending, has queued a frame for the leaf and the stray one. -/
def strayQueued : State :=
  { (State.reset.set (F.BGH_SET1_valid 4) 1).set (F.TXL_STATUS_state 0) 1 with
    tables := { leaf := [(48, 2#32), (49, 4#32)] }
    txl := { limbs := [(0, { queue := [{ strayFrame with limb := 0, lid := 1 }, strayFrame], offPending := true })] }
    grove := { staged := [(4, 0#32)] } }

/-- The commit takes the set from its leaf and the leaf's frame from the limb (R186, R213), which powers off (R122); the stray
frame completes unsent, and its miss is counted on the word committed. -/
theorem strayQueued_committed : (writeSet (0x368000 + 8 * 4) 0#32 strayQueued.started).reg
    (F.TXL_MISS_CNT_count strayFrame.limb).off = 1#32 := by decide +kernel

end Sys2Proof.Machine
end

section
/-!
The statement about the Learning Table and the grove set table, settled.
-/

namespace Sys2Proof.Bough

open Machine

/-- Refutes O27: it asks that in every state a commit leave word +4 of the set as it was staged, but a commit that withdraws a
set's frames can power a limb off, and a frame left in its queue counts its miss at the limb it names. The statement does not ask
that this be one of the eight limbs, as it is for every frame the engine posts (R167); at 0x1670 the counter is word +4 of
set 4, which reads 1 and not the staged 0. -/
theorem not_learningAndSets : ¬ Obligations.LearningAndSets := by
  unfold Obligations.LearningAndSets
  intro h
  obtain ⟨-, -, -, -, -, -, hcommit, -⟩ := h strayQueued
  have hstaged := hcommit 0 4 0#32 0#32 (by decide) (by decide +kernel) rfl (by decide +kernel)
  have hcounted : Does (.bghSetCommit 0 4 0#32) strayQueued (fun t => t.reg (0x368004 + 8 * 4) = 1#32) :=
    does_bghSetCommit (by decide) (by decide +kernel) (by decide +kernel)
      ((settle_reg _ _ (by decide)).trans (strayFrame_missCount_off ▸ strayQueued_committed))
  obtain ⟨t, -, ⟨-, hword, -⟩, hone⟩ := does_and hstaged hcounted
  exact absurd (hword.symm.trans hone) (by decide)

end Sys2Proof.Bough
end

section
/-!
SUPPORT. SHAPER_CREDIT_ZERO (R236) of a shaper whose credit has risen by part of 1/256 bit, and HOSTQ_TH_TAIL_ADVANCE (R233)
while PD_DDR is OFF.
-/

namespace Sys2Proof.Machine

theorem settle_traffic (s0 s : State) : (settle s0 s).traffic = s.traffic := settle_same .traffic s0 s

/-- Shaper 0 at 1 kb/s, on an empty queue: its credit of -1/256 bit was brought up to date at 3,906 ns, when it had risen by
3,906 × 256 millionths of 1/256 bit since 0 ns. -/
def creditNearZero : State :=
  { (State.reset.set (F.TRF_SHP0_en 0) 1).set (F.TRF_SHP1_idle_slope 0) 1 with
    time := { ns := 3906 }
    traffic := { shapers := [(0, { credit := -1, updated := 3906, part := 999936 })] } }

/-- What the credit had risen by counts: it reaches 0 after 1 ns more (R235). -/
theorem does_shaperCreditZero_near : Does (.shaperCreditZero 0) creditNearZero (fun t => t.now = 3907) :=
  ⟨_, rfl, (settle_now ..).trans (by decide +kernel)⟩

/-- A frame that waits for the host. -/
def waitingFrame : HostFrame := { kind := 0, frame := [1#8, 2#8, 3#8], stamp := 77, cells := [] }

/-- Host queue 0 holds a frame and its to-host ring no posted buffer; PD_DDR is OFF. -/
def ddrOff : State :=
  { ((State.reset.set (F.TRF_HQ_TH_CFG_en 0) 1).set F.DDR_SIZE_mib 16).setDom 26 ⟨.off, false⟩ with
    dram := memWrite [] 8 (leBytes 8 64)
    traffic := { hosts := [(0, [waitingFrame])] } }

/-- The access to the descriptor is fenced (R372, R373), and the frame waits on. -/
theorem ddrOff_waits : tabGet (writeHostTail 0 1 ddrOff.started).traffic.hosts 0 [] = [waitingFrame] := by decide +kernel

/-- The to-host rings' tails lie in PD_NET (R23). -/
theorem accessDomains_hostTail {q : Nat} (hq : q < 8) : accessDomains (0x380430 + 0x40 * q) = [24] := by
  unfold accessDomains
  iterate 16 rw [if_neg (by omega)]
  exact if_pos (by omega)

/-- HOSTQ_TH_TAIL_ADVANCE of an initiator that is no pruned core, with PD_NET ON, is the write of the tail (R233, R372, R387). -/
theorem does_hostqThTailAdvance {s : State} {i q x : Nat} {P : State → Prop} (hq : q < 8) (hd : s.domOn 24 = true)
    (hc : coreFenced s i = false) (h : P (settle s (writeHostTail q x s.started))) : Does (.hostqThTailAdvance i q x) s P :=
  does_of_effect rfl (gatedAs_of_pass (s := s.started) none (a := ⟨i, 0x380430 + 0x40 * q, true, BitVec.ofNat 32 x⟩) _ hc
    (gate_of_single (accessDomains_hostTail hq) hd)) h

end Sys2Proof.Machine
end

section
/-!
The statements about the configuration of traffic and about host queues and spilled frames, settled.
-/

namespace Sys2Proof.Traffic

open Machine

/-- Refutes O28: its clause on the instant at which a shaper's credit reaches 0 counts the whole of the negative credit from
the last update on, but a credit that has risen by part of 1/256 bit keeps that part (R235) and reaches 0 earlier, here at
3,907 ns and not after 7,813 ns. -/
theorem not_trafficConfig : ¬ Obligations.TrafficConfig := by
  unfold Obligations.TrafficConfig
  intro h
  obtain ⟨-, -, -, -, -, hzero, -⟩ := h creditNearZero
  have hclaimed := hzero 0 _ (by decide) (by decide +kernel) rfl (by decide) (by decide +kernel) (by decide +kernel)
  obtain ⟨t, -, ⟨-, hlate, -⟩, hnow⟩ := does_and hclaimed does_shaperCreditZero_near
  rw [hnow] at hlate
  exact absurd hlate (by decide +kernel)

/-- Refutes O30: its clause on a posted buffer asks that PD_NET be ON but not PD_DDR, where the ring and the buffers lie; with
PD_DDR OFF the part's access to the descriptor is fenced (R373), and the frame stays in the queue. -/
theorem not_hostQueuesAndSpill : ¬ Obligations.HostQueuesAndSpill := by
  unfold Obligations.HostQueuesAndSpill
  intro h
  obtain ⟨-, hposted, -⟩ := h ddrOff
  have hnet : ddrOff.domOn 24 = true := by decide +kernel
  have hfree : coreFenced ddrOff 0 = false := by decide +kernel
  have hclaimed := hposted 0 0 1 16 0 waitingFrame (by decide) (by decide) hnet (by decide +kernel) rfl
    (by decide +kernel) (by decide +kernel) (by decide +kernel) (by decide +kernel) (by decide +kernel) hfree
  have hfenced : Does (.hostqThTailAdvance 0 0 1) ddrOff (fun t => tabGet t.traffic.hosts 0 [] = [waitingFrame]) :=
    does_hostqThTailAdvance (by decide) hnet hfree ((settle_traffic ddrOff _).symm ▸ ddrOff_waits)
  obtain ⟨t, -, ⟨hempty, -⟩, hwaits⟩ := does_and hclaimed hfenced
  exact absurd (hempty.symm.trans hwaits) (by decide)

end Sys2Proof.Traffic
end
